-- ==== Sys2Proof/Word.lean ====
section
/-! DEFINITION. The plainest data: bytes, sparse tables and sparse byte memories.
A table is a list of (key, value) pairs with keys strictly rising, which need not list a key at its default; a memory is
such a table of bytes whose unlisted addresses read as zero. The operations stand in Machine/Ops.lean. -/
namespace Sys2Proof

/-- One byte. -/
abbrev Byte := BitVec 8

/-- A string of bytes in transmission or address order. -/
abbrev Bytes := List Byte

/-- A sparse table keyed by a number. -/
abbrev Tbl (α : Type) := List (Nat × α)

/-- A sparse byte memory: rising addresses, no listed zero. -/
abbrev Mem := List Host.Cell

/-- A 48-bit Stipple sequence and its host identifier (R71). -/
structure Token where
  host : Nat
  seq  : Nat
  deriving DecidableEq, Repr

end Sys2Proof
end

