-- ==== Sys2Proof/Config.lean ====
section
/-! DEFINITION. What the specification leaves open, as constants without a body, and the fixed sizes of Table 1.6
and the address space. A constant without a body is a FREE VALUE: nothing can be proved about it but that it is one. -/
namespace Sys2Proof.Config

/-- FREE VALUE: the choice of a source port in 0xc000–0xffff for a queue pair, an offset 0–0x3fff (R99). -/
opaque udpSrcOffset : Nat → Nat
/-- FREE VALUE: the IP address of the twin's port of an index (R100 gives no source for it). -/
opaque twinAddr : Nat → Nat
/-- FREE VALUE: which cached key entry a port group's full key cache replaces (R130 gives no policy). -/
opaque keyCacheVictim : Nat → Nat
/-- FREE VALUE: average wait of budget refusals, µs (R277: measured time). -/
opaque budgetWait : Nat → Nat
/-- FREE VALUE: bits drawn from the DRBG for a key (R402). -/
opaque drbgKey : Nat → Nat
/-- FREE VALUE: the key check value of a key, an AES encipherment of the zero block (R400). -/
opaque kcv : Nat → Nat
/-- FREE VALUE: a session key derived from link key, epochs and node numbers (R394). -/
opaque sessionKey : Nat → Nat → Nat → Nat
/-- FREE VALUE: the CMAC of a recorder page (R479). -/
opaque recorderCmac : Nat → Nat
/-- FREE VALUE: MiB by which a budget share moves toward its ratio in one tick (R307 gives no step). -/
opaque shareStep : Nat → Nat
/-- FREE VALUE: projected days of life left (R251 gives no formula). -/
opaque projectedDays : Nat → Nat
/-- FREE VALUE: write amplification of the last 24 h, in 1/1,000 (0x3342.05). -/
opaque writeAmplification : Nat → Nat
/-- FREE VALUE: the physical block group and unit the FTL picks among the free ones of a die (R244). -/
opaque placement : Nat → Nat
/-- FREE VALUE: a measured duration that an entry reports and no rule fixes. -/
opaque measured : Nat → Nat
/-- FREE VALUE: what an entry reads that the device measures or counts by no stated rule, by entry and by read. -/
opaque reading : Nat → Nat → Nat
/-- FREE VALUE: what fuses and factory hold, by entry: stepping, serial number, factory area, map size. -/
opaque factory : Nat → Nat
/-- FREE VALUE: the device's RAAIMT, 0 where it needs no refresh management (R204). -/
opaque raaimt : Nat
/-- FREE VALUE: the device's RAAMMT (R204). -/
opaque raammt : Nat
/-- FREE VALUE: how many rows of a channel its devices' hPPR resources can take (R228). -/
opaque hpprRows : Nat → Nat
/-- FREE VALUE: a byte whose value the specification does not state. -/
opaque freeByte : Nat → BitVec 8

/-- Stipple operations in flight on one port (Table 1.6). -/
def portOps : Nat := 64
/-- Replay entries, and as many of the mirror area (R78, R83). -/
def replayEntries : Nat := 1048576
/-- Fill entries of a slice (R175). -/
def sliceFills : Nat := 128
/-- Fill entries in use at which a prefetch is dropped (R176). -/
def prefetchFills : Nat := 96
/-- Sets of a slice (R170). -/
def sliceSets : Nat := 3072
/-- Ways of a set (R170). -/
def sliceWays : Nat := 16
/-- Tier moves in progress (R157). -/
def moveSlots : Nat := 256
/-- Bytes of a tier page. -/
def pageBytes : Nat := 65536
/-- Bytes of a line. -/
def lineBytes : Nat := 128
/-- Bytes of an FTL unit. -/
def unitBytes : Nat := 16384
/-- The modulus of sequences (R71). -/
def seqMod : Nat := 281474976710656

end Sys2Proof.Config
end

