-- ==== Sys2Proof/Syntax.lean ====
section
/-! DEFINITION. The commands the Steoc takes from outside and from its own timers: one constructor per row of the
opcode table, with the facts of the command as operands. What a unit measures or a partner answers (a decode verdict,
a tag check, a duration) is an operand. -/
namespace Sys2Proof

/-! ## Network side -/

/-- What the UDP checksum of an arriving datagram turned out to be (R58). -/
inductive UdpSum | good | zero | bad
  deriving DecidableEq, Repr

/-- One UDP datagram as it arrives at a host port (R58–R61). `payload` is the UDP payload, check field included;
`vlan` is the tag control field of an 802.1Q tag, identifier and priority. -/
structure Datagram where
  port     : Fin 128
  ipv6     : Bool
  srcIp    : Nat
  dstIp    : Nat
  fragment : Bool
  srcUdp   : Nat
  dstUdp   : Nat
  udpSum   : UdpSum
  ce       : Bool
  vlan     : Option Nat
  dscp     : Nat
  payload  : Bytes
  deriving DecidableEq, Repr

/-- One RoCEv2 packet as it arrives (R95, R96); the extended headers an opcode lacks are 0.
`spray` is word 3 of the spray header (Table 4.8). -/
structure RcPacket where
  port    : Fin 128
  ipv6    : Bool
  srcIp   : Nat
  ce      : Bool
  pkey    : Nat
  icrcOk  : Bool
  version : Nat
  qpn     : Nat
  opcode  : Nat
  psn     : Nat
  ackReq  : Bool
  va      : Nat
  rkey    : Nat
  dmaLen  : Nat
  swapAdd : Nat
  compare : Nat
  imm     : Option Nat
  spray   : Nat
  payload : Bytes
  deriving DecidableEq, Repr

/-- The facts of a CM REQ on QP1 that R99–R102 look at. -/
structure CmReq where
  port      : Fin 128
  ipv6      : Bool
  srcIp     : Nat
  dstIp     : Nat
  srcMac    : Nat
  pcp       : Nat
  vlan      : Option Nat
  dscp      : Nat
  commId    : Nat
  serviceId : Nat
  remoteQpn : Nat
  startPsn  : Nat
  pmtu      : Nat
  respRes   : Nat
  privVersion : Nat
  privReserved : Nat
  hostId    : Nat
  spray     : Bool
  deriving DecidableEq, Repr

/-! ## Counterproof -/

/-- A FORWARD descriptor with its write data (R295). -/
structure FwdDesc where
  fwdId : Nat
  region : Nat
  off : Nat
  idHost : Nat
  idSeq : Nat
  operand1 : Nat
  operand2 : Nat
  len : Nat
  opcode : Nat
  rc : Bool
  key : Nat
  data : Bytes
  deriving DecidableEq, Repr

/-- What a FORWARD_DONE or a stored response carries. -/
structure RespVal where
  status : Nat
  reason : Nat
  result : Nat
  detail : Nat
  data   : Bytes
  deriving DecidableEq, Repr

/-- Which table a TABLE record names, with the element (R143, R320). -/
inductive TableElem
  | tenant (index value : Nat)
  | quota (index value : Nat)
  | host (index value : Nat)
  | region (slot region state owner tenant pages base dramPages nandPages : Nat)
  | key (index key state slot region : Nat)
  | window (ms : Nat)
  | budget (gib : Nat)
  | directory (tpn home tenant : Nat) (zero : Bool)
  deriving DecidableEq, Repr

/-- A queue pair context as a QP SUB 1 record carries it (R102). -/
structure QpShadow where
  qpn : Nat
  spray : Bool
  pmtu : Nat
  hostId : Nat
  tenant : Nat
  remoteQpn : Nat
  epsn : Nat
  port : Nat
  ipv6 : Bool
  remoteIp : Nat
  remoteMac : Nat
  pcp : Nat
  vlan : Option Nat
  dscp : Nat
  deriving DecidableEq, Repr

/-- One Counterproof record (Table 11.4). -/
inductive CpRec
  | write (line off : Nat) (data : Bytes) (src : Option (Nat × Nat))
  | zero (line : Nat)
  | atomic (line off new prior : Nat) (rc : Bool) (idHost idSeq : Nat)
  | copy (line : Nat) (data : Bytes)
  | fetch (line : Nat) (page : Bool)
  | fetchData (line : Nat) (data : Bytes)
  | fetchFail (line : Nat)
  | forward (d : FwdDesc)
  | forwardDone (fwdId : Nat) (resp : RespVal)
  | table (e : TableElem)
  | verdict (accept : Bool) (e : TableElem)
  | fenceMark (region : Nat) (keys : List Nat) (newPages : Option Nat)
  | fenceConfirm (region : Nat)
  | ownerHandover (region node : Nat)
  | ownerConfirm (region node : Nat)
  | ownerRequest (region node : Nat)
  | placeStart (t : Token) (region off span tier : Nat)
  | placeDone (t : Token) (ok : Bool) (status reason count : Nat)
  | placeOutcome (t : Token) (resp : RespVal)
  | qpShadow (q : QpShadow)
  | qpFree (qpn : Nat)
  | qpHeld (qpn : Nat)
  | replay (t : Token) (resp : RespVal)
  | imageRequest (tpn fsn0 fsn1 : Nat)
  | imageDone (tpn : Nat)
  | discardUnit (key fsn0 fsn1 : Nat)
  | stateBegin (number : Nat) (all : Bool) (tenant retain : Nat)
  | stateConfirm (number : Nat)
  | statePoint (number slice : Nat)
  | claim (entry : Nat)
  | claimGrant (entry : Nat)
  | claimRefuse (entry : Nat)
  | claimRelease (entry : Nat)
  | resyncStart (incarnation : Nat)
  | resyncMarks (blocks : List Nat)
  | tablesDone
  | sync
  | syncAck
  | notice (sub arg : Nat)
  deriving DecidableEq, Repr

/-- The clear header of an arriving frame (Table 11.1) and whether its GCM tag was right (R297, R327). -/
structure FrameHead where
  half    : Fin 2
  tagOk   : Bool
  epoch   : Nat
  counter : Nat
  fsn     : Nat
  ackFsn  : Nat
  nak     : Bool
  mode    : Nat
  tstate  : Nat
  node    : Nat
  dirty   : Nat
  deriving DecidableEq, Repr

/-- The status body of HEARTBEAT and HELLO (Table 11.2). -/
structure StatusBody where
  syncGen     : Nat
  tableGen    : Nat
  incarnation : Nat
  present     : Bool
  mapValid    : Bool
  standing    : Nat
  ownsAny     : Bool
  deriving DecidableEq, Repr

/-! ## Command blocks -/

/-- A region command block without its CODE (Table 5.6); `reserved` joins every reserved field. -/
structure RegionBlock where
  reserved : Nat
  tenant : Nat
  tier   : Nat
  region : Nat
  key    : Nat
  pages  : Nat
  owner  : Nat
  deriving DecidableEq, Repr

/-- A State command block without its CODE (Table 13.2). -/
structure StateBlock where
  reserved : Nat
  all     : Bool
  tenant  : Nat
  tier    : Nat
  stateNo : Nat
  region  : Nat
  newRegion : Nat
  owner   : Nat
  retain  : Nat
  deriving DecidableEq, Repr

/-! ## Media, dictionary, option table -/

/-- What an ECC word read from DRAM gave (R216–R221): where it lies, what the decoder found, and what the sources of
recovery answered. `verdict` 0 clean, 1 corrected, 2 uncorrectable; `device` and `col` are the DEVICE and COL fields
of Table 8.8, `retryOk` whether the journal image could be read. A line at or above 2^41 is a line of the reserve. -/
structure DramWord where
  line    : Nat
  word    : Nat
  sub     : Nat
  rank    : Nat
  bg      : Nat
  ba      : Nat
  cid     : Nat
  row     : Nat
  verdict : Nat
  device  : Nat
  col     : Nat
  retryOk : Bool
  deriving DecidableEq, Repr

/-- How far down the ladder of Table 9.10 a unit read succeeded: hard decision, read retry at a level, soft decision,
die parity, or no local step. -/
inductive UnitVerdict
  | hard
  | retry (level : Nat)
  | soft
  | parity
  | failed
  deriving DecidableEq, Repr

/-- A READ or WRITE request frame on Fieth (Table 16.4), bytes 0–15 as fields, then the value bytes. `cmd` is byte 0: 1 and
2 name the two requests; a frame whose CMD no client may send, or Table 16.3 does not list, comes under either row. -/
structure FiethFrame where
  cmd   : Nat
  tag   : Nat
  idx   : Nat
  sub   : Nat
  flags : Nat
  resv  : Nat
  off   : Nat
  len   : Nat
  value : Bytes
  deriving DecidableEq, Repr

/-- The option table's fields that the model reads (Table 20.8). -/
structure OptionFields where
  version   : Nat
  density   : Nat
  ranks     : Nat
  dataRate  : Nat
  dieType   : Nat
  nandRate  : Nat
  dies      : Nat
  holdUp    : Nat
  tlcRated  : Nat
  pslcRated : Nat
  iface     : Nat
  macBase   : Nat
  ports     : Nat
  deriving DecidableEq, Repr

/-! ## The commands -/

/-- A command: one constructor per row of the opcode table, in the table's order. -/
inductive Instr
  | stippleRead (d : Datagram)
  | stippleWrite (d : Datagram)
  | stippleAdd (d : Datagram)
  | stippleCas (d : Datagram)
  | stippleFence (d : Datagram)
  | stipplePlace (d : Datagram)
  | stippleDiscard (d : Datagram)
  | readBatch (d : Datagram)
  | homeSliceRequest (slice : Fin 14)
  | fillReturn (slice : Fin 14) (line : Nat)
  | completionRelease (op : Nat)
  | replayEntryExpire (host seq : Nat) (mirror : Bool)
  | fenceTimeout (op : Nat)
  | configApplyAtIdle (unit : Nat)
  | rdmaWrite (p : RcPacket)
  | rdmaReadRequest (p : RcPacket)
  | compareSwap (p : RcPacket)
  | fetchAdd (p : RcPacket)
  | sprayWrite (p : RcPacket)
  | keepalive (p : RcPacket)
  | release (p : RcPacket)
  | cnpReceive (qpn : Nat)
  | contextFetchDone (qpn : Nat)
  | ackTimer (qpn : Nat)
  | sprayAckTimer (qpn : Nat)
  | readResponseSend (qpn : Nat)
  | rateAlphaTick (qpn : Nat)
  | rateIncreaseTick (qpn : Nat)
  | cmReq (m : CmReq)
  | cmRtu (qpn : Nat)
  | cmDreq (qpn : Nat)
  | cmDrep (qpn : Nat)
  | connectTimeout (qpn : Nat)
  | qpIdleTimeout (qpn : Nat)
  | drepTimeout (qpn : Nat)
  | create (b : RegionBlock)
  | delete (b : RegionBlock)
  | resize (b : RegionBlock)
  | issueKey (b : RegionBlock)
  | revokeKey (b : RegionBlock)
  | revokeRegion (b : RegionBlock)
  | setOwner (b : RegionBlock)
  | fencePoint
  | fenceDrainEnd
  | fenceCancelDeadline
  | tenantTableWrite (tenant : Fin 256) (value : Nat)
  | quotaTableWrite (tenant : Fin 256) (value : Nat)
  | hostTableWrite (host : Fin 65536) (value : Nat)
  | replayWindowWrite (ms : Nat)
  | moveCopyDone (tpn : Nat)
  | rehomeDisplaced
  | cleanAddr (line : Nat)
  | flushAddr (line : Nat)
  | invalidateAddr (line : Nat)
  | cleanSlice (slice : Fin 16)
  | flushSlice (slice : Fin 16)
  | disable (slice : Fin 16)
  | invalidateSlice (slice : Fin 16)
  | enable (slice : Fin 16)
  | sliceWalkDone (slice : Fin 16)
  | sliceSramError (slice : Fin 16) (way : Fin 16) (uncorrectable : Bool) (lost : List Nat)
  | sliceFail (slice : Fin 16) (cause : Nat) (lost : List Nat)
  | dramReadDone (channel : Fin 32) (e : DramWord)
  | refreshDue (channel : Fin 32) (subrank : Fin 4)
  | refreshCatchup (channel : Fin 32) (subrank : Fin 4)
  | panicRaise (channel : Fin 32) (fixative : Bool)
  | panicClear (channel : Fin 32) (fixative : Bool)
  | rankIdleTimeout (channel : Fin 32) (rank : Fin 2)
  | dramTrainingDone (channel : Fin 32) (margin : Nat) (ok : Bool) (preserved : Bool)
  | trainingDeadline
  | zqCalibrationTick (channel : Fin 32)
  | dqsOscillatorTick (channel : Fin 32) (drift : Bool)
  | retrainStart (channel : Fin 32) (temp : Int)
  | retrainRequest (channel : Fin 32)
  | retrainDone (channel : Fin 32) (margin : Nat) (temp : Int) (failing : Option (Nat × Nat))
  | reserveRebuildDone (group : Fin 4)
  | burnisherScrub (channel : Fin 32) (e : DramWord)
  | nandChannelReady (channel : Fin 40) (ok : Bool) (present : Nat)
  | nandReadDone (lunit : Nat) (v : UnitVerdict)
  | nandProgramDone (channel : Fin 40) (die : Fin 16) (ok : Bool) (plane : Fin 4)
  | nandEraseDone (channel : Fin 40) (die : Fin 16) (group : Nat) (ok : Bool) (plane : Fin 4)
  | wordlineWaitTimeout (channel : Fin 40) (die : Fin 16)
  | mapLogDurable
  | checkpointRoundStart
  | checkpointRoundDone
  | parityPadTimeout (stripe : Nat)
  | tracerVerifyStart (channel : Fin 40) (die : Fin 16) (group : Nat)
  | tracerVerifyDone (channel : Fin 40) (die : Fin 16) (group : Nat) (worst : Nat) (failed : Bool) (plane : Fin 4)
  | tracerPatrol (channel : Fin 40) (die : Fin 16) (group : Nat) (worst : Nat) (retried : Bool)
  | dieRetire (channel : Fin 40) (die : Fin 16) (cause : Nat)
  | gcStallTimeout
  | journalTick
  | imageEligible (tpn : Nat)
  | journalImageDone (tpn : Nat) (ok : Bool)
  | budgetWrite (profile : Nat) (gib : Nat)
  | pfailFall (cycles : Nat)
  | quiesceDeadline
  | dumpSealed (duration : Nat) (units : Nat)
  | pfailRise
  | holdupEnergyWrite (joules : Nat)
  | holdupReportTimeout
  | dataFrame (h : FrameHead) (recs : List CpRec)
  | ackFrame (h : FrameHead)
  | heartbeatFrame (h : FrameHead) (b : StatusBody)
  | helloFrame (h : FrameHead) (b : StatusBody)
  | writeRecord (half : Fin 2)
  | zeroRecord (half : Fin 2)
  | atomicRecord (half : Fin 2)
  | copyRecord (half : Fin 2)
  | fetchRecord (half : Fin 2) (readable : Bool)
  | fetchDataRecord (half : Fin 2)
  | fetchFailRecord (half : Fin 2)
  | forwardRecord (half : Fin 2)
  | forwardDoneRecord (half : Fin 2)
  | tableRecord (half : Fin 2)
  | tableVerdict (half : Fin 2)
  | fenceMarkRecord (half : Fin 2)
  | fenceConfirmRecord (half : Fin 2)
  | ownerHandover (half : Fin 2)
  | ownerConfirm (half : Fin 2)
  | ownerRequest (half : Fin 2)
  | placeStartRecord (half : Fin 2)
  | placeDoneRecord (half : Fin 2)
  | placeOutcomeRecord (half : Fin 2)
  | qpShadowRecord (half : Fin 2)
  | qpFreeRecord (half : Fin 2)
  | qpHeldRecord (half : Fin 2)
  | replayRecord (half : Fin 2)
  | imageRequestRecord (half : Fin 2)
  | imageDoneRecord (half : Fin 2)
  | discardUnitRecord (half : Fin 2)
  | stateBeginRecord (half : Fin 2)
  | stateConfirmRecord (half : Fin 2)
  | statePointRecord (half : Fin 2)
  | claim (half : Fin 2)
  | claimGrant (half : Fin 2)
  | claimRefuse (half : Fin 2)
  | claimRelease (half : Fin 2)
  | resyncStart (half : Fin 2)
  | resyncMarks (half : Fin 2)
  | tablesDone (half : Fin 2)
  | sync (half : Fin 2)
  | syncAck (half : Fin 2)
  | resyncCopyBlock
  | noticeDrain (half : Fin 2)
  | noticeKeep (half : Fin 2)
  | noticeBarred (half : Fin 2)
  | noticeFailover (half : Fin 2)
  | failoverReply (half : Fin 2)
  | noticeLoss (half : Fin 2)
  | frameCloseTimer (half : Fin 2)
  | resendTimeout (half : Fin 2)
  | heartbeatSendTimer (half : Fin 2)
  | linkLossTimeout
  | halfFail (half : Fin 2) (cause : Nat)
  | halfRetrainTick (half : Fin 2)
  | laneTrainingDone (half : Fin 2) (ok : Bool) (epochWritable : Bool)
  | noticeDeclareTimeout
  | twinAnswerTimeout
  | twinPresentChange (present : Bool)
  | settleTimeout
  | budgetShareTick
  | counterLimit (epochWritable : Bool)
  | takeOwnership
  | servingInstant
  | mapDirectoryLoaded (rebuilt : Nat)
  | dumpIndexed
  | restoreOrdersRead
  | restorePageDone (tpn : Nat) (readable : Bool)
  | segmentLoadDone (segment : Nat)
  | orphanReclaim (channel : Fin 40) (die : Fin 16) (group : Nat)
  | traceWindowEnd (host : Nat)
  | cut (b : StateBlock)
  | stateDelete (b : StateBlock)
  | clone (b : StateBlock)
  | setRetain (b : StateBlock)
  | cutMarksReported
  | cutPointsReported (ns : Nat)
  | stateCaptureDone (number tpn : Nat) (ok : Bool)
  | stateSettle (number : Nat)
  | stateRetentionExpire (number : Nat)
  | clonePageCopy (readable : Bool)
  | plannedShutdown
  | enterService
  | leaveService
  | acceptKeep
  | forceKeep
  | forceStandDown
  | profileWrite (profile : Nat)
  | tempThreshold (celsius : Int)
  | tempClearTimeout (celsius : Int)
  | portFailure (port : Fin 128) (wholeGroup : Bool)
  | proxyStopTimer (port : Fin 128)
  | keyGenerate (slot : Nat) (kind : Nat)
  | keyImport (slot : Nat) (kind : Nat)
  | keyErase (slot : Nat)
  | keyMigrate (slot : Nat)
  | keySwap (slot : Fin 64)
  | writeSlotWrite (slot : Nat)
  | cipherMismatch (engine : Fin 7) (second : Bool)
  | ueLockClaim (client : Nat)
  | ueLockRelease (client : Nat)
  | ueLockTimeout
  | firmwareBankWrite (bank : Fin 2) (off : Nat) (data : Bytes)
  | firmwareVerifyDone (bank : Fin 2) (sigOk : Bool)
  | svnCommit (value : Nat)
  | fiethRead (channel : Fin 2) (f : FiethFrame)
  | fiethWrite (channel : Fin 2) (f : FiethFrame)
  | segment (channel : Fin 2) (tag seq : Nat) (data : Bytes)
  | fiethAck (channel : Fin 2) (tag next : Nat)
  | fiethAbort (channel : Fin 2) (tag : Nat) (code : Nat)
  | dictWrite (index : Nat) (sub : Nat) (off : Nat) (value : Bytes)
  | dupRecordExpire (f : FiethFrame)
  | transferIdleTimeout (channel : Fin 2)
  | fiethHeartbeat
  | duplicateNode (channel : Fin 2) (ident : Nat)
  | canBusOff (channel : Fin 2)
  | canBusOffRecovery (channel : Fin 2)
  | canRateWrite (channel : Fin 2) (data : Bool) (code : Nat)
  | canChannelEnableWrite (value : Nat)
  | clearStatistics
  | portConfigWrite (port : Fin 128) (sub : Nat) (value : Nat)
  | resetCauseClear (mask : Nat)
  | coreResetRequest
  | systemResetRequest
  | domainOffRequest (domain : Fin 112)
  | domainOnRequest (domain : Fin 112)
  | presenceCloseWrite
  | injectOnce (point inst variant : Nat)
  | injectRepeatedly (point inst variant count interval : Nat)
  | disarmPoint (point inst variant : Nat)
  | disarmEveryPoint
  | injectionInterval (point inst variant : Nat)
  | presenceOpen
  | buttonStuck
  | buttonReleaseTimeout
  | presenceWindowExpire
  | sealLoopOpen (loopB : Bool)
  | svcJmpRemoved
  | jtagDebugInstruction (code : Nat)
  | jtagResetRequest
  | jtagBoundaryScan (code : Nat)
  | recordAccept
  | recorderFlushTick (ok : Bool)
  | recorderLockTimeout
  | recorderSealCheck (failing : Nat)
  | pwrgdAssert
  | pwrgdDeassert
  | porstAssert
  | powerOnResetEnd (node : Fin 128)
  | vddAonLow
  | sysrstAssert
  | systemResetWindowEnd
  | systemResetRelease
  | coreResetDrainEnd
  | mccResetRelease (bankAok bankBok : Bool)
  | mccWatchdogExpiry
  | mccClockLoss
  | mccClockReturn
  | blockIdleReport (block : Nat)
  | blockIdleTimeout (block : Nat)
  | blockWatchdogExpiry (block : Nat)
  | portGroupRepower (group : Fin 16)
  | optionLoadDone (o : OptionFields) (valid : Bool) (lost : List Nat)
  | pllLockLost (pll : Nat)
  | clockMonitorWindow (status : Nat)
  | railMonitorEvent (rail : Fin 10) (millivolts : Nat)
  | portLinkUp (port : Fin 128)
  | sysrstDeassert
  | hpprProgrammingDone
  | firstFormatDone
  | dramWriteDone (slice : Fin 14) (line : Nat)
  | pfcPauseFrame (port : Fin 128) (priorities : Nat) (pause : Bool)
  | coreFabricError
  | pdMainWatchdogExpiry
  deriving DecidableEq, Repr

end Sys2Proof
end

