-- ==== Sys2Proof/Machine/State.lean ====
section
/-! DEFINITION. The state of the Steoc as plain data: every register, table, buffer, queue, mode and pin the
specification gives it, the queue of waiting commands, and the state right after reset. Fields the model adds for
itself are marked MODEL. Scalar dictionary entries that only store a value (configuration and counters) live in
`dict`, keyed index × 256 + subindex; the catalogue (Machine/Catalogue.lean) gives type, access, default and level. -/
namespace Sys2Proof.Machine

/-- Why the machine stops. -/
inductive Fault
  /-- Raised by RAIL_MONITOR_EVENT when a rail lies beyond its absolute maximum rating: R517 leaves the Steoc's
  behaviour undefined there. Safe: the model stops where the specification promises nothing. -/
  | beyondAbsoluteMaximum
  deriving DecidableEq, Repr

/-- Why a command gets no meaning. -/
inductive Refusal
  /-- A row of the table that has no meaning yet; only arms of exec answer with it. Safe: nothing follows from it. -/
  | notModelled (mnemonic : String)
  deriving DecidableEq, Repr

/-- The six operating modes (Table 14.1), in the order of their codes. -/
inductive Mode | recall | duplex | solo | drain | keep | service
  deriving DecidableEq, Repr

/-- Twin states (Table 11.6), in the order of their codes. -/
inductive Twin | absent | linking | resync | inSync | lost | stoodDown | barred
  deriving DecidableEq, Repr

/-- Standing (R317), in the order of its codes. -/
inductive Standing | alone | paired | yielded
  deriving DecidableEq, Repr

/-! ## Host operations -/

/-- What a response needs from the request it answers (R60, R63). -/
structure ReplyTo where
  port   : Nat
  ipv6   : Bool
  hostIp : Nat
  ownIp  : Nat
  hostUdp : Nat
  vlan   : Option Nat
  dscp   : Nat
  ce     : Bool
  opcode : Nat
  host   : Nat
  seq    : Nat
  deriving DecidableEq, Repr

/-- Where an operation came from. -/
inductive Origin
  | stipple (r : ReplyTo)
  | rc (port qpn psn : Nat) (last ackReq : Bool)
  | forwarded (fwdId : Nat) (rc : Bool)
  | internal
  deriving DecidableEq, Repr

/-- The operations of both transports (Table 3.4, R96). -/
inductive OpKind | read | write | add | cas | fence | place | discard | batch
  deriving DecidableEq, Repr

/-- One READ_BATCH descriptor (Table 3.6). -/
structure BatchDesc where
  region : Nat
  key    : Nat
  off    : Nat
  resv4  : Nat
  len    : Nat
  resv5  : Nat
  deriving DecidableEq, Repr

/-- An operation in flight: the in-flight table of R84 and the responder state of Table 3.10. -/
structure Op where
  id     : Nat
  origin : Origin
  kind   : OpKind
  host   : Nat
  seq    : Nat
  region : Nat
  key    : Nat
  off    : Nat
  len    : Nat
  a      : Nat := 0
  b      : Nat := 0
  data   : Bytes := []
  descs  : List BatchDesc := []
  statuses : List Nat := []
  waiting  : Nat := 0
  checked  : Bool := false
  nak    : Option RespVal := none
  result : Nat := 0
  reads  : Mem := []
  units  : Tbl Nat := []
  fwds   : List (Nat × Nat) := []
  fenced : Bool := false
  held   : Bool := false
  deriving DecidableEq, Repr

/-- The classes of line requests (R173). -/
inductive ReqClass | host | mirror | prefetch | move
  deriving DecidableEq, Repr

/-- What a line request does at its home slice (R23). -/
inductive LineAct
  | read (lo len dst : Nat)
  | write (lo : Nat) (data : Bytes)
  | add (lo addend : Nat)
  | cas (lo compare swap : Nat)
  | zero (unit : Nat)
  | prefetch
  deriving DecidableEq, Repr

/-- One request in a slice's input queue. -/
structure LineReq where
  op   : Nat
  cls  : ReqClass
  line : Nat
  act  : LineAct
  deriving DecidableEq, Repr

/-- A host slot (R75). -/
structure HostSlot where
  nonEmpty : Bool := false
  based    : Bool := false
  base     : Nat := 0
  board    : BitVec 4096 := 0
  expired  : Nat := 0
  expiredValid : Bool := false
  latest   : Nat := 0
  deriving DecidableEq, Repr

/-- A replay entry (R78); `held` is a retransmission waiting for it. -/
structure ReplayEntry where
  token   : Token
  pending : Bool
  resp    : RespVal
  window  : Nat
  held    : Option ReplyTo
  deriving DecidableEq, Repr

/-- A stride detector (R179); `stream` is the host identifier, or 65,536 + QPN. -/
structure Detector where
  stream : Nat
  region : Nat
  last   : Nat
  stride : Int
  conf   : Nat
  issued : Option Nat
  deriving DecidableEq, Repr

/-- The remote-access engine's host side. -/
structure HostSide where
  slots   : Tbl HostSlot := []
  replay  : List ReplayEntry := []
  mirror  : List ReplayEntry := []
  ops     : List Op := []
  nextOp  : Nat := 0
  keyCaches : Tbl (List Nat) := []
  detectors : Tbl (List Detector) := []
  reserved  : List (Nat × Nat) := []
  deriving DecidableEq, Repr

/-! ## Regions, keys, tiers: the tables that persist (R141, R147, R241) -/

/-- A tenant element (Table 5.1); REGIONS is counted. -/
structure Tenant where
  enable : Bool := false
  maxRegions : Nat := 0
  deriving DecidableEq, Repr

/-- A quota element (Table 6.3). -/
structure Quota where
  dramQuota : Nat := 0
  dramUsed  : Nat := 0
  nandQuota : Nat := 0
  nandUsed  : Nat := 0
  deriving DecidableEq, Repr

/-- Region states (Table 5.2). -/
inductive RegionSt | free | active | fencing | deleting
  deriving DecidableEq, Repr

/-- A slot of the region table (Table 5.2). -/
structure Region where
  id     : Nat
  st     : RegionSt
  owner  : Nat
  tenant : Nat
  pages  : Nat
  base   : Nat
  deriving DecidableEq, Repr

/-- Key entry states (Table 5.4). -/
inductive KeySt | free | valid | fencing | revoked
  deriving DecidableEq, Repr

/-- An entry of the key table (Table 5.4); `order` is its place in the order of revocations (R128). -/
structure KeyEntry where
  gen    : Nat := 0
  st     : KeySt := .free
  retired : Bool := false
  slot   : Nat := 0
  region : Nat := 0
  revokedAt : Nat := 0
  order  : Nat := 0
  deriving DecidableEq, Repr

/-- The home of a page (Table 6.1, Table 6.2). -/
inductive Home
  | none
  | dram (frame : Nat)
  | nand (set lpn : Nat)
  deriving DecidableEq, Repr

/-- A tier directory entry (Table 6.1). -/
structure DirEntry where
  home   : Home := .none
  zero   : Bool := false
  poison : Bool := false
  moving : Bool := false
  held   : Bool := false
  displaced : Bool := false
  tenant : Nat := 0
  deriving DecidableEq, Repr

/-- A physical unit of the media: channel, die, block group, unit in the group. -/
structure Place where
  ch    : Nat
  die   : Nat
  group : Nat
  unit  : Nat
  deriving DecidableEq, Repr

/-- A flash map entry (Table 9.5): STATE 0, 1, 2. -/
structure MapEntry where
  st    : Nat := 0
  prot  : Nat := 0
  place : Place := ⟨0, 0, 0, 0⟩
  hint  : Nat := 0
  deriving DecidableEq, Repr

/-- A journal image index entry (Table 10.1): STATE 0, 1, 2. -/
structure ImageEntry where
  st    : Nat := 0
  body  : Bool := false
  set   : Nat := 0
  group : Nat := 0
  unit  : Nat := 0
  deriving DecidableEq, Repr

/-- Areas of a die (Table 9.3, Table 9.4). -/
inductive Area | system | checkpoint | plateA | plateB | parity | head | pool
  deriving DecidableEq, Repr

/-- Block group states (Table 9.7). -/
inductive GroupSt | free | erased | opened | full | verified | rewrite | victim | retired
  deriving DecidableEq, Repr

/-- A block group of a die (R243). -/
structure Group where
  st     : GroupSt := .erased
  erases : Nat := 0
  reads  : Nat := 0
  next   : Nat := 0
  order  : Nat := 0
  deriving DecidableEq, Repr

/-- What a State entry names (R364). -/
inductive Held
  | zero
  | image (e : ImageEntry)
  | units (l : List (Option Place))
  deriving DecidableEq, Repr

/-- A State's entry for a page, keyed by region and page (R367, R369). -/
structure StateEntry where
  region  : Nat
  page    : Nat
  tenant  : Nat
  content : Held
  deriving DecidableEq, Repr

/-- Phases of a State (Table 13.7). -/
inductive StatePhase | cutting | settling | fixed | deleting
  deriving DecidableEq, Repr

/-- A State (R357–R369): its scope with sizes at the cut, its entries and the pages still to capture. -/
structure Snap where
  number  : Nat
  phase   : StatePhase
  all     : Bool
  tenant  : Nat
  scope   : List (Nat × Nat)
  cutAt   : Nat
  expires : Nat
  entries : List StateEntry
  pending : List (Nat × Nat)
  changed : List (Nat × Nat)
  twinHolds : Bool
  incarnation : Nat
  deriving DecidableEq, Repr

/-- A fence this Steoc runs for the twin's command (R138 step 5), or for its own. -/
structure Fence where
  region   : Nat
  keys     : List Nat
  newPages : Option Nat
  forTwin  : Bool
  past     : Bool
  drained  : Bool
  deadline : Bool
  deriving DecidableEq, Repr

/-- Everything the map log makes durable (R241): tables of regions, keys and tenants, the tier directory, the flash
map, group table, journal image index, standing, divergence map, States. -/
structure Tables where
  tenants : Tbl Tenant := []
  hosts   : Tbl Nat := []
  regions : Tbl Region := []
  keys    : Tbl KeyEntry := []
  nextKey : Nat := 1
  revocations : Nat := 0
  quotas  : Tbl Quota := []
  dir     : Tbl DirEntry := []
  fmap    : Tbl MapEntry := []
  groups  : Tbl Group := []
  images  : Tbl ImageEntry := []
  retiredFrames : List Nat := []
  standing : Standing := .alone
  syncGen : Nat := 0
  tableGen : Nat := 0
  divergence : List Nat := []
  everSynced : Bool := false
  snaps   : List Snap := []
  lastState : Nat := 0
  /-- A fence whose fence point is logged and whose end is not (R141). -/
  fenceLog : Option Fence := none
  writeSeq : Nat := 0
  deriving DecidableEq, Repr

/-- Tables live, as a map log write in progress carries them, and as the media hold them (R241). -/
structure Persist where
  live    : Tables := {}
  writing : Option Tables := none
  durable : Tables := {}
  logged  : Nat := 0
  sinceRound : Nat := 0
  rounding : Bool := false
  deriving DecidableEq, Repr

/-- Phases of the region command engine (R137–R143, R302, R531). -/
inductive CmdPhase | claim | twin | fence | drain | owner
  deriving DecidableEq, Repr

/-- The running region command. -/
structure RunCmd where
  code   : Nat
  blk    : RegionBlock
  phase  : CmdPhase
  keys   : List Nat
  result : Nat
  local_ : Bool
  twin   : Bool
  deriving DecidableEq, Repr

/-- A dictionary write waiting for the twin's verdicts (R143): the entry and element that answer it, its elements, how many
verdicts are still to come. -/
structure PendingWrite where
  idx   : Nat
  sub   : Nat
  elems : List TableElem
  left  : Nat
  deriving DecidableEq, Repr

/-- The command engine and the claims of R531. -/
structure Engine where
  run    : Option RunCmd := none
  fence  : Option Fence := none
  claimed : List Nat := []
  twinClaims : List Nat := []
  asked  : List Nat := []
  writes : List PendingWrite := []
  heldRegion : Option Nat := none
  handed : Bool := false
  deriving DecidableEq, Repr

/-! ## Tier engine -/

/-- Why a page moves: a PLACE by its token, the Steoc's own causes of Table 6.5, a rehoming pass, a CLONE. -/
inductive MoveCause
  | place (t : Token)
  | frame
  | channel
  | die
  | rehome
  deriving DecidableEq, Repr

/-- A page move between its reserve and its free step (Table 6.4). -/
structure Move where
  tpn   : Nat
  cause : MoveCause
  dest  : Home
  deriving DecidableEq, Repr

/-- A PLACE being executed (R156–R160). -/
structure PlaceRun where
  token  : Token
  op     : Option Nat
  key    : Nat
  region : Nat
  first  : Nat
  count  : Nat
  tier   : Nat
  tenant : Nat
  resv   : List Nat
  switched : Nat
  todo   : List Nat
  ownDone : Bool
  twinDone : Bool
  outcome : Option RespVal
  deriving DecidableEq, Repr

/-- The tier engine: moves in progress, moves waiting, PLACEs in order of admission. -/
structure TierSide where
  moves  : List Move := []
  waiting : List (Nat × MoveCause) := []
  places : List PlaceRun := []
  rehoming : List Nat := []
  deriving DecidableEq, Repr

/-! ## Cache slices -/

/-- A cached line (R170); `lru` is the order of its last use, `pre` that a stride prefetch brought it. -/
structure CLine where
  tag    : Nat
  dirty  : Bool
  pinned : Bool
  cls    : ReqClass
  lru    : Nat
  pre    : Bool
  data   : Mem
  deriving DecidableEq, Repr

/-- A fill entry (R175, R182). -/
structure Fill where
  line : Nat
  cls  : ReqClass
  kill : Bool
  maint : Bool
  attached : List LineReq
  deriving DecidableEq, Repr

/-- A line on its way to its home (R177); `kill` marks a killed fill's write, which a maintenance operation may await. -/
structure WriteBack where
  line : Nat
  kill : Bool
  data : Mem
  deriving DecidableEq, Repr

/-- Slice states (Table 7.5). -/
inductive SliceSt | enabled | disabling | stale | invalidating | invalidated | failed
  deriving DecidableEq, Repr

/-- Maintenance codes that walk a slice. -/
inductive Walk | clean | flush | disable
  deriving DecidableEq, Repr

/-- One cache slice with its bypass controller; `errs` lists (way, time) of correctable errors, `stamp` orders uses,
`masks` are the way masks in force: HOST, MIRROR, PREFETCH, MOVE. -/
structure Slice where
  st     : SliceSt := .enabled
  lines  : Tbl CLine := []
  fills  : List Fill := []
  wbs    : List WriteBack := []
  queue  : List LineReq := []
  wayOff : Nat := 0
  errs   : List (Nat × Nat) := []
  walk   : Option Walk := none
  stamp  : Nat := 0
  masks  : List Nat := [0xffff, 0xffff, 0x00ff, 0xf000]
  deriving DecidableEq, Repr

/-- The slices, the prefetch depth in force and the maintenance operation running. -/
structure SliceSide where
  slices : Tbl Slice := []
  depth  : Nat := 8
  maintLine : Option Nat := none
  maintCode : Nat := 0
  deriving DecidableEq, Repr

/-! ## Recorder records (Table 19.1) -/

/-- A record posted by a source and not yet accepted (Table 19.1 without SEQ and NODE_ID). -/
structure Draft where
  source : Nat
  time   : Nat
  type   : Nat
  sev    : Nat
  inst   : Nat
  injected : Bool
  fixed  : Bool
  replayed : Bool
  incarnation : Nat
  detail : Bytes
  deriving DecidableEq, Repr

/-- A record with its sequence number and node. -/
structure Rcd where
  seq   : Nat
  node  : Nat
  draft : Draft
  deriving DecidableEq, Repr


/-- What was answered: DONE (a READ its value), or an ABORT code. -/
inductive FOutcome
  | done
  | abort (code : Nat)
  deriving DecidableEq, Repr

/-! ## What leaves the part -/

/-- MODEL: everything the Steoc sends, drives or answers, in order. -/
inductive Out
  | stipple (r : ReplyTo) (nak : Bool) (resp : RespVal) (node incarnation : Nat)
  | rc (port qpn syndrome psn msn : Nat) (result : Option Nat)
  | rcRead (port qpn psn : Nat) (data : Bytes)
  | sprayAck (port qpn base bitmap syndrome nakPsn : Nat)
  | cnp (port qpn : Nat)
  | cmRep (port commId qpn flags incarnation altNode altAddr respRes : Nat)
  | cmRej (port commId code : Nat)
  | cmDreq (port qpn : Nat)
  | cmDrep (port qpn : Nat)
  | frame (half kind fsn ackFsn : Nat) (nak : Bool) (recs : List CpRec)
  | status (kind half epoch : Nat) (body : StatusBody)
  | can (channel id : Nat) (bytes : Bytes)
  | dict (idx sub : Nat) (outcome : FOutcome)
  | pin (name : String) (level : Bool)
  deriving DecidableEq, Repr

/-! ## DRAM (chapter 8) -/

/-- DRAM channel states (Table 8.7). -/
inductive DramSt | off | training | serving | retraining | lost
  deriving DecidableEq, Repr

/-- A repaired or failing row of a channel. -/
structure RowAddr where
  sub  : Nat
  rank : Nat
  bg   : Nat
  ba   : Nat
  cid  : Nat
  row  : Nat
  deriving DecidableEq, Repr

/-- An error log entry (Table 8.8): the word, KIND, STEP, CNT, TOTAL, LAST, DEVICE, COL and where it lies. -/
structure ErrEntry where
  word  : Nat
  kind  : Bool
  step  : Nat
  cnt   : Nat
  total : Nat
  last  : Nat
  device : Nat
  col   : Nat
  at_   : RowAddr
  deriving DecidableEq, Repr

/-- One DRAM channel. -/
structure Channel where
  st      : DramSt := .off
  panicCp : Bool := false
  panicFx : Bool := false
  highTemp : Bool := false
  post    : List Nat := [0, 0, 0, 0]
  rankPower : List Nat := [0, 0]
  draining : Bool := false
  log     : List ErrEntry := []
  repairs : List RowAddr := []
  hppr    : Nat := 0
  spprUsed : List (Nat × Nat × Nat × Nat) := []
  raa     : Tbl Nat := []
  retired : Nat := 0
  margin  : Nat := 0
  trainTemp : Int := 0
  saved   : Bool := false
  corrections : List Nat := []
  policy  : Nat := 2
  patrol  : Nat := 0
  deriving DecidableEq, Repr

/-- The DRAM subsystem: channels, reserve groups degraded, map order in force; `mem` is every frame's content at
frame × 65,536 + offset, the frame numbered as LOCATION does (Table 6.2). -/
structure DramSide where
  mem      : Mem := []
  channels : Tbl Channel := []
  mapOrder : Nat := 2
  degraded : List Nat := []
  doubleLost : List Nat := []
  waiters  : List (Nat × Nat) := []
  hpprRun  : Bool := false
  deriving DecidableEq, Repr

/-! ## NAND (chapter 9) -/

/-- NAND channel states (Table 9.14). -/
inductive NandSt | off | identifying | training | serving | lost
  deriving DecidableEq, Repr

/-- A NAND channel. -/
structure NandChan where
  st   : NandSt := .off
  wp   : Bool := false
  rate : Nat := 0
  present : Nat := 0
  deriving DecidableEq, Repr

/-- Why a unit is programmed. -/
inductive ProgWhy
  | writeBack (lunit : Nat)
  | copy (src : Place)
  | pad
  deriving DecidableEq, Repr

/-- A unit waiting in, or travelling with, a wordline (R244, R247). -/
structure ProgUnit where
  area : Nat
  key  : Nat
  why  : ProgWhy
  slot : Nat
  data : Mem
  deriving DecidableEq, Repr

/-- What a die operation does. -/
inductive DieAct
  | program (units : List ProgUnit)
  | erase (group : Nat)
  | read (lunit : Nat)
  deriving DecidableEq, Repr

/-- An operation held by a die (R233). -/
structure DieOp where
  cls : Nat
  suspends : Nat
  act : DieAct
  deriving DecidableEq, Repr

/-- Die states (Table 9.15). -/
inductive DieSt | service | retired | absent
  deriving DecidableEq, Repr

/-- One die: its operations, open wordline, open groups (NAND tier, GC, head, body, full-stripe parity), spares per plane. -/
structure Die where
  st     : DieSt := .service
  ops    : List DieOp := []
  wordline : List ProgUnit := []
  openPool : Option Nat := none
  openGc : Option Nat := none
  openHead : Option Nat := none
  openBody : Option Nat := none
  openParity : Option Nat := none
  gcOn   : Bool := false
  spares : List Nat := [34, 34, 34, 34]
  grown  : Nat := 0
  dumpFails : Nat := 0
  deriving DecidableEq, Repr

/-- A unit being merged for write-back (R244): which of its 128 lines are present, and their bytes. -/
structure Merge where
  lunit : Nat
  tpn   : Nat
  set   : Nat
  lines : List Nat
  data  : Mem
  deriving DecidableEq, Repr

/-- The header of a programmed unit (Table 9.4). -/
structure UnitHead where
  area : Nat
  slot : Nat
  seq  : Nat
  key  : Nat
  deriving DecidableEq, Repr

/-- A unit read on its way down the recovery ladder (R259). -/
structure LadderRead where
  lunit : Nat
  step  : Nat
  deriving DecidableEq, Repr

/-- A parity stripe (R253): the parity group of its dies, AREA, unit number, its (die, group) members, where its parity
unit lies once written, and whether that is open-block parity. -/
structure Stripe where
  pgroup  : Nat
  area    : Nat
  unit    : Nat
  members : List (Nat × Nat)
  parity  : Option Place
  openBlock : Bool
  deriving DecidableEq, Repr

/-- The NAND subsystem. `mem` is the content of every physical unit at unit number × 16,384 + offset. -/
structure NandSide where
  mem      : Mem := []
  heads    : Tbl UnitHead := []
  channels : Tbl NandChan := []
  dies     : Tbl Die := []
  merge    : List Merge := []
  ladder   : List LadderRead := []
  verifying : List (Nat × Nat) := []
  stripes  : List Stripe := []
  patrol   : Nat := 0
  wearMarks : List (Nat × Nat) := []
  verifyOrder : Nat := 0
  deriving DecidableEq, Repr

/-! ## Fixative (chapter 10) -/

/-- A dirty page (R51): whether it is being imaged, whether it changed since
the first line read, whether it was discarded whole since the last pass, whether it waits for the twin (R306). -/
structure Dirty where
  tpn     : Nat
  imaging : Bool
  changed : Bool
  whole   : Bool
  twinWait : Bool
  pressure : Bool
  copy    : Mem
  deriving DecidableEq, Repr

/-- How far the power-fail sequence has come (Table 10.2, R285). -/
inductive DumpPhase | none | draining | dumping | sealed
  deriving DecidableEq, Repr

/-- A dump on a plate: its seal (Table 10.5) and the items of Table 10.3. -/
structure Dump where
  plate  : Nat
  cause  : Nat
  seqFirst : Nat
  seqLast : Nat
  pageUnits : Nat
  lineUnits : Nat
  otherUnits : Nat
  poisoned : Nat
  incarnation : Nat
  duration : Nat
  slot   : Nat
  tables : Tables
  merges : List Merge
  pages  : List (Nat × Bool × Mem)
  lines  : List (Nat × Mem)
  ring   : Tbl Rcd
  deriving DecidableEq, Repr

/-- A dump plate (R283). -/
inductive Plate | ready | holds | erasing
  deriving DecidableEq, Repr

/-- The Fixative: dirty pages oldest first, the running pass, the dump. -/
structure FixSide where
  dirty   : List Dirty := []
  pass    : List Nat := []
  passRunning : Bool := false
  phase   : DumpPhase := .none
  cause   : Nat := 0
  quiesced : Bool := false
  sealed  : Option Dump := none
  plates  : List Plate := [.ready, .ready]
  ready   : Nat := 0
  tickWait : Bool := false
  pressurePages : Nat := 0
  captured : Tbl Nat := []
  refusedAt : Option Nat := none
  holdFresh : Bool := true
  dumpDead : Bool := false
  deriving DecidableEq, Repr

/-! ## Counterproof (chapter 11) -/

/-- A record on its way out, with the operation whose completion waits for it. -/
structure SentRec where
  rcd : CpRec
  op  : Option Nat
  deriving DecidableEq, Repr

/-- A frame sent and not yet acknowledged. -/
structure SentFrame where
  fsn  : Nat
  recs : List SentRec
  deriving DecidableEq, Repr

/-- A record accepted and not yet applied, with its frame. -/
structure RxRec where
  fsn : Nat
  rcd : CpRec
  deriving DecidableEq, Repr

/-- States of a half. -/
inductive HalfSt | off | training | service | failed
  deriving DecidableEq, Repr

/-- One half of the link. -/
structure Half where
  st      : HalfSt := .off
  open_   : List SentRec := []
  sent    : List SentFrame := []
  lastFsn : Nat := 0
  expect  : Nat := 1
  nakSent : Bool := false
  ackSent : Nat := 0
  ackSeen : Nat := 0
  counter : Nat := 0
  rx      : List RxRec := []
  rxFetch : List Nat := []
  syncSeen : Bool := false
  deriving DecidableEq, Repr

/-- Why this Steoc waits on a line fetch from the twin (R308). -/
inductive FetchWhy | dramWord | nandUnit (lunit : Nat) | sliceLine | mirror | restore (tpn : Nat)
  deriving DecidableEq, Repr

/-- A FETCH outstanding. -/
structure Fetch where
  line : Nat
  why  : FetchWhy
  deriving DecidableEq, Repr

/-- The phase of a resynchronisation (R319–R321). -/
inductive ResyncPhase | none | started | marked | imaging | copying | synced
  deriving DecidableEq, Repr

/-- A running resynchronisation. -/
structure Resync where
  phase    : ResyncPhase := .none
  full     : Bool := false
  source   : Bool := false
  target   : Bool := false
  ownDone  : Bool := false
  twinDone : Bool := false
  todo     : List Nat := []
  total    : Nat := 0
  ackIn    : Bool := false
  ackOut   : Bool := false
  /-- The twin's tables, window and budget have come (R319 step 3). -/
  tables   : Bool := false
  /-- The tables come whole from a one-directional source. -/
  adopt    : Bool := false
  gen      : Nat := 0
  got      : Tbl Nat := []
  deriving DecidableEq, Repr

/-- Counterproof. Epochs as R324 gives them; `burned` counts the fuses of each counter. -/
structure CpSide where
  halves   : Tbl Half := []
  twin     : Twin := .linking
  epoch    : Nat := 16777216
  epochsOk : Bool := true
  burned   : Nat := 1
  burnedInc : Nat := 0
  txCount  : Nat := 0
  rxEpoch  : Nat := 0
  rxPrev   : Nat := 0
  nextEpoch : Option Nat := none
  hello    : Bool := false
  helloSeen : Option StatusBody := none
  twinNode : Nat := 255
  twinMode : Nat := 0
  twinDirty : Nat := 0
  twinBudget : Nat := 0
  failover : Option Nat := none
  fetches  : List Fetch := []
  nextFwd  : Nat := 0
  notices  : List Nat := []
  declared : Bool := false
  settled  : Bool := false
  ownsNone : Bool := false
  resync   : Resync := {}
  share    : Nat := 0
  dirtied  : List Nat := []
  charged  : List Nat := []
  sessionUp : Bool := false
  waitImages : List (Nat × Nat × Nat) := []
  answerImages : List Nat := []
  discarded : Tbl Nat := []
  deriving DecidableEq, Repr

/-! ## Recall and States (chapters 12, 13) -/

/-- The phase of Recall (0x3600.02). -/
inductive RecallPhase | none | preparing | streaming | refill | awaiting
  deriving DecidableEq, Repr

/-- An extent of a restore order or trace. -/
structure Extent where
  region : Nat
  first  : Nat
  pages  : Nat
  stage  : Nat
  deriving DecidableEq, Repr

/-- A host's access trace of this Recall (R349, R350). -/
structure Trace where
  host    : Nat
  began   : Nat
  ended   : Bool
  extents : List Extent
  deriving DecidableEq, Repr

/-- Recall. -/
structure RecallSide where
  phase   : RecallPhase := .none
  kind    : Nat := 1
  serving : Bool := false
  formatted : Bool := false
  powerOn : Bool := true
  maint   : Bool := false
  dirLoaded : Bool := false
  indexed : Bool := false
  ordersRead : Bool := false
  unrestored : List Nat := []
  demand  : List Nat := []
  orders  : List (List Extent) := []
  readahead : List Nat := []
  traces  : List Trace := []
  slots   : List (Nat × Nat × Nat) := []
  writes  : List (Nat × Nat × Bytes) := []
  fetched : Tbl Nat := []
  segLeft : List Nat := []
  segAsked : List Nat := []
  opened  : List (Nat × Nat) := []
  passAfter : Bool := false
  passGroups : List (Nat × Nat) := []
  verified : Bool := false
  stage   : Nat := 0
  dump    : Option Dump := none
  reserveSeal : Option Nat := none
  deriving DecidableEq, Repr

/-- A cut in progress (R359). -/
structure Cut where
  number  : Nat
  step    : Nat
  own     : Bool
  all     : Bool
  tenant  : Nat
  retain  : Nat
  twinDone : Bool
  points  : List Nat
  deriving DecidableEq, Repr

/-- A CLONE being copied (R372). -/
structure CloneRun where
  number : Nat
  source : Nat
  target : Nat
  todo   : List Nat
  asked  : List Nat
  deriving DecidableEq, Repr

/-- A page captured and not yet programmed (R364, R366); `first` when a change of the page waited for it. -/
structure Cap where
  number : Nat
  tpn    : Nat
  region : Nat
  page   : Nat
  tenant : Nat
  dram   : Bool
  first  : Bool
  data   : Mem
  deriving DecidableEq, Repr

/-- The State coordinator. -/
structure SnapSide where
  cut    : Option Cut := none
  clone  : Option CloneRun := none
  heldOut : List Out := []
  caps   : List Cap := []
  run    : Option (Nat × StateBlock) := none
  deriving DecidableEq, Repr

/-! ## Modes and faults (chapter 14) -/

/-- Mode, Keep causes (Table 14.6 by bit), the mode left when Drain was entered, failed ports. -/
structure ModeSide where
  mode    : Mode := .recall
  left    : Mode := .recall
  causes  : Nat := 0
  entering : Bool := false
  since   : Nat := 0
  keepMs  : Nat := 0
  fault   : Bool := true
  hot     : Int := 25
  failedPorts : List Nat := []
  deriving DecidableEq, Repr

/-! ## Cipher engines, keys, firmware (chapter 15) -/

/-- Key slot states (Table 15.2). -/
inductive SlotSt | empty | loaded | shadow | eraseWait | lost
  deriving DecidableEq, Repr

/-- A key slot; `value` and `next` are the keys it holds (next: the shadow key of R404), `nor` whether a good copy
stands in the NOR. -/
structure KeySlot where
  st     : SlotSt := .empty
  kind   : Nat := 0
  source : Nat := 0
  value  : Nat := 0
  next   : Option Nat := none
  nextKind : Nat := 0
  nextSource : Nat := 0
  nor    : Bool := false
  deriving DecidableEq, Repr

/-- A firmware bank in the NOR: its image bytes as written, what verification found. -/
structure Bank where
  image   : Mem := []
  written : Nat := 0
  length  : Nat := 0
  svn     : Nat := 0
  version : Nat := 0
  valid   : Bool := false
  verifying : Bool := false
  deriving DecidableEq, Repr

/-- A key command that runs at the utility engine: slot, KIND, SOURCE, the key it loads. -/
structure KeyJob where
  slot   : Nat
  kind   : Nat
  source : Nat
  value  : Nat
  deriving DecidableEq, Repr

/-- Cipher engines, key slots, the key command running and the material for IMPORT, utility engine, firmware banks. -/
structure KeySide where
  slots   : Tbl KeySlot := []
  job     : Option KeyJob := none
  material : Option Bytes := none
  fenced  : List Nat := []
  blocks  : Tbl Nat := []
  deviceKey : Bool := true
  migrate : Option Nat := none
  ueOwner : Nat := 0
  ueWait  : List Nat := []
  ueMismatch : List Nat := []
  banks   : List Bank := [{}, {}]
  running : Option Nat := none
  fusedSvn : Nat := 0
  deriving DecidableEq, Repr

/-! ## Fieth (chapter 16) -/

/-- Channel states (Table 16.10). -/
inductive CanSt | disabled | active | passive | busOff | listenOnly
  deriving DecidableEq, Repr

/-- A READ or WRITE header with its expedited value (Table 16.4). -/
structure FHead where
  cmd : Nat
  tag : Nat
  idx : Nat
  sub : Nat
  flags : Nat
  resv : Nat
  off : Nat
  len : Nat
  value : Bytes
  deriving DecidableEq, Repr

/-- An open segmented transfer (R422); `data` is what is still to be sent (read) or has come (write). -/
structure Transfer where
  head : FHead
  read : Bool
  next : Nat
  acked : Nat
  nacked : Bool
  data : Bytes
  deriving DecidableEq, Repr

/-- A duplicate record (R429); `out` is none while the first copy executes, with the channels held for the answer. -/
structure DupRec where
  head : FHead
  out  : Option FOutcome
  held : List Nat
  deriving DecidableEq, Repr

/-- One CAN channel. -/
structure Can where
  st     : CanSt := .active
  dup    : Bool := false
  tdc    : Bool := false
  nominal : Nat := 1
  rate   : Nat := 1
  tec    : Nat := 0
  rec_   : Nat := 0
  hbSeq  : Nat := 0
  eventAt : Option Nat := none
  xfer   : Option Transfer := none
  deriving DecidableEq, Repr

/-- Fieth: both channels, duplicate records, the MCC. -/
structure FiethSide where
  chans  : List Can := [{}, {}]
  dups   : List DupRec := []
  mccStarts : Nat := 0
  boot   : Bool := false
  mccHeld : Bool := true
  deriving DecidableEq, Repr

/-! ## Ports (chapter 17) -/

/-- Host port states (Table 17.7). -/
inductive PortSt | disabled | training | up | down | failed
  deriving DecidableEq, Repr

/-- A host port's status and addresses in force. -/
structure Port where
  st       : PortSt := .training
  answering : Bool := false
  proxied  : Bool := false
  fecLock  : Bool := false
  pausedBy : Nat := 0
  pausing  : Nat := 0
  deriving DecidableEq, Repr

/-! ## Presence, Service, injection (chapter 18) -/

/-- An armed injection point (Table 17.14). -/
structure Armed where
  repeated : Bool
  point   : Nat
  inst    : Nat
  variant : Nat
  count   : Nat
  interval : Nat
  fired   : Nat
  ready   : Bool
  deriving DecidableEq, Repr

/-- Presence, seal, Service, injection, JTAG. -/
structure PresSide where
  windowOpen : Bool := false
  closesAt : Nat := 0
  pressed : Bool := false
  stuck   : Bool := false
  jumper  : Bool := false
  loopA   : Bool := true
  loopB   : Bool := true
  broken  : Bool := false
  fuse    : Bool := false
  brokenAt : Nat := 0
  brokenLoop : Nat := 0
  armed   : List Armed := []
  halted  : Bool := false
  scan    : Option Nat := none
  /-- MODEL: an injected fault is being handled. -/
  injecting : Bool := false
  deriving DecidableEq, Repr

/-! ## Remarque (chapter 19) -/

/-- The recorder: its ring, both NAND areas, the fixed section. -/
structure RecSide where
  next     : Nat := 0
  waiting  : List Draft := []
  ring     : Tbl Rcd := []
  unflushed : List Nat := []
  first    : Tbl Rcd := []
  last     : Tbl Rcd := []
  fixedSec : Tbl Rcd := []
  cmacs    : List Nat := []
  overwritten : Nat := 0
  lastFlush : Nat := 0
  lockWait : Bool := false
  deriving DecidableEq, Repr

/-! ## Reset, power, clocks (chapter 20) -/

/-- Where the reset controller stands. -/
inductive ResetPhase | off | powerOn | window | asserted | load | running
  deriving DecidableEq, Repr

/-- The part of the option table the model reads (Table 20.8). -/
structure Options where
  version   : Nat := 1
  density   : Nat := 32
  ranks     : Nat := 2
  dataRate  : Nat := 6400
  dieType   : Nat := 2
  nandRate  : Nat := 24
  dies      : Nat := 640
  holdUp    : Nat := 150
  tlcRated  : Nat := 5000
  pslcRated : Nat := 100000
  iface     : Nat := 1
  macBase   : Nat := 0
  ports     : Nat := 128
  deriving DecidableEq, Repr

/-- Reset controller, power domains, clocks, rails, temperatures, pins. -/
structure ResetSide where
  phase    : ResetPhase := .load
  short    : Bool := false
  cause    : Nat := 0
  causes   : Nat := 1
  idle     : List Nat := []
  coreRun  : Bool := false
  coreHeld : Bool := false
  /-- CLK_MCC and CLK_CAN are present and within limits, and CLK_MCC locked (R509). -/
  mccClock : Bool := true
  /-- The internal reset has lasted its 8,192 cycles while SYSRST_N stays asserted (R485). -/
  due      : Bool := false
  loadDone : Bool := false
  optFault : Bool := false
  powered  : Nat := 0
  offFault : Nat := 0
  offReq   : Nat := 0
  blockReset : List Nat := []
  pgFaults : List (Nat × Nat) := []
  repower  : List Nat := []
  clocks   : Nat := 0x7ff
  rails    : List Nat := [750, 800, 1100, 1800, 1200, 750, 900, 1200, 1800, 750]
  node     : Nat := 1
  options  : Options := {}
  pwrgd    : Bool := true
  porst    : Bool := false
  pfail    : Bool := false
  sysrst   : Bool := false
  twinPresent : Bool := false
  dumpReset : Bool := false
  deriving DecidableEq, Repr


/-! ## Queue pairs (chapter 4) -/

/-- Context states (Table 4.5). -/
inductive QpSt | free | shadow | connecting | serving | error | closing
  deriving DecidableEq, Repr

/-- A READ response packet waiting to be sent (R110, R114): its PSN, the PSN of the request, key, region offset. -/
structure RespPkt where
  psn   : Nat
  first : Nat
  key   : Nat
  va    : Nat
  last  : Bool
  data  : Bytes
  deriving DecidableEq, Repr

/-- A queue pair context (Table 4.5) with what the responder keeps beside it: the NAK sent for EPSN (R108), the
message in progress (remaining bytes, key, next address, R110), a spray NAK pending, time of the last CNP, completed PSNs not
yet acknowledged with what each asks for, READ responses to send. -/
structure Qp where
  st      : QpSt := .free
  spray   : Bool := false
  pmtu    : Nat := 0
  respRes : Nat := 0
  host    : Nat := 0
  tenant  : Nat := 0
  remoteQpn : Nat := 0
  epsn    : Nat := 0
  msn     : Nat := 0
  ackPsn  : Nat := 0
  lastError : Nat := 0
  pcp     : Nat := 0
  vlan    : Option Nat := none
  dscp    : Nat := 0
  ipv6    : Bool := false
  lossless : Bool := false
  port    : Nat := 0
  udpSrc  : Nat := 0
  remoteIp : Nat := 0
  remoteMac : Nat := 0
  lastImm : Nat := 0
  lastRx  : Nat := 0
  rate    : Nat := 100000
  target  : Nat := 100000
  alpha   : Nat := 1024
  stage   : Nat := 0
  bitmap  : Nat := 0
  ring    : List (Nat × Nat) := []
  nakSent : Bool := false
  msgLeft : Nat := 0
  msgKey  : Nat := 0
  msgVa   : Nat := 0
  sprayNak : Option (Nat × Nat) := none
  cnpAt   : Option Nat := none
  sprayDirty : Bool := false
  done    : List (Nat × Nat) := []
  responses : List RespPkt := []
  commId  : Nat := 0
  ownDreq : Bool := false
  adopted : Bool := false
  deriving DecidableEq, Repr

/-- The RoCEv2 side: own contexts by QPN[15:0], shadows and adopted contexts by QPN, the on-chip cache (least
recently used first), packets held for a context (per port group), fetches running. -/
structure RcSide where
  own     : Tbl Qp := []
  shadows : Tbl Qp := []
  cache   : List Nat := []
  held    : List (Nat × RcPacket) := []
  fetching : List Nat := []
  waitShadow : List (Nat × Nat) := []
  parked  : List RcPacket := []
  deriving DecidableEq, Repr

/-! ## The whole -/

/-- The Steoc. -/
structure State where
  host  : HostSide := {}
  rc    : RcSide := {}
  per   : Persist := {}
  eng   : Engine := {}
  tier  : TierSide := {}
  cs    : SliceSide := {}
  dram  : DramSide := {}
  nand  : NandSide := {}
  fix   : FixSide := {}
  cp    : CpSide := {}
  rec_  : RecallSide := {}
  snap  : SnapSide := {}
  md    : ModeSide := {}
  keys  : KeySide := {}
  fieth : FiethSide := {}
  ports : Tbl Port := []
  pres  : PresSide := {}
  rmq   : RecSide := {}
  rst   : ResetSide := {}
  dict  : Tbl Nat := []
  /-- Posted configuration in force (R28), keyed dictionary key × 256 + unit. -/
  force : Tbl Nat := []
  rtc   : Nat := 0
  /-- MODEL: how many free values have been drawn. -/
  freeCtr : Nat := 0
  /-- MODEL: everything sent so far. -/
  outbox : List Out := []
  /-- The commands waiting, first in, first out. -/
  pending : List Instr := []
  deriving DecidableEq, Repr

/-- The machine right after a power-on reset (R485): mode Recall, the option load about to run (R496), everything
volatile at its default, media not yet formatted, the first pair incarnation taken (R335). -/
def State.reset : State := { dict := [(0x210004, 1)] }

end Sys2Proof.Machine
end

