-- ==== Sys2Proof/Machine/Ops.lean ====
section
/-! DEFINITION. The named operations that every meaning is written with: sparse tables and memories, bytes and bits,
dictionary scalars and counters (R440), posting records (R472), what the Steoc sends, and lookups in its tables. -/
namespace Sys2Proof.Machine
open Sys2Proof

/-- What a meaning answers. -/
abbrev Result := Host.Outcome State Fault Refusal

/-! ## Tables -/

/-- The value at a key, or the default. -/
def tget {α : Type} (d : α) : Tbl α → Nat → α
  | [], _ => d
  | (k, v) :: t, i => if i = k then v else if i < k then d else tget d t i

/-- The value at a key, if listed. -/
def tfind {α : Type} : Tbl α → Nat → Option α
  | [], _ => none
  | (k, v) :: t, i => if i = k then some v else if i < k then none else tfind t i

/-- Put a value at a key, keeping keys rising. -/
def tput {α : Type} : Tbl α → Nat → α → Tbl α
  | [], i, v => [(i, v)]
  | (k, w) :: t, i, v => if i = k then (i, v) :: t else if i < k then (i, v) :: (k, w) :: t else (k, w) :: tput t i v

/-- Remove a key. -/
def tdel {α : Type} (t : Tbl α) (i : Nat) : Tbl α := t.filter (fun p => p.1 ≠ i)

/-- Put a value, not listing the default. -/
def tset {α : Type} [DecidableEq α] (d : α) (t : Tbl α) (i : Nat) (v : α) : Tbl α :=
  if v = d then tdel t i else tput t i v

/-- Change the value at a key. -/
def tmod {α : Type} (d : α) (t : Tbl α) (i : Nat) (f : α → α) : Tbl α := tput t i (f (tget d t i))

/-- Insert a number into a rising list without repeats. -/
def insertSet : List Nat → Nat → List Nat
  | [], i => [i]
  | k :: t, i => if i = k then k :: t else if i < k then i :: k :: t else k :: insertSet t i

/-- Remove a number from a list. -/
def dropSet (l : List Nat) (i : Nat) : List Nat := l.filter (· ≠ i)

/-- Change the first element that satisfies a test. -/
def modFirst {α : Type} (p : α → Bool) (f : α → α) : List α → List α
  | [] => []
  | a :: t => if p a then f a :: t else a :: modFirst p f t

/-- Remove the first element that satisfies a test. -/
def dropFirst {α : Type} (p : α → Bool) : List α → List α
  | [] => []
  | a :: t => if p a then t else a :: dropFirst p t

/-! ## Memories -/

/-- One byte. -/
def mget (m : Mem) (a : Nat) : Byte := tget 0 m a

/-- `len` bytes from an address. -/
def mbytes (m : Mem) (a len : Nat) : Bytes := (List.range len).map (fun i => mget m (a + i))

/-- A byte string as a memory that begins at `a`. -/
def memOf (a : Nat) : Bytes → Mem
  | [] => []
  | b :: t => if b = 0 then memOf (a + 1) t else (a, b) :: memOf (a + 1) t

/-- The cells of [a, a + len), moved to begin at 0. -/
def mslice (m : Mem) (a len : Nat) : Mem :=
  (m.filter (fun c => a ≤ c.1 ∧ c.1 < a + len)).map (fun c => (c.1 - a, c.2))

/-- [a, a + len) replaced by a piece that begins at 0. -/
def mpaste (m : Mem) (a len : Nat) (piece : Mem) : Mem :=
  m.filter (fun c => c.1 < a) ++ (piece.filter (fun c => c.1 < len)).map (fun c => (c.1 + a, c.2))
    ++ m.filter (fun c => a + len ≤ c.1)

/-- Bytes written at an address. -/
def mput (m : Mem) (a : Nat) (b : Bytes) : Mem := mpaste m a b.length (memOf 0 b)

/-- The canonical form: addresses strictly rising and no listed zero. -/
def Memory.wf : Mem → Bool
  | [] => true
  | [c] => c.2 ≠ 0
  | c :: d :: t => c.2 ≠ 0 && c.1 < d.1 && Memory.wf (d :: t)

/-! ## Bytes and bits -/

/-- `n` bytes of a number, least significant first. -/
def leBytes : Nat → Nat → Bytes
  | 0, _ => []
  | n + 1, v => BitVec.ofNat 8 v :: leBytes n (v / 256)

/-- `n` bytes of a number, most significant first. -/
def beBytes (n v : Nat) : Bytes := (leBytes n v).reverse

/-- The number that bytes spell, least significant first. -/
def leNat : Bytes → Nat
  | [] => 0
  | b :: t => b.toNat + 256 * leNat t

/-- The number that bytes spell, most significant first. -/
def beNat (b : Bytes) : Nat := leNat b.reverse

/-- The big-endian number in `len` bytes from `off`. -/
def beAt (b : Bytes) (off len : Nat) : Nat := beNat ((b.drop off).take len)

/-- A field of a number. -/
def bits (v lo width : Nat) : Nat := v / 2 ^ lo % 2 ^ width

/-- One bit. -/
def bitOf (v i : Nat) : Bool := v / 2 ^ i % 2 = 1

/-- Set one bit. -/
def setBit (v i : Nat) : Nat := if bitOf v i then v else v + 2 ^ i

/-- Clear one bit. -/
def clrBit (v i : Nat) : Nat := if bitOf v i then v - 2 ^ i else v

/-- Set or clear one bit. -/
def putBit (v i : Nat) (b : Bool) : Nat := if b then setBit v i else clrBit v i

/-- How many of the low `n` bits are set. -/
def countBits (n v : Nat) : Nat := ((List.range n).filter (fun i => bitOf v i)).length

/-- The numbers of the set bits among the low `n`. -/
def bitList (n v : Nat) : List Nat := (List.range n).filter (fun i => bitOf v i)

/-- A Bool as a number. -/
def b2n (b : Bool) : Nat := if b then 1 else 0

/-- One bit shifted through the CRC register. -/
def crcBit (c : Nat) : Nat := if c % 2 = 1 then (c / 2) ^^^ 0x82f63b78 else c / 2

/-- CRC-32C of a byte string (R59). -/
def crc32c (b : Bytes) : Nat :=
  (b.foldl (fun c x => crcBit (crcBit (crcBit (crcBit (crcBit (crcBit (crcBit (crcBit (c ^^^ x.toNat))))))))) 0xffffffff)
    ^^^ 0xffffffff

/-- Sequence a precedes sequence b (R72). -/
def precedes (a b : Nat) : Bool :=
  let d := (b + Config.seqMod - a) % Config.seqMod
  1 ≤ d && d ≤ 2 ^ 47 - 1

/-- A time not earlier than another on the wrapping real-time counter (R445). -/
def rtcReached (now at_ : Nat) : Bool := (now + 2 ^ 32 - at_) % 2 ^ 32 < 2 ^ 31

/-! ## Updating parts of the state -/

def updHost (f : HostSide → HostSide) (s : State) : State := { s with host := f s.host }
def updRc (f : RcSide → RcSide) (s : State) : State := { s with rc := f s.rc }
def updLive (f : Tables → Tables) (s : State) : State := { s with per := { s.per with live := f s.per.live } }
def updEng (f : Engine → Engine) (s : State) : State := { s with eng := f s.eng }
def updTier (f : TierSide → TierSide) (s : State) : State := { s with tier := f s.tier }
def updCs (f : SliceSide → SliceSide) (s : State) : State := { s with cs := f s.cs }
def updDram (f : DramSide → DramSide) (s : State) : State := { s with dram := f s.dram }
def updNand (f : NandSide → NandSide) (s : State) : State := { s with nand := f s.nand }
def updFix (f : FixSide → FixSide) (s : State) : State := { s with fix := f s.fix }
def updCp (f : CpSide → CpSide) (s : State) : State := { s with cp := f s.cp }
def updRecall (f : RecallSide → RecallSide) (s : State) : State := { s with rec_ := f s.rec_ }
def updSnap (f : SnapSide → SnapSide) (s : State) : State := { s with snap := f s.snap }
def updMode (f : ModeSide → ModeSide) (s : State) : State := { s with md := f s.md }
def updKeys (f : KeySide → KeySide) (s : State) : State := { s with keys := f s.keys }
def updFieth (f : FiethSide → FiethSide) (s : State) : State := { s with fieth := f s.fieth }
def updPres (f : PresSide → PresSide) (s : State) : State := { s with pres := f s.pres }
def updRmq (f : RecSide → RecSide) (s : State) : State := { s with rmq := f s.rmq }
def updRst (f : ResetSide → ResetSide) (s : State) : State := { s with rst := f s.rst }

/-- A log record is appended: bytes logged since the last write began, and since the last checkpoint round (R241). -/
def logRecs (n : Nat) (s : State) : State :=
  { s with per := { s.per with logged := s.per.logged + 32 * n, sinceRound := s.per.sinceRound + 32 * n } }

/-! ## Dictionary scalars -/

/-- The key of an entry in `dict`. -/
def dkey (idx sub : Nat) : Nat := idx * 256 + sub
/-- The key of an entry of a DRAM channel, 0x3200 + n, and of a NAND channel, 0x3300 + n. -/
def chanKey (n sub : Nat) : Nat := dkey (0x3200 + n % 32) sub
def nandKey (n sub : Nat) : Nat := dkey (0x3300 + n % 40) sub

/-- Defaults that are not 0, of entries that store a value (the entry tables of every chapter). -/
def dictDefaults : List (Nat × Nat) :=
  [ (0x108001, 1), (0x108002, 1), (0x108003, 1), (0x108004, 1), (0x108005, 100), (0x108006, 500), (0x108007, 3),
    (0x110002, 2), (0x110007, 105),
    (0x210001, 47332), (0x210002, 4), (0x210003, 200), (0x210004, 1),
    (0x210201, 1), (0x210202, 0x5a4c01), (0x210203, 600), (0x210204, 1), (0x210206, 50), (0x210207, 4),
    (0x210208, 55), (0x210209, 300), (0x21020a, 40), (0x21020b, 100), (0x21020c, 2),
    (0x300005, 8), (0x310003, 1),
    (0x310101, 0xffff), (0x310102, 0xfff0), (0x310103, 0x000f), (0x310104, 0xc000),
    (0x310105, 0xffff), (0x310106, 0xffff), (0x310107, 0x00ff), (0x310108, 0xf000),
    (0x310109, 0xffff), (0x31010a, 0xffff), (0x31010b, 0x0003), (0x31010c, 0xf000),
    (0x324004, 2), (0x324005, 24), (0x324007, 10), (0x324008, 1),
    (0x334201, 24), (0x334202, 40), (0x334203, 2), (0x334204, 200),
    (0x335001, 3), (0x335003, 60), (0x335004, 200000), (0x335005, 30),
    (0x340005, 50), (0x340006, 80), (0x34000a, 20000),
    (0x340101, 16), (0x340102, 32), (0x340103, 32), (0x340401, 150),
    (0x350101, 200), (0x350103, 1000), (0x360004, 8), (0x360008, 90), (0x370004, 4),
    (0x400001, 1), (0x510002, 10) ]

/-- The defaults of host port entries 0x2000 + p by subindex (Table 17.6). -/
def portDefault (sub : Nat) : Nat := if sub = 1 then 1 else if sub = 2 then 1 else if sub = 6 then 9216 else if sub = 7 then 8 else 0

/-- The value a stored entry has until it is written. -/
def dictDefault (k : Nat) : Nat :=
  if 0x200000 ≤ k ∧ k < 0x208000 then portDefault (k % 256) else tget 0 dictDefaults k

/-- Read a stored entry. -/
def dget (s : State) (k : Nat) : Nat := tget (dictDefault k) s.dict k

/-- Write a stored entry. -/
def dset (k v : Nat) (s : State) : State := { s with dict := tput s.dict k v }

/-- A U64 counter counts and wraps (R440). -/
def bump (k : Nat) (s : State) : State := dset k ((dget s k + 1) % 2 ^ 64) s
/-- A U64 counter counts several. -/
def bumpBy (k n : Nat) (s : State) : State := dset k ((dget s k + n) % 2 ^ 64) s
/-- A U32 counter counts and stops at its greatest value (R440). -/
def bump32 (k : Nat) (s : State) : State := dset k (min (dget s k + 1) (2 ^ 32 - 1)) s
/-- A U16 counter counts and stops at its greatest value (R440). -/
def bump16 (k : Nat) (s : State) : State := dset k (min (dget s k + 1) (2 ^ 16 - 1)) s

/-- A posted entry as a unit has it in force (R28): unit 0 unless the entry is applied unit by unit. -/
def fget (s : State) (k unit : Nat) : Nat := tget (dictDefault k) s.force (k * 256 + unit)
/-- A unit applies a posted entry. -/
def fset (k unit v : Nat) (s : State) : State := { s with force := tput s.force (k * 256 + unit) v }

/-- The pair incarnation in force, 0x2100.04 (R73). -/
def incarnation (s : State) : Nat := dget s 0x210004

/-! ## Sending and recording -/

/-- The Steoc sends or drives something. -/
def emit (o : Out) (s : State) : State := { s with outbox := s.outbox ++ [o] }

/-! ## Answers to the writers of the dictionary (R419, R425–R429) -/

/-- A frame padded with zeros to the next permitted data length (R419, Table 16.2). -/
def canPad (b : Bytes) : Bytes :=
  let n := b.length
  let l := if n ≤ 16 then 16 else if n ≤ 20 then 20 else if n ≤ 24 then 24 else if n ≤ 32 then 32 else if n ≤ 48 then 48 else 64
  b ++ List.replicate (l - n) 0
/-- A channel takes part in the traffic of the bus. -/
def canTalks (c : Can) : Bool := c.st = .active || c.st = .passive
/-- A RESPONSE frame leaves on a channel; the boot ROM uses channel A only (R411). -/
def fiethSend (ch : Nat) (b : Bytes) (s : State) : State :=
  let c := (s.fieth.chans[ch]?).getD {}
  if canTalks c && (!s.fieth.boot || ch = 0) then emit (.can ch (0x480 + s.rst.node) (canPad b)) s else s
/-- A response header (Table 16.4). -/
def respHead (cmd : Nat) (h : FHead) (flags len : Nat) : Bytes :=
  leBytes 1 cmd ++ leBytes 1 h.tag ++ leBytes 2 h.idx ++ leBytes 1 h.sub ++ leBytes 1 flags ++ [0, 0] ++ leBytes 4 h.off ++ leBytes 4 len
/-- An ABORT frame, counted in 0x701d.03. -/
def sendAbort (ch tag idx sub code : Nat) (s : State) : State :=
  fiethSend ch (leBytes 1 7 ++ leBytes 1 tag ++ leBytes 2 idx ++ leBytes 1 sub ++ [0, 0, 0] ++ leBytes 4 code ++ [0, 0, 0, 0]) (bump 0x701d03 s)
/-- The answer to a WRITE: WRITE_RSP with DONE, or ABORT. -/
def sendOutcome (ch : Nat) (h : FHead) (o : FOutcome) (s : State) : State :=
  match o with
  | .abort code => sendAbort ch h.tag h.idx h.sub code s
  | _ => fiethSend ch (respHead 9 h 4 h.len) s
/-- Element sizes of the tables whose writes wait for the twin (R143). -/
def elemSize (idx : Nat) : Nat := if idx = 0x2101 then 2 else if idx = 0x2201 then 8 else if idx = 0x3001 then 16 else 0
/-- An executing WRITE of Fieth is the one that a row's answer concerns; of a table, the row names the first element. -/
def awaits (idx sub : Nat) (d : DupRec) : Bool :=
  d.out.isNone && decide (d.head.cmd = 2) && decide (d.head.idx = idx)
    && decide ((if elemSize idx = 0 then d.head.sub else d.head.off / elemSize idx) = sub)
/-- A write is answered: the request of Fieth that waits for it on each channel that holds a copy (R429), else the writer. -/
def dictAnswer (idx sub : Nat) (o : FOutcome) (s : State) : State :=
  match s.fieth.dups.find? (awaits idx sub) with
  | none => emit (.dict idx sub o) s
  | some d =>
    let s1 := updFieth (fun f => { f with dups := modFirst (awaits idx sub) (fun x => { x with out := some o, held := [] }) f.dups }) s
    bumpBy 0x701d02 (d.held.length - 1) (bump 0x701d01 (d.held.foldl (fun a ch => sendOutcome ch d.head o a) s1))
/-- A write is applied, or refused with a code of Table 16.7. -/
def dictDone (idx sub : Nat) (s : State) : State := dictAnswer idx sub .done s
def dictRefuse (idx sub code : Nat) (s : State) : State := dictAnswer idx sub (.abort code) s

/-- Fieth is silent: the MCC is held in reset (R436) or halted (R466), and no boot ROM answers. -/
def fiethSilent (s : State) : Bool := (s.fieth.mccHeld && !s.fieth.boot) || s.pres.halted
/-- Indices the boot ROM answers: identity, and in a missing image 0x4020 and 0x4021 too (R411, R497). -/
def bootServes (s : State) (idx : Nat) : Bool :=
  (decide (0x1000 ≤ idx) && decide (idx < 0x1100)) || (!s.rst.optFault && (idx = 0x4020 || idx = 0x4021))
/-- A row that writes a dictionary entry: unanswered while Fieth is silent, refused where the boot ROM answers and does not
serve the index (R411, check 4 of Table 16.6), and when it needs the presence window and that is closed (R13, check 9). -/
def dictGuard (idx sub : Nat) (presence : Bool) (f : State → State) (s : State) : State :=
  if fiethSilent s then s
  else if s.fieth.boot && !bootServes s idx then dictRefuse idx sub 0x06070001 s
  else if presence && !s.pres.windowOpen then dictRefuse idx sub 0x06020003 s else f s

/-- A write that the manual permits only in Service (check 8 of Table 16.6). -/
def serviceOnly (idx sub : Nat) (f : State → State) (s : State) : State :=
  dictGuard idx sub false (fun a => if a.md.mode ≠ .service then dictRefuse idx sub 0x06020005 a else f a) s

/-- A free value is drawn: the next index for the constants of Config. -/
def draw (s : State) : State := { s with freeCtr := s.freeCtr + 1 }

/-- A single fault of Table 14.7 has been handled (0x701b.01); the longest interruption measured, 0x701b.02, is the greatest
of free values: the model measures no time. -/
def faultHandled (s : State) : State :=
  draw (bump32 0x701b01 (dset 0x701b02 (max (dget s 0x701b02) (Config.measured s.freeCtr % 2 ^ 32)) s))

/-- Post a record (R472): its source holds at most four awaiting credit and detects nothing further while full. -/
def postAs (injected fixed : Bool) (type sev inst : Nat) (detail : Bytes) (s : State) : State :=
  let src := type * 65536 + inst
  if (s.rmq.waiting.filter (fun d => d.source = src)).length < 4 then
    updRmq (fun r => { r with waiting := r.waiting ++
      [⟨src, s.rtc, type, sev, inst, injected, fixed, false, incarnation s, detail⟩] }) s
  else s

/-- Post an ordinary record, marked INJECTED while an injected fault is being handled (R468). -/
def post (type sev inst : Nat) (detail : Bytes) (s : State) : State := postAs s.pres.injecting false type sev inst detail s

/-- The writing unit programs a fixed slot once; the record enters the buffer with FIXED set. The SEQ a fixed slot holds is
free: the slot is written before the recorder assigns one. -/
def postFixed (slot type sev inst : Nat) (detail : Bytes) (s : State) : State :=
  let d : Draft := ⟨type * 65536 + inst, s.rtc, type, sev, inst, s.pres.injecting, true, false, incarnation s, detail⟩
  let keep := fun (r : RecSide) => if (tfind r.fixedSec slot).isSome then r
    else { r with fixedSec := tput r.fixedSec slot ⟨Config.measured s.freeCtr % 2 ^ 64, s.rst.node, d⟩ }
  postAs s.pres.injecting true type sev inst detail (draw (updRmq keep s))

/-- The little-endian value of a block given by its 32-bit words, word 0 first (R424). -/
def blockValue : List Nat → Nat
  | [] => 0
  | w :: t => w % 2 ^ 32 + 2 ^ 32 * blockValue t

/-- A command block accepted stays readable in its entry. -/
def keepBlock (k v : Nat) (s : State) : State := dset k v s

/-! ## Injection (R468, R469) -/

/-- An INJECTION record (Table 19.3). -/
def injectionRecord (a : Armed) (what cause : Nat) (s : State) : State :=
  postAs true false 0x0704 0 a.inst (leBytes 2 a.point ++ leBytes 1 a.variant ++ leBytes 1 what ++ leBytes 1 cause) s
/-- The point an armed entry names. -/
def samePoint (a b : Armed) : Bool := a.point = b.point && a.inst = b.inst && a.variant = b.variant
/-- Disarm a point with its record (R469). -/
def disarm (cause : Nat) (a : Armed) (s : State) : State :=
  injectionRecord a 3 cause (updPres (fun p => { p with armed := p.armed.filter (fun b => !samePoint a b) }) s)
/-- Disarm every point. -/
def disarmAll (cause : Nat) (s : State) : State := s.pres.armed.foldl (fun s a => disarm cause a s) s
/-- Points whose instance fails, is lost or is switched off disarm (R469). -/
def disarmAt (l : List (Nat × Nat)) (s : State) : State :=
  (s.pres.armed.filter (fun a => l.contains (a.point, a.inst))).foldl (fun s a => disarm 7 a s) s
/-- A ready point of an instance fires, at one of the variants an event qualifies for: counted, disarmed after its last
firing, else waiting for INTERVAL. Answers the variant. -/
def fire (point inst : Nat) (variants : List Nat) (s : State) : Option (Nat × State) :=
  match s.pres.armed.find? (fun a => a.point = point && a.inst = inst && a.ready && variants.contains a.variant) with
  | none => none
  | some a =>
    let s1 := bump 0x701e02 s
    let b := { a with fired := a.fired + 1, ready := false }
    let s2 := updPres (fun p => { p with armed := p.armed.map (fun x => if samePoint a x then b else x) }) s1
    some (a.variant, if !a.repeated then disarm 1 a s2 else if decide (a.count ≠ 0) && decide (b.fired ≥ a.count) then disarm 2 a s2 else s2)
/-- As `fire`, for a detector that writes no record of its own: an INJECTION record says it fired (R468). -/
def fireRecorded (point inst : Nat) (variants : List Nat) (s : State) : Option (Nat × State) :=
  (fire point inst variants s).map (fun p =>
    (p.1, injectionRecord ⟨false, point, inst, p.1, 0, 0, 0, false⟩ 2 0 p.2))
/-- Handle an injected fault: records it leads to carry the mark. -/
def injected (f : State → State) (s : State) : State :=
  updPres (fun p => { p with injecting := false }) (f (updPres (fun p => { p with injecting := true }) s))

/-! ## Lookups -/

/-- The live tables. -/
def live (s : State) : Tables := s.per.live

def modeCode : Mode → Nat
  | .recall => 0 | .duplex => 1 | .solo => 2 | .drain => 3 | .keep => 4 | .service => 5
def twinCode : Twin → Nat
  | .absent => 0 | .linking => 1 | .resync => 2 | .inSync => 3 | .lost => 4 | .stoodDown => 5 | .barred => 6
def standingCode : Standing → Nat
  | .alone => 0 | .paired => 1 | .yielded => 2

/-- The directory entry of a page (R147). -/
def dirOf (s : State) (tpn : Nat) : DirEntry := tget {} (live s).dir tpn

/-- Change a directory entry. -/
def setDir (tpn : Nat) (f : DirEntry → DirEntry) (s : State) : State :=
  updLive (fun t => { t with dir := tmod {} t.dir tpn f }) s

/-- The region with an identifier, and its slot. -/
def findRegion (s : State) (id : Nat) : Option (Nat × Region) := (live s).regions.find? (fun p => p.2.id = id)

/-- The region whose range holds a page. -/
def regionOfTpn (s : State) (tpn : Nat) : Option Region :=
  ((live s).regions.find? (fun p => p.2.base ≤ tpn ∧ tpn < p.2.base + p.2.pages)).map (·.2)

/-- Change the region with an identifier. -/
def modRegion (id : Nat) (f : Region → Region) (s : State) : State :=
  updLive (fun t => { t with regions := t.regions.map (fun p => if p.2.id = id then (p.1, f p.2) else p) }) s

def keyOf (s : State) (i : Nat) : KeyEntry := tget {} (live s).keys i
def setKey (i : Nat) (f : KeyEntry → KeyEntry) (s : State) : State :=
  updLive (fun t => { t with keys := tmod {} t.keys i f }) s
def quotaOf (s : State) (t : Nat) : Quota := tget {} (live s).quotas t
def setQuota (i : Nat) (f : Quota → Quota) (s : State) : State :=
  updLive (fun t => { t with quotas := tmod {} t.quotas i f }) s
def tenantOf (s : State) (t : Nat) : Tenant := tget {} (live s).tenants t

/-- Regions a tenant holds (Table 5.1, REGIONS). -/
def tenantRegions (s : State) (t : Nat) : Nat := ((live s).regions.filter (fun p => p.2.tenant = t)).length

/-- Keys of a region in state valid (Table 5.2, KEYS). -/
def regionKeys (s : State) (id : Nat) : Nat :=
  ((live s).keys.filter (fun p => p.2.st = .valid ∧ p.2.region = id)).length

/-- The key number an entry last issued (Table 5.3). -/
def keyNumber (i : Nat) (k : KeyEntry) : Nat := i * 16384 + k.gen

/-- The twin is in sync, or a resynchronisation has passed TABLES_DONE (the states of R306, R307, R531). -/
def pairWorks (s : State) : Bool :=
  s.cp.twin = .inSync || (s.cp.twin = .resync && (s.cp.resync.phase = .copying || s.cp.resync.phase = .synced))

/-- Whether the Steoc treats a region as its own: never when it owns none or is YIELDED (R313, R314, R318). -/
def ownsRegion (s : State) (r : Region) : Bool :=
  !s.cp.ownsNone && decide ((live s).standing ≠ .yielded) && decide (r.owner = s.rst.node)

/-- The Steoc owns the region of a page. -/
def ownsTpn (s : State) (tpn : Nat) : Bool :=
  match regionOfTpn s tpn with
  | some r => ownsRegion s r
  | none => false

/-- A frame link to the twin carries frames: some half in service and a session up. -/
def linkUp (s : State) : Bool := s.cp.sessionUp && (s.cp.halves.any (fun p => p.2.st = .service))

/-- The completion rule of Duplex holds (Table 2.2): in sync, except in Solo. In Drain it is the rule of the mode left. -/
def duplexRule (s : State) : Bool :=
  match s.md.mode with
  | .duplex => true
  | .solo => false
  | .recall | .service => s.cp.twin = .inSync
  | .drain | .keep =>
    match s.md.left with
    | .duplex => true
    | .solo => false
    | _ => s.cp.twin = .inSync

/-- The senior Steoc has the lower strap (R292). -/
def senior (s : State) : Bool := s.rst.node < s.cp.twinNode

/-- The operation with an identifier. -/
def findOp (s : State) (id : Nat) : Option Op := s.host.ops.find? (fun o => o.id = id)
def modOp (id : Nat) (f : Op → Op) (s : State) : State :=
  updHost (fun h => { h with ops := modFirst (fun o => o.id = id) f h.ops }) s
def dropOp (id : Nat) (s : State) : State :=
  updHost (fun h => { h with ops := h.ops.filter (fun o => o.id ≠ id),
                             reserved := h.reserved.filter (fun p => p.1 ≠ id) }) s

def sliceOf (s : State) (n : Nat) : Slice := tget {} s.cs.slices n
def setSlice (n : Nat) (f : Slice → Slice) (s : State) : State :=
  updCs (fun c => { c with slices := tmod {} c.slices n f }) s
def chanOf (s : State) (n : Nat) : Channel := tget {} s.dram.channels n
def setChan (n : Nat) (f : Channel → Channel) (s : State) : State :=
  updDram (fun d => { d with channels := tmod {} d.channels n f }) s
def nchanOf (s : State) (n : Nat) : NandChan := tget {} s.nand.channels n
def setNchan (n : Nat) (f : NandChan → NandChan) (s : State) : State :=
  updNand (fun d => { d with channels := tmod {} d.channels n f }) s
def dieOf (s : State) (n : Nat) : Die := tget {} s.nand.dies n
def setDie (n : Nat) (f : Die → Die) (s : State) : State :=
  updNand (fun d => { d with dies := tmod {} d.dies n f }) s
def halfOf (s : State) (n : Nat) : Half := tget {} s.cp.halves n
def setHalf (n : Nat) (f : Half → Half) (s : State) : State :=
  updCp (fun c => { c with halves := tmod {} c.halves n f }) s
def portOf (s : State) (n : Nat) : Port := tget {} s.ports n
def setPort (n : Nat) (f : Port → Port) (s : State) : State := { s with ports := tmod {} s.ports n f }
def slotOf (s : State) (h : Nat) : HostSlot := tget {} s.host.slots h
def setSlot (h : Nat) (f : HostSlot → HostSlot) (s : State) : State :=
  updHost (fun x => { x with slots := tmod {} x.slots h f }) s
def canOf (s : State) (n : Nat) : Can := (s.fieth.chans[n]?).getD {}
def setCan (n : Nat) (f : Can → Can) (s : State) : State :=
  updFieth (fun x => { x with chans := x.chans.modify n f }) s
def keySlotOf (s : State) (n : Nat) : KeySlot := tget {} s.keys.slots n
def setKeySlot (n : Nat) (f : KeySlot → KeySlot) (s : State) : State :=
  updKeys (fun k => { k with slots := tmod {} k.slots n f }) s

/-- Apply a list of changes in order. -/
def thru (fs : List (State → State)) (s : State) : State := fs.foldl (fun a f => f a) s

/-- Apply a change when a condition holds. -/
def when_ (c : Bool) (f : State → State) (s : State) : State := if c then f s else s

/-- Apply a change for every element of a list, in order. -/
def each {α : Type} (l : List α) (f : α → State → State) (s : State) : State := l.foldl (fun a x => f x a) s

end Sys2Proof.Machine
end

