-- ==== Sys2Proof/Machine/Data.lean ====
section
/-! DEFINITION. Where data lies and what a change to a page does: homes (R145–R150), the hash of a line to its slice
(R171), non-allocating reads (R173), write-back (R177, R530), the dirty volume (R51, R52, R307), the first change
after a cut (R364, R368), divergence marks (R316), the hand-off to Counterproof (R25, R303). -/
namespace Sys2Proof.Machine
open Sys2Proof

/-! ## Addresses -/

def lineTpn (line : Nat) : Nat := line / 512
def lineIdx (line : Nat) : Nat := line % 512
/-- The fold of R171. -/
def foldLine (x : Nat) : Nat := (x ^^^ (x / 2 ^ 17) ^^^ (x / 2 ^ 29)) % 2 ^ 41
/-- The home slice of a line, CS0–CS13. -/
def homeSlice (line : Nat) : Nat := foldLine line % 14
def lineSet (line : Nat) : Nat := foldLine line / 14 % 3072
def lineTag (line : Nat) : Nat := foldLine line / 43008
/-- The number of a physical unit. -/
def punit (p : Place) : Nat := ((p.ch * 16 + p.die) * 2048 + p.group) * 8192 + p.unit
/-- The channel of unit k of a stripe set, and the die on it (R150). -/
def setChannel (set k : Nat) : Nat := set / 16 + 10 * k
def setDieNo (set : Nat) : Nat := set % 16
def dieNo (ch die : Nat) : Nat := ch * 16 + die
/-- The byte address of a frame (Table 6.2). -/
def frameAddr (frame : Nat) : Nat := frame * 65536

/-! ## Reading homes -/

/-- The content of a physical unit. -/
def unitData (s : State) (p : Place) : Mem := mslice s.nand.mem (punit p * 16384) 16384

/-- The content of a mapped logical unit; an unmapped or discarded one reads zeros (R239). -/
def mappedUnit (s : State) (lunit : Nat) : Mem :=
  let e := tget {} (live s).fmap lunit
  if e.st = 1 then unitData s e.place else []

/-- Lay merged lines over a unit. -/
def overlay (base : Mem) (lines : List Nat) (data : Mem) : Mem :=
  lines.foldl (fun m l => mpaste m (l * 128) 128 (mslice data (l * 128) 128)) base

/-- The content of a logical unit as the FTL gives it: mapped content under the merge buffer (R244). -/
def lunitData (s : State) (lunit : Nat) : Mem :=
  match s.nand.merge.find? (fun m => m.lunit = lunit) with
  | some m => overlay (mappedUnit s lunit) m.lines m.data
  | none => mappedUnit s lunit

/-- A line as its home holds it: zeros while ZERO is set (R530). -/
def homeLine (s : State) (line : Nat) : Mem :=
  let d := dirOf s (lineTpn line)
  match d.home with
  | .none => []
  | .dram f => if d.zero then [] else mslice s.dram.mem (frameAddr f + lineIdx line * 128) 128
  | .nand _ lpn => mslice (lunitData s (lpn * 4 + lineIdx line / 128)) (lineIdx line % 128 * 128) 128

/-- The cached line, with its key in the slice's table. -/
def cached (sl : Slice) (line : Nat) : Option (Nat × CLine) :=
  sl.lines.find? (fun p => p.1 / 16 = lineSet line ∧ p.2.tag = lineTag line)

/-- The slice serves hits from its lines (Table 7.5). -/
def sliceHits (sl : Slice) : Bool := sl.st = .enabled || sl.st = .disabling

/-- A line's most recent value, read without allocating (R173): slice, write-back buffer, home. -/
def readLine (s : State) (line : Nat) : Mem :=
  let sl := sliceOf s (homeSlice line)
  match (if sliceHits sl then cached sl line else none) with
  | some p => p.2.data
  | none =>
    match sl.wbs.reverse.find? (fun w => w.line = line) with
    | some w => w.data
    | none => homeLine s line

/-- A whole page as the slices and its home hold it (R270 step 1). -/
def readPage (s : State) (tpn : Nat) : Mem :=
  (List.range 512).foldl (fun m i => m ++ (readLine s (tpn * 512 + i)).map (fun c => (c.1 + i * 128, c.2))) []

/-- A page as its home alone holds it. -/
def homePage (s : State) (tpn : Nat) : Mem :=
  let d := dirOf s tpn
  match d.home with
  | .none => []
  | .dram f => if d.zero then [] else mslice s.dram.mem (frameAddr f) 65536
  | .nand _ lpn => (List.range 4).foldl (fun m k => m ++ (lunitData s (lpn * 4 + k)).map (fun c => (c.1 + k * 16384, c.2))) []

/-- A journal image's content. -/
def imageData (s : State) (e : ImageEntry) : Mem :=
  (List.range 4).foldl (fun m k =>
    m ++ (unitData s ⟨setChannel e.set k, setDieNo e.set, e.group, e.unit⟩).map (fun c => (c.1 + k * 16384, c.2))) []

/-- The numbers the model gives the segments a page's request reads (R147, R240): 2d the directory's, 2m + 1 the map's. -/
def pageSegs (s : State) (tpn : Nat) : List Nat :=
  2 * (tpn / 65536) :: (match (dirOf s tpn).home with | .nand _ lpn => [2 * (lpn * 4 / 65536) + 1] | _ => [])
/-- Segments of a page that Recall has not loaded yet (R337). -/
def segsLeft (s : State) (tpn : Nat) : List Nat := (pageSegs s tpn).filter s.rec_.segLeft.contains
/-- A page whose content has not come back yet: not restored (R346), its segments not loaded (R337), or of a CLONE not
copied (R372). -/
def pageAbsent (s : State) (tpn : Nat) : Bool :=
  s.rec_.unrestored.contains tpn || !(segsLeft s tpn).isEmpty || (match s.snap.clone with | some c => c.todo.contains tpn | none => false)

/-! ## Writing homes -/

/-- The FTL merges a written-back line into its unit (R244); false when the buffer of 2,048 units is full. -/
def mergeRoom (s : State) (lunit : Nat) : Bool :=
  s.nand.merge.any (fun m => m.lunit = lunit) || s.nand.merge.length < 2048

/-- A die's wordline of 12 units is programmed as an operation of class 4 (R244), its data latched; the FTL starts no
program in Drain, nor beyond the 8 operations a die holds (R233). -/
def issueWordline (n : Nat) (s : State) : State :=
  let d := dieOf s n
  if d.wordline.length < 12 || d.ops.length ≥ 8 || s.md.mode = .drain then s
  else
    let latch := fun (u : ProgUnit) => match u.why with
      | .writeBack l => { u with data := lunitData s l, slot := dget s 0x400001 }
      | _ => u
    setDie n (fun x => { x with wordline := x.wordline.drop 12, ops := x.ops ++ [⟨4, 0, .program ((x.wordline.take 12).map latch)⟩] }) s
/-- Merge a line into a unit's entry; a new entry waits in its die's open wordline. -/
def mergeLine (tpn set lunit li : Nat) (data : Mem) (s : State) : State :=
  let put := fun (m : Merge) => { m with lines := insertSet m.lines li, data := mpaste m.data (li * 128) 128 data }
  if s.nand.merge.any (fun m => m.lunit = lunit) then
    updNand (fun n => { n with merge := modFirst (fun m => m.lunit = lunit) put n.merge }) s
  else
    let n := dieNo (setChannel set (lunit % 4)) (setDieNo set)
    issueWordline n (setDie n (fun d => { d with wordline := d.wordline ++ [⟨1, lunit, .writeBack lunit, 0, []⟩] })
      (updNand (fun x => { x with merge := x.merge ++ [put ⟨lunit, tpn, set, [], []⟩] }) s))

/-- A line is written to its home. The first write to a frame with ZERO set zeroes the rest of it (R530); a write to a
logged word sets its CNT to 0 (R218). -/
def homeWrite (line : Nat) (data : Mem) (s : State) : State :=
  let tpn := lineTpn line
  let d := dirOf s tpn
  match d.home with
  | .none => s
  | .dram f =>
    let s0 := setChan (f % 32) (fun c => { c with log := c.log.map (fun e => if e.word / 2 = line then { e with cnt := 0 } else e) }) s
    let s1 := if d.zero then updDram (fun m => { m with mem := mpaste m.mem (frameAddr f) 65536 [] }) s0 else s0
    setDir tpn (fun e => { e with zero := false })
      (updDram (fun m => { m with mem := mpaste m.mem (frameAddr f + lineIdx line * 128) 128 data }) s1)
  | .nand set lpn => mergeLine tpn set (lpn * 4 + lineIdx line / 128) (lineIdx line % 128) data s

/-- Hand a line to its home: a DRAM-tier line waits in the write-back buffer for DRAM_WRITE_DONE; a NAND-tier line
goes to the merge buffer, or waits in the write-back buffer while that is full (R177, R244). -/
def writeBack (line : Nat) (kill : Bool) (data : Mem) (s : State) : State :=
  let tpn := lineTpn line
  match (dirOf s tpn).home with
  | .nand set lpn =>
    let lunit := lpn * 4 + lineIdx line / 128
    if mergeRoom s lunit && !kill then mergeLine tpn set lunit (lineIdx line % 128) data s
    else setSlice (homeSlice line) (fun sl => { sl with wbs := sl.wbs ++ [⟨line, kill, data⟩] }) s
  | _ => setSlice (homeSlice line) (fun sl => { sl with wbs := sl.wbs ++ [⟨line, kill, data⟩] }) s

/-! ## The dirty volume -/

/-- The profile's budget in GiB (R274). -/
def budgetOf (s : State) (profile : Nat) : Nat := dget s (0x340100 + profile)
/-- The budget in force, GiB (0x3400.01). -/
def budget (s : State) : Nat := budgetOf s (dget s 0x110002)
def isDirty (s : State) (tpn : Nat) : Bool := s.fix.dirty.any (fun d => d.tpn = tpn)
/-- Dirty pages that count against the budget: all, or in the states of R307 those of own regions with the charges of
R320; pages for which room is reserved count too (R52). -/
def countedDirty (s : State) : Nat :=
  let own := s.fix.dirty.filter (fun d => !pairWorks s || ownsTpn s d.tpn)
  let res := (s.host.reserved.map (·.2)).eraseDups.filter (fun t => !isDirty s t)
  own.length + res.length + (if pairWorks s then s.cp.charged.length else 0)
/-- The most pages that may be dirty: the budget, or the own share in the states of R307. -/
def dirtyLimit (s : State) : Nat := if pairWorks s then s.cp.share * 16 else budget s * 16384
/-- The dirty volume in MiB (0x3400.02). -/
def dirtyVolume (s : State) : Nat := s.fix.dirty.length * 64 / 1024
/-- The settings column in force: the profile's in Duplex and Solo, Throughput's elsewhere (R379). -/
def settings (s : State) : Nat :=
  match s.md.mode with
  | .duplex | .solo => dget s 0x110002
  | _ => 2
/-- The journal interval of the settings, s (R268). -/
def intervalOf (p : Nat) : Nat := if p = 1 then 1 else if p = 3 then 16 else 4
/-- A page may be captured: one interval has passed since its last capture (R269). -/
def eligible (s : State) (tpn : Nat) : Bool :=
  match tfind s.fix.captured tpn with
  | none => true
  | some t => (s.rtc + 2 ^ 32 - t) % 2 ^ 32 ≥ intervalOf (settings s) * 1000
/-- Budget pressure: the dirty volume lies above the pressure start, not under Endurance (R275, R276). -/
def underPressure (s : State) : Bool :=
  settings s ≠ 3 && s.fix.dirty.length * 100 > budget s * 16384 * dget s 0x340005

/-- A page changes (R51): it becomes dirty, or its mark records the change. -/
def markDirty (tpn : Nat) (s : State) : State :=
  if isDirty s tpn then
    let l := modFirst (fun d : Dirty => d.tpn = tpn) (fun d => { d with changed := true, whole := false }) s.fix.dirty
    bump 0x701702 (updFix (fun f => { f with dirty := l }) s)
  else
    let s1 := updFix (fun f => { f with dirty := f.dirty ++ [⟨tpn, false, false, false, false, false, []⟩] }) s
    let s2 := updCp (fun c => { c with dirtied := c.dirtied ++ [tpn] }) s1
    if underPressure s2 && s2.fix.passRunning && eligible s2 tpn && ownsTpn s2 tpn then
      let l := modFirst (fun d : Dirty => d.tpn = tpn) (fun d => { d with pressure := true }) s2.fix.dirty
      updFix (fun f => { f with pass := f.pass ++ [tpn], dirty := l }) s2
    else s2

/-- A page leaves the dirty volume. -/
def cleanPage (tpn : Nat) (s : State) : State :=
  updFix (fun f => { f with dirty := f.dirty.filter (fun d => d.tpn ≠ tpn), pass := dropSet f.pass tpn }) s

/-! ## Divergence and hand-off -/

/-- Changes are marked: not in sync, not past TABLES_DONE, not linking after such a resynchronisation (R316). -/
def marksOn (s : State) : Bool := !pairWorks s && !(s.cp.twin = .linking && s.cp.resync.phase = .copying)
/-- Mark the 1 MiB block of a page. -/
def markBlock (block : Nat) (s : State) : State :=
  if (live s).divergence.contains block then s
  else logRecs 1 (updLive (fun t => { t with divergence := insertSet t.divergence block }) s)

/-- The half a line's records travel on (R291). After a failover they wait on the failed half for the reply (R310). -/
def halfFor (s : State) (line : Nat) : Nat :=
  let h := if homeSlice line ≤ 6 then 0 else 1
  if (halfOf s h).st = .service || s.cp.failover = some h then h else 1 - h
/-- The half control records travel on. -/
def ctlHalf (s : State) : Nat := if (halfOf s 0).st = .service then 0 else 1

/-- Add a record to the open frame of a half. -/
def sendOn (half : Nat) (r : CpRec) (op : Option Nat) (s : State) : State :=
  bump 0x701801 (setHalf half (fun h => { h with open_ := h.open_ ++ [⟨r, op⟩] }) s)
/-- Send a control record. -/
def sendCtl (r : CpRec) (op : Option Nat) (s : State) : State := sendOn (ctlHalf s) r op s
/-- Hand an applied line record to Counterproof, for regions the Steoc owns (R25, R303). -/
def handLine (line : Nat) (r : CpRec) (op : Option Nat) (s : State) : State :=
  if pairWorks s && ownsTpn s (lineTpn line) then sendOn (halfFor s line) r op s else s

/-- The transmit store has room (R298, Table 1.6). -/
def mirrorRoom (s : State) : Bool :=
  !pairWorks s || ((halfOf s 0).sent.length + (halfOf s 1).sent.length < 16384)

/-! ## States -/

/-- A State's scope covers a page of a region. -/
def covers (n : Snap) (region page : Nat) : Bool := n.scope.any (fun p => p.1 = region ∧ page < p.2)
def snapEntry (n : Snap) (region page : Nat) : Option StateEntry :=
  n.entries.find? (fun e => e.region = region ∧ e.page = page)
/-- The durable contents a page has now: image, units, or zero (R364). -/
def durableOf (s : State) (tpn : Nat) : Held :=
  let d := dirOf s tpn
  match d.home with
  | .nand _ lpn =>
    if d.zero then .zero
    else .units ((List.range 4).map (fun k =>
      let e := tget {} (live s).fmap (lpn * 4 + k)
      if e.st = 1 then some e.place else none))
  | _ =>
    let e := tget {} (live s).images tpn
    if d.zero || e.st ≠ 1 then .zero else .image e

/-- Charge or credit a State entry (R368). -/
def chargeEntry (e : StateEntry) (up : Bool) (s : State) : State :=
  match e.content with
  | .zero => s
  | _ => setQuota e.tenant (fun q => { q with nandUsed := if up then q.nandUsed + 1 else q.nandUsed - 1 }) s

/-- Change the State with a number. -/
def modSnap (number : Nat) (f : Snap → Snap) (s : State) : State :=
  updLive (fun t => { t with snaps := modFirst (fun n => n.number = number) f t.snaps }) s

/-- Give a State an entry. -/
def addEntry (number : Nat) (e : StateEntry) (s : State) : State :=
  logRecs 1 (chargeEntry e true (modSnap number (fun n => { n with entries := n.entries ++ [e] }) s))

/-- The newest older State that covers the page and has no entry for it (R369). -/
def heir (older : List Snap) (e : StateEntry) : Option Nat :=
  (older.find? (fun n => covers n e.region e.page && (snapEntry n e.region e.page).isNone)).map (·.number)

/-- Delete a State: each entry passes to its heir or is freed and credited (R369). `snaps` lists the newest first. -/
def deleteSnap (number : Nat) (s : State) : State :=
  match (live s).snaps.find? (fun n => n.number = number) with
  | none => s
  | some n =>
    let older := ((live s).snaps.dropWhile (fun m => m.number ≠ number)).drop 1
    let s1 := updLive (fun t => { t with snaps := t.snaps.filter (fun m => m.number ≠ number) }) s
    let s2 := each n.entries (fun e a =>
      match heir older e with
      | some m => modSnap m (fun x => { x with entries := x.entries ++ [e] }) a
      | none => chargeEntry e false a) s1
    let still := (live s2).snaps
    let unheld := fun (p : Nat × DirEntry) =>
      match regionOfTpn s2 p.1 with
      | some r => if p.2.held && !(still.any (fun m => covers m r.id (p.1 - r.base))) then (p.1, { p.2 with held := false }) else p
      | none => p
    let s3 := updLive (fun t => { t with dir := t.dir.map unheld }) s2
    logRecs 1 (updSnap (fun c => { c with caps := c.caps.filter (fun x => x.number ≠ number) }) s3)

/-- A State is broken or dropped unfixed: deleted with a record and a count (R366, R368). -/
def dropSnap (number cause : Nat) (s : State) : State :=
  bump32 0x701a04 (post 0x0504 1 0 (leBytes 2 number ++ leBytes 1 cause) (deleteSnap number s))

/-- The States whose reading of a page reaches the live page: none newer or equal has an entry (R367, R368). -/
def reachLive (l : List Snap) (region page : Nat) : List Nat :=
  ((l.takeWhile (fun n => (snapEntry n region page).isNone)).filter (fun n => covers n region page)).map (·.number)

/-- Media-full (0x3340.07). -/
def mediaFull (s : State) : Bool := dget s 0x334007 = 1

/-- A page's first change after a cut (R364, R368): the newest covering State gets an entry, a pending page is
captured first, and in media-full a needed capture breaks the States instead. -/
def snapChange (tpn : Nat) (s : State) : State :=
  if !(dirOf s tpn).held then s
  else
    match regionOfTpn s tpn with
    | none => s
    | some r =>
      let page := tpn - r.base
      let isDram := match (dirOf s tpn).home with | .dram _ => true | _ => false
      let s1 := setDir tpn (fun e => { e with held := false }) s
      match (live s).snaps.find? (fun n => covers n r.id page) with
      | none => s1
      | some n =>
        if (snapEntry n r.id page).isSome then s1
        else if n.pending.any (fun p => p.1 = r.id ∧ p.2 = page) then
          if mediaFull s then each (reachLive (live s).snaps r.id page) (fun m a => dropSnap m 2 a) s1
          else if s.snap.caps.any (fun c => c.number = n.number ∧ c.tpn = tpn) then s1
          else updSnap (fun c => { c with caps := c.caps ++ [⟨n.number, tpn, r.id, page, r.tenant, isDram, true, readPage s tpn⟩] }) s1
        else bump 0x701a03 (addEntry n.number ⟨r.id, page, r.tenant, durableOf s tpn⟩ s1)

/-- What a write, atomic or DISCARD does to its page besides the bytes: State capture, dirty mark for a DRAM-tier page
(R51), divergence mark (R316). -/
def changePage (tpn : Nat) (s : State) : State :=
  let s1 := snapChange tpn s
  let s2 := match (dirOf s1 tpn).home with
    | .dram _ => markDirty tpn s1
    | _ => s1
  when_ (marksOn s2) (markBlock (tpn / 16)) s2

/-- Poison a page (R55, R260): directory, 0x09 log record, Remarque record; `src` as Table 19.3 numbers it. No injected
fault poisons a page (R467). -/
def poisonPage (tpn src : Nat) (s : State) : State :=
  if s.pres.injecting then s
  else logRecs 1 (post 0x0401 2 0 (leBytes 4 tpn ++ leBytes 1 src) (setDir tpn (fun e => { e with poison := true }) s))

end Sys2Proof.Machine
end

