-- ==== Sys2Proof/Machine/Ftl.lean ====
section
/-! DEFINITION. The space the FTL and the tier engine allocate from: areas of a die (Table 9.3), group choice (R250),
valid units, reserves (Table 9.11), media-full (R265), frames and logical pages (R151), journal head slots (R249). -/
namespace Sys2Proof.Machine
open Sys2Proof

/-! ## Geometry -/

/-- Groups of each area of a die, in the order the model numbers them: system, checkpoint, plates A and B, parity,
head, TLC pool (Table 9.3; the numbering is the model's). -/
def areaSizes (dieType : Nat) : List (Area × Nat) :=
  if dieType = 1 then [(.system, 1), (.checkpoint, 2), (.plateA, 4), (.plateB, 4), (.parity, 1), (.head, 60), (.pool, 594)]
  else [(.system, 1), (.checkpoint, 3), (.plateA, 4), (.plateB, 4), (.parity, 1), (.head, 120), (.pool, 1199)]
def dieType (s : State) : Nat := s.rst.options.dieType
/-- The area a group number falls in. -/
def areaOf : List (Area × Nat) → Nat → Area
  | [], _ => .pool
  | (a, n) :: t, g => if g < n then a else areaOf t (g - n)
/-- The first group of an area, and its count. -/
def areaFirst : List (Area × Nat) → Area → Nat
  | [], _ => 0
  | (a, n) :: t, x => if a = x then 0 else n + areaFirst t x
def areaCount (l : List (Area × Nat)) (x : Area) : Nat := ((l.find? (fun p => p.1 = x)).map (·.2)).getD 0
def groupArea (s : State) (g : Nat) : Area := areaOf (areaSizes (dieType s)) g
def areaGroups (s : State) (x : Area) : List Nat :=
  (List.range (areaCount (areaSizes (dieType s)) x)).map (· + areaFirst (areaSizes (dieType s)) x)
/-- Units of a group: TLC in the pool, pSLC elsewhere (Table 9.1). -/
def groupUnits (a : Area) : Nat := if a = .pool then 6144 else 2048

def gkey (die g : Nat) : Nat := die * 2048 + g
def groupOf (s : State) (die g : Nat) : Group := tget {} (live s).groups (gkey die g)
def setGroup (die g : Nat) (f : Group → Group) (s : State) : State :=
  logRecs 1 (updLive (fun t => { t with groups := tmod {} t.groups (gkey die g) f }) s)

/-! ## Dies -/

def liveDie (s : State) (n : Nat) : Bool := (dieOf s n).st = .service && n < s.rst.options.dies
def liveDies (s : State) : List Nat := (List.range 640).filter (liveDie s)
def liveNandChannels (s : State) : Nat := ((List.range 40).filter (fun c => (nchanOf s c).st ≠ .lost)).length
/-- ERASED and FREE TLC groups of a die. -/
def freeGroups (s : State) (die : Nat) : Nat :=
  let l := areaFirst (areaSizes (dieType s)) .pool
  areaCount (areaSizes (dieType s)) .pool -
    ((live s).groups.filter (fun p => p.1 / 2048 = die ∧ l ≤ p.1 % 2048 ∧ p.2.st ≠ .free ∧ p.2.st ≠ .erased)).length
def setDies (set : Nat) : List Nat := (List.range 4).map (fun k => dieNo (setChannel set k) (setDieNo set))
def setLive (s : State) (set : Nat) : Bool := (setDies set).all (liveDie s)

/-- Choose the FREE or ERASED group of an area with the lowest erase count (R250); ties fall to a free value. -/
def pickGroup (s : State) (die : Nat) (a : Area) : Option Nat :=
  let cand := (areaGroups s a).filter (fun g => (groupOf s die g).st = .free ∨ (groupOf s die g).st = .erased)
  let low := cand.foldl (fun m g => min m (groupOf s die g).erases) 1000000000
  let ties := cand.filter (fun g => (groupOf s die g).erases = low)
  ties[Config.placement s.freeCtr % max 1 ties.length]?

/-- Open a group for programming: erased as it is allocated (R243). -/
def openGroup (die g : Nat) (s : State) : State :=
  let use := fun (x : Group) => { x with st := .opened, next := 0, reads := 0, erases := if x.st = .erased then x.erases else x.erases + 1 }
  draw (bump 0x701604 (setGroup die g use s))

/-! ## Validity -/

/-- The places of an image. -/
def imagePlaces (i : ImageEntry) : List Place :=
  (List.range 4).map (fun k => ⟨setChannel i.set k, setDieNo i.set, i.group, i.unit⟩)
/-- Physical units that tables name: mapped, current images, held by States (R365). -/
def namedPlaces (t : Tables) : List Place :=
  t.fmap.filterMap (fun p => if p.2.st = 1 then some p.2.place else none)
    ++ t.images.flatMap (fun p => if p.2.st = 1 then imagePlaces p.2 else [])
    ++ t.snaps.flatMap (fun n => n.entries.flatMap (fun e =>
        match e.content with
        | .zero => []
        | .image i => imagePlaces i
        | .units l => l.filterMap id))
/-- Parity units held (R254). -/
def parityPlaces (s : State) : List Place := s.nand.stripes.filterMap (·.parity)
def inGroup (ch die g : Nat) (p : Place) : Bool := decide (p.ch = ch ∧ p.die = die ∧ p.group = g)
/-- Units valid in a group. -/
def validUnits (s : State) (ch die g : Nat) : List Place :=
  ((namedPlaces (live s) ++ parityPlaces s).filter (inGroup ch die g)).eraseDups

/-- A copy out of a place is waiting or under way on its die. -/
def copying (s : State) (p : Place) : Bool :=
  let has := fun (u : ProgUnit) => decide (u.why = .copy p)
  let d := dieOf s (dieNo p.ch p.die)
  d.wordline.any has || d.ops.any (fun o => match o.act with | .program l => l.any has | _ => false)
/-- A group with no valid unit left goes FREE when it was being emptied, its last records are log-durable and no read or
copy of it remains (R247, R248). -/
def freeIfEmpty (ch die g : Nat) (s : State) : State :=
  let n := dieNo ch die
  let x := groupOf s n g
  let named := fun (t : Tables) => (namedPlaces t).any (inGroup ch die g)
  let reading := (dieOf s n).ops.any (fun o => match o.act with
    | .read l => inGroup ch die g (tget {} s.per.durable.fmap l).place || inGroup ch die g (tget {} (live s).fmap l).place
    | .program us => us.any (fun u => match u.why with | .copy p => inGroup ch die g p | _ => false)
    | .erase _ => false)
  if (x.st = .victim || x.st = .rewrite) && (validUnits s ch die g).isEmpty && !named s.per.durable
      && !(s.per.writing.any named) && !reading then
    setGroup n g (fun y => { y with st := .free }) s
  else s

/-! ## Capacity and reserves -/

/-- Frames a channel holds for the DRAM tier (Table 6.2 text: 2 GiB of each channel is reserve). -/
def framesPerChannel (s : State) : Nat := (s.rst.options.density * s.rst.options.ranks * 2 - 2) * 16384
def servingChan (s : State) (c : Nat) : Bool := (chanOf s c).st = .serving || (chanOf s c).st = .retraining
/-- DRAM-tier capacity in pages (0x3000.01): channels not lost, retired frames excluded. -/
def dramCapacity (s : State) : Nat :=
  ((List.range 32).filter (fun c => (chanOf s c).st ≠ .lost)).length * framesPerChannel s
    - ((live s).retiredFrames.filter (fun f => (chanOf s (f % 32)).st ≠ .lost)).length
/-- Frames in use: homes, destinations of moves, retired frames. -/
def usedFrames (s : State) : List Nat :=
  ((live s).dir.filterMap (fun p => match p.2.home with | .dram f => some f | _ => none)
    ++ s.tier.moves.filterMap (fun m => match m.dest with | .dram f => some f | _ => none)
    ++ (live s).retiredFrames).eraseDups
def freeOnChannel (s : State) (c : Nat) : Nat :=
  if (chanOf s c).st = .lost then 0
  else framesPerChannel s - ((usedFrames s).filter (fun f => f % 32 = c)).length
/-- Free frames (0x3000.02). -/
def freeFrames (s : State) : Nat := ((List.range 32).map (freeOnChannel s)).foldl (· + ·) 0
/-- The n-th number not in a rising list. -/
def nthFree (used : List Nat) (n : Nat) : Nat := used.foldl (fun c u => if u ≤ c then c + 1 else c) n
def sortNats (l : List Nat) : List Nat := l.foldl insertSet []

/-- A frame for a page: DC(t mod 32), else the next channel in ascending order that has one (R151), and there the
lowest-numbered free DRAM-tier frame; these start at 32,768 (R191). -/
def allocFrame (s : State) (tpn : Nat) : Option Nat :=
  ((List.range 32).map (fun i => (tpn + i) % 32)).findSome? (fun c =>
    if freeOnChannel s c = 0 then none
    else some ((32768 + nthFree (sortNats ((usedFrames s).filterMap (fun f =>
      if f % 32 = c then some (f / 32 - 32768) else none))) 0) * 32 + c))

/-- Pages a stripe set can still take within the GC reserve of 8 groups a die (Table 9.11). -/
def setRoom (s : State) (set : Nat) : Nat :=
  if setLive s set then ((setDies set).map (fun d => (freeGroups s d - 8) * 6144)).foldl min 4294967296 else 0
/-- Logical pages in use: homes and destinations of moves. -/
def usedLpns (s : State) : List Nat :=
  ((live s).dir.filterMap (fun p => match p.2.home with | .nand _ l => some l | _ => none)
    ++ s.tier.moves.filterMap (fun m => match m.dest with | .nand _ l => some l | _ => none)).eraseDups
/-- NAND-tier capacity at first format (R235). -/
def formatCapacity (s : State) : Nat := if dieType s = 1 then 369098752 else 855638016
/-- NAND-tier capacity, pages (0x3000.03): falls by one 160th for each retired die (R263). -/
def nandCapacity (s : State) : Nat :=
  formatCapacity s - ((List.range 640).filter (fun d => (dieOf s d).st = .retired)).length * (formatCapacity s / 160)
/-- NAND-tier pages free within the reserve rule (0x3000.04). -/
def nandFree (s : State) : Nat :=
  if mediaFull s then 0
  else min (nandCapacity s - (usedLpns s).length) (((List.range 160).map (setRoom s)).foldl (· + ·) 0)
/-- A NAND-tier location for a page: the preferred stripe set or the next that qualifies, and the lowest free LPN
(R151). `useReserve` lets the moves of Table 6.5 into the GC reserve (R265). -/
def allocNand (s : State) (tpn : Nat) (useReserve : Bool) : Option (Nat × Nat) :=
  let want := tpn % 10 * 16 + tpn / 10 % 16
  let ok := fun set => if useReserve then setLive s set else !mediaFull s && decide (0 < setRoom s set)
  let lpn := nthFree (sortNats (usedLpns s)) 0
  if lpn < nandCapacity s then
    (((List.range 160).map (fun i => (want + i) % 160)).find? ok).map (fun set => (set, lpn))
  else none

/-- A home for a page in a tier: 0 DRAM, 1 NAND. -/
def allocHome (s : State) (tpn tier : Nat) (useReserve : Bool) : Option Home :=
  if tier = 0 then (allocFrame s tpn).map Home.dram else (allocNand s tpn useReserve).map (fun p => Home.nand p.1 p.2)

/-- ERASED head groups: head groups with no image left and not being programmed, over the live dies. -/
def erasedHead (s : State) : Nat :=
  let n := areaCount (areaSizes (dieType s)) .head
  let f := areaFirst (areaSizes (dieType s)) .head
  (liveDies s).length * n -
    ((live s).groups.filter (fun p => f ≤ p.1 % 2048 ∧ p.1 % 2048 < f + n ∧ p.2.st ≠ .free ∧ p.2.st ≠ .erased
      ∧ liveDie s (p.1 / 2048))).length
/-- Usable head groups: not retired, on live dies. -/
def usableHead (s : State) : Nat :=
  let n := areaCount (areaSizes (dieType s)) .head
  let f := areaFirst (areaSizes (dieType s)) .head
  (liveDies s).length * n -
    ((live s).groups.filter (fun p => f ≤ p.1 % 2048 ∧ p.1 % 2048 < f + n ∧ p.2.st = .retired ∧ liveDie s (p.1 / 2048))).length
/-- Head groups of 32 MiB that one journal pass of a budget needs: budget × 9/8 (Table 9.11). -/
def headNeed (gib : Nat) : Nat := (gib * 1024 * 9 / 8 + 31) / 32
/-- MiB of a plate on the live dies (groups of 32 MiB). -/
def plateMiB (s : State) (plate : Nat) : Nat :=
  let a := if plate = 0 then Area.plateA else Area.plateB
  ((liveDies s).map (fun d => ((areaGroups s a).filter (fun g => (groupOf s d g).st ≠ .retired)).length * 32)).foldl (· + ·) 0
/-- MiB the dump reserve asks for: (budget + 3.2 GiB) × 17/16, rounded up (Table 9.11). -/
def plateNeed (gib : Nat) : Nat := ((gib * 10 + 32) * 1024 * 17 + 159) / 160

/-- The journal and GC reserves are met with `margin` per cent to spare (R264, R265). -/
def reservesMet (s : State) (margin : Nat) : Bool :=
  decide (erasedHead s * 100 ≥ headNeed (budget s) * (100 + margin)) &&
    (liveDies s).all (fun d => decide (freeGroups s d * 100 ≥ 8 * (100 + margin)))
/-- Enter or leave media-full (R265); leaving clears the GC_STALL cause (Table 14.6). -/
def mediaCheck (s : State) : State :=
  if mediaFull s then
    if reservesMet s 25 then dset 0x334007 0 s else s
  else if reservesMet s 0 then s else dset 0x334007 1 s

/-! ## Programming -/

/-- The next write sequence (R236). -/
def nextSeq (s : State) : Nat := (live s).writeSeq
def takeSeq (s : State) : State := updLive (fun t => { t with writeSeq := (t.writeSeq + 1) % 2 ^ 48 }) s
/-- The write slot (R405). -/
def writeSlot (s : State) : Nat := dget s 0x400001
/-- One unit is programmed with its header (R236): AREA, KEY_SLOT, SEQ, KEY. -/
def programRaw (p : Place) (area key slot : Nat) (data : Mem) (s : State) : State :=
  let h : UnitHead := ⟨area, slot, nextSeq s, key⟩
  takeSeq (updNand (fun n => { n with mem := mpaste n.mem (punit p * 16384) 16384 data, heads := tput n.heads (punit p) h }) s)
/-- The next unit of a die's open group of the TLC pool, or of the next group (R250); none when the die has no group. -/
def poolSlot (n : Nat) (cur : Option Nat) (keep : Nat → Die → Die) (s : State) : Option (Nat × Nat × State) :=
  match cur.filter (fun g => (groupOf s n g).st = .opened && decide ((groupOf s n g).next < 6144)) with
  | some g => some (g, (groupOf s n g).next, s)
  | none => (pickGroup s n .pool).map (fun g => (g, 0, setDie n (keep g) (openGroup n g s)))
/-- A unit of a group has been used. -/
def useUnit (n g u full : Nat) (s : State) : State :=
  setGroup n g (fun x => { x with next := u + 1, st := if u + 1 ≥ full then .full else x.st }) s

/-! ## Die parity (R253–R255) -/

/-- The scheme for a unit programmed now: 1 open-block, 2 full-stripe (Table 9.9). In Drain it is that of the mode left. -/
def scheme (s : State) : Nat :=
  match (if s.md.mode = .drain then s.md.left else s.md.mode) with
  | .duplex => 1
  | .recall => if s.rec_.verified && s.cp.twin = .inSync then 1 else 2
  | _ => 2
/-- The parity group of a die: stripe sets s and s xor 1. -/
def pgroupOf (n : Nat) : Nat := n / 16 % 10 * 8 + n % 16 / 2
/-- Where the parity unit of stripe r of a parity group lies: channel and die. -/
def parityDie (pg r : Nat) : Nat × Nat := (pg / 8 + 10 * (r % 4), (pg % 8 * 2 + 2) % 16)
/-- Parity that protects a physical unit: the value of PROT (Table 9.5). -/
def protAt (s : State) (p : Place) : Nat :=
  match s.nand.stripes.find? (fun x => x.parity.isSome && decide (x.unit = p.unit)
      && x.members.contains (dieNo p.ch p.die, p.group)) with
  | some x => if x.openBlock then 1 else 2
  | none => 0
/-- PROT of every mapped unit is brought up to the stripes. -/
def refreshProt (x : Stripe) (s : State) : State :=
  let f := fun (p : Nat × MapEntry) =>
    if p.2.st = 1 && decide (p.2.place.unit = x.unit) && x.members.contains (dieNo p.2.place.ch p.2.place.die, p.2.place.group) then
      (p.1, { p.2 with prot := protAt s p.2.place }) else p
  updLive (fun t => { t with fmap := t.fmap.map f }) s
/-- The parity unit of a stripe is written: in the pSLC parity area while that has room, else in TLC groups of the pool.
The model keeps no parity bits: what a rebuild gives is the verdict of the read. -/
def writeParity (x : Stripe) (tlc : Bool) (s : State) : State :=
  let (ch, die) := parityDie x.pgroup x.unit
  let n := dieNo ch die
  let pslc := ((areaGroups s .parity).head?).filter (fun g => !tlc && decide ((groupOf s n g).next < 2048 ∨ (groupOf s n g).st = .free))
  match pslc with
  | some g =>
    let s1 := if (groupOf s n g).st = .opened then s else openGroup n g s
    let u := (groupOf s1 n g).next
    let y := { x with parity := some ⟨ch, die, g, u⟩, openBlock := true }
    refreshProt y (updNand (fun d => { d with stripes := d.stripes.map (fun z => if z = x then y else z) })
      (useUnit n g u 2048 (programRaw ⟨ch, die, g, u⟩ 8 0 0 [] s1)))
  | none =>
    match poolSlot n (dieOf s n).openParity (fun g d => { d with openParity := some g }) s with
    | none => s
    | some (g, u, s1) =>
      let y := { x with parity := some ⟨ch, die, g, u⟩, openBlock := false }
      refreshProt y (updNand (fun d => { d with stripes := d.stripes.map (fun z => if z = x then y else z) })
        (useUnit n g u 6144 (programRaw ⟨ch, die, g, u⟩ 8 0 0 [] s1)))
/-- A programmed unit joins the stripe of its number; the eighth member completes it. -/
def joinStripe (p : Place) (area : Nat) (s : State) : State :=
  let n := dieNo p.ch p.die
  let open_ := fun (x : Stripe) => x.parity.isNone && decide (x.pgroup = pgroupOf n) && decide (x.area = area) && decide (x.unit = p.unit)
    && !(x.members.any (fun m => m.1 = n))
  match s.nand.stripes.find? open_ with
  | none => updNand (fun d => { d with stripes := d.stripes ++ [⟨pgroupOf n, area, p.unit, [(n, p.group)], none, false⟩] }) s
  | some x =>
    let y := { x with members := x.members ++ [(n, p.group)] }
    let s1 := updNand (fun d => { d with stripes := d.stripes.map (fun z => if z = x then y else z) }) s
    if y.members.length ≥ 8 then writeParity y (scheme s ≠ 1) s1 else s1
/-- Parity is given up: open-block parity once all its groups are VERIFIED, outside a mode that has left Duplex, and
full-stripe parity once every group of the stripe is erased (Table 9.9, R255). -/
def releaseParity (s : State) : State :=
  let done := fun (x : Stripe) => x.parity.isSome && (
    if x.openBlock then decide (scheme s = 1) && x.members.all (fun m => (groupOf s m.1 m.2).st = .verified || (groupOf s m.1 m.2).st = .victim
      || (groupOf s m.1 m.2).st = .free || (groupOf s m.1 m.2).st = .erased)
    else x.members.all (fun m => (groupOf s m.1 m.2).st = .erased || (groupOf s m.1 m.2).st = .free))
  let gone := s.nand.stripes.filter done
  if gone.isEmpty then s
  else
    let s1 := each gone refreshProt (updNand (fun d => { d with stripes := d.stripes.filter (fun x => !done x) }) s)
    -- a pSLC parity group with nothing left in it is erased (R255)
    let clean := fun (n : Nat) (a : State) => match (areaGroups a .parity).head? with
      | some g => if (groupOf a n g).next > 0 && !((parityPlaces a).any (inGroup (n / 16) (n % 16) g)) then
          setGroup n g (fun x => { x with st := .erased, next := 0, erases := x.erases + 1 }) (bump 0x701604 a) else a
      | none => a
    each ((gone.filterMap (·.parity)).map (fun p => dieNo p.ch p.die)).eraseDups clean s1
/-- Parity still held in the pSLC area is copied into the TLC parity space (R255). -/
def convertParity (s : State) : State := each (s.nand.stripes.filter (fun x => x.openBlock && x.parity.isSome)) (fun x a => writeParity x true a) s

/-- Program one unit of the NAND tier, the journal head or the journal body: it joins its stripe. -/
def programUnit (p : Place) (area key slot : Nat) (data : Mem) (s : State) : State := joinStripe p area (programRaw p area key slot data s)

/-- Program one unit of the TLC pool on a die, in its open group for write-backs and moves. -/
def programPool (ch die area key : Nat) (data : Mem) (s : State) : Option (Place × State) :=
  let n := dieNo ch die
  (poolSlot n (dieOf s n).openPool (fun g d => { d with openPool := some g }) s).map (fun (g, u, s1) =>
    (⟨ch, die, g, u⟩, mediaCheck (bump 0x701c03 (programUnit ⟨ch, die, g, u⟩ area key (writeSlot s) data (useUnit n g u 6144 s1)))))

/-- A group of an area that every die of a stripe set can open, lowest erase count first. -/
def pickSetGroup (s : State) (set : Nat) (a : Area) : Option Nat :=
  let free := fun (n g : Nat) => (groupOf s n g).st = .free || (groupOf s n g).st = .erased
  let cand := (areaGroups s a).filter (fun g => (setDies set).all (fun n => free n g))
  let cost := fun g => (groupOf s (dieNo (setChannel set 0) (setDieNo set)) g).erases
  let low := cand.foldl (fun m g => min m (cost g)) 1000000000
  let ties := cand.filter (fun g => cost g = low)
  ties[Config.placement s.freeCtr % max 1 ties.length]?
/-- The group and unit that takes the next image of a stripe set, in the head (R249) or in the body: the open group of
its dies, or the next; whether it is fresh. -/
def imageSlot (s : State) (set : Nat) (body : Bool) : Option (Nat × Nat × Bool) :=
  let d := dieNo (setChannel set 0) (setDieNo set)
  let cur := if body then (dieOf s d).openBody else (dieOf s d).openHead
  match cur.filter (fun g => (setDies set).all (fun n => (groupOf s n g).st = .opened)) with
  | some g => some (g, (groupOf s d g).next, false)
  | none => (pickSetGroup s set (if body then .pool else .head)).map (fun g => (g, 0, true))

/-- The live stripe set a page's image goes to (R151, R249). -/
def imageSet (s : State) (tpn : Nat) : Nat :=
  let want := tpn % 10 * 16 + tpn / 10 % 16
  (((List.range 160).map (fun i => (want + i) % 160)).find? (setLive s)).getD want

/-- Program a page's four image units in the head, or in the body, giving the index entry (R270 step 2, R249). -/
def programImageAt (body : Bool) (set tpn slot : Nat) (data : Mem) (s : State) : Option (ImageEntry × State) :=
  (imageSlot s set body).map (fun (g, u, fresh) =>
    let keep := fun (d : Die) => if body then { d with openBody := some g } else { d with openHead := some g }
    let s1 := if fresh then each (setDies set) (fun n a => setDie n keep (openGroup n g a)) s else s
    let s2 := each (List.range 4) (fun k a =>
      let p : Place := ⟨setChannel set k, setDieNo set, g, u⟩
      programUnit p (if body then 3 else 2) (tpn * 4 + k) slot (mslice data (k * 16384) 16384)
        (useUnit (dieNo p.ch p.die) g u (if body then 6144 else 2048) a)) s1
    (⟨1, body, set, g, u⟩, mediaCheck s2))
def programImage (tpn : Nat) (data : Mem) (s : State) : Option (ImageEntry × State) :=
  programImageAt false (imageSet s tpn) tpn (writeSlot s) data (bumpBy 0x701c03 4 s)

/-- Set a page's image index entry, logged (R270 step 3). -/
def setImage (tpn : Nat) (e : ImageEntry) (s : State) : State :=
  logRecs 1 (updLive (fun t => { t with images := tset {} t.images tpn e }) s)

/-- Set a logical unit's map entry, logged. -/
def setMap (lunit : Nat) (e : MapEntry) (s : State) : State :=
  logRecs 1 (updLive (fun t => { t with fmap := tset {} t.fmap lunit e }) s)

/-- Discard a logical unit: merge entry dropped, map entry 0b10 with a 0x02 record (R252 steps 2 and 3). -/
def discardUnit (lunit : Nat) (s : State) : State :=
  let drop := fun (d : Die) => { d with wordline := d.wordline.filter (fun u => u.why ≠ .writeBack lunit) }
  let s1 := updNand (fun n => { n with merge := n.merge.filter (fun m => m.lunit ≠ lunit),
                                       dies := n.dies.map (fun p => (p.1, drop p.2)) }) s
  setMap lunit ⟨2, 0, ⟨0, 0, 0, 0⟩, 0⟩ s1

end Sys2Proof.Machine
end

