-- ==== Sys2Proof/Machine/Access.lean ====
section
/-! DEFINITION. The access check (R131, R132), offset translation (R134), key caches (R130), NAK values (Table 3.8),
responses (R60, R63) and what holds them back: a cut (R359) or a quiesced Drain (R49). -/
namespace Sys2Proof.Machine
open Sys2Proof

/-! ## NAK values (Table 3.8) -/

def okVal : RespVal := ⟨0, 0, 0, 0, []⟩
def nakVal (status reason : Nat) : RespVal := ⟨status, reason, 0, 0, []⟩
/-- Average wait of budget refusals (R277): 0 when none fell in the last 100 ms, else a measured, free value. -/
def waitHint (s : State) : Nat :=
  match s.fix.refusedAt with
  | none => 0
  | some t => if (s.rtc + 2 ^ 32 - t) % 2 ^ 32 < 100 then Config.budgetWait s.freeCtr else 0
def retryBudget (s : State) : RespVal := ⟨1, 1, 0, waitHint s, []⟩
def retryDrain : RespVal := ⟨1, 2, 0, 0xffffffff, []⟩
def busyVal (reason : Nat) : RespVal := ⟨2, reason, 0, 10, []⟩

/-! ## The access check -/

/-- Check 4: the key entry is fencing past its fence, or revoked, with the GEN of the key. -/
def keyRevoked (s : State) (key : Nat) : Bool :=
  let k := keyOf s (key / 16384)
  decide (k.gen = key % 16384) && (k.st = .revoked ||
    (k.st = .fencing && (match s.eng.fence with | some f => f.past && f.keys.contains (key / 16384) | none => false)))
/-- A key entry admits: valid, or fencing before the fence point is reached. -/
def keyAdmits (s : State) (key : Nat) : Bool :=
  let k := keyOf s (key / 16384)
  decide (key / 16384 ≠ 0) && decide (k.gen = key % 16384) && (k.st = .valid || k.st = .fencing)
/-- The size requests are checked against: the new size once a shrink's fence point has passed (R140). -/
def regionSize (s : State) (r : Region) : Nat :=
  match s.eng.fence with
  | some f => match f.newPages with
    | some n => if f.past && decide (f.region = r.id) then n else r.pages
    | none => r.pages
  | none => r.pages
/-- The tenant a host identifier is bound to (Table 3.12). -/
def hostTenant (s : State) (host : Nat) : Nat := tget 0 (live s).hosts host % 256
def hostEnabled (s : State) (host : Nat) : Bool :=
  decide (host ≠ 0) && decide (host ≠ 65535) && bitOf (tget 0 (live s).hosts host) 15

/-- Checks 4 to 7 of Table 5.5. -/
def checkKeyed (s : State) (region : Option Nat) (key tenant off len : Nat) : Except RespVal Region :=
  if keyRevoked s key then .error (nakVal 4 3)
  else
    let k := keyOf s (key / 16384)
    let sameRegion := match region with | some r => decide (k.region = r) | none => true
    if !(keyAdmits s key && sameRegion) then .error (nakVal 4 2)
    else match findRegion s k.region with
      | none => .error (nakVal 4 2)
      | some (_, r) =>
        if !((tenantOf s r.tenant).enable && decide (tenant = r.tenant)) then .error (nakVal 4 4)
        else if off + len ≤ regionSize s r * 65536 then .ok r else .error (nakVal 5 1)

/-- The Stipple access check (Table 5.5): none is region 0. -/
def checkAccess (s : State) (isRead : Bool) (region key host off len : Nat) : Except RespVal (Option Region) :=
  if region = 0 then
    if key ≠ 0 then .error (nakVal 4 2)
    else if !isRead then .error (nakVal 3 1)
    else if off + len ≤ 1048576 then .ok none else .error (nakVal 5 1)
  else (checkKeyed s (some region) key (hostTenant s host) off len).map some

/-- Count a refusal by its kind (0x7012.01, .02). -/
def countRefusal (v : RespVal) (s : State) : State :=
  if v.status = 4 then bump 0x701201 s else if v.status = 5 then bump 0x701202 s else s

/-- A port group looks a key up in its cache of 2,048; a miss is counted, and a full cache replaces some entry (R130). -/
def keyLookup (group key : Nat) (s : State) : State :=
  let i := key / 16384
  let c := tget [] s.host.keyCaches group
  if c.contains i then s
  else
    let c1 := if c.length < 2048 then c else c.eraseIdx (Config.keyCacheVictim s.freeCtr % 2048)
    draw (bump 0x701204 (updHost (fun h => { h with keyCaches := tset [] h.keyCaches group (c1 ++ [i]) }) s))

/-! ## Translation -/

/-- The page and line of a region offset (R134). -/
def tpnOf (r : Region) (off : Nat) : Nat := r.base + off / 65536
def lineOf (r : Region) (off : Nat) : Nat := tpnOf r off * 512 + off % 65536 / 128
/-- The pieces of a range by line: (line, first byte in the line, length, offset in the data). -/
def pieces (r : Region) (off len : Nat) : List (Nat × Nat × Nat × Nat) :=
  if len = 0 then []
  else (List.range ((off + len - 1) / 128 + 1 - off / 128)).map (fun i =>
    let start := max off ((off / 128 + i) * 128)
    let stop := min (off + len) ((off / 128 + i + 1) * 128)
    (lineOf r start, start % 128, stop - start, start - off))
/-- The pages of a range. -/
def pagesOf (r : Region) (off len : Nat) : List Nat :=
  if len = 0 then []
  else (List.range ((off + len - 1) / 65536 + 1 - off / 65536)).map (fun i => r.base + off / 65536 + i)

/-! ## Responses -/

/-- The port an output leaves by. -/
def outPort : Out → Option Nat
  | .stipple r .. => some r.port
  | .rc p .. | .rcRead p .. | .sprayAck p .. | .cnp p .. | .cmRep p .. | .cmRej p .. | .cmDreq p .. | .cmDrep p .. => some p
  | _ => none
/-- A frame leaves a port and is counted (0x7100+p.02, .04); which bytes of a frame count is not stated: a free value. -/
def emitFrame (o : Out) (s : State) : State :=
  match outPort o with
  | some p => emit o (draw (bumpBy (0x710004 + p * 256) (Config.measured s.freeCtr) (bump (0x710002 + p * 256) s)))
  | none => emit o s
/-- A frame arrives at a port and is counted (0x7100+p.01, .03, .0a). -/
def countFrame (p : Nat) (ce : Bool) (s : State) : State :=
  when_ ce (bump (0x71000a + p * 256))
    (draw (bumpBy (0x710003 + p * 256) (Config.measured s.freeCtr) (bump (0x710001 + p * 256) s)))
/-- A port takes frames: the blocks are configured, the port enabled and not failed (R334, R386, R443, R497). -/
def portOpen (s : State) (p : Nat) : Bool :=
  s.rst.loadDone && !s.fix.dumpDead && decide ((portOf s p).st ≠ .disabled) && decide ((portOf s p).st ≠ .failed)

/-- Outputs to hosts are held while a cut is past its mark (R359 step 2), and not sent once the ports are quiesced (R49). -/
def toHost (o : Out) (s : State) : State :=
  if s.fix.quiesced then s
  else match s.snap.cut with
    | some c => if c.step ≥ 2 then updSnap (fun x => { x with heldOut := x.heldOut ++ [o] }) s else emitFrame o s
    | none => emitFrame o s

/-- Send a Stipple response (R60, R63); counters of R93. -/
def respond (r : ReplyTo) (v : RespVal) (s : State) : State :=
  let s1 := if v.status = 7 then bump 0x701004 s else if v.status = 1 ∨ v.status = 2 then bump 0x701005 s else s
  toHost (.stipple r (v.status ≠ 0) v s.rst.node (incarnation s)) s1

/-- The bytes of a Stipple response datagram (Table 3.2, R59). -/
def responseBytes (r : ReplyTo) (nak : Bool) (v : RespVal) (node inc : Nat) : Bytes :=
  let w0 := 0x10000000 + (if nak then 2 else 1) * 2 ^ 26 + b2n r.ce * 2 ^ 24 + r.opcode % 256 * 2 ^ 16 + r.host % 65536
  let w3 := v.status * 2 ^ 24 + v.reason * 2 ^ 16 + node % 128
  let h := beBytes 4 w0 ++ beBytes 6 r.seq ++ beBytes 2 v.data.length ++ beBytes 4 w3 ++ beBytes 8 v.result
    ++ beBytes 4 v.detail ++ beBytes 4 inc ++ v.data
  h ++ beBytes 4 (crc32c h)

end Sys2Proof.Machine
end

