-- ==== Sys2Proof/Machine/Slices.lean ====
section
/-! DEFINITION. The cache slices (chapter 7): allocation, fills, serving a line request (R23, R175), bypass (R188),
the checks of an operation at its first line (R52, R69, R265), fill return, write-back completion, maintenance
(R181–R184) and failing ways (R186, R187). -/
namespace Sys2Proof.Machine
open Sys2Proof

/-! ## Ways -/

/-- The mask of a class in force (R173). -/
def maskOf (sl : Slice) (c : ReqClass) : Nat :=
  (sl.masks[match c with | .host => 0 | .mirror => 1 | .prefetch => 2 | .move => 3]?).getD 0
def usableWays (sl : Slice) (c : ReqClass) : List Nat :=
  (List.range 16).filter (fun w => bitOf (maskOf sl c) w && !bitOf sl.wayOff w)
/-- The way a class takes in a set: an invalid one first, else the least recently used that is not pinned (R173). -/
def victimWay (sl : Slice) (set : Nat) (c : ReqClass) : Option Nat :=
  let ways := usableWays sl c
  match ways.find? (fun w => (tfind sl.lines (set * 16 + w)).isNone) with
  | some w => some w
  | none =>
    let cand := ways.filterMap (fun w => (tfind sl.lines (set * 16 + w)).bind (fun l => if l.pinned then none else some (l.lru, w)))
    (cand.foldl (fun (m : Option (Nat × Nat)) p => match m with
      | none => some p
      | some q => if p.1 < q.1 then some p else some q) none).map (·.2)

/-- The line address a set and tag name (the fold of R171 is its own inverse in steps: y names one x). -/
def lineOfSet (slice set tag : Nat) : Nat :=
  let y := (tag * 3072 + set) * 14 + slice
  -- invert y = x ^ (x >> 17) ^ (x >> 29) by fixing the high bits first, 17 at a time
  let x1 := y
  let x2 := y ^^^ (x1 / 2 ^ 17) ^^^ (x1 / 2 ^ 29)
  let x3 := y ^^^ (x2 / 2 ^ 17) ^^^ (x2 / 2 ^ 29)
  y ^^^ (x3 / 2 ^ 17) ^^^ (x3 / 2 ^ 29)

/-- Mark a cached line used. -/
def touch (n key : Nat) (f : CLine → CLine) (s : State) : State :=
  setSlice n (fun sl =>
    let g := fun (p : Nat × CLine) => if p.1 = key then (p.1, { f p.2 with lru := sl.stamp + 1 }) else p
    { sl with stamp := sl.stamp + 1, lines := sl.lines.map g }) s

/-- Evict a line: a dirty one is written back first (R177). -/
def evict (n key : Nat) (s : State) : State :=
  match tfind (sliceOf s n).lines key with
  | none => s
  | some l =>
    let s1 := if l.dirty then writeBack (lineOfSet n (key / 16) l.tag) false l.data s else s
    setSlice n (fun sl => { sl with lines := tdel sl.lines key }) s1

/-- Install a line in a way of its class; none where the class has no way or the write-back buffer of 32 is full. -/
def install (line : Nat) (c : ReqClass) (dirty pinned pre : Bool) (data : Mem) (s : State) : Option State :=
  let n := homeSlice line
  let sl := sliceOf s n
  match victimWay sl (lineSet line) c with
  | none => none
  | some w =>
    let key := lineSet line * 16 + w
    let full := (match tfind sl.lines key with | some l => l.dirty | none => false) && decide (sl.wbs.length ≥ 32)
    if full then none
    else
      let s1 := evict n key s
      let put := fun (x : Slice) =>
        { x with stamp := x.stamp + 1, lines := tput x.lines key ⟨lineTag line, dirty, pinned, c, x.stamp + 1, pre, data⟩ }
      some (setSlice n put s1)

/-! ## Operations at their lines -/

/-- One line request of an operation has been applied or served. -/
def lineDone (op : Nat) (s : State) : State := modOp op (fun o => { o with waiting := o.waiting - 1 }) s
/-- An operation draws a NAK during execution (R85): it stays until its requests have drained. -/
def opNak (op : Nat) (v : RespVal) (s : State) : State :=
  modOp op (fun o => { o with nak := some (o.nak.getD v) }) s

/-- The region of an operation. -/
def opRegion (s : State) (o : Op) : Option Region := (findRegion s o.region).map (·.2)

/-- Whether media-full refuses a change of these pages: an unmapped unit, or a DRAM-tier page with no image (R265). -/
def mediaRefuses (s : State) (o : Op) (r : Region) : Bool :=
  mediaFull s && decide (o.kind ≠ .discard) && (pieces r o.off (max 1 o.len)).any (fun p =>
    let tpn := lineTpn p.1
    match (dirOf s tpn).home with
    | .nand _ lpn => (tget {} (live s).fmap (lpn * 4 + lineIdx p.1 / 128)).st ≠ 1
    | .dram _ => (tget {} (live s).images tpn).st ≠ 1
    | .none => false)

/-- The checks before an operation's first line is changed: poison (R69), media-full (R265), dirty budget (R52). -/
def opCheck (s : State) (o : Op) (r : Region) : Option RespVal :=
  let pages := pagesOf r o.off (max 1 o.len)
  let wholePage := fun t => decide (r.base * 65536 + o.off ≤ t * 65536) && decide (t * 65536 + 65536 ≤ r.base * 65536 + o.off + o.len)
  if pages.any (fun t => (dirOf s t).poison && !(decide (o.kind = .discard) && wholePage t)) then some (nakVal 6 1)
  else if mediaRefuses s o r then some (nakVal 10 1)
  else
    let fresh := pages.filter (fun t => !isDirty s t && !(s.host.reserved.any (fun p => p.2 = t)) &&
      (match (dirOf s t).home with | .dram _ => true | _ => false))
    if !fresh.isEmpty && countedDirty s + fresh.length > dirtyLimit s then some (retryBudget s) else none

/-- An unrestored page becomes a restored page of zeros (R347). -/
def restoreZero (tpn : Nat) (s : State) : State :=
  let s1 := match (dirOf s tpn).home with
    | .dram f => updDram (fun m => { m with mem := mpaste m.mem (frameAddr f) 65536 [] }) s
    | _ => s
  let done := fun (c : CloneRun) => { c with todo := dropSet c.todo tpn, asked := dropSet c.asked tpn }
  updSnap (fun x => { x with clone := x.clone.map done })
    (updRecall (fun r => { r with unrestored := dropSet r.unrestored tpn, demand := dropSet r.demand tpn }) s1)

/-- Pass or refuse an operation at its first line; passing reserves room for the pages it will dirty (R52). -/
def admitOp (o : Op) (s : State) : State :=
  match opRegion s o with
  | none => opNak o.id (nakVal 5 1) s
  | some r =>
    match opCheck s o r with
    | some v =>
      let s1 := if v.status = 1 then bump 0x701704 (updFix (fun f => { f with refusedAt := some s.rtc }) s)
        else if v.status = 10 then bump 0x701609 s else s
      opNak o.id v s1
    | none =>
      let fresh := (pagesOf r o.off (max 1 o.len)).filter (fun t => !isDirty s t &&
        (match (dirOf s t).home with | .dram _ => true | _ => false))
      let whole := fun t => decide (r.base * 65536 + o.off ≤ t * 65536) && decide (t * 65536 + 65536 ≤ r.base * 65536 + o.off + o.len)
      let s1 := modOp o.id (fun x => { x with checked := true })
        (updHost (fun h => { h with reserved := h.reserved ++ fresh.map (fun t => (o.id, t)) }) s)
      -- a DISCARD of a whole unrestored page zeroes its frame and marks it restored (R347)
      if o.kind = .discard then
        each ((pagesOf r o.off (max 1 o.len)).filter (fun t => whole t && pageAbsent s t)) restoreZero s1
      else s1

/-- The room reserved for a page is used once it is dirty. -/
def settleRoom (tpn : Nat) (s : State) : State :=
  updHost (fun h => { h with reserved := h.reserved.filter (fun p => p.2 ≠ tpn) }) s

/-- Apply a change to a page for an operation. -/
def opChange (line : Nat) (s : State) : State := settleRoom (lineTpn line) (changePage (lineTpn line) s)

/-- The descriptor of a READ_BATCH whose data begin at or before an offset of the response data. -/
def descAt (descs : List BatchDesc) (dst : Nat) : Nat :=
  ((descs.foldl (fun (acc : Nat × Nat) d => (acc.1 + d.len, if acc.1 ≤ dst then acc.2 + 1 else acc.2)) (32, 0)).2) - 1
/-- A read meets a poisoned page: a READ_BATCH marks its descriptor (R67), another read is refused (R55). -/
def readPoison (r : LineReq) (s : State) : State :=
  match findOp s r.op, r.act with
  | some o, .read _ _ dst =>
    if o.kind = .batch then modOp r.op (fun x => { x with statuses := x.statuses.set (descAt o.descs dst) 6 }) s
    else opNak r.op (nakVal 6 1) s
  | _, _ => opNak r.op (nakVal 6 1) s

/-- Whether a request changes its line. -/
def isChange : LineAct → Bool
  | .write .. | .add .. | .cas .. | .zero .. => true
  | _ => false

/-- The last ZERO of a unit: for a NAND-tier page the merge entry and map entry go (R252 steps 2, 3); the twin gets
DISCARD_UNIT (R303); four discarded units set ZERO (R530), a page discarded whole loses its poison (R55). -/
def unitZeroed (op : Nat) (tpn k : Nat) (s : State) : State :=
  let s1 := match (dirOf s tpn).home with
    | .nand _ lpn => discardUnit (lpn * 4 + k) s
    | _ => s
  let s2 := if pairWorks s1 && ownsTpn s1 tpn then
      sendCtl (.discardUnit (tpn * 4 + k) (halfOf s1 0).lastFsn (halfOf s1 1).lastFsn) (some op) s1 else s1
  let left := match findOp s2 op with | some o => o.units.any (fun p => p.1 / 4 = tpn ∧ p.2 > 0) | none => false
  let whole := match findOp s2 op with
    | some o => (match opRegion s2 o with
      | some r => decide (r.base * 65536 + o.off ≤ tpn * 65536) && decide (tpn * 65536 + 65536 ≤ r.base * 65536 + o.off + o.len)
      | none => false)
    | none => false
  let gone := match (dirOf s2 tpn).home with
    | .nand _ lpn => (List.range 4).all (fun j => decide ((tget {} (live s2).fmap (lpn * 4 + j)).st ≠ 1)
        && !(s2.nand.merge.any (fun m => m.lunit = lpn * 4 + j)))
    | _ => false
  let s3 := when_ gone (setDir tpn (fun e => { e with zero := true })) s2
  let mark := fun (d : Dirty) => { d with whole := true }
  when_ (whole && !left) (fun a => logRecs 1 (setDir tpn (fun e => { e with poison := false })
    (updFix (fun f => { f with dirty := modFirst (fun d => d.tpn = tpn) mark f.dirty }) a))) s3

/-- The context a QPN names: an own one by index, else a shadow or adopted one (R102, R105). -/
def qpOf (s : State) (qpn : Nat) : Option Qp :=
  if qpn / 65536 = s.rst.node then tfind s.rc.own (qpn % 65536) else tfind s.rc.shadows qpn

/-- QPN and PSN of an RC operation, which its WRITE records carry (R113); a forwarded one brings them in its ID. -/
def opSource (s : State) (op : Nat) : Option (Nat × Nat) :=
  match findOp s op with
  | some o => (match o.origin with
    | .rc .. => some (o.host, o.seq)
    | .forwarded _ true => some (o.host, o.seq)
    | _ => none)
  | none => none

/-- An operation of a go-back-N QP waits at its slice for the earlier PSNs of the QP: a READ or atomic until they are
applied (R109), a WRITE until they have passed their checks, so that an RNR NAK leaves later PSNs unapplied (R111). -/
def rcBlocked (s : State) (o : Op) : Bool :=
  match o.origin with
  | .rc _ qpn .. =>
    !((qpOf s qpn).any (·.spray)) && s.host.ops.any (fun e => decide (e.id < o.id) && (match e.origin with
      | .rc _ q .. => decide (q = qpn) &&
          (e.nak.isSome || e.held || !e.fwds.isEmpty ||
            (decide (e.kind ≠ .read) && decide (0 < e.waiting) && (!e.checked || decide (o.kind ≠ .write))))
      | _ => false))
  | _ => false

/-- The effect of a request on a line's value: the new value, the state with the operation's own results, the mirror
record handed over. -/
def serveLine (r : LineReq) (v : Mem) (s : State) : Mem × State :=
  match r.act with
  | .read lo len dst =>
    (v, lineDone r.op (modOp r.op (fun o => { o with reads := mpaste o.reads dst len (mslice v lo len) }) s))
  | .write lo data =>
    (mput v lo data, lineDone r.op (handLine r.line (.write r.line lo data (opSource s r.op)) (some r.op) (opChange r.line s)))
  | .add lo a =>
    let old := leNat (mbytes v lo 8)
    let new := (old + a) % 2 ^ 64
    let o := findOp s r.op
    let rc := match o with | some x => (match x.origin with | .rc .. => true | .forwarded _ b => b | _ => false) | none => false
    (mput v lo (leBytes 8 new),
     lineDone r.op (modOp r.op (fun x => { x with result := old })
       (handLine r.line (.atomic r.line lo new old rc ((o.map (·.host)).getD 0) ((o.map (·.seq)).getD 0)) (some r.op) (opChange r.line s))))
  | .cas lo c w =>
    let old := leNat (mbytes v lo 8)
    let new := if old = c then w % 2 ^ 64 else old
    let o := findOp s r.op
    let rc := match o with | some x => (match x.origin with | .rc .. => true | .forwarded _ b => b | _ => false) | none => false
    (mput v lo (leBytes 8 new),
     lineDone r.op (modOp r.op (fun x => { x with result := old })
       (handLine r.line (.atomic r.line lo new old rc ((o.map (·.host)).getD 0) ((o.map (·.seq)).getD 0)) (some r.op) (opChange r.line s))))
  | .zero unit =>
    let s1 := handLine r.line (.zero r.line) (some r.op) (opChange r.line s)
    let s2 := modOp r.op (fun o => { o with units := tmod 0 o.units unit (· - 1) }) s1
    let left := match findOp s2 r.op with | some o => tget 0 o.units unit | none => 1
    ([], lineDone r.op (if left = 0 then unitZeroed r.op (unit / 4) (unit % 4) s2 else s2))
  | .prefetch => (v, s)

/-- Whether the served line must be written as dirty: a change, except a zeroed line of a NAND-tier page (R252). -/
def dirties (s : State) (r : LineReq) : Bool :=
  match r.act with
  | .zero _ => (match (dirOf s (lineTpn r.line)).home with | .nand .. => false | _ => true)
  | a => isChange a

/-- ECC words of 64 B that a narrow write leaves partly uncovered (R217). -/
def partialWords (a : LineAct) : Nat :=
  let part := fun (lo len w : Nat) => decide (lo < 64 * w + 64) && decide (64 * w < lo + len) && !(decide (lo ≤ 64 * w) && decide (64 * w + 64 ≤ lo + len))
  match a with
  | .write lo data => ((List.range 2).filter (part lo data.length)).length
  | .add .. | .cas .. => 1
  | _ => 0
/-- A request served by the bypass controller: value from the home, changes written to the home (R188); a narrow write of a
DRAM home is a read-modify-write (R217). -/
def bypassServe (r : LineReq) (s : State) : State :=
  let v := readLine s r.line
  let (v', s1) := serveLine r v s
  if dirties s r then
    homeWrite r.line v' (when_ (match (dirOf s (lineTpn r.line)).home with | .dram _ => true | _ => false) (bumpBy 0x701501 (partialWords r.act)) s1)
  else s1

/-- Serve a request at a cached line. In a slice being disabled a change also goes to the home and leaves the line
clean (R183). -/
def hitServe (n : Nat) (p : Nat × CLine) (r : LineReq) (s : State) : State :=
  let (v', s1) := serveLine r p.2.data s
  let d := dirties s r
  let zeroed := isChange r.act && !d
  let through := (sliceOf s n).st = .disabling
  let s2 := touch n p.1 (fun l => { l with
    data := if isChange r.act then v' else l.data, dirty := if zeroed then false else (l.dirty || (d && !through)), pre := false }) s1
  let s3 := when_ (d && through) (homeWrite r.line v') s2
  let s4 := when_ (decide (r.cls = .host)) (bump 0x701401) s3
  when_ (p.2.pre && decide (r.cls = .host)) (bump 0x701404) s4

/-- A unit read of a NAND-tier page starts on its die at class 2, suspending a program or erase there (R233). -/
def startUnitRead (lunit : Nat) (p : Place) (s : State) : State :=
  let n := dieNo p.ch p.die
  let busy := (dieOf s n).ops.any (fun o => match o.act with | .read l => decide (l = lunit) | _ => false)
  if busy then s
  else
    let susp := fun (o : DieOp) => { o with suspends := o.suspends + 1 }
    let can := fun (o : DieOp) => (match o.act with | .read _ => false | _ => true) && decide (o.suspends < 4)
    setDie n (fun d => { d with ops := modFirst can susp d.ops ++ [⟨2, 0, .read lunit⟩] }) s
def startPageRead (tpn : Nat) (s : State) : State :=
  match (dirOf s tpn).home with
  | .nand _ lpn => each (List.range 4) (fun k a =>
      let e := tget {} (live a).fmap (lpn * 4 + k)
      if e.st = 1 then startUnitRead (lpn * 4 + k) e.place a else a) s
  | _ => s

/-- A page not restored, of a segment not loaded, or of a CLONE not copied, is asked for at once (R337, R346, R372). -/
def demandPage (tpn : Nat) (s : State) : State :=
  let ask := fun (c : CloneRun) => { c with asked := if c.todo.contains tpn && !c.asked.contains tpn then c.asked ++ [tpn] else c.asked }
  let s := updSnap (fun x => { x with clone := x.clone.map ask }) s
  let s := updRecall (fun r => { r with segAsked := (segsLeft s tpn).foldl insertSet r.segAsked }) s
  if s.rec_.unrestored.contains tpn && !s.rec_.demand.contains tpn then
    updRecall (fun r => { r with demand := r.demand ++ [tpn] }) s else s

/-- A rank in a power-saving state wakes for a request (R205). -/
def wakeChannel (s : State) (tpn : Nat) : State :=
  match (dirOf s tpn).home with
  | .dram f => setChan (f % 32) (fun c => { c with rankPower := [0, 0] }) s
  | _ => s

/-- A fill is issued, or the request attaches to the one in flight (R27, R175). A whole-line write needs none. -/
def missServe (n : Nat) (r : LineReq) (s : State) : Option State :=
  let sl := sliceOf s n
  let tpn := lineTpn r.line
  let miss := when_ (decide (r.cls = .host)) (bump 0x701402) s
  if sl.fills.any (fun f => f.line = r.line) then
    let kill := match r.act with | .zero _ => true | _ => false
    let att := fun (f : Fill) => { f with attached := f.attached ++ [r], kill := f.kill || kill }
    some (when_ kill (bump 0x701406) (setSlice n (fun x => { x with fills := modFirst (fun f => f.line = r.line) att x.fills }) s))
  else
    let whole := match r.act with | .write _ d => decide (d.length = 128) | .zero _ => true | _ => false
    if whole && !pageAbsent s tpn then
      let (v', s1) := serveLine r (readLine s r.line) miss
      match install r.line r.cls (dirties s r) false false v' s1 with
      | some s2 => some s2
      | none => some (if dirties s r then homeWrite r.line v' s1 else s1)
    else if sl.fills.length ≥ Config.sliceFills then none
    else some (startPageRead tpn (demandPage tpn (wakeChannel
      (setSlice n (fun x => { x with fills := x.fills ++ [⟨r.line, r.cls, false, false, [r]⟩] }) miss) tpn)))

/-- Take the request at the head of a slice's queue out. -/
def popQueue (n : Nat) (s : State) : State := setSlice n (fun sl => { sl with queue := sl.queue.drop 1 }) s

/-- A prefetch at its slice: dropped when 96 fills are in use, or the page is poisoned or unrestored (R176). -/
def prefetchServe (n : Nat) (r : LineReq) (s : State) : State :=
  let sl := sliceOf s n
  let tpn := lineTpn r.line
  if (cached sl r.line).isSome || sl.fills.any (fun f => f.line = r.line) then s
  else if sl.fills.length ≥ Config.prefetchFills || (dirOf s tpn).poison || pageAbsent s tpn
      || !decide (sl.st = .enabled) || (usableWays sl .prefetch).isEmpty then bump 0x701405 s
  else startPageRead tpn (bump 0x701403 (setSlice n (fun x => { x with fills := x.fills ++ [⟨r.line, .prefetch, false, false, []⟩] }) s))

/-- Serve one request of an operation at its slice: hit, miss or bypass. None: it waits at the head of the queue. -/
def serveReq (n : Nat) (r : LineReq) (s : State) : Option State :=
  let sl := sliceOf s n
  if isChange r.act && !mirrorRoom s then none
  else if (sl.st = .enabled || sl.st = .disabling) then
    match cached sl r.line with
    | some p => some (hitServe n p r s)
    | none =>
      if sl.st = .enabled || sl.fills.any (fun f => f.line = r.line) then missServe n r s
      else if pageAbsent s (lineTpn r.line) then none else some (bypassServe r s)
  else if pageAbsent s (lineTpn r.line) then none else some (bypassServe r s)

/-- The head request of a slice meets its operation's fate (R23, R84): a dropped or refused operation's request is
discarded; a poisoned page answers MEDIA_ERROR (R55); the first change of an operation passes its checks. -/
def sliceStep (n : Nat) (s : State) : State :=
  match (sliceOf s n).queue with
  | [] => s
  | r :: _ =>
    match r.act with
    | .prefetch => prefetchServe n r (popQueue n s)
    | _ =>
      match findOp s r.op with
      | none => popQueue n s
      | some o =>
        let s1 := if isChange r.act && !o.checked && o.nak.isNone && !rcBlocked s o then admitOp o s else s
        let o1 := (findOp s1 r.op).getD o
        if rcBlocked s o then s
        else if o1.nak.isSome then lineDone r.op (popQueue n s1)
        else if !isChange r.act && (dirOf s1 (lineTpn r.line)).poison then
          lineDone r.op (readPoison r (popQueue n s1))
        else
          match serveReq n r s1 with
          | some s2 => popQueue n s2
          | none => demandPage (lineTpn r.line) s1



/-! ## Fill return -/

/-- The page's reads are still under way: unit reads, recovery, an unrestored page, a twin fetch. -/
def fillBlocked (s : State) (line : Nat) : Bool :=
  let tpn := lineTpn line
  let units := match (dirOf s tpn).home with | .nand _ lpn => (List.range 4).map (lpn * 4 + ·) | _ => []
  pageAbsent s tpn ||
  s.dram.waiters.any (fun p => p.1 = line) ||
  s.nand.ladder.any (fun l => units.contains l.lunit) ||
  s.nand.dies.any (fun p => p.2.ops.any (fun o => match o.act with | .read l => units.contains l | _ => false)) ||
  s.cp.fetches.any (fun f => f.line / 512 = tpn)

/-- Serve one attached request on a fill's value: a refused operation's request is discarded. -/
def serveAttached (v : Mem) (d : Bool) (r : LineReq) (s : State) : Mem × Bool × State :=
  match findOp s r.op with
  | none => (v, d, s)
  | some o =>
    let s1 := if isChange r.act && !o.checked && o.nak.isNone then admitOp o s else s
    let o1 := (findOp s1 r.op).getD o
    if o1.nak.isSome then (v, d, lineDone r.op s1)
    else if !isChange r.act && (dirOf s1 (lineTpn r.line)).poison then (v, d, lineDone r.op (readPoison r s1))
    else
      let (v', s2) := serveLine r v s1
      (v', if isChange r.act then (d || dirties s r) else d, s2)

/-- The siblings of a NAND-tier page's line arrive as PREFETCH-class lines (R26). -/
def installSiblings (line : Nat) (s : State) : State :=
  let tpn := lineTpn line
  match (dirOf s tpn).home with
  | .nand .. => each (List.range 512) (fun i a =>
      let l := tpn * 512 + i
      let sl := sliceOf a (homeSlice l)
      if l = line || !decide (sl.st = .enabled) || (cached sl l).isSome || sl.fills.any (fun f => f.line = l)
          || sl.wbs.any (fun w => w.line = l) then a
      else if sl.fills.length ≥ Config.prefetchFills then bump 0x701405 a
      else (install l .prefetch false false false (homeLine a l) a).getD (bump 0x701405 a)) s
  | _ => s

/-- R175, R182: a fill returns. A killed fill serves its requests and its merged line goes straight to the home;
another is installed and serves them in order. -/
def doFillReturn (slice : Fin 14) (line : Nat) (s : State) : State :=
  let n := slice.val
  match (sliceOf s n).fills.find? (fun f => f.line = line) with
  | none => s
  | some f =>
    if fillBlocked s line then s
    else
      let s0 := setSlice n (fun x => { x with fills := dropFirst (fun g => g.line = line) x.fills }) s
      let (v, d, s1) := f.attached.foldl (fun (acc : Mem × Bool × State) r => serveAttached acc.1 acc.2.1 r acc.2.2)
        (readLine s line, false, s0)
      if f.kill || (sliceOf s n).st ≠ .enabled then
        let s2 := if d then writeBack line f.maint v s1 else s1
        if f.maint && !d then updCs (fun c => { c with maintLine := none }) (dset 0x310202 0 s2) else s2
      else
        match install line f.cls d false (f.cls = .prefetch && f.attached.isEmpty) v s1 with
        | some s2 =>
          let s3 := if f.cls = .host then installSiblings line s2 else s2
          if s.cs.maintLine = some line && s.cs.maintCode = 1 then
            updCs (fun c => { c with maintLine := none }) (dset 0x310202 0
              (if d then (match cached (sliceOf s3 n) line with
                | some p => writeBack line false p.2.data (touch n p.1 (fun l => { l with dirty := false }) s3)
                | none => s3) else s3))
          else s3
        | none => if d then writeBack line false v s1 else s1

/-- R182, R177: a DRAM write to a home completes; a killed fill's write ends the maintenance operation that waits. -/
def doDramWriteDone (slice : Fin 14) (line : Nat) (s : State) : State :=
  let n := slice.val
  match (sliceOf s n).wbs.find? (fun w => w.line = line) with
  | none => s
  | some w =>
    match (dirOf s (lineTpn line)).home with
    | .nand set lpn =>
      let lunit := lpn * 4 + lineIdx line / 128
      if !mergeRoom s lunit then s
      else
        let s1 := setSlice n (fun x => { x with wbs := dropFirst (fun y => y.line = line) x.wbs }) s
        let s2 := mergeLine (lineTpn line) set lunit (lineIdx line % 128) w.data s1
        when_ (w.kill && decide (s.cs.maintLine = some line))
          (fun a => updCs (fun c => { c with maintLine := none }) (dset 0x310202 0 a)) s2
    | _ =>
      let s1 := setSlice n (fun x => { x with wbs := dropFirst (fun y => y.line = line) x.wbs }) s
      let s2 := homeWrite line w.data s1
      when_ (w.kill && decide (s.cs.maintLine = some line))
        (fun a => updCs (fun c => { c with maintLine := none }) (dset 0x310202 0 a)) s2

/-! ## Maintenance (R181–R184) -/

/-- Write a block to 0x3102.01: refused while the status is 0xff; otherwise `run` decides the status. -/
def maintenance (code slice line : Nat) (run : State → State) (s : State) : State :=
  dictGuard 0x3102 1 true (fun a =>
    if dget a 0x310202 = 255 then dictRefuse 0x3102 1 0x06050002 a
    else keepBlock 0x310201 (blockValue [code * 2 ^ 24 + slice, 0, line / 2 ^ 32 % 2 ^ 9, line]) (dictDone 0x3102 1 (run a))) s
def maintStatus (v : Nat) (s : State) : State := dset 0x310202 v s

/-- The codes a slice state permits (Table 7.5): by address 1–3; 0x10–0x12; 0x13; 0x14. -/
def permits (st : SliceSt) (code : Nat) : Bool :=
  match st with
  | .enabled => code ≠ 0x13 && code ≠ 0x14
  | .disabling => code ≤ 3
  | .stale => code ≤ 3 || code = 0x13
  | .invalidated => code = 0x14
  | _ => false

/-- A by-address operation (codes 1–3) at the line's home slice. A fill in flight is killed by 2 and 3 and awaited by
all three (R182). -/
def byAddress (code line : Nat) (s : State) : State :=
  let n := homeSlice line
  let sl := sliceOf s n
  if (regionOfTpn s (lineTpn line)).isNone then maintStatus 4 s
  else if !permits sl.st code then maintStatus 2 s
  else if sl.st = .stale then maintStatus 0 s
  else if sl.fills.any (fun f => f.line = line) then
    let kill := fun (f : Fill) => { f with kill := f.kill || code ≠ 1, maint := f.maint || code ≠ 1 }
    let s1 := setSlice n (fun x => { x with fills := modFirst (fun f => f.line = line) kill x.fills }) s
    maintStatus 255 (updCs (fun c => { c with maintLine := some line, maintCode := code }) (when_ (code ≠ 1) (bump 0x701406) s1))
  else
    match cached sl line with
    | none => maintStatus 0 s
    | some p =>
      if code = 3 then
        if p.2.dirty then maintStatus 1 s
        else maintStatus 0 (setSlice n (fun x => { x with lines := tdel x.lines p.1 }) s)
      else
        let s1 := if p.2.dirty then writeBack line false p.2.data s else s
        maintStatus 0 (if code = 1 then setSlice n (fun x => { x with lines := tput x.lines p.1 { p.2 with dirty := false } }) s1
          else setSlice n (fun x => { x with lines := tdel x.lines p.1 }) s1)

/-- Start a walk of a slice; SLICE_WALK_DONE ends it. -/
def bySlice (code : Nat) (w : Walk) (slice : Nat) (s : State) : State :=
  let sl := sliceOf s slice
  if !permits sl.st code then maintStatus 2 s
  else if slice ≥ 14 then
    if w = .disable then maintStatus 0 (setSlice slice (fun x => { x with st := .stale }) s) else maintStatus 0 s
  else maintStatus 255 (setSlice slice (fun x => { x with walk := some w, st := if w = .disable then .disabling else x.st }) s)

/-- R181: CLEAN_ADDR. -/
def doCleanAddr (line : Nat) (s : State) : State := maintenance 1 0 line (byAddress 1 line) s
/-- R181, R182: FLUSH_ADDR. -/
def doFlushAddr (line : Nat) (s : State) : State := maintenance 2 0 line (byAddress 2 line) s
/-- R181, R182: INVALIDATE_ADDR. -/
def doInvalidateAddr (line : Nat) (s : State) : State := maintenance 3 0 line (byAddress 3 line) s
/-- R181: CLEAN_SLICE. -/
def doCleanSlice (slice : Fin 16) (s : State) : State := maintenance 0x10 slice.val 0 (bySlice 0x10 .clean slice.val) s
/-- R181: FLUSH_SLICE. -/
def doFlushSlice (slice : Fin 16) (s : State) : State := maintenance 0x11 slice.val 0 (bySlice 0x11 .flush slice.val) s
/-- R183: DISABLE. -/
def doDisable (slice : Fin 16) (s : State) : State := maintenance 0x12 slice.val 0 (bySlice 0x12 .disable slice.val) s

/-- R184: INVALIDATE_SLICE invalidates every line of a stale slice. -/
def doInvalidateSlice (slice : Fin 16) (s : State) : State :=
  maintenance 0x13 slice.val 0 (fun a =>
    if !permits (sliceOf a slice.val).st 0x13 then maintStatus 2 a
    else maintStatus 0 (setSlice slice.val (fun x => { x with st := .invalidated, lines := [] }) a)) s

/-- R184: ENABLE. A map slice is invalidated as part of the command. -/
def doEnable (slice : Fin 16) (s : State) : State :=
  maintenance 0x14 slice.val 0 (fun a =>
    let st := (sliceOf a slice.val).st
    if slice.val ≥ 14 then
      if st = .stale || st = .invalidated then maintStatus 0 (setSlice slice.val (fun x => { x with st := .enabled, lines := [] }) a)
      else maintStatus 2 a
    else if st = .invalidated then maintStatus 0 (setSlice slice.val (fun x => { x with st := .enabled }) a)
    else maintStatus 3 a) s

/-- A CODE that Table 7.3 does not assign. -/
def unknownMaintenance (code slice line : Nat) (s : State) : State := maintenance code slice line (maintStatus 5) s
/-- Write back every dirty line of a slice, keeping or dropping the lines. -/
def sweepSlice (n : Nat) (drop : Bool) (s : State) : State :=
  let s1 := each (sliceOf s n).lines (fun p a =>
    if p.2.dirty then writeBack (lineOfSet n (p.1 / 16) p.2.tag) false p.2.data a else a) s
  setSlice n (fun x => { x with
    lines := if drop then x.lines.filter (fun p => p.2.pinned) else x.lines.map (fun p => (p.1, { p.2 with dirty := false })) }) s1

/-- R183: the walk ends: every dirty line is written back; FLUSH invalidates, DISABLE leaves the slice stale. -/
def doSliceWalkDone (slice : Fin 16) (s : State) : State :=
  let n := slice.val
  match (sliceOf s n).walk with
  | none => s
  | some w =>
    let s1 := sweepSlice n (w = .flush) s
    let s2 := setSlice n (fun x => { x with walk := none, st := if w = .disable then .stale else x.st }) s1
    maintStatus 0 s2

/-! ## Failing ways and slices (R186, R187) -/

/-- A dirty line that cannot be read: fetched from the twin in Duplex, else its page is poisoned (R186). -/
def recoverLine (line : Nat) (s : State) : State :=
  if s.cp.twin = .inSync then
    updCp (fun c => { c with fetches := c.fetches ++ [⟨line, .sliceLine⟩] }) (sendOn (halfFor s line) (.fetch line false) none s)
  else poisonPage (lineTpn line) 3 s

/-- Take a way out: dirty lines that read are written back, the unreadable ones recovered (R186). -/
def dropWay (n w : Nat) (lost : List Nat) (s : State) : State :=
  let mine := (sliceOf s n).lines.filter (fun p => p.1 % 16 = w)
  let s1 := each mine (fun p a =>
    let line := lineOfSet n (p.1 / 16) p.2.tag
    if p.2.dirty then (if lost.contains line then recoverLine line a else writeBack line false p.2.data a) else a) s
  setSlice n (fun x => { x with lines := x.lines.filter (fun p => p.1 % 16 ≠ w) }) s1

/-- A slice is declared failed: its dirty lines go as R186 says, and the bypass controller serves (R187). -/
def failSlice (n cause : Nat) (lost : List Nat) (s : State) : State :=
  if (sliceOf s n).st = .failed then s
  else
    let s1 := each (List.range 16) (fun w a => dropWay n w lost a) s
    let s2 := setSlice n (fun x => { x with st := .failed, lines := [], walk := none }) s1
    let s3 := updRst (fun r => { r with powered := clrBit r.powered (88 + n), offFault := setBit r.offFault (88 + n) }) s2
    disarmAt [(0x0102, n), (0x0701, 0x300 + n)] (faultHandled (post 0x0305 2 n (leBytes 1 cause) s3))

/-- Correctable errors of the last 24 hours (R186). -/
def recentErrs (s : State) (n : Nat) : List (Nat × Nat) :=
  (sliceOf s n).errs.filter (fun p => (s.rtc + 2 ^ 32 - p.2) % 2 ^ 32 ≤ 86400000)

/-- Disable a way with its record; the fifth fails the slice. -/
def wayOff (n w cause : Nat) (lost : List Nat) (s : State) : State :=
  if bitOf (sliceOf s n).wayOff w then s
  else
    let s1 := dropWay n w lost s
    let s2 := setSlice n (fun x => { x with wayOff := setBit x.wayOff w }) s1
    let s3 := bump16 0x701408 (post 0x0304 1 n (leBytes 1 w ++ leBytes 1 cause) s2)
    if countBits 16 (sliceOf s3 n).wayOff ≥ 5 then failSlice n 1 lost s3 else s3

/-- R186: an SRAM error of a way; the eighth correctable in 24 h or any uncorrectable disables it. -/
def doSliceSramError (slice : Fin 16) (way : Fin 16) (uncorrectable : Bool) (lost : List Nat) (s : State) : State :=
  let n := slice.val
  if uncorrectable then wayOff n way.val 2 lost s
  else
    let errs := recentErrs s n ++ [(way.val, s.rtc)]
    let s1 := bump 0x701407 (setSlice n (fun x => { x with errs := errs }) s)
    if (errs.filter (fun p => p.1 = way.val)).length ≥ 8 then wayOff n way.val 1 lost s1 else s1

/-- R23, R135, R175: the request at the head of a home slice's input is applied in arrival order. An armed point 0x0102
fires at the array read of a hit: variant 1 counts toward R186, variant 2 disables the way. -/
def doHomeSliceRequest (slice : Fin 14) (s : State) : State :=
  let n := slice.val
  let hit := match (sliceOf s n).queue with
    | r :: _ => if sliceHits (sliceOf s n) then cached (sliceOf s n) r.line else none
    | [] => none
  let s1 := match hit with
    | some p => (match fireRecorded 0x0102 n [1] s with
      | some q => injected (doSliceSramError (Fin.ofNat 16 n) (Fin.ofNat 16 p.1) false []) q.2
      | none => match fire 0x0102 n [2] s with
        | some q => injected (wayOff n (p.1 % 16) 2 []) q.2
        | none => s)
    | none => s
  sliceStep n s1

/-- R187: a slice fails by its tag array (2), control logic (3) or watchdog (4). -/
def doSliceFail (slice : Fin 16) (cause : Nat) (lost : List Nat) (s : State) : State := failSlice slice.val cause lost s

/-! ## The meanings: each completes -/

/-- HOME_SLICE_REQUEST (R23). -/
def execHomeSliceRequest (slice : Fin 14) (s : State) : Result := .next (doHomeSliceRequest slice s)
/-- FILL_RETURN (R175). -/
def execFillReturn (slice : Fin 14) (line : Nat) (s : State) : Result := .next (doFillReturn slice line s)
/-- CLEAN_ADDR (R181). -/
def execCleanAddr (line : Nat) (s : State) : Result := .next (doCleanAddr line s)
/-- FLUSH_ADDR (R182). -/
def execFlushAddr (line : Nat) (s : State) : Result := .next (doFlushAddr line s)
/-- INVALIDATE_ADDR (R181). -/
def execInvalidateAddr (line : Nat) (s : State) : Result := .next (doInvalidateAddr line s)
/-- CLEAN_SLICE (R181). -/
def execCleanSlice (slice : Fin 16) (s : State) : Result := .next (doCleanSlice slice s)
/-- FLUSH_SLICE (R181). -/
def execFlushSlice (slice : Fin 16) (s : State) : Result := .next (doFlushSlice slice s)
/-- DISABLE (R183). -/
def execDisable (slice : Fin 16) (s : State) : Result := .next (doDisable slice s)
/-- INVALIDATE_SLICE (R184). -/
def execInvalidateSlice (slice : Fin 16) (s : State) : Result := .next (doInvalidateSlice slice s)
/-- ENABLE (R184). -/
def execEnable (slice : Fin 16) (s : State) : Result := .next (doEnable slice s)
/-- SLICE_WALK_DONE (R183). -/
def execSliceWalkDone (slice : Fin 16) (s : State) : Result := .next (doSliceWalkDone slice s)
/-- SLICE_SRAM_ERROR (R186). -/
def execSliceSramError (slice : Fin 16) (way : Fin 16) (uncorrectable : Bool) (lost : List Nat) (s : State) : Result := .next (doSliceSramError slice way uncorrectable lost s)
/-- SLICE_FAIL (R187). -/
def execSliceFail (slice : Fin 16) (cause : Nat) (lost : List Nat) (s : State) : Result := .next (doSliceFail slice cause lost s)
/-- DRAM_WRITE_DONE (R182). -/
def execDramWriteDone (slice : Fin 14) (line : Nat) (s : State) : Result := .next (doDramWriteDone slice line s)

end Sys2Proof.Machine
end

