-- ==== Sys2Proof/Machine/Flags.lean ====
section
/-! DEFINITION. Values the Steoc computes for its status entries and flags: wear (R251), slice and port status words
(Tables 7.9, 17.7), presence status (Table 17.12), the region 0 status window (R453–R455). -/
namespace Sys2Proof.Machine
open Sys2Proof

/-! ## Wear (R251) -/

/-- Sum of erase counts of the TLC (or pSLC) groups of a die, and how many groups that is. -/
def eraseSum (s : State) (die : Nat) (tlc : Bool) : Nat :=
  let l := areaFirst (areaSizes (dieType s)) .pool
  ((live s).groups.map (fun p => if p.1 / 2048 = die ∧ (decide (l ≤ p.1 % 2048) = tlc) then p.2.erases else 0)).foldl (· + ·) 0
def groupsOfKind (s : State) (tlc : Bool) : Nat :=
  let l := areaFirst (areaSizes (dieType s)) .pool
  if tlc then areaCount (areaSizes (dieType s)) .pool else l
def eraseAvg (s : State) (die : Nat) (tlc : Bool) : Nat := eraseSum s die tlc / max 1 (groupsOfKind s tlc)
/-- Device wear in 1/10,000: the highest average over rated cycles of the live dies (0x3360.03, .04). -/
def wear (s : State) (tlc : Bool) : Nat :=
  let rated := if tlc then s.rst.options.tlcRated else s.rst.options.pslcRated
  ((liveDies s).map (fun d => eraseSum s d tlc * 10000 / max 1 (groupsOfKind s tlc * rated))).foldl max 0

/-! ## Status words -/

def sliceStCode : SliceSt → Nat
  | .enabled => 0 | .disabling => 1 | .stale => 2 | .invalidating => 3 | .invalidated => 4 | .failed => 5
/-- Slice status (Table 7.9). -/
def sliceStatus (s : State) (n : Nat) : Nat :=
  let sl := sliceOf s n
  let dirty := if n ≥ 14 then 0 else (sl.lines.filter (fun p => p.2.dirty)).length
  sliceStCode sl.st * 2 ^ 60 + sl.wayOff % 65536 * 2 ^ 32 + dirty * 2 ^ 16 + sl.fills.length * 2 ^ 8
    + min 255 (recentErrs s n).length
/-- Slices enabled and in bypass (0x3100.01, .02): a slice is in bypass in states stale to failed. -/
def slicesEnabled (s : State) : Nat := (List.range 16).foldl (fun v n => putBit v n ((sliceOf s n).st = .enabled)) 0
def slicesBypass (s : State) : Nat :=
  (List.range 16).foldl (fun v n => putBit v n ((sliceOf s n).st ≠ .enabled && (sliceOf s n).st ≠ .disabling)) 0

def portStCode : PortSt → Nat
  | .disabled => 0 | .training => 1 | .up => 2 | .down => 3 | .failed => 4
/-- Port status (Table 17.7). -/
def portStatus (s : State) (p : Nat) : Nat :=
  let x := portOf s p
  portStCode x.st * 2 ^ 28 + b2n x.answering * 2 ^ 27 + b2n x.proxied * 2 ^ 26 + b2n x.fecLock * 2 ^ 25
    + x.pausedBy % 256 * 2 ^ 16 + x.pausing % 256 * 2 ^ 8

/-- Presence status (Table 17.12). -/
def presenceStatus (s : State) : Nat :=
  b2n s.pres.broken * 32 + b2n s.pres.loopB * 16 + b2n s.pres.loopA * 8 + b2n s.pres.jumper * 4
    + b2n s.pres.pressed * 2 + b2n s.pres.windowOpen

/-- Channels lost (0x3240.09). -/
def channelsLost (s : State) : Nat := (List.range 32).foldl (fun v n => putBit v n ((chanOf s n).st = .lost)) 0

def recallPhaseCode : RecallPhase → Nat
  | .none => 0 | .preparing => 1 | .streaming => 2 | .refill => 3 | .awaiting => 4

/-! ## Region 0 (R453–R455) -/

/-- The header of region 0 (Table 17.19), 72 bytes. -/
def windowHeader (s : State) : Bytes :=
  leBytes 4 1 ++ leBytes 1 s.rst.node ++ leBytes 1 (modeCode s.md.mode) ++ leBytes 1 (dget s 0x110002)
  ++ leBytes 1 (twinCode s.cp.twin) ++ leBytes 1 (standingCode (live s).standing)
  ++ leBytes 1 (recallPhaseCode s.rec_.phase) ++ leBytes 1 s.rec_.stage ++ leBytes 1 (dget s 0x334007)
  ++ leBytes 4 (incarnation s) ++ leBytes 4 s.md.causes ++ leBytes 4 (budget s) ++ leBytes 4 (dirtyVolume s)
  ++ leBytes 4 (waitHint s) ++ leBytes 4 s.rtc ++ leBytes 4 s.rec_.unrestored.length
  ++ leBytes 4 (dget s 0x210002) ++ leBytes 4 (dget s 0x210003)
  ++ leBytes 2 (slicesEnabled s) ++ leBytes 2 (slicesBypass s) ++ leBytes 4 (channelsLost s)
  ++ leBytes 2 (wear s true) ++ leBytes 2 (wear s false) ++ leBytes 2 (live s).snaps.length ++ leBytes 2 (live s).lastState
  ++ leBytes 4 (freeFrames s) ++ leBytes 4 (nandFree s)

/-- A host sequence element (Table 17.20). -/
def hostElement (s : State) (h : Nat) : Nat :=
  let x := slotOf s h
  if x.nonEmpty then 2 ^ 63 + x.latest else 0

/-- One byte of region 0 (Table 17.18). -/
def windowByte (s : State) (head : Bytes) (a : Nat) : Byte :=
  if a < 256 then (head[a]?).getD 0
  else if a < 0x500 then BitVec.ofNat 8 (if (a - 256) % 8 < 4 then portStatus s ((a - 256) / 8) / 256 ^ ((a - 256) % 8) else 0)
  else if a < 0x80000 then 0
  else BitVec.ofNat 8 (hostElement s ((a - 0x80000) / 8) / 256 ^ ((a - 0x80000) % 8))

/-- A read of region 0. -/
def windowBytes (s : State) (off len : Nat) : Bytes :=
  (List.range len).map (fun i => windowByte s (windowHeader s) (off + i))

end Sys2Proof.Machine
end

