-- ==== Sys2Proof/Machine/Operands.lean ====
section
/-! DEFINITION. The operand forms of Stipple: the request header and extensions (Tables 3.1, 3.5, 3.6), the framing
and form checks of steps 1 and 2 of the admission order (R58, R59, R64, R66). -/
namespace Sys2Proof.Machine
open Sys2Proof

/-- A parsed Stipple request. -/
structure Request where
  ver    : Nat
  type   : Nat
  rtx    : Bool
  rsvd   : Nat
  opcode : Nat
  host   : Nat
  seq    : Nat
  len    : Nat
  region : Nat
  off    : Nat
  key    : Nat
  inc    : Nat
  ext0   : Nat
  ext1   : Nat
  body   : Bytes
  deriving DecidableEq, Repr

/-- Bytes of the extension of an opcode (Table 3.4). -/
def extBytes (opcode : Nat) : Nat :=
  if opcode = 3 ∨ opcode = 5 ∨ opcode = 7 then 8 else if opcode = 4 ∨ opcode = 6 then 16 else 0
/-- The opcode is assigned (Table 3.4). -/
def opAssigned (opcode : Nat) : Bool := 1 ≤ opcode && opcode ≤ 8

/-- The request a datagram's payload spells (R62, Table 3.1). -/
def parse (p : Bytes) : Request :=
  let w0 := beAt p 0 4
  let op := bits w0 16 8
  { ver := bits w0 28 4, type := bits w0 26 2, rtx := bitOf w0 25, rsvd := bits w0 24 1, opcode := op, host := bits w0 0 16,
    seq := beAt p 4 6, len := beAt p 10 2, region := beAt p 12 4, off := beAt p 16 8, key := beAt p 24 4, inc := beAt p 28 4,
    ext0 := if extBytes op ≥ 8 then beAt p 32 8 else 0, ext1 := if extBytes op = 16 then beAt p 40 8 else 0,
    body := (p.drop (32 + extBytes op)).take (p.length - 36 - extBytes op) }

/-- Whether the header declares a length the Steoc can check. -/
def declares (r : Request) : Bool := r.ver = 1 && r.type = 0 && opAssigned r.opcode
/-- The size of datagram the header declares (R58). -/
def declaredLen (r : Request) : Nat := 32 + extBytes r.opcode + (if r.opcode = 1 then 0 else r.len) + 4

/-- Step 1 of Table 3.7: IP and UDP framing, length, check field (R58, R59). -/
def frameOk (d : Datagram) : Bool :=
  let n := d.payload.length
  !d.fragment && decide (36 ≤ n) && (d.udpSum = .good || (d.udpSum = .zero && !d.ipv6)) &&
    (!declares (parse d.payload) || decide (n = declaredLen (parse d.payload))) &&
    decide (beAt d.payload (n - 4) 4 = crc32c (d.payload.take (n - 4)))

/-- The address a port holds, in a family (Table 17.6). -/
def portAddr (s : State) (p : Nat) (v6 : Bool) : Nat := fget s ((if v6 then 0x200005 else 0x200004) + p * 256) 0
/-- The datagram is addressed to Stipple at the port that got it, or at the pair port it answers for (R61, R386). -/
def addressed (s : State) (d : Datagram) : Bool :=
  let mine := fun p => decide (portAddr s p d.ipv6 = d.dstIp) && decide (d.dstIp ≠ 0)
  decide (d.dstUdp = fget s 0x210001 (d.port.val / 8)) &&
    (mine d.port.val || ((portOf s d.port.val).answering && mine (d.port.val ^^^ 8)))

/-- One READ_BATCH descriptor (Table 3.6). -/
def parseDesc (b : Bytes) : BatchDesc :=
  ⟨beAt b 0 4, beAt b 4 4, beAt b 8 8, bits (beAt b 16 4) 16 16, bits (beAt b 16 4) 0 16, beAt b 20 4⟩
def parseDescs : Nat → Bytes → List BatchDesc
  | 0, _ => []
  | n + 1, b => parseDesc (b.take 24) :: parseDescs n (b.drop 24)
/-- The descriptors of a READ_BATCH. -/
def descsOf (r : Request) : List BatchDesc := parseDescs (r.len / 24) r.body

/-- Bytes of IP and UDP header. -/
def ipBytes (v6 : Bool) : Nat := if v6 then 48 else 28
/-- COUNT of a FENCE: 0 encodes 4,096. -/
def fenceCount (r : Request) : Nat := if r.ext0 % 4096 = 0 then 4096 else r.ext0 % 4096

/-- Step 2 of Table 3.7, in the order of R66: header form, extension value, LENGTH and SPAN ranges, response size,
alignment; last the reserved host identifiers (R64). -/
def formCheck (s : State) (d : Datagram) (r : Request) : Option RespVal :=
  let op := r.opcode
  let headless := op = 5 || op = 8
  if r.ver ≠ 1 then some (nakVal 11 1)
  else if r.type ≠ 0 || !opAssigned op then some (nakVal 11 2)
  else if r.rsvd ≠ 0 || (headless && (r.region ≠ 0 || r.off ≠ 0 || r.key ≠ 0))
      || (op = 5 && r.ext0 / 4096 ≠ 0) || (op = 6 && r.ext1 / 256 ≠ 0) then some (nakVal 11 3)
  else if op = 6 && r.ext1 % 256 > 1 then some (nakVal 11 4)
  else if (op = 1 || op = 2) && (r.len = 0 || r.len > 8192) then some (nakVal 12 1)
  else if op = 8 && (r.len % 24 ≠ 0 || r.len = 0 || r.len > 768) then some (nakVal 12 1)
  else if (op = 3 || op = 4 || op = 5 || op = 6 || op = 7) && r.len ≠ 0 then some (nakVal 12 1)
  else if op = 8 && ((descsOf r).map (·.len)).foldl (· + ·) 0 > 8192 then some (nakVal 12 1)
  else if op = 6 && (r.ext0 < 65536 || r.ext0 > 2 ^ 30) then some (nakVal 12 2)
  else if op = 7 && (r.ext0 < 16384 || r.ext0 > 2 ^ 30) then some (nakVal 12 2)
  else if op = 1 && 36 + r.len + ipBytes d.ipv6 > fget s (0x200006 + d.port.val * 256) 0 then some (nakVal 12 3)
  else if op = 8 && 68 + ((descsOf r).map (·.len)).foldl (· + ·) 0 + ipBytes d.ipv6 > fget s (0x200006 + d.port.val * 256) 0 then
    some (nakVal 12 3)
  else if (op = 3 || op = 4) && r.off % 8 ≠ 0 then some (nakVal 13 1)
  else if op = 6 && (r.off % 65536 ≠ 0 || r.ext0 % 65536 ≠ 0) then some (nakVal 13 2)
  else if op = 7 && (r.off % 16384 ≠ 0 || r.ext0 % 16384 ≠ 0) then some (nakVal 13 3)
  else if r.host = 0 || r.host = 65535 then some (nakVal 4 1)
  else none

/-- What a response to a datagram needs. -/
def replyOf (d : Datagram) (r : Request) : ReplyTo :=
  ⟨d.port.val, d.ipv6, d.srcIp, d.dstIp, d.srcUdp, d.vlan, d.dscp, d.ce, r.opcode, r.host, r.seq⟩

/-- The operation of an opcode. -/
def kindOf (opcode : Nat) : OpKind :=
  match opcode with
  | 2 => .write | 3 => .add | 4 => .cas | 5 => .fence | 6 => .place | 7 => .discard | 8 => .batch | _ => .read
/-- Non-idempotent opcodes (Table 3.4). -/
def nonIdem (k : OpKind) : Bool :=
  match k with
  | .add | .cas | .fence | .place => true
  | _ => false
/-- WRITE, DISCARD and the non-idempotent opcodes move BASE (R76). -/
def movesBase (k : OpKind) : Bool :=
  match k with
  | .read | .batch => false
  | _ => true
/-- The opcodes Keep refuses (Table 3.7 step 10). -/
def changesMemory (k : OpKind) : Bool :=
  match k with
  | .write | .add | .cas | .discard | .place => true
  | _ => false

end Sys2Proof.Machine
end

