-- ==== Sys2Proof/Machine/Tier.lean ====
section
/-! DEFINITION. The tier engine: PLACE (R155–R160), page moves (R157, R161–R164), moves of the Steoc's own (R165–R168).
A move stands between its reserve and its switch step from startMove to MOVE_COPY_DONE. -/
namespace Sys2Proof.Machine
open Sys2Proof

/-! ## Tiers and charges -/

def inDram (d : DirEntry) : Bool := match d.home with | .dram _ => true | _ => false
def inNand (d : DirEntry) : Bool := match d.home with | .nand .. => true | _ => false
/-- The tier a page is charged to: displaced pages stay charged to the DRAM tier (R154). -/
def chargedDram (d : DirEntry) : Bool := inDram d || d.displaced
/-- The tier a page will have once every earlier PLACE that covers it has finished (R156): (homed DRAM, charged DRAM). -/
def tierAfter (s : State) (tpn : Nat) : Bool × Bool :=
  match s.tier.places.reverse.find? (fun p => p.outcome.isNone && p.todo.contains tpn) with
  | some p => (p.tier = 0, p.tier = 0)
  | none => (inDram (dirOf s tpn), chargedDram (dirOf s tpn))

def addUsed (tenant tier : Nat) (up : Bool) (s : State) : State :=
  let f := fun n => if up then n + 1 else n - 1
  setQuota tenant (fun q => if tier = 0 then { q with dramUsed := f q.dramUsed } else { q with nandUsed := f q.nandUsed }) s
def overQuota (s : State) (tenant tier n : Nat) : Bool :=
  let q := quotaOf s tenant
  if tier = 0 then decide (q.dramUsed + n > q.dramQuota) else decide (q.nandUsed + n > q.nandQuota)

/-- The checks of R156, in order. -/
def placeCheck (s : State) (tenant tier : Nat) (pages : List Nat) (quota : Bool) : Option RespVal :=
  let after := pages.map (tierAfter s)
  let n := (after.filter (fun p => if tier = 0 then !p.2 else p.2)).length
  let m := (after.filter (fun p => if tier = 0 then !p.1 else p.1)).length
  if quota && overQuota s tenant tier n then some (nakVal 9 (tier + 1))
  else if tier = 1 && decide (m > nandFree s) then some (nakVal 10 1)
  else if tier = 0 && decide (m > freeFrames s) then some (nakVal 9 1) else none

/-! ## Stopping a PLACE -/

/-- Leading pages of a PLACE's span homed in the target tier (R159). -/
def leading (s : State) (p : PlaceRun) : Nat :=
  (((List.range p.count).map (· + p.first)).takeWhile (fun t =>
    let d := dirOf s t
    if p.tier = 0 then inDram d else inNand d && !d.displaced)).length

def modPlace (t : Token) (f : PlaceRun → PlaceRun) (s : State) : State :=
  updTier (fun x => { x with places := modFirst (fun p => p.token = t) f x.places }) s
/-- Abandon a move before its switch step (R164). -/
def abandon (tpn : Nat) (s : State) : State :=
  bump 0x701305 (setDir tpn (fun e => { e with moving := false })
    (updTier (fun x => { x with moves := x.moves.filter (fun m => m.tpn ≠ tpn) }) s))
/-- Return the pages a PLACE reserved and did not use (R156). -/
def returnReserved (p : PlaceRun) (s : State) : State :=
  each p.resv (fun _ a => addUsed p.tenant p.tier false a) s
/-- Whether a move belongs to a PLACE. -/
def ofPlace (t : Token) (m : Move) : Bool := m.cause = .place t
/-- A PLACE stops with a NAK: its moves are abandoned, its unused pages returned, its outcome fixed (R159, R160); the owner of a mirrored one is told
(R158). -/
def stopPlace (t : Token) (v : RespVal) (s : State) : State :=
  match s.tier.places.find? (fun p => p.token = t && p.outcome.isNone) with
  | none => s
  | some p =>
    let s1 := each ((s.tier.moves.filter (ofPlace t)).map (·.tpn)) abandon s
    let s2 := returnReserved p s1
    let out := { v with result := leading s2 p }
    let s3 := modPlace t (fun x => { x with todo := [], resv := [], ownDone := true, outcome := some out }) s2
    when_ (p.op.isNone && pairWorks s) (sendCtl (.placeDone t false out.status out.reason out.result) none) s3

/-! ## Starting moves -/

/-- Pin a page's lines in MOVE ways (R178); none when a set has no way for one. -/
def pinPage (tpn : Nat) (s : State) : Option State :=
  (List.range 512).foldl (fun (acc : Option State) i => acc.bind (fun a =>
    let line := tpn * 512 + i
    let n := homeSlice line
    let sl := sliceOf a n
    if sl.st ≠ .enabled then some a
    else match cached sl line with
      | some p => some (setSlice n (fun x => { x with lines := tput x.lines p.1 { p.2 with pinned := true } }) a)
      | none => install line .move false true false (readLine a line) a)) (some s)
def unpinPage (tpn : Nat) (s : State) : State :=
  updCs (fun c => { c with slices := c.slices.map (fun p =>
    (p.1, { p.2 with lines := p.2.lines.map (fun q =>
      if q.2.pinned && lineOfSet p.1 (q.1 / 16) q.2.tag / 512 = tpn then (q.1, { q.2 with pinned := false }) else q) })) }) s

/-- The destination tier of a cause, and whether it may use the GC reserve (R165, R265). -/
def destOf (s : State) (tpn : Nat) (c : MoveCause) : Option Home :=
  match c with
  | .place t => match s.tier.places.find? (fun p => p.token = t) with
    | some p => allocHome s tpn p.tier false
    | none => none
  | .frame | .channel => match allocHome s tpn 0 true with | some h => some h | none => allocHome s tpn 1 true
  | .rehome => allocHome s tpn 0 true
  | .die => allocHome s tpn 1 true

/-- Reserve: the destination is allocated and MOVING set; the copy fills and pins the lines (Table 6.4). An unpinnable
page waits unless it is the oldest move (R178). -/
def reserveMove (tpn : Nat) (c : MoveCause) (s : State) : Option State :=
  (destOf s tpn c).bind (fun h =>
    let s1 := draw (setDir tpn (fun e => { e with moving := true }) (updTier (fun x => { x with moves := x.moves ++ [⟨tpn, c, h⟩] }) s))
    if (dirOf s tpn).zero || (dirOf s tpn).poison then some s1
    else match pinPage tpn (demandPage tpn s1) with
      | some s2 => some s2
      | none => if s.tier.moves.isEmpty then some s1 else none)

/-- A PLACE comes to a page: its reservation is adjusted (R156), a displaced page demoted in place, or a move starts. -/
def placePage (p : PlaceRun) (tpn : Nat) (s : State) : State :=
  let d := dirOf s tpn
  let needs := if p.tier = 0 then !chargedDram d else chargedDram d
  let drop := fun (x : PlaceRun) => { x with todo := dropSet x.todo tpn }
  let s1 := if !needs && p.resv.contains tpn then
      addUsed p.tenant p.tier false (modPlace p.token (fun x => { x with resv := dropSet x.resv tpn }) s)
    else if needs && !p.resv.contains tpn then
      addUsed p.tenant p.tier true (modPlace p.token (fun x => { x with resv := x.resv ++ [tpn] }) s)
    else s
  if needs && !p.resv.contains tpn && overQuota s p.tenant p.tier 1 && p.op.isSome then
    stopPlace p.token (nakVal 9 (p.tier + 1)) s
  else if p.tier = 1 && inNand d && d.displaced then
    logRecs 1 (setDir tpn (fun e => { e with displaced := false })
      (addUsed p.tenant 0 false (modPlace p.token (fun x => { drop x with switched := x.switched + 1, resv := dropSet x.resv tpn }) s1)))
  else if (if p.tier = 0 then inDram d else inNand d) then modPlace p.token drop s1
  else if d.moving then s
  else match reserveMove tpn (.place p.token) s1 with
    | some s2 => modPlace p.token drop s2
    | none =>
      if (destOf s1 tpn (.place p.token)).isNone then stopPlace p.token (if p.tier = 0 then nakVal 9 1 else nakVal 10 1) s1
      else s

/-- A page is blocked while an earlier PLACE has it still to finish (R157). -/
def blockedIn (s : State) (earlier : List PlaceRun) (tpn : Nat) : Bool :=
  earlier.any (fun p => p.outcome.isNone && (p.todo.contains tpn || s.tier.moves.any (fun m => ofPlace p.token m && m.tpn = tpn)))
/-- The first PLACE, in order of admission, whose next page is not blocked. -/
def nextPlacePage (s : State) : List PlaceRun → List PlaceRun → Option (PlaceRun × Nat)
  | _, [] => none
  | before, p :: t =>
    match p.todo with
    | [] => nextPlacePage s (before ++ [p]) t
    | tpn :: _ =>
      if p.outcome.isNone && !blockedIn s before tpn && !(dirOf s tpn).moving then some (p, tpn)
      else nextPlacePage s (before ++ [p]) t

/-- Start moves while slots are free: the Steoc's own first, then PLACE pages (R157, R164). -/
def pumpMoves : Nat → State → State
  | 0, s => s
  | n + 1, s =>
    if s.tier.moves.length ≥ Config.moveSlots || s.md.mode = .drain then s
    else match s.tier.waiting with
      | (tpn, c) :: _ =>
        let s1 := updTier (fun x => { x with waiting := x.waiting.drop 1 }) s
        let s2 := if (dirOf s tpn).moving then abandon tpn s1 else s1
        match reserveMove tpn c s2 with
        | some s3 => pumpMoves n s3
        | none => s
      | [] => match nextPlacePage s [] s.tier.places with
        | some (p, tpn) => pumpMoves n (placePage p tpn s)
        | none => s
/-- Start as many moves as can start now. -/
def startMoves (s : State) : State := pumpMoves 512 s

/-- PLACEs with nothing left to do have finished here (R157, R158). -/
def closePlaces (s : State) : State :=
  each s.tier.places (fun p a =>
    if p.outcome.isNone && !p.ownDone && p.todo.isEmpty && !(a.tier.moves.any (ofPlace p.token)) then
      let a1 := returnReserved p (modPlace p.token (fun x => { x with ownDone := true, resv := [] }) a)
      if p.op.isNone then sendCtl (.placeDone p.token true 0 0 p.count) none a1 else a1
    else a) s

/-- The Steoc's own moves of pages for a cause, counted and recorded (R165, R482). -/
def ownMoves (pages : List Nat) (c : MoveCause) (row : Nat) (s : State) : State :=
  if pages.isEmpty then s
  else
    let s1 := updTier (fun x => { x with waiting := x.waiting ++ pages.map (fun t => (t, c)) }) s
    startMoves (post 0x0405 0 0 (leBytes 1 row ++ [0, 0, 0] ++ leBytes 4 (pages.headD 0) ++ leBytes 4 (min 65535 pages.length)) s1)

/-! ## The switch and free steps -/

/-- The State that holds a page's present contents takes the old location as its entry (R163, R365). -/
def passHeld (tpn : Nat) (s : State) : State :=
  if (dirOf s tpn).held then setDir tpn (fun e => { e with held := true }) (snapChange tpn s) else s

/-- Write a page's data to its new home; a page with ZERO or POISON skips the copy (R163). None: no NAND space. -/
def writeDest (h : Home) (skip : Bool) (data : Mem) (s : State) : Option State :=
  match h with
  | .none => none
  | .dram f => some (if skip then s else updDram (fun m => { m with mem := mpaste m.mem (frameAddr f) 65536 data }) s)
  | .nand set lpn =>
    if skip then some s
    else (List.range 4).foldl (fun (acc : Option State) k => acc.bind (fun a =>
      (programPool (setChannel set k) (setDieNo set) 1 (lpn * 4 + k) (mslice data (k * 16384) 16384) a).map (fun p =>
        setMap (lpn * 4 + k) ⟨1, protAt p.2 p.1, p.1, 0⟩ p.2))) (some s)

/-- The old home is released (Table 6.4, free step): frames by no longer being named, units by leaving the map. -/
def freeHome (h : Home) (s : State) : State :=
  match h with
  | .nand _ lpn => each (List.range 4) (fun k a =>
      updNand (fun n => { n with merge := n.merge.filter (fun m => m.lunit ≠ lpn * 4 + k) })
        (setMap (lpn * 4 + k) {} a)) s
  | _ => s

/-- The switch and free steps of a move (Table 6.4): the entry names the new home, the old one is released, a page that comes to
DRAM is dirty and one that leaves it needs no image. -/
def switchHome (tpn : Nat) (d : DirEntry) (m : Move) (promote demote : Bool) (s : State) : State :=
  let place := match m.cause with | .place _ => true | _ => false
  let disp := if place || m.cause = .rehome then false else chargedDram d && (match m.dest with | .nand .. => true | _ => false)
  let s1 := freeHome d.home (logRecs 1 (setDir tpn (fun e => { e with home := m.dest, moving := false, displaced := disp }) s))
  let s2 := if promote then markDirty tpn s1 else if demote then setImage tpn {} (cleanPage tpn s1) else s1
  unpinPage tpn (updTier (fun x => { x with moves := x.moves.filter (fun y => y.tpn ≠ tpn), rehoming := dropSet x.rehoming tpn }) s2)
/-- A PLACE has moved a page: its reservation becomes a charge, and the move counts. -/
def countPlaced (tpn : Nat) (t : Token) (tenant : Nat) (promote : Bool) (s : State) : State :=
  let charge := (s.tier.places.find? (fun p => p.token = t)).any (fun p => p.resv.contains tpn)
  let a := modPlace t (fun p => { p with switched := p.switched + 1, resv := dropSet p.resv tpn }) s
  bump (if promote then 0x701301 else 0x701302) (if charge then addUsed tenant (if promote then 1 else 0) false a else a)
/-- A move counts for what caused it; a rehoming pass with nothing left is over. -/
def countMove (tpn : Nat) (c : MoveCause) (tenant : Nat) (promote : Bool) (s : State) : State :=
  match c with
  | .place t => countPlaced tpn t tenant promote s
  | .rehome => if s.tier.rehoming.isEmpty then dset 0x300008 0 s else s
  | _ => bump 0x701303 s
/-- R161, R163, R273: the copy ends; the entry switches, the charge moves, the old home is freed. A promotion is held
before its switch step while the dirty volume equals the budget. -/
def doMoveCopyDone (tpn : Nat) (s : State) : State :=
  match s.tier.moves.find? (fun m => m.tpn = tpn) with
  | none => s
  | some m =>
    let d := dirOf s tpn
    let promote := inNand d && (match m.dest with | .dram _ => true | _ => false)
    let demote := inDram d && (match m.dest with | .nand .. => true | _ => false)
    if s.md.mode = .drain || s.rec_.unrestored.contains tpn then demandPage tpn s
    else if promote && decide (countedDirty s ≥ dirtyLimit s) then s
    else
      match writeDest m.dest (d.zero || d.poison) (readPage s tpn) (passHeld tpn s) with
      | none => s
      | some s1 => startMoves (closePlaces (countMove tpn m.cause d.tenant promote (switchHome tpn d m promote demote s1)))

/-- R167: a write of 1 to 0x3000.08 starts the pass that returns displaced pages to free frames. -/
def doRehomeDisplaced (s : State) : State :=
  dictGuard 0x3000 8 false (fun a =>
    let pages := ((live a).dir.filter (fun p => p.2.displaced)).map (·.1)
    let some_ := pages.take (freeFrames a)
    let a1 := dset 0x300008 (if some_.isEmpty then 0 else 1) a
    let a2 := updTier (fun x => { x with rehoming := some_, waiting := x.waiting ++ some_.map (fun t => (t, .rehome)) }) a1
    dictDone 0x3000 8 (startMoves a2)) s

/-! ## The meanings: each completes -/

/-- MOVE_COPY_DONE (R161). -/
def execMoveCopyDone (tpn : Nat) (s : State) : Result := .next (doMoveCopyDone tpn s)
/-- REHOME_DISPLACED (R167). -/
def execRehomeDisplaced (s : State) : Result := .next (doRehomeDisplaced s)

end Sys2Proof.Machine
end

