-- ==== Sys2Proof/Machine/Stipple.lean ====
section
/-! DEFINITION. Stipple requests: the admission order (R84, R334), tokens, slots and scoreboard (R72–R76), the replay
table (R78–R83), execution here or at the twin (R24, R300, R301), stride detectors (R179), traces (R349), and the end
of an operation (R85, R88, R90). -/
namespace Sys2Proof.Machine
open Sys2Proof

/-! ## Slots (R75, R76) -/

/-- The Steoc admits requests: after the serving instant, or in any mode but Recall (R332). -/
def serving (s : State) : Bool := decide (s.md.mode ≠ .recall) || s.rec_.serving

/-- A sequence's place in the scoreboard. -/
def slotPos (x : HostSlot) (seq : Nat) : Nat := (seq + Config.seqMod - x.base) % Config.seqMod
/-- The scoreboard bit of a sequence. -/
def slotBit (x : HostSlot) (seq : Nat) : Bool := x.based && decide (slotPos x seq < 4096) && x.board.getLsbD (slotPos x seq)
/-- Set the scoreboard bit of a sequence that lies in the scoreboard. -/
def slotMark (seq : Nat) (x : HostSlot) : HostSlot :=
  if x.based && decide (slotPos x seq < 4096) then { x with board := x.board ||| BitVec.ofNat 4096 (2 ^ slotPos x seq) } else x
/-- BASE is set, or moves, for an admitted sequence (R76). -/
def slotMove (seq : Nat) (x : HostSlot) : HostSlot :=
  let base := (seq + Config.seqMod - 4095) % Config.seqMod
  if !x.based then { x with based := true, base := base, board := 0 }
  else if slotPos x seq < 4096 then x
  else { x with base := base, board := x.board >>> ((base + Config.seqMod - x.base) % Config.seqMod) }
/-- A request is admitted at its slot: LATEST, non-empty, BASE (R75, R76). -/
def slotAdmit (moves : Bool) (seq : Nat) (x : HostSlot) : HostSlot :=
  let y := { x with nonEmpty := true, latest := if !x.nonEmpty || precedes x.latest seq then seq else x.latest }
  if moves then slotMove seq y else y
/-- The sequences a FENCE covers (R87). -/
def coveredSeqs (seq count : Nat) : List Nat :=
  (List.range count).map (fun i => (seq + Config.seqMod - count + i) % Config.seqMod)
/-- The covered sequences whose bit is clear. -/
def missingSeqs (s : State) (o : Op) : List Nat := (coveredSeqs o.seq o.len).filter (fun q => !slotBit (slotOf s o.host) q)

/-! ## Replay table (R78, R83) -/

def replayFind (s : State) (t : Token) : Option ReplayEntry :=
  match s.host.replay.find? (fun e => e.token = t) with
  | some e => some e
  | none => s.host.mirror.find? (fun e => e.token = t)
/-- Hold one retransmission for a PENDING entry; a further one is dropped. -/
def holdFor (t : Token) (r : ReplyTo) (s : State) : State :=
  updHost (fun h => { h with replay := modFirst (fun e => e.token = t) (fun e => { e with held := some (e.held.getD r) }) h.replay }) s
/-- Create a PENDING entry (R78, R80). -/
def replayCreate (t : Token) (s : State) : State :=
  updHost (fun h => { h with replay := h.replay ++ [⟨t, true, okVal, dget s 0x210002, none⟩] }) s
/-- Complete an entry with its response and answer a held retransmission. -/
def replayComplete (t : Token) (v : RespVal) (s : State) : State :=
  let held := (s.host.replay.find? (fun e => e.token = t)).bind (·.held)
  let s1 := updHost (fun h => { h with replay := modFirst (fun e => e.token = t) (fun e => { e with pending := false, resp := v, held := none }) h.replay }) s
  match held with
  | some r => respond r v s1
  | none => s1
/-- Free an entry (R81); a held retransmission draws the same answer. -/
def replayFree (t : Token) (v : RespVal) (s : State) : State :=
  let held := (s.host.replay.find? (fun e => e.token = t)).bind (·.held)
  let s1 := updHost (fun h => { h with replay := h.replay.filter (fun e => e.token ≠ t) }) s
  match held with
  | some r => respond r v s1
  | none => s1

/-! ## Traces (R349) -/

def traceBuffer : Nat := 4096
/-- Append a touch of a page to a trace's extents. -/
def addTouch (region page stage : Nat) (l : List Extent) : List Extent :=
  if (l.drop (l.length - 256)).any (fun e => e.region = region ∧ e.first ≤ page ∧ page < e.first + e.pages) then l
  else match l.getLast? with
    | some e =>
      if e.region = region ∧ e.stage = stage ∧ e.first + e.pages = page then l.dropLast ++ [{ e with pages := e.pages + 1 }]
      else l ++ [⟨region, page, 1, stage⟩]
    | none => [⟨region, page, 1, stage⟩]
/-- An admitted request touches pages for a host. -/
def traceTouch (host : Nat) (r : Region) (pages : List Nat) (s : State) : State :=
  if !s.rec_.slots.any (fun p => p.1 = host) then s
  else
    let window := dget s 0x360004 * 1000
    let t0 : Trace := ((s.rec_.traces.find? (fun t => t.host = host)).getD ⟨host, s.rtc, false, []⟩)
    if t0.ended then s
    else
      let stage := min 7 (8 * ((s.rtc + 2 ^ 32 - t0.began) % 2 ^ 32) / max 1 window)
      let l := pages.foldl (fun a p => if a.length < traceBuffer then addTouch r.id (p - r.base) stage a else a) t0.extents
      let t1 := { t0 with extents := l, ended := decide (l.length ≥ traceBuffer) }
      updRecall (fun x => { x with traces := x.traces.filter (fun t => t.host ≠ host) ++ [t1] }) s

/-! ## Stride detectors (R179) -/

/-- The detector's update on a read of line x. -/
def detectorRead (d : Detector) (x : Nat) : Detector :=
  let step : Int := (x : Int) - (d.last : Int)
  if step = 0 ∨ step.natAbs > 4096 then { d with conf := 0, last := x, issued := none }
  else if step = d.stride then { d with conf := min 3 (d.conf + 1), last := x }
  else { d with stride := step, conf := 1, last := x, issued := none }
/-- The lines a detector at CONF 3 prefetches: beyond ISSUED, up to x + depth × STRIDE, within the region. -/
def strideLines (d : Detector) (r : Region) (depth : Nat) : List Nat :=
  let from_ : Int := (d.issued.getD d.last : Nat)
  (List.range depth).filterMap (fun (i : Nat) =>
    let y : Int := (d.last : Int) + ((i + 1 : Nat) : Int) * d.stride
    let ahead := if d.stride > 0 then decide (y > from_) else decide (y < from_)
    if ahead && decide ((r.base : Int) * 512 ≤ y) && decide (y < ((r.base + r.pages : Nat) : Int) * 512) then some y.toNat else none)
/-- A read of a stream updates its detector and issues prefetches while 0x3100.03 is 1 (R179, R180). -/
def strideRead (group stream : Nat) (r : Region) (x : Nat) (s : State) : State :=
  let l := tget [] s.host.detectors group
  let mine := l.find? (fun d => d.stream = stream ∧ d.region = r.id)
  let d : Detector := match mine with | some d => detectorRead d x | none => ⟨stream, r.id, x, 0, 0, none⟩
  let rest := match mine with
    | some _ => l.filter (fun d => !(decide (d.stream = stream) && decide (d.region = r.id)))
    | none => if l.length < 64 then l else l.drop 1
  let go := decide (d.conf = 3) && decide (dget s 0x310003 = 1)
  let lines := if go then strideLines d r s.cs.depth else []
  let d1 := { d with issued := if lines.isEmpty then d.issued else lines.getLast? }
  let s1 := updHost (fun h => { h with detectors := tset [] h.detectors group (rest ++ [d1]) }) s
  each lines (fun y a => setSlice (homeSlice y) (fun sl => { sl with queue := sl.queue ++ [⟨0, .prefetch, y, .prefetch⟩] }) a) s1

/-! ## Execution -/

/-- Where an operation on a region runs (R24, R301, R313, R382). -/
inductive Route | own | twin | neither
  deriving DecidableEq, Repr

def route (s : State) (r : Region) : Route :=
  if !s.cp.settled then .neither
  else if ownsRegion s r then .own
  else if s.md.mode = .keep then (if (live s).standing = .yielded && linkUp s then .twin else .own)
  else if pairWorks s && linkUp s then .twin else .neither

/-- The line requests of an operation that runs here (R19, R67, R252). -/
def lineReqs (s : State) (o : Op) : List LineReq :=
  match opRegion s o with
  | none => []
  | some r =>
    (pieces r o.off o.len).map (fun (line, lo, n, dst) =>
      ⟨o.id, .host, line, match o.kind with
        | .write => .write lo ((o.data.drop dst).take n)
        | .add => .add lo o.a
        | .cas => .cas lo o.a o.b
        | .discard => .zero (lineTpn line * 4 + lineIdx line / 128)
        | _ => .read lo n dst⟩)
/-- The units a DISCARD zeroes, each with its 128 lines still to come. -/
def discardUnits (l : List LineReq) : Tbl Nat :=
  l.foldl (fun t r => match r.act with | .zero u => tmod 0 t u (· + 1) | _ => t) []
/-- Line requests go to their home slices, in issue order (R22). -/
def enqueue (l : List LineReq) (s : State) : State :=
  each l (fun r a => setSlice (homeSlice r.line) (fun sl => { sl with queue := sl.queue ++ [r] }) a) s

def opcodeOf (k : OpKind) : Nat :=
  match k with
  | .read => 1 | .write => 2 | .add => 3 | .cas => 4 | .fence => 5 | .place => 6 | .discard => 7 | .batch => 8
def isRc (o : Op) : Bool := match o.origin with | .rc .. => true | .forwarded _ b => b | _ => false
/-- Forward part of an operation as one FORWARD record (R300). -/
def forwardPart (o : Op) (key region off len dst : Nat) (s : State) : State :=
  let id := s.cp.nextFwd
  let d : FwdDesc := ⟨id, region, off, o.host, o.seq, o.a, o.b, len, if o.kind = .batch then 1 else opcodeOf o.kind, isRc o, key, o.data⟩
  bump 0x701809 (sendCtl (.forward d) none (modOp o.id (fun x => { x with fwds := x.fwds ++ [(id, dst)] })
    (updCp (fun c => { c with nextFwd := id + 1 }) s)))

/-- Start a PLACE at the owner: charges reserved, the twin told, moves started (R156–R158). -/
def startPlace (o : Op) (r : Region) (s : State) : State :=
  let first := tpnOf r o.off
  let pages := (List.range (o.len / 65536)).map (first + ·)
  match placeCheck s r.tenant o.b pages true with
  | some v => bump 0x701304 (opNak o.id v s)
  | none =>
    let resv := pages.filter (fun t => if o.b = 0 then !(tierAfter s t).2 else (tierAfter s t).2)
    let run : PlaceRun := ⟨⟨o.host, o.seq⟩, some o.id, o.key, r.id, first, pages.length, o.b, r.tenant, resv, 0, pages, false, false, none⟩
    let s1 := each resv (fun _ a => addUsed r.tenant o.b true a) s
    let s2 := updTier (fun x => { x with places := x.places ++ [run] }) s1
    let s3 := when_ (pairWorks s2) (sendCtl (.placeStart ⟨o.host, o.seq⟩ r.id o.off o.len o.b) none) s2
    closePlaces (startMoves s3)

/-- A READ_BATCH runs its descriptors one by one; one at the twin is forwarded (R67). -/
def startBatch (o : Op) (s : State) : State :=
  ((o.descs.zip o.statuses).foldl (fun (acc : Nat × Nat × State) p =>
    let (i, at_, a) := acc
    let (d, st) := p
    let a1 :=
      if st ≠ 0 then a
      else if d.region = 0 then modOp o.id (fun x => { x with reads := mput x.reads at_ (windowBytes a d.off d.len) }) a
      else match findRegion a d.region with
        | none => a
        | some (_, r) =>
          match route a r with
          | .own =>
            let reqs : List LineReq := (pieces r d.off d.len).map (fun (line, lo, n, dst) => ⟨o.id, .host, line, .read lo n (at_ + dst)⟩)
            enqueue reqs (modOp o.id (fun x => { x with waiting := x.waiting + reqs.length }) a)
          | .twin => forwardPart o d.key d.region d.off d.len at_ a
          | .neither => modOp o.id (fun x => { x with statuses := x.statuses.set i 1 }) a
    (i + 1, at_ + d.len, a1)) (0, 32, s)).2.2

/-- Start an admitted operation: here, or at the twin in pieces of at most 8,192 bytes (R24, R300). A region in
transfer holds it (R302 step 1). -/
def startOp (id : Nat) (s : State) : State :=
  match findOp s id with
  | none => s
  | some o =>
    if o.kind = .fence then s
    else if o.kind = .batch then startBatch o s
    else match opRegion s o with
      | none => opNak id (nakVal 5 1) s
      | some r =>
        if s.eng.heldRegion = some r.id then modOp id (fun x => { x with held := true }) s
        else
          let s0 := modOp id (fun x => { x with held := false }) s
          match route s r with
          | .neither => opNak id retryDrain s0
          | .twin =>
            if (o.kind = .read || o.kind = .write) && decide (o.len > 8192) then
              each (List.range ((o.len + 8191) / 8192)) (fun i a =>
                forwardPart o o.key r.id (o.off + i * 8192) (min 8192 (o.len - i * 8192)) (i * 8192) a) s0
            else forwardPart o o.key r.id o.off o.len 0 s0
          | .own =>
            if o.kind = .place then startPlace o r s0
            else
              let reqs := lineReqs s0 o
              enqueue reqs (modOp id (fun x => { x with waiting := reqs.length, units := discardUnits reqs }) s0)

/-- Enter an operation in the in-flight table; its number is answered. -/
def addOp (o : Op) (s : State) : State :=
  updHost (fun h => { h with ops := h.ops ++ [{ o with id := h.nextOp }], nextOp := h.nextOp + 1 }) s

/-! ## Admission (Table 3.7) -/

/-- Operations in flight on a port (Table 1.6). -/
def portOpsOf (s : State) (p : Nat) : Nat :=
  (s.host.ops.filter (fun o => match o.origin with
    | .stipple r => decide (r.port = p)
    | .rc q .. => decide (q = p)
    | _ => false)).length
/-- The token is in the in-flight table of requests from hosts. -/
def inFlight (s : State) (t : Token) : Bool :=
  s.host.ops.any (fun o => match o.origin with
    | .stipple r => decide (r.host = t.host) && decide (r.seq = t.seq)
    | _ => false)

/-- The bytes or span a request reaches (Table 3.5). -/
def reach (k : OpKind) (r : Request) : Nat :=
  match k with
  | .add | .cas => 8
  | .place | .discard => r.ext0
  | .fence => 0
  | _ => r.len
/-- A READ or READ_BATCH of region 0 alone (R125, R334, R453). -/
def readsWindow (k : OpKind) (r : Request) : Bool :=
  match k with
  | .read => decide (r.region = 0)
  | .batch => (descsOf r).all (fun d => decide (d.region = 0))
  | _ => false

/-- One descriptor's status (R67). -/
def descStatus (s : State) (host : Nat) (d : BatchDesc) : Nat :=
  if d.resv4 ≠ 0 ∨ d.resv5 ≠ 0 then 0x0b
  else if d.len = 0 ∨ d.len > 8192 then 0x0c
  else match checkAccess s true d.region d.key host d.off d.len with
    | .ok none => 0
    | .ok (some _) => 0
    | .error v => v.status

/-- Steps 3 to 12 of Table 3.7: what decides the request, if anything does. -/
inductive Verdict
  | pass
  | drop
  | hold
  | answer (v : RespVal)
  deriving DecidableEq, Repr

/-- Steps 4 to 8: the in-flight table, replay entries, incarnation, slot. -/
def checkToken (s : State) (k : OpKind) (r : Request) : Verdict :=
  let t : Token := ⟨r.host, r.seq⟩
  let slot := slotOf s r.host
  if inFlight s t then .drop
  else
    let entry := if nonIdem k then replayFind s t else none
    let bad := s.pres.armed.any (fun a => a.point = 0x0a01 && a.ready)
    match entry with
    | some e => if e.pending then .hold else if bad then .answer (nakVal 7 2) else .answer e.resp
    | none =>
      if nonIdem k && decide (r.inc = 0) then .answer (nakVal 7 3)
      else if nonIdem k && decide (r.inc ≠ incarnation s) then .answer (nakVal 7 1)
      else if movesBase k && slot.based && (precedes r.seq slot.base
          || (nonIdem k && slot.expiredValid && !precedes slot.expired r.seq)) then .answer (nakVal 7 2)
      else if movesBase k && !nonIdem k && slotBit slot r.seq then .answer okVal else .pass
/-- Steps 9 to 12: mode, operations on the port, free replay entry. -/
def checkRoom (s : State) (port : Nat) (k : OpKind) (r : Request) : Verdict :=
  if (s.md.mode = .drain || s.rst.coreHeld) && !readsWindow k r then .answer retryDrain
  else if (s.md.mode = .keep || s.md.entering) && changesMemory k then .answer (nakVal 3 2)
  else if portOpsOf s port ≥ Config.portOps then .answer (busyVal 1)
  else if nonIdem k && decide (s.host.replay.length ≥ Config.replayEntries) then .answer (busyVal 2) else .pass

/-- Step 13 and the ownership rule of R301: the region an operation acts on, or what refuses it. -/
def checkRegion (s : State) (k : OpKind) (r : Request) : Except RespVal (Option Region) :=
  if k = .fence || k = .batch then (if s.cp.settled || readsWindow k r then .ok none else .error retryDrain)
  else match checkAccess s (k = .read) r.region r.key r.host r.off (reach k r) with
    | .error v => .error v
    | .ok none => .ok none
    | .ok (some g) => if route s g = .neither then .error retryDrain else .ok (some g)

/-- The operation an admitted request becomes. -/
def opOf (s : State) (d : Datagram) (k : OpKind) (r : Request) : Op :=
  { id := 0, origin := .stipple (replyOf d r), kind := k, host := r.host, seq := r.seq, region := r.region, key := r.key,
    off := r.off, len := if k = .fence then fenceCount r else reach k r,
    a := r.ext0, b := if k = .place then r.ext1 % 256 else r.ext1,
    data := if k = .write then r.body else [],
    descs := if k = .batch then descsOf r else [],
    statuses := if k = .batch then (descsOf r).map (descStatus s r.host) else [] }

/-- Step 14: the request is admitted and started. -/
def admitRequest (d : Datagram) (k : OpKind) (r : Request) (g : Option Region) (s : State) : State :=
  let id := s.host.nextOp
  let o := opOf s d k r
  let s1 := bump 0x701001 (addOp o s)
  let s2 := when_ (nonIdem k) (replayCreate ⟨r.host, r.seq⟩) s1
  let s3 := when_ (!readsWindow k r) (setSlot r.host (slotAdmit (movesBase k) r.seq)) s2
  let s4 := match g with
    | some x => traceTouch r.host x (pagesOf x r.off (max 1 (reach k r))) s3
    | none => each o.descs (fun e a => match findRegion a e.region with
      | some (_, x) => traceTouch r.host x (pagesOf x e.off (max 1 e.len)) a
      | none => a) s3
  let s5 := match g with
    | some x => when_ (k = .read && decide (route s4 x = .own)) (strideRead (d.port.val / 8) r.host x (lineOf x r.off)) s4
    | none => s4
  if k = .read && decide (r.region = 0) then modOp id (fun x => { x with reads := memOf 0 (windowBytes s5 r.off r.len) }) s5
  else startOp id s5

/-- Injected faults of an arriving frame (Table 18.2): 0x0303 loses it on its FEC, 0x0301 makes its check field wrong. -/
def injectedFrame (port : Nat) (s : State) : Bool × Bool × State :=
  match fireRecorded 0x0303 port [1] s with
  | some p => (true, false, bump (0x710006 + port * 256) p.2)
  | none => match fireRecorded 0x0301 port [1] s with
    | some p => (false, true, p.2)
    | none => (false, false, s)

/-- An armed point 0x0a01 fires on a replay hit: the entry is taken as expired (Table 18.2). -/
def injectedReplay (k : OpKind) (r : Request) (s : State) : State :=
  match (if nonIdem k then replayFind s ⟨r.host, r.seq⟩ else none) with
  | some e => if e.pending then s else ((fireRecorded 0x0a01 0 [1] s).map (·.2)).getD s
  | none => s
/-- A Stipple datagram of one opcode at its port: the admission order of Table 3.7. `op` is the row's own opcode; an
unassigned opcode is answered by every row alike. -/
def stipple (op : Nat) (d : Datagram) (s0 : State) : State :=
  let r := parse d.payload
  let k := kindOf op
  let (lost, crc, s1) := injectedFrame d.port.val s0
  let s := when_ (!lost) (countFrame d.port.val d.ce) s1
  if !portOpen s0 d.port.val then s0 else
  if lost || !addressed s d then s
  else if crc || !frameOk d then bump 0x701006 s
  else if opAssigned r.opcode && decide (r.opcode ≠ op) then s
  else
    let s1 := when_ r.rtx (bump 0x701002) s
    let answer := fun v => respond (replyOf d r) v
    match formCheck s1 d r with
    | some v => answer v s1
    | none =>
      if !hostEnabled s1 r.host then countRefusal (nakVal 4 1) (answer (nakVal 4 1) s1)
      else if !serving s1 && !readsWindow k r then answer retryDrain s1
      else
        match checkToken s1 k r with
        | .drop => bump 0x701007 s1
        | .hold => holdFor ⟨r.host, r.seq⟩ (replyOf d r) s1
        | .answer v => answer v (when_ (nonIdem k && decide (v.status ≠ 7)) (bump 0x701003) (injectedReplay k r s1))
        | .pass =>
          match checkRoom s1 d.port.val k r with
          | .answer v => answer v s1
          | .drop | .hold => s1
          | .pass =>
            let s2 := when_ (r.region ≠ 0 && k ≠ .fence && k ≠ .batch) (keyLookup (d.port.val / 8) r.key) s1
            match checkRegion s2 k r with
            | .error v => countRefusal v (answer v s2)
            | .ok g => admitRequest d k r g s2

/-- R84: a Stipple READ. -/
def doStippleRead (d : Datagram) (s : State) : State := stipple 1 d s
/-- R84: a Stipple WRITE. -/
def doStippleWrite (d : Datagram) (s : State) : State := stipple 2 d s
/-- R68: a Stipple ADD. -/
def doStippleAdd (d : Datagram) (s : State) : State := stipple 3 d s
/-- R68: a Stipple CAS. -/
def doStippleCas (d : Datagram) (s : State) : State := stipple 4 d s
/-- R88: a Stipple FENCE. -/
def doStippleFence (d : Datagram) (s : State) : State := stipple 5 d s
/-- R156: a Stipple PLACE. -/
def doStipplePlace (d : Datagram) (s : State) : State := stipple 6 d s
/-- R252: a Stipple DISCARD. -/
def doStippleDiscard (d : Datagram) (s : State) : State := stipple 7 d s
/-- R67: a READ_BATCH. -/
def doReadBatch (d : Datagram) (s : State) : State := stipple 8 d s

/-! ## The end of an operation -/

/-- No record of the operation still waits for the twin (R40, R304). -/
def mirrored (s : State) (id : Nat) : Bool :=
  !duplexRule s || !(s.cp.halves.any (fun p =>
    p.2.open_.any (fun r => r.op = some id) || p.2.sent.any (fun f => f.recs.any (fun r => r.op = some id))))
/-- A PLACE has ended here and at the twin, or stopped (R157, R158). -/
def placeEnded (s : State) (o : Op) : Bool :=
  match s.tier.places.find? (fun p => p.token = ⟨o.host, o.seq⟩) with
  | none => o.fwds.isEmpty
  | some p => p.outcome.isSome || (p.ownDone && (p.twinDone || !pairWorks s))
/-- The completion rule is met (Table 2.2, Table 3.10). -/
def opEnded (s : State) (o : Op) : Bool :=
  decide (o.waiting = 0) && o.fwds.isEmpty && !o.held && mirrored s o.id &&
    (o.nak.isSome || match o.kind with
      | .fence => (missingSeqs s o).isEmpty
      | .place => placeEnded s o
      | _ => true)
/-- The data of a READ_BATCH: each descriptor's bytes, zeros where it failed (R67). -/
def batchData (m : Mem) : List (BatchDesc × Nat) → Nat → Bytes
  | [], _ => []
  | (d, st) :: t, at_ => (if st = 0 then mbytes m at_ d.len else List.replicate d.len 0) ++ batchData m t (at_ + d.len)
/-- What an ended operation answers. -/
def opValue (s : State) (o : Op) : RespVal :=
  match o.nak with
  | some v => v
  | none =>
    match o.kind with
    | .read => { okVal with data := mbytes o.reads 0 o.len }
    | .batch =>
      let head := o.statuses.map (BitVec.ofNat 8) ++ List.replicate (32 - o.statuses.length) 0
      { okVal with data := head ++ batchData o.reads (o.descs.zip o.statuses) 32 }
    | .add | .cas => { okVal with result := o.result }
    | .place => match s.tier.places.find? (fun p => p.token = ⟨o.host, o.seq⟩) with
      | some p => p.outcome.getD okVal
      | none => { okVal with result := o.result }
    | _ => okVal
/-- The outcome is stored in the replay entry (R81): a completion, FENCE_GAP, a PLACE stopped after it began. -/
def storesOutcome (s : State) (o : Op) (v : RespVal) : Bool :=
  v.status = 0 || v.status = 8 ||
    (o.kind = .place && (s.tier.places.any (fun p => p.token = ⟨o.host, o.seq⟩ && decide (p.switched > 0)) || decide (v.result > 0)))
/-- The replay entry takes the outcome, or is freed. -/
def endEntry (s0 : State) (o : Op) (v : RespVal) (s : State) : State :=
  if !nonIdem o.kind then s
  else if storesOutcome s0 o v then replayComplete ⟨o.host, o.seq⟩ v s else replayFree ⟨o.host, o.seq⟩ v s
/-- An ended PLACE leaves the tier engine; the twin gets its outcome (R158). -/
def endPlace (o : Op) (v : RespVal) (s : State) : State :=
  if o.kind = .place && s.tier.places.any (fun p => p.token = ⟨o.host, o.seq⟩) then
    when_ (pairWorks s) (sendCtl (.placeOutcome ⟨o.host, o.seq⟩ v) none)
      (updTier (fun x => { x with places := x.places.filter (fun p => p.token ≠ ⟨o.host, o.seq⟩) }) s)
  else s
/-- An operation of Stipple, or one forwarded by the twin, ends (Table 3.10, R300). -/
def endOp (o : Op) (v : RespVal) (s : State) : State :=
  let s1 := endPlace o v (dropOp o.id s)
  match o.origin with
  | .stipple r =>
    let s2 := when_ (v.status = 0) (setSlot o.host (slotMark o.seq)) s1
    respond r v (endEntry s o v s2)
  | .forwarded id rc => sendCtl (.forwardDone id v) none (if rc then s1 else endEntry s o v s1)
  | .rc .. | .internal => s1

/-- The next write of Recall as an internal requester starts, one at a time (R344, R350); none in Keep or Drain. -/
def startWrite (s : State) : State :=
  match s.rec_.writes with
  | [] => s
  | (region, off, data) :: _ =>
    if s.host.ops.any (fun o => o.origin = .internal) || s.md.mode = .keep || s.md.mode = .drain || s.md.entering then s
    else startOp s.host.nextOp (addOp { id := 0, origin := .internal, kind := .write, host := 0, seq := 0, region := region, key := 0,
                                        off := off, len := data.length, data := data } s)
/-- An internal write ends: the next one starts; one refused for a time starts again. -/
def endInternal (o : Op) (s : State) : State :=
  let again := match o.nak with | some v => decide (v.status = 1) | none => false
  let s1 := dropOp o.id s
  startWrite (if again then s1 else updRecall (fun r => { r with writes := r.writes.drop 1 }) s1)

/-- R88: the fence timeout passes; covered sequences still missing make FENCE_GAP. -/
def doFenceTimeout (op : Nat) (s : State) : State :=
  match findOp s op with
  | none => s
  | some o =>
    if o.kind ≠ .fence then s
    else match missingSeqs s o with
      | [] => endOp o okVal s
      | q :: t => endOp o ⟨8, 1, q, t.length + 1, []⟩ (bump 0x701008 s)

/-- R78: a complete entry expires; its slot's EXPIRED moves when the slot is not empty. -/
def doReplayEntryExpire (host seq : Nat) (mirror : Bool) (s : State) : State :=
  let t : Token := ⟨host, seq⟩
  let l := if mirror then s.host.mirror else s.host.replay
  match l.find? (fun e => e.token = t) with
  | none => s
  | some e =>
    if e.pending then s
    else
      let drop := fun (x : List ReplayEntry) => dropFirst (fun y => y.token = t) x
      let s1 := updHost (fun h => if mirror then { h with mirror := drop h.mirror } else { h with replay := drop h.replay }) s
      let mark := fun (x : HostSlot) =>
        if x.nonEmpty && (!x.expiredValid || precedes x.expired seq) then { x with expired := seq, expiredValid := true } else x
      setSlot host mark s1

/-! ## The meanings: each completes -/

/-- STIPPLE_READ (R84). -/
def execStippleRead (d : Datagram) (s : State) : Result := .next (doStippleRead d s)
/-- STIPPLE_WRITE (R84). -/
def execStippleWrite (d : Datagram) (s : State) : Result := .next (doStippleWrite d s)
/-- STIPPLE_ADD (R68). -/
def execStippleAdd (d : Datagram) (s : State) : Result := .next (doStippleAdd d s)
/-- STIPPLE_CAS (R68). -/
def execStippleCas (d : Datagram) (s : State) : Result := .next (doStippleCas d s)
/-- STIPPLE_FENCE (R88). -/
def execStippleFence (d : Datagram) (s : State) : Result := .next (doStippleFence d s)
/-- STIPPLE_PLACE (R156). -/
def execStipplePlace (d : Datagram) (s : State) : Result := .next (doStipplePlace d s)
/-- STIPPLE_DISCARD (R252). -/
def execStippleDiscard (d : Datagram) (s : State) : Result := .next (doStippleDiscard d s)
/-- READ_BATCH (R67). -/
def execReadBatch (d : Datagram) (s : State) : Result := .next (doReadBatch d s)
/-- REPLAY_ENTRY_EXPIRE (R78). -/
def execReplayEntryExpire (host seq : Nat) (mirror : Bool) (s : State) : Result := .next (doReplayEntryExpire host seq mirror s)
/-- FENCE_TIMEOUT (R88). -/
def execFenceTimeout (op : Nat) (s : State) : Result := .next (doFenceTimeout op s)

end Sys2Proof.Machine
end

