-- ==== Sys2Proof/Machine/Rc.lean ====
section
/-! DEFINITION. Queue pairs (chapter 4): contexts and their cache (R105–R107), the go-back-N responder (Table 4.6), admission
and its NAKs (R97–R99, R110, R111), spray mode (R115–R118), acknowledgement (R109), read responses and their rate
(R114), connection management (R100–R104). -/
namespace Sys2Proof.Machine
open Sys2Proof

/-! ## Contexts -/

def psnMod : Nat := 16777216
def psnAdd (p n : Nat) : Nat := (p + n) % psnMod
/-- How far a PSN lies beyond another. -/
def psnDist (p base : Nat) : Nat := (p + psnMod - base) % psnMod

/-- Change a context. -/
def modQp (qpn : Nat) (f : Qp → Qp) (s : State) : State :=
  let g := fun (l : Tbl Qp) (k : Nat) => l.map (fun p => if p.1 = k then (k, f p.2) else p)
  updRc (fun r => if qpn / 65536 = s.rst.node then { r with own := g r.own (qpn % 65536) } else { r with shadows := g r.shadows qpn }) s
/-- A context that this Steoc serves: its own, or an adopted one. -/
def heldQp (s : State) (qpn : Nat) : Option Qp := (qpOf s qpn).filter (fun q => q.st ≠ .shadow && q.st ≠ .free)

def rcOf (o : Op) (qpn : Nat) : Bool := match o.origin with | .rc _ q .. => decide (q = qpn) | _ => false
/-- Operations of a QP in flight. -/
def qpOps (s : State) (qpn : Nat) : List Op := s.host.ops.filter (fun o => rcOf o qpn)
/-- A context is freed, with its shadow at the twin (R103). -/
def freeQp (qpn : Nat) (s : State) : State :=
  let s1 := updRc (fun r => { r with
    own := if qpn / 65536 = s.rst.node then tdel r.own (qpn % 65536) else r.own,
    shadows := if qpn / 65536 = s.rst.node then r.shadows else tdel r.shadows qpn,
    cache := dropSet r.cache qpn, held := r.held.filter (fun p => p.1 ≠ qpn), fetching := dropSet r.fetching qpn,
    waitShadow := r.waitShadow.filter (fun p => p.1 ≠ qpn), parked := r.parked.filter (fun p => p.qpn ≠ qpn) }) s
  when_ (pairWorks s) (sendCtl (.qpFree qpn) none) s1
/-- The Steoc sends a DREQ of its own (R103). -/
def sendDreq (qpn : Nat) (st : QpSt) (s : State) : State :=
  match heldQp s qpn with
  | none => s
  | some q => emitFrame (.cmDreq q.port qpn) (modQp qpn (fun x => { x with st := st, ownDreq := true }) s)
/-- A closing QP with nothing left to acknowledge sends DREP and goes (R103, R104). -/
def settleQp (qpn : Nat) (s : State) : State :=
  match heldQp s qpn with
  | some q =>
    if q.st = .closing && !q.ownDreq && (qpOps s qpn).isEmpty && q.done.isEmpty && q.responses.isEmpty then
      freeQp qpn (emitFrame (.cmDrep q.port qpn) s)
    else s
  | none => s

/-! ## NAKs (Table 4.7) -/

/-- RNR timer codes 1–31 in units of 10 µs (InfiniBand). -/
def rnrTimes : List Nat := [1, 2, 3, 4, 6, 8, 12, 16, 24, 32, 48, 64, 96, 128, 192, 256, 384, 512, 768, 1024, 1536, 2048, 3072,
  4096, 6144, 8192, 12288, 16384, 24576, 32768, 49152]
/-- The smallest timer code at or above a wait in µs, never 0. -/
def rnrCode (us : Nat) : Nat := min 31 ((rnrTimes.takeWhile (fun t => t * 10 < us)).length + 1)
/-- The AETH syndrome of a refusal. -/
def rcSyndrome (s : State) (v : RespVal) : Nat :=
  if v.status = 1 then 0x20 + (if v.reason = 2 then 31 else rnrCode (waitHint s))
  else if v.status = 3 ∨ v.status = 4 ∨ v.status = 5 then 0x62
  else if v.status = 6 ∨ v.status = 10 then 0x63 else 0x61

/-- A NAK for a PSN: LAST_ERROR, and the error state with the Steoc's own DREQ on a fatal one (R111, R103). A spray QP
tells it in its next SPRAY ACK (R118). -/
def rcNak (qpn psn : Nat) (v : RespVal) (s : State) : State :=
  match heldQp s qpn with
  | none => s
  | some q =>
    let syn := rcSyndrome s v
    let s1 := bump (if v.status = 1 then 0x701106 else 0x701107) (modQp qpn (fun x => { x with lastError := v.status * 256 + v.reason }) s)
    let s2 := if q.spray then modQp qpn (fun x => { x with sprayNak := some (syn, psn), sprayDirty := true }) s1
      else toHost (.rc q.port qpn syn psn q.msn none) s1
    if v.status = 1 then s2 else sendDreq qpn .error s2

/-! ## Acknowledgement (R109) -/

/-- The PSNs completed without a gap above a PSN, with what each asks for. -/
def climb (done : List (Nat × Nat)) : Nat → Nat → List (Nat × Nat)
  | 0, _ => []
  | n + 1, p =>
    match done.find? (fun d => d.1 = psnAdd p 1) with
    | some d => d :: climb done n (psnAdd p 1)
    | none => []
/-- What a completed PSN asks for: 0 nothing, 1 AckReq, 2 last packet, 3 atomic, 4 READ response, 5 last READ response. -/
def asksAck (flag : Nat) : Bool := flag = 1 || flag = 2 || flag = 3
def endsMessage (flag : Nat) : Bool := flag = 2 || flag = 3 || flag = 5
/-- Acknowledge what is complete without a gap when a PSN asks for it, or when the timer forces it. -/
def qpAck (force : Bool) (qpn : Nat) (s : State) : State :=
  match heldQp s qpn with
  | none => s
  | some q =>
    let up := climb q.done q.done.length q.ackPsn
    match up.getLast? with
    | none => s
    | some top =>
      if force || up.any (fun d => asksAck d.2) || 4 ≤ top.2 then
        let msn := (q.msn + (up.filter (fun d => endsMessage d.2)).length) % psnMod
        let s1 := modQp qpn (fun x => { x with ackPsn := top.1, msn := msn, done := x.done.filter (fun d => !up.contains d) }) s
        let s2 := each (up.filter (fun d => d.2 = 3)) (fun d a =>
          toHost (.rc q.port qpn 0x1f d.1 msn ((q.ring.find? (fun r => r.1 = d.1)).map (·.2))) a) s1
        if force || up.any (fun d => d.2 = 1 || d.2 = 2) then toHost (.rc q.port qpn 0x1f top.1 msn none) s2 else s2
      else s

/-- Spray: a PSN's bit is set and BASE passes the set bits at the bottom (R117). -/
def advanceBase : Nat → Nat → Nat → Nat × Nat
  | 0, b, m => (b, m)
  | n + 1, b, m => if m % 2 = 1 then advanceBase n (psnAdd b 1) (m / 2) else (b, m)
def sprayMark (psns : List Nat) (q : Qp) : Qp :=
  let m := psns.foldl (fun m p => if psnDist p q.epsn < 64 then setBit m (psnDist p q.epsn) else m) q.bitmap
  let r := advanceBase 64 q.epsn m
  { q with epsn := r.1, bitmap := r.2, sprayDirty := true }

/-! ## Packets -/

/-- Bytes a packet takes in a context-miss buffer: base and extended headers, payload, invariant CRC. -/
def packetBytes (p : RcPacket) : Nat :=
  let ext := if p.opcode = 6 ∨ p.opcode = 10 ∨ p.opcode = 12 then 16 else if p.opcode = 11 then 20 else if p.opcode = 9 then 4
    else if p.opcode = 0x13 ∨ p.opcode = 0x14 then 28 else if p.opcode = 0xc0 then 16 else 0
  12 + ext + p.payload.length + 4
def mtuBytes (q : Qp) : Nat := if q.pmtu = 3 then 1024 else if q.pmtu = 4 then 2048 else 4096
def rcPackets (q : Qp) (len : Nat) : Nat := max 1 ((len + mtuBytes q - 1) / mtuBytes q)

/-- Which opcodes are accepted (Table 4.1): spray writes on spray QPs only, the RDMA WRITE opcodes on others only. -/
def opcodeFits (q : Qp) (op : Nat) : Bool :=
  op = 4 || op = 0xc || op = 0x13 || op = 0x14 || (if q.spray then op = 0xc0 else 6 ≤ op && op ≤ 0xb)
/-- An opcode of the RC range, or a spray opcode: what draws Invalid Request when not accepted (R96). -/
def rcRange (op : Nat) : Bool := op < 0x20 || (0xc0 ≤ op && op ≤ 0xc2)
/-- The control message of a SEND Only (R104): 1 KEEPALIVE, 2 RELEASE, else none. -/
def controlOf (p : RcPacket) : Option Nat :=
  match p.payload with
  | t :: rest => if rest.length = 7 && rest.all (· = 0) && (t = 1 || t = 2) then some t.toNat else none
  | [] => none
def isAtomicOp (op : Nat) : Bool := op = 0x13 || op = 0x14
def isWriteOp (op : Nat) : Bool := (6 ≤ op && op ≤ 0xb) || op = 0xc0
def firstOp (op : Nat) : Bool := op = 6 || op = 0xa || op = 0xb
def lastOp (op : Nat) : Bool := op = 8 || op = 9 || op = 0xa || op = 0xb

/-- The key, offset and length a packet is checked for: a WRITE's whole message at its first packet, its own bytes after
(R110). -/
def rcReach (q : Qp) (p : RcPacket) : Nat × Nat × Nat :=
  if isAtomicOp p.opcode then (p.rkey, p.va, 8)
  else if p.opcode = 0xc then (p.rkey, p.va, p.dmaLen)
  else if p.opcode = 0xc0 then (p.rkey, p.va, p.payload.length)
  else if firstOp p.opcode then (p.rkey, p.va, p.dmaLen)
  else (q.msgKey, q.msgVa, p.payload.length)

/-- The form checks of a packet (R96–R98, R104, R116), as the Stipple code LAST_ERROR takes. -/
def rcForm (q : Qp) (p : RcPacket) : Option RespVal :=
  if !opcodeFits q p.opcode then some (nakVal 11 2)
  else if p.opcode = 4 then (if (controlOf p).isNone then some (nakVal 11 4) else none)
  else if isAtomicOp p.opcode && decide (p.va % 8 ≠ 0) then some (nakVal 13 1)
  else if (p.opcode = 0xc || firstOp p.opcode) && (p.dmaLen > 2 ^ 30 || p.dmaLen = 0) then some (nakVal 12 1)
  else if p.opcode = 0xc0 && (bits p.spray 24 6 ≠ 0) then some (nakVal 11 3)
  else if p.opcode = 0xc0 && ((!bitOf p.spray 30 && p.payload.length ≠ mtuBytes q) || p.payload.length = 0 || p.payload.length > mtuBytes q) then
    some (nakVal 12 1)
  else if isWriteOp p.opcode && !firstOp p.opcode && p.opcode ≠ 0xc0 && (q.msgLeft = 0 || p.payload.length > q.msgLeft) then some (nakVal 12 1)
  else none

/-- What an admission of a packet finds: refused, parked for want of an operation slot, or passed with its region. -/
inductive RcVerdict
  | refuse (v : RespVal)
  | full
  | pass (r : Option Region)
  deriving DecidableEq, Repr

/-- The admission checks of a packet, in the order of Table 3.7 (R111). -/
def rcCheck (s : State) (q : Qp) (p : RcPacket) : RcVerdict :=
  let change := isWriteOp p.opcode || isAtomicOp p.opcode
  let (key, va, len) := rcReach q p
  match rcForm q p with
  | some v => .refuse v
  | none =>
    if !hostEnabled s q.host then .refuse (nakVal 4 1)
    else if s.md.mode = .drain || s.rst.coreHeld then .refuse retryDrain
    else if (s.md.mode = .keep || s.md.entering) && change then .refuse (nakVal 3 2)
    else if portOpsOf s q.port ≥ Config.portOps then .full
    else if p.opcode = 4 then .pass none
    else if key = 0 then
      if change then .refuse (nakVal 3 1) else if va + len ≤ 1048576 then .pass none else .refuse (nakVal 5 1)
    else match checkKeyed s none key q.tenant va len with
      | .error v => .refuse v
      | .ok r => if route s r = .neither then .refuse retryDrain else .pass (some r)

/-- The operation a packet becomes. Its host and sequence hold QPN and PSN (R113); `a` keeps what a WRITE message had
left before the packet. -/
def rcOp (q : Qp) (qpn : Nat) (p : RcPacket) (r : Option Region) : Op :=
  let (key, va, len) := rcReach q p
  let kind : OpKind := if p.opcode = 0xc then .read else if p.opcode = 0x13 then .cas else if p.opcode = 0x14 then .add else .write
  let last := lastOp p.opcode || p.opcode = 4 || (p.opcode = 0xc0 && bitOf p.spray 30)
  { id := 0, origin := .rc q.port qpn p.psn last p.ackReq, kind := kind, host := qpn, seq := p.psn,
    region := (r.map (·.id)).getD 0, key := key, off := va,
    len := if kind = .write then p.payload.length else len,
    a := if p.opcode = 0x13 then p.compare else if p.opcode = 0x14 then p.swapAdd else q.msgLeft,
    b := p.swapAdd, data := if kind = .write then p.payload else [] }

/-- The message in progress after a WRITE packet. -/
def messageAfter (p : RcPacket) (q : Qp) : Qp :=
  if firstOp p.opcode then { q with msgLeft := p.dmaLen - p.payload.length, msgKey := p.rkey, msgVa := p.va + p.payload.length }
  else if isWriteOp p.opcode && p.opcode ≠ 0xc0 then
    { q with msgLeft := if lastOp p.opcode then 0 else q.msgLeft - p.payload.length, msgVa := q.msgVa + p.payload.length }
  else q

/-- An operation of a go-back-N QP bound for the twin waits for the QP's earlier operations (R109, R111). -/
def rcLaunch (id qpn : Nat) (s : State) : State :=
  match findOp s id with
  | none => s
  | some o =>
    let earlier := (qpOps s qpn).any (fun e => decide (e.id < id))
    let far := match opRegion s o with | some r => decide (route s r = .twin) | none => false
    let spray := (heldQp s qpn).any (·.spray)
    if far && earlier && !spray then modOp id (fun x => { x with held := true }) s else startOp id s

/-- An admitted packet: entered, traced, started (R47, R110, R179, R349). -/
def rcAdmit (q : Qp) (qpn : Nat) (p : RcPacket) (r : Option Region) (s : State) : State :=
  let id := s.host.nextOp
  let o := rcOp q qpn p r
  let s1 := bump 0x701101 (addOp o s)
  let after := fun (x : Qp) =>
    let y := messageAfter p x
    let z := if p.opcode = 9 ∨ p.opcode = 0xb then { y with lastImm := p.imm.getD 0 } else y
    let n := if p.opcode = 0xc then rcPackets x p.dmaLen else 1
    let w := if x.spray || p.psn ≠ x.epsn then z else { z with epsn := psnAdd x.epsn n, nakSent := false }
    if controlOf p = some 2 && p.opcode = 4 then { w with st := .closing } else w
  let s2 := modQp qpn after s1
  match r with
  | none => if o.kind = .read then modOp id (fun x => { x with reads := memOf 0 (windowBytes s2 o.off o.len) }) s2 else s2
  | some g =>
    let s3 := traceTouch q.host g (pagesOf g o.off (max 1 o.len)) s2
    let s4 := when_ (o.kind = .read && decide (route s3 g = .own)) (strideRead (q.port / 8) (65536 + qpn) g (lineOf g o.off)) s3
    rcLaunch id qpn s4

/-- The packet stays in the port receive buffer and the port pauses a lossless priority; on a lossy one it is dropped
(Table 1.6). -/
def rcPark (q : Qp) (p : RcPacket) (s : State) : State :=
  if q.lossless then
    setPort q.port (fun x => { x with pausing := setBit x.pausing q.pcp }) (updRc (fun r => { r with parked := r.parked ++ [p] }) s)
  else s

/-- A packet at EPSN, or executed on arrival in spray mode. -/
def rcExecute (q : Qp) (qpn : Nat) (p : RcPacket) (s : State) : State :=
  let s0 := when_ (decide ((rcReach q p).1 ≠ 0) && decide (p.opcode ≠ 4)) (keyLookup (q.port / 8) (rcReach q p).1) s
  match rcCheck s0 q p with
  | .refuse v => countRefusal v (rcNak qpn p.psn v s0)
  | .full => rcPark q p s0
  | .pass r => rcAdmit q qpn p r s0

/-- The go-back-N responder (Table 4.6). -/
def goBackN (q : Qp) (qpn : Nat) (p : RcPacket) (s : State) : State :=
  let d := psnDist p.psn q.epsn
  if d = 0 then rcExecute q qpn p s
  else if d < 2 ^ 23 then
    if q.nakSent then s
    else bump 0x701105 (toHost (.rc q.port qpn 0x60 q.epsn q.msn none) (modQp qpn (fun x => { x with nakSent := true }) s))
  else if isAtomicOp p.opcode then
    if (qpOps s qpn).any (fun o => o.seq = p.psn) || q.done.any (fun x => x.1 = p.psn) then s
    else match q.ring.find? (fun r => r.1 = p.psn) with
      | some r => toHost (.rc q.port qpn 0x1f p.psn q.msn (some r.2)) s
      | none => rcNak qpn p.psn (nakVal 11 2) s
  else if p.opcode = 0xc then
    if (qpOps s qpn).any (fun o => o.kind = .read && decide (o.seq = p.psn)) || q.responses.any (fun x => decide (psnDist p.psn x.first < 2 ^ 23)
        && decide (psnDist x.psn p.psn < 2 ^ 23)) then s
    else rcExecute q qpn p s
  else if psnDist q.ackPsn p.psn < 2 ^ 23 then toHost (.rc q.port qpn 0x1f q.ackPsn q.msn none) s
  else s

/-- The spray responder (R116, R117). -/
def sprayRx (q : Qp) (qpn : Nat) (p : RcPacket) (s : State) : State :=
  let d := psnDist p.psn q.epsn
  if d ≥ 2 ^ 23 || (d < 64 && bitOf q.bitmap d) then modQp qpn (fun x => { x with sprayDirty := true }) s
  else if d ≥ 64 then bump 0x701108 s
  else if (qpOps s qpn).any (fun o => o.seq = p.psn) || q.responses.any (fun x => x.first = p.psn) then s
  else rcExecute q qpn p s

/-- Whether a CNP may be sent: none on the QP, or the interval of at most 1 ms has passed; within 2 ms the model cannot
tell, and the answer is a free value. -/
def cnpDue (s : State) (q : Qp) : Bool :=
  match q.cnpAt with
  | none => true
  | some t => if (s.rtc + 2 ^ 32 - t) % 2 ^ 32 ≥ 2 then true else Config.measured s.freeCtr % 2 = 1

/-- A packet whose context is cached. -/
def rcServe (qpn : Nat) (p : RcPacket) (s : State) : State :=
  match heldQp s qpn with
  | none => bump 0x701102 s
  | some q0 =>
    let s1 := updRc (fun r => { r with cache := dropSet r.cache qpn ++ [qpn] }) s
    let s2 := if p.ce && cnpDue s1 q0 then
        bump 0x701109 (draw (emitFrame (.cnp q0.port qpn) (modQp qpn (fun x => { x with cnpAt := some s.rtc }) s1))) else s1
    if q0.st = .error || q0.st = .closing then s2
    else if !rcRange p.opcode then bump 0x701102 s2
    else
      let ahead := q0.adopted && decide (psnDist p.psn q0.epsn < 2 ^ 23)
      let jump := fun (x : Qp) => { x with epsn := p.psn, ackPsn := psnAdd p.psn (psnMod - 1), adopted := false }
      let put := fun (x : Qp) => { (if ahead then jump x else x) with lastRx := s.rtc, st := .serving }
      let s3 := modQp qpn put s2
      let q := put q0
      if !opcodeFits q p.opcode then rcNak qpn p.psn (nakVal 11 2) s3
      else if q.lossless && s3.rc.parked.any (fun x => x.port = p.port) then rcPark q p s3
      else if q.spray then sprayRx q qpn p s3 else goBackN q qpn p s3

/-- A RoCEv2 packet at its port (R95, R106): dropped, held for its context, or served. -/
def rcArrive (mine : RcPacket → Bool) (p : RcPacket) (s0 : State) : State :=
  let s := countFrame p.port.val p.ce s0
  if !portOpen s0 p.port.val then s0
  else if p.pkey ≠ 0xffff || !p.icrcOk || p.version ≠ 0 || (heldQp s p.qpn).isNone then bump 0x701102 s
  else if (opcodeFits { spray := true } p.opcode || opcodeFits {} p.opcode) && !mine p then s
  else if s.rc.cache.contains p.qpn && !(s.rc.held.any (fun h => h.1 = p.qpn)) then rcServe p.qpn p s
  else
    let group := p.port.val / 8
    let used := ((s.rc.held.filter (fun h => h.2.port.val / 8 = group)).map (fun h => packetBytes h.2)).foldl (· + ·) 0
    if used + packetBytes p > 65536 then bump 0x701103 s
    else
      let s1 := updRc (fun r => { r with held := r.held ++ [(p.qpn, p)] }) s
      if s.rc.fetching.contains p.qpn then s1
      else bump 0x701104 (updRc (fun r => { r with fetching := r.fetching ++ [p.qpn] }) s1)

/-- R108: RDMA WRITE. -/
def doRdmaWrite (p : RcPacket) (s : State) : State := rcArrive (fun x => 6 ≤ x.opcode && x.opcode ≤ 0xb) p s
/-- R108, R109: RDMA READ Request. -/
def doRdmaReadRequest (p : RcPacket) (s : State) : State := rcArrive (fun x => x.opcode = 0xc) p s
/-- R98: Compare & Swap. -/
def doCompareSwap (p : RcPacket) (s : State) : State := rcArrive (fun x => x.opcode = 0x13) p s
/-- R98: Fetch & Add. -/
def doFetchAdd (p : RcPacket) (s : State) : State := rcArrive (fun x => x.opcode = 0x14) p s
/-- R116: SPRAY WRITE. -/
def doSprayWrite (p : RcPacket) (s : State) : State := rcArrive (fun x => x.opcode = 0xc0) p s
/-- R104: SEND Only with KEEPALIVE, or with no control message. -/
def doKeepalive (p : RcPacket) (s : State) : State := rcArrive (fun x => x.opcode = 4 && controlOf x ≠ some 2) p s
/-- R104: SEND Only with RELEASE. -/
def doRelease (p : RcPacket) (s : State) : State := rcArrive (fun x => x.opcode = 4 && controlOf x ≠ some 1) p s

/-- A context may be evicted: no operation, nothing unacknowledged, no packet held (R107). -/
def evictable (s : State) (qpn : Nat) : Bool :=
  (qpOps s qpn).isEmpty && !(s.rc.held.any (fun h => h.1 = qpn)) &&
    (match qpOf s qpn with | some q => q.done.isEmpty && q.responses.isEmpty | none => true)
/-- R106, R107: a context arrives; room is made by the least recently used eligible one, and the held packets of the QP
leave the miss buffer in arrival order. -/
def doContextFetchDone (qpn : Nat) (s : State) : State :=
  if !s.rc.fetching.contains qpn then s
  else
    let room := s.rc.cache.length < 4096
    let victim := s.rc.cache.find? (evictable s)
    if !room && victim.isNone then s
    else
      let cache := if room then s.rc.cache else match victim with | some v => dropSet s.rc.cache v | none => s.rc.cache
      let mine := (s.rc.held.filter (fun h => h.1 = qpn)).map (·.2)
      let s1 := updRc (fun r => { r with cache := cache ++ [qpn], fetching := dropSet r.fetching qpn, held := r.held.filter (fun h => h.1 ≠ qpn) }) s
      each mine (fun p a => rcServe qpn p a) s1

/-! ## Responses and rate (R114) -/

/-- A frame of a QP is counted at its port. -/
def qpFrame (qpn : Nat) (s : State) : State :=
  match heldQp s qpn with
  | some q => countFrame q.port false s
  | none => s
/-- R114: a CNP lowers the rate and raises alpha (fixed point of 1/1,024). -/
def doCnpReceive (qpn : Nat) (s0 : State) : State :=
  let s := qpFrame qpn s0
  match heldQp s qpn with
  | none => bump 0x701102 s
  | some _ =>
    let g := min 1024 (dget s 0x210207)
    let low := fun (q : Qp) => max (q.rate - q.rate * q.alpha / 2048) (dget s 0x21020b)
    let up := fun (q : Qp) => (1024 - g) * q.alpha / 1024 + g
    bump 0x70110a (modQp qpn (fun q => { q with target := q.rate, rate := low q, alpha := up q, stage := 0 }) s)
/-- R114: an alpha period with no CNP. -/
def doRateAlphaTick (qpn : Nat) (s : State) : State :=
  let g := min 1024 (dget s 0x210207)
  modQp qpn (fun q => { q with alpha := (1024 - g) * q.alpha / 1024 }) s
/-- R114: a rate increase period with no CNP. -/
def doRateIncreaseTick (qpn : Nat) (s : State) : State :=
  modQp qpn (fun q =>
    let q1 := if q.stage < 5 then { q with stage := q.stage + 1 } else { q with target := min (q.target + dget s 0x21020a) 100000 }
    { q1 with rate := (q1.rate + q1.target) / 2 }) s

/-- Cut a READ's bytes into response packets of one path MTU. -/
def cutResponses (q : Qp) (o : Op) (data : Bytes) : List RespPkt :=
  let n := rcPackets q o.len
  (List.range n).map (fun i =>
    ⟨psnAdd o.seq i, o.seq, o.key, o.off + i * mtuBytes q, decide (i + 1 = n), (data.drop (i * mtuBytes q)).take (mtuBytes q)⟩)

/-- R110, R114: the next READ response is sent; a READ cut short by a revocation draws the Remote Access Error NAK. On a
go-back-N QP it waits until every earlier PSN is complete. -/
def doReadResponseSend (qpn : Nat) (s : State) : State :=
  match heldQp s qpn with
  | none => s
  | some q =>
    match q.responses with
    | [] => s
    | r :: rest =>
      let top := ((climb q.done q.done.length q.ackPsn).getLast?.map (·.1)).getD q.ackPsn
      let dup := psnDist q.ackPsn r.psn < 2 ^ 23
      if !q.spray && !dup && decide (r.psn ≠ psnAdd top 1) then s
      else if r.key ≠ 0 && keyRevoked s r.key then
        rcNak qpn r.psn (nakVal 4 3) (modQp qpn (fun x => { x with responses := [] }) s)
      else
        let s1 := toHost (.rcRead q.port qpn r.psn r.data) (modQp qpn (fun x => { x with responses := rest }) s)
        if q.spray then
          if r.last then modQp qpn (sprayMark ((List.range (psnDist r.psn r.first + 1)).map (psnAdd r.first))) s1 else s1
        else if dup then s1
        else settleQp qpn (qpAck false qpn (modQp qpn (fun x => { x with done := x.done ++ [(r.psn, if r.last then 5 else 4)] }) s1))

/-- R109: 4 µs after the first unacknowledged packet, what is complete is acknowledged. -/
def doAckTimer (qpn : Nat) (s : State) : State := settleQp qpn (qpAck true qpn s)
/-- R118: a SPRAY ACK with BASE, the bitmap and a pending NAK. -/
def doSprayAckTimer (qpn : Nat) (s : State) : State :=
  match qpOf s qpn with
  | none => s
  | some q =>
    if !q.spray || !q.sprayDirty then s
    else
      let (syn, psn) := q.sprayNak.getD (0x1f, q.epsn)
      settleQp qpn (modQp qpn (fun x => { x with sprayDirty := false, sprayNak := none }) (toHost (.sprayAck q.port qpn q.epsn q.bitmap syn psn) s))

/-! ## Completion -/

/-- Parked packets of a port are tried again; the pause ends with the last (Table 1.6). -/
def unpark (port : Nat) (s : State) : State :=
  if portOpsOf s port ≥ Config.portOps then s
  else match s.rc.parked.find? (fun p => p.port.val = port) with
    | none => s
    | some p =>
      let s1 := updRc (fun r => { r with parked := dropFirst (fun x => x.port.val = port) r.parked }) s
      let s2 := if s1.rc.parked.any (fun x => x.port.val = port) then s1 else setPort port (fun x => { x with pausing := 0 }) s1
      match heldQp s2 p.qpn with
      | some q => if q.st ≠ .serving then s2 else if q.spray then sprayRx q p.qpn p s2 else goBackN q p.qpn p s2
      | none => s2

/-- An operation held for earlier ones of its QP starts when it is the first in flight. -/
def launchHeld (qpn : Nat) (s : State) : State :=
  match (qpOps s qpn).head? with
  | some o => if o.held then startOp o.id s else s
  | none => s

/-- An RC operation ends: its PSN completes, or its NAK is sent and the QP's later operations are left unapplied (R111). -/
def endRc (o : Op) (v : RespVal) (s : State) : State :=
  match o.origin with
  | .rc port qpn psn last ackReq =>
    let s1 := dropOp o.id s
    match heldQp s1 qpn with
    | none => s1
    | some q =>
      if v.status ≠ 0 then
        let s2 := if q.spray then s1 else
          modQp qpn (fun x => { x with epsn := psn, nakSent := false, msgLeft := o.a, msgKey := o.key, msgVa := o.off })
            (each (qpOps s1 qpn) (fun e a => if e.id > o.id then dropOp e.id a else a) s1)
        countRefusal v (rcNak qpn psn v s2)
      else
        let s2 := if o.kind = .read then modQp qpn (fun x => { x with responses := x.responses ++ cutResponses q o v.data }) s1
          else
            let atomic := decide (o.kind = .add) || decide (o.kind = .cas)
            let s2 := when_ atomic (modQp qpn (fun x =>
              { x with ring := (x.ring ++ [(psn, v.result)]).drop (x.ring.length + 1 - 16) })) s1
            if q.spray then
              when_ atomic (toHost (.rc q.port qpn 0x1f psn q.msn (some v.result))) (modQp qpn (sprayMark [psn]) s2)
            else
              let flag := if atomic then 3 else if last then 2 else if ackReq then 1 else 0
              qpAck false qpn (modQp qpn (fun x => { x with done := x.done ++ [(psn, flag)] }) s2)
        unpark port (settleQp qpn (launchHeld qpn s2))
  | _ => s

/-- R40, R109, Table 3.10: an operation that meets the completion rule ends and is answered. -/
def doCompletionRelease (op : Nat) (s : State) : State :=
  match findOp s op with
  | none => s
  | some o =>
    if !opEnded s o then s
    else match o.origin with
      | .rc .. => endRc o (opValue s o) s
      | .stipple r => unpark r.port (endOp o (opValue s o) s)
      | .forwarded .. => endOp o (opValue s o) s
      | .internal => endInternal o s

/-! ## Connection management (R100–R103) -/

/-- The path MTU code of a connection: the request, 4,096, and what fits the port (R99); none below 1,024. -/
def pathMtu (s : State) (m : CmReq) : Option Nat :=
  let room := fget s (0x200006 + m.port.val * 256) 0 - (ipBytes m.ipv6 + 32)
  let n := min m.pmtu (min 4096 room)
  if n ≥ 4096 then some 5 else if n ≥ 2048 then some 4 else if n ≥ 1024 then some 3 else none
/-- The refusal code of a REQ (Table 4.4). -/
def reqRefusal (s : State) (m : CmReq) : Option Nat :=
  if !serving s || s.md.mode = .drain || s.md.mode = .keep || dget s 0x210201 = 0 then some 4
  else if m.privVersion ≠ 1 || m.privReserved ≠ 0 then some 1
  else if !hostEnabled s m.hostId then some 2
  else if s.rc.own.length ≥ (if s.rst.node = 0 then 65534 else 65536) then some 3
  else if m.respRes = 0 || m.respRes > 16 || (pathMtu s m).isNone then some 5
  else if m.serviceId ≠ dget s 0x210202 then some 6 else none
/-- The REP of a context (Table 4.3). -/
def sendRep (qpn : Nat) (s : State) : State :=
  match heldQp s qpn with
  | none => s
  | some q =>
    emitFrame (.cmRep q.port q.commId qpn (b2n q.spray + 2 * b2n (pairWorks s)) (incarnation s) s.cp.twinNode (Config.twinAddr q.port) q.respRes) s
def shadowOf (qpn : Nat) (q : Qp) : QpShadow :=
  ⟨qpn, q.spray, q.pmtu, q.host, q.tenant, q.remoteQpn, q.epsn, q.port, q.ipv6, q.remoteIp, q.remoteMac, q.pcp, q.vlan, q.dscp⟩
/-- R100–R102: a REQ on QP1 makes a context and draws a REP, once the twin holds the shadow, or a REJ. -/
def doCmReq (m : CmReq) (s0 : State) : State :=
  let s := countFrame m.port.val false s0
  if !portOpen s0 m.port.val then s0
  else match reqRefusal s m with
  | some c => emitFrame (.cmRej m.port.val m.commId c) s
  | none =>
    let used := s.rc.own.map (·.1)
    let low := if s.rst.node = 0 then [0, 1] else []
    let free := 65536 - low.length - used.length
    let idx := nthFree (low ++ used) (Config.placement s.freeCtr % max 1 free)
    let qpn := s.rst.node * 65536 + idx
    let prios := fget s (0x200007 + m.port.val * 256) 0
    let q : Qp := { st := .connecting, spray := m.spray && decide (dget s 0x210204 = 1), pmtu := (pathMtu s m).getD 3, respRes := m.respRes,
                    host := m.hostId, tenant := hostTenant s m.hostId, remoteQpn := m.remoteQpn, epsn := m.startPsn,
                    ackPsn := psnAdd m.startPsn (psnMod - 1), pcp := m.pcp, vlan := m.vlan, dscp := m.dscp, ipv6 := m.ipv6,
                    lossless := m.vlan.isSome && bitOf prios m.pcp, port := m.port.val,
                    udpSrc := 0xc000 + Config.udpSrcOffset s.freeCtr % 16384, remoteIp := m.srcIp, remoteMac := m.srcMac,
                    lastRx := s.rtc, commId := m.commId }
    let s1 := draw (updRc (fun r => { r with own := tput r.own idx q }) s)
    if pairWorks s then
      sendCtl (.qpShadow (shadowOf qpn q)) none (updRc (fun r => { r with waitShadow := r.waitShadow ++ [(qpn, m.commId)] }) s1)
    else sendRep qpn s1
/-- R103: an RTU puts a connecting context into service. -/
def doCmRtu (qpn : Nat) (s0 : State) : State :=
  let s := qpFrame qpn s0
  match heldQp s qpn with
  | some q => if q.st = .connecting then modQp qpn (fun x => { x with st := .serving, lastRx := s.rtc }) s else s
  | none => s
/-- R103: a DREQ closes the QP once everything admitted is acknowledged. -/
def doCmDreq (qpn : Nat) (s0 : State) : State :=
  let s := qpFrame qpn s0
  match heldQp s qpn with
  | some q => if q.ownDreq then freeQp qpn (emitFrame (.cmDrep q.port qpn) s)
      else settleQp qpn (qpAck true qpn (modQp qpn (fun x => { x with st := .closing }) s))
  | none => s
/-- R103: the DREP to the Steoc's own DREQ. -/
def doCmDrep (qpn : Nat) (s0 : State) : State :=
  let s := qpFrame qpn s0
  match heldQp s qpn with
  | some q => if q.ownDreq then freeQp qpn s else s
  | none => s
/-- R103: no RTU and no valid packet within 100 ms of the REP. -/
def doConnectTimeout (qpn : Nat) (s : State) : State :=
  match heldQp s qpn with
  | some q => if q.st = .connecting && !(s.rc.waitShadow.any (fun p => p.1 = qpn)) then freeQp qpn s else s
  | none => s
/-- R103: a QP idle for 0x2102.03 draws the Steoc's own DREQ. -/
def doQpIdleTimeout (qpn : Nat) (s : State) : State :=
  match heldQp s qpn with
  | some q =>
    let t := dget s 0x210203
    if q.st = .serving && t ≠ 0 && (s.rtc + 2 ^ 32 - q.lastRx) % 2 ^ 32 ≥ t * 1000 then sendDreq qpn .closing s else s
  | none => s
/-- R103: 100 ms after the Steoc's own DREQ. -/
def doDrepTimeout (qpn : Nat) (s : State) : State :=
  match heldQp s qpn with
  | some q => if q.ownDreq then freeQp qpn s else s
  | none => s

/-! ## The meanings: each completes -/

/-- COMPLETION_RELEASE (R40). -/
def execCompletionRelease (op : Nat) (s : State) : Result := .next (doCompletionRelease op s)
/-- RDMA_WRITE (R108). -/
def execRdmaWrite (p : RcPacket) (s : State) : Result := .next (doRdmaWrite p s)
/-- RDMA_READ_REQUEST (R108). -/
def execRdmaReadRequest (p : RcPacket) (s : State) : Result := .next (doRdmaReadRequest p s)
/-- COMPARE_SWAP (R98). -/
def execCompareSwap (p : RcPacket) (s : State) : Result := .next (doCompareSwap p s)
/-- FETCH_ADD (R98). -/
def execFetchAdd (p : RcPacket) (s : State) : Result := .next (doFetchAdd p s)
/-- SPRAY_WRITE (R116). -/
def execSprayWrite (p : RcPacket) (s : State) : Result := .next (doSprayWrite p s)
/-- KEEPALIVE (R104). -/
def execKeepalive (p : RcPacket) (s : State) : Result := .next (doKeepalive p s)
/-- RELEASE (R104). -/
def execRelease (p : RcPacket) (s : State) : Result := .next (doRelease p s)
/-- CNP_RECEIVE (R114). -/
def execCnpReceive (qpn : Nat) (s : State) : Result := .next (doCnpReceive qpn s)
/-- CONTEXT_FETCH_DONE (R106). -/
def execContextFetchDone (qpn : Nat) (s : State) : Result := .next (doContextFetchDone qpn s)
/-- ACK_TIMER (R109). -/
def execAckTimer (qpn : Nat) (s : State) : Result := .next (doAckTimer qpn s)
/-- SPRAY_ACK_TIMER (R118). -/
def execSprayAckTimer (qpn : Nat) (s : State) : Result := .next (doSprayAckTimer qpn s)
/-- READ_RESPONSE_SEND (R114). -/
def execReadResponseSend (qpn : Nat) (s : State) : Result := .next (doReadResponseSend qpn s)
/-- RATE_ALPHA_TICK (R114). -/
def execRateAlphaTick (qpn : Nat) (s : State) : Result := .next (doRateAlphaTick qpn s)
/-- RATE_INCREASE_TICK (R114). -/
def execRateIncreaseTick (qpn : Nat) (s : State) : Result := .next (doRateIncreaseTick qpn s)
/-- CM_REQ (R101). -/
def execCmReq (m : CmReq) (s : State) : Result := .next (doCmReq m s)
/-- CM_RTU (R103). -/
def execCmRtu (qpn : Nat) (s : State) : Result := .next (doCmRtu qpn s)
/-- CM_DREQ (R103). -/
def execCmDreq (qpn : Nat) (s : State) : Result := .next (doCmDreq qpn s)
/-- CM_DREP (R103). -/
def execCmDrep (qpn : Nat) (s : State) : Result := .next (doCmDrep qpn s)
/-- CONNECT_TIMEOUT (R103). -/
def execConnectTimeout (qpn : Nat) (s : State) : Result := .next (doConnectTimeout qpn s)
/-- QP_IDLE_TIMEOUT (R103). -/
def execQpIdleTimeout (qpn : Nat) (s : State) : Result := .next (doQpIdleTimeout qpn s)
/-- DREP_TIMEOUT (R103). -/
def execDrepTimeout (qpn : Nat) (s : State) : Result := .next (doDrepTimeout qpn s)

end Sys2Proof.Machine
end

