-- ==== Sys2Proof/Machine/Commands.lean ====
section
/-! DEFINITION. The tables of regions, keys, tenants, hosts and quotas: the region command engine (R137–R143), the
command claim (R531), fences and drains (R138–R140), creating and freeing pages (R124, R140), ownership transfer (R302),
table writes and their verdicts (R143, R153). -/
namespace Sys2Proof.Machine
open Sys2Proof

/-! ## Pages of a region -/

/-- Give pages homes in a tier and charge them (R124). -/
def homePages (tenant tier : Nat) (pages : List Nat) (s : State) : State :=
  each pages (fun t a => match allocHome a t tier false with
    | some h => draw (logRecs 1 (addUsed tenant tier true (setDir t (fun _ => { home := h, zero := true, tenant := tenant }) a)))
    | none => a) s
/-- A tier has room for new pages of a tenant (R124). -/
def tierFits (s : State) (tenant tier n : Nat) : Bool :=
  !overQuota s tenant tier n && decide (n ≤ (if tier = 0 then freeFrames s else nandFree s))
/-- Drop a page's lines from the slices without writing them back. -/
def purgeLines (tpn : Nat) (s : State) : State :=
  let keep := fun (n : Nat) (sl : Slice) => { sl with
    lines := sl.lines.filter (fun q => lineOfSet n (q.1 / 16) q.2.tag / 512 ≠ tpn),
    wbs := sl.wbs.filter (fun w => w.line / 512 ≠ tpn) }
  updCs (fun c => { c with slices := c.slices.map (fun p => (p.1, keep p.1 p.2)) }) s
/-- Free a page: held contents pass to the States, the charge is credited, its home, image and lines go (R140, R369). -/
def freePage (tpn : Nat) (s : State) : State :=
  let s0 := if s.tier.moves.any (fun m => m.tpn = tpn) then abandon tpn s else s
  let s1 := snapChange tpn s0
  let d := dirOf s1 tpn
  let s2 := addUsed d.tenant (if chargedDram d then 0 else 1) false s1
  let s3 := purgeLines tpn (cleanPage tpn (setImage tpn {} (freeHome d.home s2)))
  let s4 := updTier (fun x => { x with waiting := x.waiting.filter (fun w => w.1 ≠ tpn), rehoming := dropSet x.rehoming tpn }) s3
  let s5 := updRecall (fun r => { r with unrestored := dropSet r.unrestored tpn, demand := dropSet r.demand tpn }) s4
  logRecs 1 (updLive (fun t => { t with dir := tdel t.dir tpn }) s5)
/-- Pages of a region in each tier (Table 5.2). -/
def regionPages (s : State) (r : Region) (dram : Bool) : Nat :=
  ((live s).dir.filter (fun p => r.base ≤ p.1 ∧ p.1 < r.base + r.pages ∧ (if dram then inDram p.2 else inNand p.2))).length

/-- Free stretches of the TPN space between regions, given as a table base → pages. -/
def gapsFrom : Nat → Tbl Nat → List (Nat × Nat)
  | c, [] => [(c, 2 ^ 32 - c)]
  | c, (b, n) :: t => (c, b - c) :: gapsFrom (b + n) t
def tpnGaps (s : State) : List (Nat × Nat) := gapsFrom 0 ((live s).regions.foldl (fun t p => tput t p.2.base p.2.pages) [])
/-- The n-th start at which a range of a length fits. -/
def nthStart (len : Nat) : List (Nat × Nat) → Nat → Option Nat
  | [], _ => none
  | (b, n) :: t, i => if i < n + 1 - len then some (b + i) else nthStart len t (i - (n + 1 - len))
/-- A base for a new region; which is a free value (R124 reserves a range and names no choice). -/
def findBase (s : State) (pages : Nat) : Option Nat :=
  let n := ((tpnGaps s).map (fun g => g.2 + 1 - pages)).foldl (· + ·) 0
  nthStart pages (tpnGaps s) (Config.placement s.freeCtr % max 1 n)
/-- A slot for a new region; which is a free value. -/
def findSlot (s : State) : Option Nat :=
  let used := (live s).regions.map (·.1)
  if used.length ≥ 65536 then none else some (nthFree used (Config.placement (s.freeCtr + 1) % (65536 - used.length)))
/-- The pages at `base + lo` to `base + hi − 1`. -/
def span (base lo hi : Nat) : List Nat := (List.range (hi - lo)).map (base + lo + ·)

def addRegion (slot : Nat) (r : Region) (s : State) : State := logRecs 1 (updLive (fun t => { t with regions := tput t.regions slot r }) s)
/-- Free a region's pages and its slot (R140). -/
def removeRegion (id : Nat) (s : State) : State :=
  match findRegion s id with
  | none => s
  | some (slot, r) =>
    let s1 := each (span r.base 0 r.pages) freePage s
    logRecs 1 (updLive (fun t => { t with regions := tdel t.regions slot }) s1)
/-- Change a region's size: pages beyond are freed, new ones homed in a tier (R140). -/
def resizeRegion (id pages tier : Nat) (s : State) : State :=
  match findRegion s id with
  | none => s
  | some (_, r) =>
    let s1 := if pages < r.pages then each (span r.base pages r.pages) freePage s else homePages r.tenant tier (span r.base r.pages pages) s
    logRecs 1 (modRegion id (fun x => { x with pages := pages, st := .active }) s1)

/-! ## Table elements (R143) -/

def regionElem (slot : Nat) (r : Region) (dram nand : Nat) : TableElem :=
  .region slot r.id (match r.st with | .free => 0 | .active => 1 | .fencing => 2 | .deleting => 3) r.owner r.tenant r.pages r.base dram nand
/-- The sum of a tier's quotas with one tenant's replaced. -/
def quotaSum (s : State) (i new : Nat) (dram : Bool) : Nat :=
  ((live s).quotas.map (fun p => if p.1 = i then 0 else if dram then p.2.dramQuota else p.2.nandQuota)).foldl (· + ·) new
/-- R153: whether this Steoc refuses a quota element. -/
def quotaRefused (s : State) (i value : Nat) : Bool :=
  let d := bits value 96 32
  let n := bits value 32 32
  let q := quotaOf s i
  decide (d < q.dramUsed) || decide (n < q.nandUsed) || decide (quotaSum s i d true > dramCapacity s)
    || decide (quotaSum s i n false > nandCapacity s)
/-- QPs of a host close with the Steoc's own DREQ when the host is disabled (R103). -/
def dropHostQps (host : Nat) (s : State) : State :=
  let mine := (s.rc.own.filter (fun p => p.2.host = host)).map (fun p => s.rst.node * 65536 + p.1)
  let adopted := (s.rc.shadows.filter (fun p => p.2.host = host ∧ p.2.st ≠ .shadow)).map (·.1)
  each (mine ++ adopted) (fun q a => sendDreq q .closing a) s

/-- Whether this Steoc takes a table element that a command or write brings (R143, R124, R153). -/
def elemAccepted (s : State) (e : TableElem) : Bool :=
  match e with
  | .quota i v => !quotaRefused s i v
  | .region _ id st _ tenant pages _ dram nand =>
    if st = 0 then true
    else match findRegion s id with
      | none => tierFits s tenant (if nand > 0 ∧ dram = 0 then 1 else 0) pages
      | some (_, r) => if pages > r.pages then tierFits s tenant (if nand > regionPages s r false then 1 else 0) (pages - r.pages) else true
  | _ => true
/-- One more table change is logged (TABLE_GEN, Table 11.2). -/
def countTable (s : State) : State := updLive (fun t => { t with tableGen := (t.tableGen + 1) % 2 ^ 32 }) s
/-- Whether an element belongs to the tables that TABLE_GEN counts. -/
def isTable (e : TableElem) : Bool :=
  match e with
  | .window _ | .budget _ | .directory .. => false
  | _ => true
/-- Apply a table element and log it. -/
def applyElem (e : TableElem) (s0 : State) : State :=
  let s := when_ (isTable e) countTable s0
  match e with
  | .tenant i v => logRecs 1 (updLive (fun t => { t with tenants := tset {} t.tenants i ⟨bitOf v 63, bits v 32 17⟩ }) s)
  | .quota i v => logRecs 1 (setQuota i (fun q => { q with dramQuota := bits v 96 32, nandQuota := bits v 32 32 }) s)
  | .host i v =>
    let s1 := logRecs 1 (updLive (fun t => { t with hosts := tset 0 t.hosts i v }) s)
    if bitOf v 15 then s1 else dropHostQps i s1
  | .region slot id st owner tenant pages base dram nand =>
    if st = 0 then removeRegion id s
    else match findRegion s id with
      | none => homePages tenant (if nand > 0 ∧ dram = 0 then 1 else 0) (span base 0 pages) (addRegion slot ⟨id, .active, owner, tenant, pages, base⟩ s)
      | some (_, r) =>
        let s1 := if pages ≠ r.pages then resizeRegion id pages (if nand > regionPages s r false then 1 else 0) s else s
        logRecs 1 (modRegion id (fun x => { x with owner := owner }) s1)
  | .key i key st slot region =>
    let ks : KeySt := if st = 1 then .valid else if st = 2 then .fencing else if st = 3 then .revoked else .free
    let next := fun (t : Tables) => { t with nextKey := max t.nextKey (i + 1) }
    logRecs 1 (updLive next (setKey i (fun k => { k with gen := key % 16384, st := ks, slot := slot, region := region }) s))
  | .window ms => dset 0x210002 ms s
  | .budget gib => updCp (fun c => { c with twinBudget := gib }) s
  | .directory tpn home tenant zero =>
    let tier := if home = 2 then 1 else 0
    match (dirOf s tpn).home with
    | .none =>
      match (match allocHome s tpn tier true with | some h => some h | none => allocHome s tpn 1 true) with
      | some h =>
        let disp := decide (tier = 0) && (match h with | .nand .. => true | _ => false)
        draw (logRecs 1 (addUsed tenant tier true (setDir tpn (fun _ => { home := h, zero := zero, tenant := tenant, displaced := disp }) s)))
      | none => s
    | _ => s

/-! ## The engine -/

/-- A command reports its status and result, and its claim is released (R137, R531). -/
def finishCmd (status result : Nat) (s : State) : State :=
  let s1 := dset 0x221002 status (dset 0x221003 (if status = 0 then result else 0) (updEng (fun e => { e with run := none }) s))
  if s1.eng.claimed.contains 0x2210 then
    sendCtl (.claimRelease 0x2210) none (updEng (fun e => { e with claimed := dropSet e.claimed 0x2210 }) s1)
  else s1
/-- A change of one element, told to the twin first in the states of R531; the command ends with its verdict. -/
def changeElem (c : RunCmd) (e : TableElem) (s : State) : State :=
  if pairWorks s then
    sendCtl (.table e) none (updEng (fun x => { x with run := some { c with phase := .twin } }) s)
  else finishCmd 0 c.result (applyElem e s)

/-- Modes that execute commands (Table 5.9). -/
def cmdMode (s : State) (revoke : Bool) : Bool :=
  match s.md.mode with
  | .duplex | .solo | .service => true
  | .recall => s.rec_.serving
  | .keep => revoke
  | .drain => false

/-- CREATE (R123, R124), past the claim. -/
def runCreate (c : RunCmd) (s : State) : State :=
  let b := c.blk
  if (findRegion s b.region).isSome then finishCmd 2 0 s
  else if !(tenantOf s b.tenant).enable || tenantRegions s b.tenant ≥ (tenantOf s b.tenant).maxRegions then finishCmd 3 0 s
  else if !tierFits s b.tenant b.tier b.pages then finishCmd 4 0 s
  else match findSlot s, findBase s b.pages with
    | none, _ => finishCmd 5 0 s
    | _, none => finishCmd 7 0 s
    | some slot, some base =>
      changeElem { c with result := base } (regionElem slot ⟨b.region, .active, b.owner, b.tenant, b.pages, base⟩
        (if b.tier = 0 then b.pages else 0) (if b.tier = 0 then 0 else b.pages)) (draw (draw s))
/-- DELETE (R140). -/
def runDelete (c : RunCmd) (s : State) : State :=
  match findRegion s c.blk.region with
  | none => finishCmd 2 0 s
  | some (slot, r) =>
    if regionKeys s r.id > 0 then finishCmd 6 0 s
    else changeElem c (regionElem slot { r with st := .free } 0 0) s
/-- Start a fence: keys go fencing in the key table, a shrinking region to state fencing (R138 step 1, R140). -/
def startFence (f : Fence) (s : State) : State :=
  let s1 := each f.keys (fun i a => setKey i (fun k => { k with st := .fencing }) a) s
  updEng (fun e => { e with fence := some f }) (when_ f.newPages.isSome (modRegion f.region (fun r => { r with st := .fencing })) s1)
/-- RESIZE (R140): growth at once, a shrink under a fence. -/
def runResize (c : RunCmd) (s : State) : State :=
  let b := c.blk
  match findRegion s b.region with
  | none => finishCmd 2 0 s
  | some (slot, r) =>
    if b.pages = r.pages then finishCmd 0 b.pages s
    else if b.pages > r.pages then
      if !tierFits s r.tenant b.tier (b.pages - r.pages) then finishCmd 4 0 s
      else if (live s).regions.any (fun p => p.2.base ≥ r.base + r.pages ∧ p.2.base < r.base + b.pages) || r.base + b.pages > 2 ^ 32 then finishCmd 7 0 s
      else changeElem { c with result := b.pages } (regionElem slot { r with pages := b.pages }
        (regionPages s r true + (if b.tier = 0 then b.pages - r.pages else 0)) (regionPages s r false + (if b.tier = 0 then 0 else b.pages - r.pages))) s
    else updEng (fun e => { e with run := some { c with phase := .fence, result := b.pages } })
      (startFence ⟨r.id, [], some b.pages, false, false, false, false⟩ s)
/-- The entry ISSUE_KEY takes: never used ones first, then the one revoked longest ago (R128). -/
def issuable (s : State) : Option Nat :=
  if (live s).nextKey < 262144 then some (live s).nextKey
  else (((live s).keys.filter (fun p => p.2.st = .revoked ∧ !p.2.retired)).foldl (fun (m : Option (Nat × Nat)) p => match m with
    | none => some (p.2.order, p.1)
    | some q => if p.2.order < q.1 then some (p.2.order, p.1) else m) none).map (·.2)
/-- ISSUE_KEY (R128). -/
def runIssue (c : RunCmd) (s : State) : State :=
  match findRegion s c.blk.region with
  | none => finishCmd 2 0 s
  | some (slot, r) =>
    if regionKeys s r.id ≥ 16 then finishCmd 5 0 s
    else match issuable s with
      | none => finishCmd 5 0 s
      | some i =>
        let key := i * 16384 + (keyOf s i).gen + 1
        changeElem { c with result := key } (.key i key 1 slot r.id) s
/-- REVOKE_KEY (R138). -/
def runRevoke (c : RunCmd) (s : State) : State :=
  let i := c.blk.key / 16384
  match findRegion s c.blk.region with
  | none => finishCmd 2 0 s
  | some (_, r) =>
    let k := keyOf s i
    if k.region ≠ r.id || k.gen ≠ c.blk.key % 16384 || k.st = .free || i = 0 then finishCmd 2 0 s
    else if k.st = .revoked then finishCmd 0 0 s
    else updEng (fun e => { e with run := some { c with phase := .fence, keys := [i] } }) (startFence ⟨r.id, [i], none, false, false, false, false⟩ s)
/-- REVOKE_REGION (R138): every valid key under one fence. -/
def runRevokeRegion (c : RunCmd) (s : State) : State :=
  match findRegion s c.blk.region with
  | none => finishCmd 2 0 s
  | some (_, r) =>
    let keys := ((live s).keys.filter (fun p => p.2.st = .valid ∧ p.2.region = r.id)).map (·.1)
    if keys.isEmpty then finishCmd 0 0 s
    else updEng (fun e => { e with run := some { c with phase := .fence, keys := keys, result := keys.length } })
      (startFence ⟨r.id, keys, none, false, false, false, false⟩ s)
/-- SET_OWNER in sync (R302): at the owner its fence point; at the Steoc named, the request to the owner. -/
def runSetOwner (c : RunCmd) (s : State) : State :=
  match findRegion s c.blk.region with
  | none => finishCmd 2 0 s
  | some (_, r) =>
    if c.blk.owner = r.owner then finishCmd 0 0 s
    else if s.cp.twin ≠ .inSync then (if c.blk.owner = s.rst.node then finishCmd 0 0 s else finishCmd 9 0 s)
    else if r.owner = s.rst.node then
      updEng (fun e => { e with run := some { c with phase := .owner }, heldRegion := some r.id }) s
    else sendCtl (.ownerRequest r.id c.blk.owner) none (updEng (fun e => { e with run := some { c with phase := .owner } }) s)

/-- Run a command once its claim is held, or where none is taken. -/
def startCmd (c : RunCmd) (s : State) : State :=
  match c.code with
  | 1 => runCreate c s
  | 2 => runDelete c s
  | 3 => runResize c s
  | 4 => runIssue c s
  | 5 => runRevoke c s
  | 6 => runRevokeRegion c s
  | 7 => runSetOwner c s
  | _ => finishCmd 8 0 s

/-- The statuses a block draws before any table is read (R137, R142): region 0, ranges, owner, mode. -/
def blockStatus (s : State) (code : Nat) (b : RegionBlock) : Option Nat :=
  if code = 0 ∨ code > 7 then some 8
  else if !cmdMode s (code = 5 || code = 6) then some 9
  else if b.region = 0 then some 0x0a
  else if (code = 1 && b.region = 0xffffffff) || ((code = 1 || code = 3) && (b.pages = 0 || b.pages > 2 ^ 30 || b.tier > 1)) then some 8
  else if (code = 1 || code = 7) && b.owner ≠ s.rst.node && b.owner ≠ s.cp.twinNode then some 8
  else if (code = 1 || code = 7) && b.owner ≠ s.rst.node && s.cp.twin ≠ .inSync then some 9 else none

/-- The value of the block (Table 5.6). -/
def regionBlockValue (code : Nat) (b : RegionBlock) : Nat :=
  blockValue [code % 256 * 2 ^ 24 + b.tenant % 256 * 2 ^ 8 + b.tier % 256, b.region, b.key, b.pages, b.owner % 128]
/-- A block is written to 0x2210.01 (R137): refused, completed without being run, run, or claimed first (R531). -/
def command (code : Nat) (b : RegionBlock) (s : State) : State :=
  dictGuard 0x2210 1 false (fun a =>
    if b.reserved ≠ 0 then dictRefuse 0x2210 1 0x06040002 a
    else if dget a 0x221002 = 255 then dictRefuse 0x2210 1 0x06050002 a
    else keepBlock 0x221001 (regionBlockValue code b) (dictDone 0x2210 1 (
      match blockStatus a code b with
      | some st => finishCmd st 0 a
      | none =>
        let c : RunCmd := ⟨code, b, .claim, [], 0, false, false⟩
        let a1 := dset 0x221002 255 (updEng (fun e => { e with run := some c }) a)
        if !pairWorks a then startCmd c a1
        else if a.eng.twinClaims.contains 0x2210 then finishCmd 1 0 a1
        else sendCtl (.claim 0x2210) none (updEng (fun e => { e with asked := insertSet e.asked 0x2210 }) a1)))) s

/-- R124: CREATE. -/
def doCreate (b : RegionBlock) (s : State) : State := command 1 b s
/-- R140: DELETE. -/
def doDelete (b : RegionBlock) (s : State) : State := command 2 b s
/-- R140: RESIZE. -/
def doResize (b : RegionBlock) (s : State) : State := command 3 b s
/-- R128: ISSUE_KEY. -/
def doIssueKey (b : RegionBlock) (s : State) : State := command 4 b s
/-- R138: REVOKE_KEY. -/
def doRevokeKey (b : RegionBlock) (s : State) : State := command 5 b s
/-- R138: REVOKE_REGION. -/
def doRevokeRegion (b : RegionBlock) (s : State) : State := command 6 b s
/-- R302: SET_OWNER. -/
def doSetOwner (b : RegionBlock) (s : State) : State := command 7 b s

/-! ## Fences (R138–R140) -/

/-- A request is struck by a fence: it bears a fenced key, or reaches beyond the new size. -/
def struck (f : Fence) (keyed : Nat → Bool) (region key off len : Nat) : Bool :=
  keyed key || (match f.newPages with | some n => decide (region = f.region) && decide (off + len > n * 65536) | none => false)
def struckOp (s : State) (f : Fence) (o : Op) : Bool :=
  let keyed := fun k => f.keys.contains (k / 16384) && decide ((keyOf s (k / 16384)).gen = k % 16384) && decide (k ≠ 0)
  if o.kind = .batch then o.descs.any (fun d => struck f keyed d.region d.key d.off d.len)
  else struck f keyed o.region o.key o.off (max 1 o.len)
/-- What a struck request draws. -/
def fenceNak (f : Fence) : RespVal := if f.newPages.isSome then nakVal 5 1 else nakVal 4 3
/-- Nothing admitted before the fence still runs. -/
def drained (s : State) : Bool := s.host.ops.all (fun o => !o.fenced || (decide (o.waiting = 0) && o.fwds.isEmpty && !o.held))
/-- Operations on a region still to be applied (R302 step 2). -/
def regionBusy (s : State) (id : Nat) : Bool :=
  s.host.ops.any (fun o => !o.held && decide (0 < o.waiting) && (decide (o.region = id) || o.descs.any (fun d => d.region = id)))

/-- R138 step 1, R140, R159: the last port group holds the mark: requests admitted before are marked for the drain, the
change is logged, PLACEs it strikes stop, the twin is told. -/
def doFencePoint (s : State) : State :=
  match s.eng.fence with
  | none => s
  | some f =>
    if f.past then s
    else
      let s1 := updHost (fun h => { h with ops := h.ops.map (fun o => if struckOp s f o then { o with fenced := true } else o) }) s
      let s2 := each f.keys (fun i a => setKey i (fun k => { k with revokedAt := s.rtc }) a) (logRecs 1 s1)
      let hit := fun (p : PlaceRun) => f.keys.contains (p.key / 16384) || (match f.newPages with
        | some n => decide (p.region = f.region) && (match findRegion s f.region with | some (_, r) => decide (p.first + p.count > r.base + n) | none => false)
        | none => false)
      let s3 := each (s.tier.places.filter hit) (fun p a => stopPlace p.token (fenceNak f) a) s2
      let s4 := updLive (fun t => { t with fenceLog := some f }) (updEng (fun e => { e with fence := some { f with past := true } }) s3)
      when_ (pairWorks s && !f.forTwin) (sendCtl (.fenceMark f.region f.keys f.newPages) none) s4

/-- Keys become revoked, or the region takes its new size; the fence ends (R138 step 6, R140, R128). -/
def endFence (f : Fence) (s : State) : State :=
  let s1 := each f.keys (fun i a =>
    let n := (live a).revocations
    setKey i (fun k => { k with st := .revoked, order := n, retired := k.retired || decide (k.gen = 16383) })
      (updLive (fun t => { t with revocations := n + 1 }) a)) s
  let s2 := updLive (fun t => { t with fenceLog := none }) (match f.newPages with | some n => resizeRegion f.region n 0 s1 | none => s1)
  logRecs 1 (countTable (updEng (fun e => { e with fence := none }) s2))
/-- R141: after a reset a fence whose point was logged takes effect wholly; one not yet logged, with every other command not
done, leaves nothing. -/
def replayFence (s : State) : State :=
  let s1 := match (live s).fenceLog with | some f => endFence f s | none => s
  let key := fun (k : KeyEntry) => if k.st = .fencing then { k with st := KeySt.valid } else k
  let reg := fun (r : Region) => if r.st = .fencing then { r with st := RegionSt.active } else r
  updLive (fun t => { t with keys := t.keys.map (fun p => (p.1, key p.2)), regions := t.regions.map (fun p => (p.1, reg p.2)) }) s1
/-- Both drains have ended: the command reports done. -/
def fenceDone (s : State) : State :=
  match s.eng.fence, s.eng.run with
  | some f, some c => if f.drained && (c.twin || !pairWorks s) then finishCmd 0 c.result (endFence f s) else s
  | _, _ => s
/-- R138 step 3, R302 step 2: the drain ends when everything admitted before the fence is applied or served. -/
def doFenceDrainEnd (s : State) : State :=
  match s.eng.fence with
  | some f =>
    if f.past && !f.drained && drained s then
      if f.forTwin then when_ (pairWorks s) (sendCtl (.fenceConfirm f.region) none) (endFence f s)
      else fenceDone (updEng (fun e => { e with fence := some { f with drained := true } }) s)
    else s
  | none =>
    match s.eng.heldRegion with
    | some g => if regionBusy s g || s.eng.handed then s
        else sendCtl (.ownerHandover g s.cp.twinNode) none (updEng (fun e => { e with handed := true }) s)
    | none => s
/-- R138 step 4: 180 µs after the fence point, requests not yet applied or served here are cancelled. -/
def doFenceCancelDeadline (s : State) : State :=
  match s.eng.fence with
  | none => s
  | some f =>
    if !f.past then s
    else
      let late := s.host.ops.filter (fun o => o.fenced && (decide (0 < o.waiting) || o.held))
      let cancel := fun (o : Op) (a : State) =>
        let mark := fun (x : Op) =>
          if x.kind = .batch then { x with fenced := !x.fwds.isEmpty, statuses := x.statuses.map (fun v => if v = 0 then (fenceNak f).status else v) }
          else { x with nak := some (x.nak.getD (fenceNak f)), fenced := !x.fwds.isEmpty, held := false }
        bump 0x701203 (modOp o.id mark a)
      updEng (fun e => { e with fence := some { f with deadline := true } }) (each late cancel s)

/-! ## Table writes (R121, R143, R153, R94) -/

/-- Whether this Steoc takes the elements of one write: each judged beside the others (R423, R153). -/
def groupAccepted (s : State) (l : List TableElem) : Bool := l.all (elemAccepted (each l applyElem s))
/-- Apply a table write here, or send its elements to the twin and wait for the verdicts. -/
def writeElems (idx sub : Nat) (l : List TableElem) (s : State) : State :=
  if !groupAccepted s l then dictRefuse idx sub 0x06040003 s
  else if pairWorks s then
    each l (fun e a => sendCtl (.table e) none a) (updEng (fun x => { x with writes := x.writes ++ [⟨idx, sub, l, l.length⟩] }) s)
  else dictDone idx sub (each l applyElem s)
/-- The reserved fields and ranges of a host, tenant or quota element (Tables 3.12, 5.1, 6.3; R94, R121): the abort code. -/
def elemRefusal (s : State) (idx i value : Nat) : Option Nat :=
  if idx = 0x2201 then
    if bits value 49 14 ≠ 0 || bits value 17 15 ≠ 0 then some 0x06040002
    else if bits value 32 17 > 65536 then some 0x06040001
    else if bits value 32 17 < tenantRegions s i then some 0x06040003 else none
  else if idx = 0x2101 then
    if bits value 8 7 ≠ 0 then some 0x06040002
    else if i = 0 || i = 65535 then some 0x06040003 else none
  else none
/-- The table element that an entry's element number and value stand for. -/
def elemAt (idx i value : Nat) : TableElem :=
  if idx = 0x2201 then .tenant i value else if idx = 0x3001 then .quota i value else .host i value
/-- Elements of 0x2101, 0x2201 or 0x3001 from number `i` on are written: the whole range or nothing (R423). -/
def tableWrite (idx i : Nat) (values : List Nat) (s : State) : State :=
  dictGuard idx i true (fun a =>
    let l := values.zipIdx i
    match l.findSome? (fun p => elemRefusal a idx p.2 p.1) with
    | some code => dictRefuse idx i code a
    | none => writeElems idx i (l.map (fun p => elemAt idx p.2 p.1)) a) s
/-- R121, R122: a tenant element. -/
def doTenantTableWrite (tenant : Fin 256) (value : Nat) (s : State) : State := tableWrite 0x2201 tenant.val [value] s
/-- R152, R153: a quota element; its USED fields are ignored (R15). -/
def doQuotaTableWrite (tenant : Fin 256) (value : Nat) (s : State) : State := tableWrite 0x3001 tenant.val [value] s
/-- R94, R103: a host element. -/
def doHostTableWrite (host : Fin 65536) (value : Nat) (s : State) : State := tableWrite 0x2101 host.val [value] s
/-- R80: the replay window, for entries created from now on; the twin takes the same value. -/
def doReplayWindowWrite (ms : Nat) (s : State) : State :=
  dictGuard 0x2100 2 false (fun a =>
    if ms = 0 || ms > 64 then dictRefuse 0x2100 2 0x06040001 a
    else dictDone 0x2100 2 (when_ (pairWorks a) (sendCtl (.table (.window ms)) none) (dset 0x210002 ms a))) s

/-! ## The meanings: each completes -/

/-- CREATE (R124). -/
def execCreate (b : RegionBlock) (s : State) : Result := .next (doCreate b s)
/-- DELETE (R140). -/
def execDelete (b : RegionBlock) (s : State) : Result := .next (doDelete b s)
/-- RESIZE (R140). -/
def execResize (b : RegionBlock) (s : State) : Result := .next (doResize b s)
/-- ISSUE_KEY (R128). -/
def execIssueKey (b : RegionBlock) (s : State) : Result := .next (doIssueKey b s)
/-- REVOKE_KEY (R138). -/
def execRevokeKey (b : RegionBlock) (s : State) : Result := .next (doRevokeKey b s)
/-- REVOKE_REGION (R138). -/
def execRevokeRegion (b : RegionBlock) (s : State) : Result := .next (doRevokeRegion b s)
/-- SET_OWNER (R302). -/
def execSetOwner (b : RegionBlock) (s : State) : Result := .next (doSetOwner b s)
/-- FENCE_POINT (R138). -/
def execFencePoint (s : State) : Result := .next (doFencePoint s)
/-- FENCE_DRAIN_END (R138). -/
def execFenceDrainEnd (s : State) : Result := .next (doFenceDrainEnd s)
/-- FENCE_CANCEL_DEADLINE (R138). -/
def execFenceCancelDeadline (s : State) : Result := .next (doFenceCancelDeadline s)
/-- TENANT_TABLE_WRITE (R122). -/
def execTenantTableWrite (tenant : Fin 256) (value : Nat) (s : State) : Result := .next (doTenantTableWrite tenant value s)
/-- QUOTA_TABLE_WRITE (R153). -/
def execQuotaTableWrite (tenant : Fin 256) (value : Nat) (s : State) : Result := .next (doQuotaTableWrite tenant value s)
/-- HOST_TABLE_WRITE (R143). -/
def execHostTableWrite (host : Fin 65536) (value : Nat) (s : State) : Result := .next (doHostTableWrite host value s)
/-- REPLAY_WINDOW_WRITE (R80). -/
def execReplayWindowWrite (ms : Nat) (s : State) : Result := .next (doReplayWindowWrite ms s)

end Sys2Proof.Machine
end

