-- ==== Sys2Proof/Machine/Mode.lean ====
section
/-! DEFINITION. Changes of mode (R376), Keep causes (R381, R383), entry into Drain (R279), fatal faults (R384), acceptance
of a system reset (R488, R489), and the idle points at which units apply posted configuration (R28). -/
namespace Sys2Proof.Machine
open Sys2Proof

/-! ## Changing the mode -/

/-- The mode changes, with its record, its count and the row of Table 14.2 that is its cause. Leaving Service disarms
every point and ends the debug path first (R465); in a mode of full-stripe parity held open-block parity is converted (R255). -/
def setMode (m : Mode) (row : Nat) (s : State) : State :=
  let s1 := if s.md.mode = .service then updPres (fun p => { p with halted := false }) (disarmAll 5 s) else s
  let s2 := bump32 0x110009 (post 0x0101 0 0 (leBytes 1 (modeCode s.md.mode) ++ leBytes 1 (modeCode m) ++ leBytes 1 row)
    (updMode (fun x => { x with mode := m, entering := false, since := s.rtc }) s1))
  match m with
  | .solo | .keep | .service => convertParity s2
  | _ => s2

/-! ## Keep -/

/-- A Keep cause is raised (R381): in Duplex, Solo, Service, or Recall once serving, entry begins and admission of changes
stops; elsewhere the bit is recorded. -/
def raiseKeep (bit : Nat) (s : State) : State :=
  let s1 := updMode (fun x => { x with causes := setBit x.causes bit }) s
  match s.md.mode with
  | .duplex | .solo | .service => updMode (fun x => { x with entering := true, left := x.mode }) s1
  | .recall => if s.rec_.serving then updMode (fun x => { x with entering := true, left := x.mode }) s1 else s1
  | .drain | .keep => s1

/-- R383: the mode after Keep. A YIELDED Steoc returns to linking and will resynchronise as target. -/
def leaveKeep (s : State) : State :=
  if s.rec_.phase ≠ .none then setMode .recall 10 s
  else if (live s).standing = .alone then setMode .solo 10 s
  else if (live s).standing = .paired && s.cp.twin = .inSync then setMode .duplex 10 s
  else setMode .solo 10 (updCp (fun c => { c with twin := .linking, settled := false, declared := false }) s)

/-- A Keep cause clears; with the last one the Steoc leaves Keep, or does not enter it. -/
def clearKeep (bit : Nat) (s : State) : State :=
  let s1 := updMode (fun x => { x with causes := clrBit x.causes bit }) s
  if s1.md.causes ≠ 0 then s1
  else if s.md.mode = .keep then leaveKeep s1
  else updMode (fun x => { x with entering := false }) s1

/-- The mode becomes Keep, with its record (Table 19.3) and count. -/
def intoKeep (row : Nat) (s : State) : State :=
  bump32 0x701b03 (post 0x0102 2 0 (leBytes 4 s.md.causes) (setMode .keep row s))

/-! ## Drain -/

/-- A cut ends without a State: what it held back is not transmitted (R361). -/
def abandonCut (s : State) : State :=
  match s.snap.cut with
  | none => s
  | some c =>
    let s1 := deleteSnap c.number (updSnap (fun x => { x with cut := none, heldOut := [] }) s)
    if s1.snap.run.isSome then dset 0x371002 9 (updSnap (fun x => { x with run := none }) s1) else s1

/-- Entry into Drain (R279): admission stops, PLACEs stop with RETRY 0x02, a running cut is abandoned; a full-form
window of a system reset ends with its cause pending (Table 20.4). -/
def enterDrain (cause : Nat) (s : State) : State :=
  if s.md.mode = .drain then s
  else
    let was := if s.md.entering then s.md.left else s.md.mode
    let s1 := updMode (fun x => { x with left := was }) (setMode .drain 11 s)
    let s2 := each (s1.tier.places.map (·.token)) (fun t a => stopPlace t retryDrain a) (abandonCut s1)
    let s3 := updRst (fun r => { r with phase := if r.phase = .window then .running else r.phase, coreHeld := false, idle := [] }) s2
    dset 0x340305 0 (updFix (fun f => { f with phase := .draining, cause := cause, quiesced := false }) s3)

/-- R384: a fatal fault asserts FAULT_N and drains with CAUSE 0x02; the reset that follows sets FATAL. -/
def fatal (code : Nat) (s : State) : State :=
  let s1 := bump32 0x701b04 (post 0x0105 3 0 (leBytes 1 code) s)
  let s2 := emit (.pin "FAULT_N" false) (updMode (fun x => { x with fault := true }) s1)
  enterDrain 2 (updRst (fun r => { r with cause := setBit r.cause 9 }) s2)

/-- A fault that leaves the dump path unusable ends operation without a seal (R384, R397): the ports and the link fall
silent until a reset. -/
def stopDead (s : State) : State :=
  let s1 := emit (.pin "FAULT_N" false) (updMode (fun x => { x with fault := true }) s)
  let s2 := updFix (fun f => { f with quiesced := true, dumpDead := true, passRunning := false, pass := [] }) (enterDrain 2 s1)
  updCp (fun c => { c with sessionUp := false, halves := c.halves.map (fun p => (p.1, { p.2 with st := HalfSt.off })) }) s2

/-! ## System reset -/

/-- Blocks that are asked to go idle, by the numbers of R447; 112 is the engines of PD_MAIN (Table 20.3). -/
def idleBlocks (s : State) : List Nat := bitList 112 s.rst.powered ++ [112]

/-- A system reset is accepted (R488, R489, Table 20.4) with the number of its cause bit. -/
def acceptReset (bit : Nat) (s : State) : State :=
  let pend := fun (r : ResetSide) => { r with cause := setBit r.cause bit }
  match s.rst.phase with
  | .window | .asserted => updRst pend s
  | .off | .powerOn => s
  | .load | .running =>
    if s.md.mode = .drain && s.fix.phase ≠ .sealed && !s.fix.dumpDead then updRst (fun r => { pend r with dumpReset := true }) s
    else
      let short := s.fix.phase = .sealed || s.fix.dumpDead || !s.rst.loadDone
      let s1 := updRst (fun r => { pend r with phase := .window, short := short, coreHeld := !short,
                                               idle := if short then [] else idleBlocks s }) s
      if short then updRecall (fun r => { r with reserveSeal := if s.rst.loadDone && !s.fix.dumpDead then some (live s).writeSeq else r.reserveSeal }) s1
      else s1

/-! ## Posted configuration (R28) -/

/-- The way masks of a settings column (Table 7.1). -/
def masksOf (s : State) (p : Nat) : List Nat := (List.range 4).map (fun i => dget s (0x310101 + 4 * (p - 1) + i))
/-- The prefetch depth of a settings column (Table 7.1), unless 0x3100.04 overrides it. -/
def depthOf (s : State) (p : Nat) : Nat :=
  if dget s 0x310004 ≠ 0 then dget s 0x310004 else if p = 1 then 4 else if p = 3 then 2 else 8
/-- Port entries that a port group applies at its idle point (R444). -/
def portSubs : List Nat := [1, 3, 4, 5, 6, 7]
/-- R28, R174, R198, R444: a unit reaches an idle point and applies what was posted. Units 0–15 are the slices, 16 the
remote-access engine, 17–32 the port groups, 33–64 the DRAM channels. -/
def doConfigApplyAtIdle (unit : Nat) (s : State) : State :=
  let p := settings s
  if unit < 16 then setSlice unit (fun sl => { sl with masks := masksOf s p }) s
  else if unit = 16 then updCs (fun c => { c with depth := depthOf s p }) s
  else if unit < 33 then
    let g := unit - 17
    let s1 := fset 0x210001 g (dget s 0x210001) s
    let copy := fun (a : State) (q : Nat) => each portSubs (fun sub b =>
      fset (0x200000 + q * 256 + sub) 0 (dget b (0x200000 + q * 256 + sub)) b) a
    each ((List.range 8).map (8 * g + ·)) (fun q a =>
      let on := decide (dget a (0x200001 + q * 256) = 1)
      let next := fun (x : Port) => if !on then { x with st := .disabled } else if x.st = .disabled then { x with st := .training } else x
      setPort q next (copy a q)) s1
  else if unit < 65 then setChan (unit - 33) (fun c => { c with policy := p }) s
  else s

/-! ## The meanings: each completes -/

/-- CONFIG_APPLY_AT_IDLE (R28). -/
def execConfigApplyAtIdle (unit : Nat) (s : State) : Result := .next (doConfigApplyAtIdle unit s)

end Sys2Proof.Machine
end

