-- ==== Sys2Proof/Machine/Snapshots.lean ====
section
/-! DEFINITION. The end of a page's image (R270, R306), States (chapter 13): the State command engine (R371–R373, R531),
the cut (R359), captures and settling (R364, R366), retention, and copying a CLONE (R372). -/
namespace Sys2Proof.Machine
open Sys2Proof

/-! ## The clean step (R270 step 4, R306) -/

/-- The page becomes clean unless it changed since its first line was read. -/
def finishImage (tpn : Nat) (s : State) : State :=
  match s.fix.dirty.find? (fun d => d.tpn = tpn) with
  | none => s
  | some d =>
    if d.changed then
      let keep := fun (x : Dirty) => { x with imaging := false, twinWait := false, pressure := false }
      updFix (fun f => { f with dirty := modFirst (fun x => x.tpn = tpn) keep f.dirty, pass := dropSet f.pass tpn }) s
    else cleanPage tpn s
/-- An image is recorded in the index (R270 step 3). The owner of a mirrored region then waits for the twin's image. -/
def recordImage (tpn : Nat) (e : ImageEntry) (s : State) : State :=
  let s1 := setImage tpn e s
  if pairWorks s1 && ownsTpn s1 tpn then
    let wait := fun (d : Dirty) => { d with twinWait := true }
    sendCtl (.imageRequest tpn (halfOf s1 0).lastFsn (halfOf s1 1).lastFsn) none
      (updFix (fun f => { f with dirty := modFirst (fun d => d.tpn = tpn) wait f.dirty }) s1)
  else finishImage tpn s1
/-- A page's lines begin to be read for an image (R270 step 1). -/
def beginImage (tpn : Nat) (s : State) : State :=
  let mark := fun (d : Dirty) => { d with imaging := true, changed := false, copy := readPage s tpn }
  updFix (fun f => { f with dirty := modFirst (fun d => d.tpn = tpn) mark f.dirty, captured := tput f.captured tpn s.rtc }) s

/-! ## Settling -/

/-- A page of a State is no longer pending; with the last one the State is FIXED (R366). -/
def settled1 (number region page : Nat) (s : State) : State :=
  let f := fun (n : Snap) =>
    let p := n.pending.filter (fun q => !(decide (q.1 = region) && decide (q.2 = page)))
    { n with pending := p, phase := if p.isEmpty && n.phase = .settling then .fixed else n.phase }
  logRecs 1 (modSnap number f s)
/-- An image of an unchanged page serves as the capture of every State for which it is pending (R366). -/
def imageServes (tpn : Nat) (s : State) : State :=
  if !(dirOf s tpn).held then s
  else match regionOfTpn s tpn with
    | none => s
    | some r => each ((live s).snaps.filter (fun n => n.pending.any (fun p => p.1 = r.id ∧ p.2 = tpn - r.base)))
        (fun n a => settled1 n.number r.id (tpn - r.base) a) s

/-- The next pending page of a State whose capture is not under way, in ascending TPN order. -/
def nextPending (s : State) (n : Snap) : Option (Nat × Nat × Nat) :=
  let l := n.pending.filterMap (fun p => (findRegion s p.1).map (fun q => (q.2.base + p.2, p.1, p.2)))
  let free := l.filter (fun p => !(s.snap.caps.any (fun c => c.number = n.number ∧ c.tpn = p.1))
    && !(s.fix.dirty.any (fun d => d.tpn = p.1 ∧ d.imaging)))
  free.foldl (fun (m : Option (Nat × Nat × Nat)) p => match m with
    | none => some p
    | some q => if p.1 < q.1 then some p else m) none
/-- R366: the coordinator captures the next pending page of a settling State. -/
def doStateSettle (number : Nat) (s : State) : State :=
  match (live s).snaps.find? (fun n => n.number = number) with
  | none => s
  | some n =>
    if n.phase ≠ .settling then s
    else match nextPending s n with
      | none => s
      | some (tpn, region, page) =>
        if pageAbsent s tpn then demandPage tpn s
        else
          let dram := inDram (dirOf s tpn)
          let c : Cap := ⟨number, tpn, region, page, (dirOf s tpn).tenant, dram, false, readPage s tpn⟩
          let s1 := updSnap (fun x => { x with caps := x.caps ++ [c] }) s
          if dram then beginImage tpn s1 else s1

/-- R364, R366: a capture's four units are programmed in the journal head. The State takes an entry where the page changed
or lies on NAND; a DRAM-tier capture is also a journal image. A failed program is repeated. -/
def doStateCaptureDone (number tpn : Nat) (ok : Bool) (s : State) : State :=
  match s.snap.caps.find? (fun c => c.number = number ∧ c.tpn = tpn) with
  | none => s
  | some c =>
    if !ok then s
    else match programImage tpn c.data s with
      | none => s
      | some (e, s1) =>
        let s2 := updSnap (fun x => { x with caps := x.caps.filter (fun y => !(decide (y.number = number) && decide (y.tpn = tpn))) }) s1
        let here := (dirOf s2 tpn).home ≠ .none && c.dram && inDram (dirOf s2 tpn)
        let changed := c.first || !(dirOf s2 tpn).held
        let has := ((live s2).snaps.find? (fun n => n.number = number)).any (fun n => (snapEntry n c.region c.page).isSome)
        let s3 := when_ ((changed || !c.dram) && !has) (addEntry number ⟨c.region, c.page, c.tenant, .image e⟩) s2
        let s4 := if !here then s3 else if c.first then setImage tpn e s3 else recordImage tpn e s3
        bump 0x701a02 (settled1 number c.region c.page s4)

/-- R369: a State's retention expires. -/
def doStateRetentionExpire (number : Nat) (s : State) : State :=
  match (live s).snaps.find? (fun n => n.number = number) with
  | some n => if n.expires ≠ 0 && rtcReached s.rtc n.expires && n.phase ≠ .cutting then deleteSnap number s else s
  | none => s

/-! ## The command engine (R371, R531) -/

/-- A State command reports its status and result, and its claim is released. -/
def finishState (status result : Nat) (s : State) : State :=
  let s1 := dset 0x371002 status (dset 0x371003 (if status = 0 then result else 0) (updSnap (fun x => { x with run := none }) s))
  if s1.eng.claimed.contains 0x3710 then
    sendCtl (.claimRelease 0x3710) none (updEng (fun e => { e with claimed := dropSet e.claimed 0x3710 }) s1)
  else s1

/-- The number of a new State: one above the last issued, past 65,535 to 1, skipping numbers held (R358). -/
def nextNumber (s : State) : Nat :=
  let cand := (List.range 257).map (fun i => ((live s).lastState + i) % 65535 + 1)
  (cand.find? (fun c => (live s).snaps.all (fun n => decide (n.number ≠ c)))).getD 1

/-- Regions a cut covers, with their sizes (R357). -/
def cutScope (s : State) (all : Bool) (tenant : Nat) : List (Nat × Nat) :=
  (live s).regions.filterMap (fun p => if all || p.2.tenant = tenant then some (p.2.id, p.2.pages) else none)
/-- A page of the scope is pending (R363). -/
def isPending (s : State) (tpn : Nat) : Bool :=
  match (dirOf s tpn).home with
  | .dram _ => isDirty s tpn
  | .nand _ lpn => s.nand.merge.any (fun m => m.lunit / 4 = lpn) || s.cs.slices.any (fun p =>
      p.2.wbs.any (fun w => w.line / 512 = tpn) || p.2.lines.any (fun q => q.2.dirty && lineOfSet p.1 (q.1 / 16) q.2.tag / 512 = tpn))
  | .none => false
/-- The slices take their cut point for the lines of own, or of the twin's, regions: HELD is set over the scope and the
pages pending now are noted (R360, R363). -/
def takePoint (own : Bool) (s : State) : State :=
  match s.snap.cut with
  | none => s
  | some c =>
    let s1 := if (live s).snaps.any (fun n => n.number = c.number) then s
      else
        let n : Snap := ⟨c.number, .cutting, c.all, c.tenant, cutScope s c.all c.tenant, 0, 0, [], [], [], s.cp.twin = .inSync, incarnation s⟩
        updLive (fun t => { t with snaps := n :: t.snaps }) s
    let mine := (live s1).regions.filterMap (fun p =>
      if (c.all || p.2.tenant = c.tenant) && (ownsRegion s1 p.2 = own) then some p.2 else none)
    let pages := fun (r : Region) => ((live s1).dir.filterMap (fun d => if r.base ≤ d.1 ∧ d.1 < r.base + r.pages then some d.1 else none))
    let hold := fun (p : Nat × DirEntry) =>
      if mine.any (fun r => r.base ≤ p.1 ∧ p.1 < r.base + r.pages) then (p.1, { p.2 with held := true }) else p
    let s2 := updLive (fun t => { t with dir := t.dir.map hold }) s1
    let pend := mine.flatMap (fun r => ((pages r).filter (isPending s1)).map (fun t => (r.id, t - r.base)))
    modSnap c.number (fun n => { n with pending := n.pending ++ pend }) s2

/-- Responses held back since the mark go out (R359 step 5). -/
def releaseHeld (s : State) : State :=
  let held := s.snap.heldOut
  each held toHost (updSnap (fun x => { x with cut := none, heldOut := [] }) s)
/-- The cut ends: the State is held, the responses are released, and the command reports its number. -/
def releaseCut (s : State) : State :=
  match s.snap.cut with
  | none => s
  | some c =>
    let f := fun (n : Snap) => { n with
      phase := if n.pending.isEmpty then StatePhase.fixed else .settling, scope := cutScope s c.all c.tenant, cutAt := s.rtc,
      expires := if c.retain = 0 then 0 else (s.rtc + c.retain * 1000) % 2 ^ 32 }
    let s1 := logRecs 1 (updLive (fun t => { t with lastState := c.number }) (modSnap c.number f s))
    let s2 := bump 0x701a01 (releaseHeld s1)
    if c.own then finishState 0 c.number s2 else s2

/-- CUT past its claim (R359 step 1): every port is told to mark, and in sync the twin to begin. From here on responses
are held back. -/
def runCut (b : StateBlock) (s : State) : State :=
  if s.snap.cut.isSome then finishState 1 0 s
  else if (live s).snaps.length ≥ 256 then finishState 5 0 s
  else if mediaFull s then finishState 0x0a 0 s
  else
    let n := nextNumber s
    let s1 := updSnap (fun x => { x with cut := some ⟨n, 2, true, b.all, b.tenant, b.retain, s.cp.twin ≠ .inSync, []⟩ }) s
    when_ (decide (s.cp.twin = .inSync)) (sendCtl (.stateBegin n b.all b.tenant b.retain) none) s1

/-- CLONE past its claim (R372): the checks of Table 13.4, then the new region, told to the twin first in the states of
R531. -/
def runClone (b : StateBlock) (s : State) : State :=
  match (live s).snaps.find? (fun n => n.number = b.stateNo) with
  | none => finishState 2 0 s
  | some n =>
    match n.scope.find? (fun p => p.1 = b.region), findRegion s b.newRegion with
    | none, _ => finishState 2 0 s
    | _, some _ => finishState 2 0 s
    | some (_, pages), none =>
      let tenant := match findRegion s b.region with
        | some (_, r) => r.tenant
        | none => ((n.entries.find? (fun e => e.region = b.region)).map (·.tenant)).getD n.tenant
      if !(tenantOf s tenant).enable || tenantRegions s tenant ≥ (tenantOf s tenant).maxRegions then finishState 3 0 s
      else if !tierFits s tenant b.tier pages then finishState 4 0 s
      else if n.phase ≠ .fixed then finishState 6 0 s
      else match findSlot s, findBase s pages with
        | none, _ => finishState 5 0 s
        | _, none => finishState 7 0 s
        | some slot, some base =>
          let e := regionElem slot ⟨b.newRegion, .active, b.owner, tenant, pages, base⟩ (if b.tier = 0 then pages else 0) (if b.tier = 0 then 0 else pages)
          let run : CloneRun := ⟨n.number, b.region, b.newRegion, span base 0 pages, []⟩
          let s1 := updSnap (fun x => { x with clone := some run }) (draw (draw s))
          if pairWorks s1 then sendCtl (.table e) none s1 else finishState 0 base (applyElem e s1)
/-- The twin's verdict on the region a CLONE creates. -/
def cloneVerdict (accept : Bool) (e : TableElem) (s : State) : State :=
  match e with
  | .region _ _ _ _ _ _ base _ _ =>
    if accept then finishState 0 base (applyElem e s) else finishState 4 0 (updSnap (fun x => { x with clone := none }) s)
  | _ => s

/-- Run a State command once its claim is held, or where none is taken. -/
def startState (code : Nat) (b : StateBlock) (s : State) : State :=
  match code with
  | 1 => runCut b s
  | 2 => if (live s).snaps.any (fun n => n.number = b.stateNo && n.phase ≠ .cutting) then finishState 0 0 (deleteSnap b.stateNo s) else finishState 2 0 s
  | 3 => runClone b s
  | _ =>
    if (live s).snaps.any (fun n => n.number = b.stateNo && n.phase ≠ .cutting) then
      finishState 0 0 (logRecs 1 (modSnap b.stateNo (fun n => { n with
        expires := if b.retain = 0 then 0 else (s.rtc + b.retain * 1000) % 2 ^ 32 }) s))
    else finishState 2 0 s

/-- The statuses a block draws before the State tables are read (R373, Table 13.4). -/
def stateStatus (s : State) (code : Nat) (b : StateBlock) : Option Nat :=
  if code = 0 ∨ code > 4 then some 8
  else if !cmdMode s (code = 2) then some 9
  else if code = 3 && (b.tier > 1 || b.newRegion = 0 || b.newRegion = 0xffffffff) then some 8
  else if code = 3 && b.owner ≠ s.rst.node && b.owner ≠ s.cp.twinNode then some 8
  else if code = 3 && b.owner ≠ s.rst.node && s.cp.twin ≠ .inSync then some 9
  else if code = 3 && s.snap.clone.isSome then some 1 else none

/-- The value of the block (Table 13.2). -/
def stateBlockValue (code : Nat) (b : StateBlock) : Nat :=
  blockValue [code % 256 * 2 ^ 24 + b2n b.all * 2 ^ 16 + b.tenant % 256 * 2 ^ 8 + b.tier % 256, b.stateNo % 65536, b.region, b.newRegion, b.owner % 128, b.retain]
/-- A block is written to 0x3710.01 (R371). -/
def stateCommand (code : Nat) (b : StateBlock) (s : State) : State :=
  dictGuard 0x3710 1 true (fun a =>
    if b.reserved ≠ 0 then dictRefuse 0x3710 1 0x06040002 a
    else if dget a 0x371002 = 255 then dictRefuse 0x3710 1 0x06050002 a
    else keepBlock 0x371001 (stateBlockValue code b) (dictDone 0x3710 1 (
      match stateStatus a code b with
      | some st => finishState st 0 a
      | none =>
        let a1 := dset 0x371002 255 (updSnap (fun x => { x with run := some (code, b) }) a)
        if !pairWorks a then startState code b a1
        else if a.eng.twinClaims.contains 0x3710 then finishState 1 0 a1
        else sendCtl (.claim 0x3710) none (updEng (fun e => { e with asked := insertSet e.asked 0x3710 }) a1)))) s

/-- R359: CUT. -/
def doCut (b : StateBlock) (s : State) : State := stateCommand 1 b s
/-- R369: DELETE of a State. -/
def doStateDelete (b : StateBlock) (s : State) : State := stateCommand 2 b s
/-- R372: CLONE. -/
def doClone (b : StateBlock) (s : State) : State := stateCommand 3 b s
/-- R371: SET_RETAIN. -/
def doSetRetain (b : StateBlock) (s : State) : State := stateCommand 4 b s

/-! ## The cut's steps -/

/-- The twin's part is done: its own report and the points of all 14 slices of the initiator (R359). -/
def twinReady (c : Cut) : Bool := !c.own && c.step ≥ 4 && c.points.length ≥ 14
/-- The twin confirms with SUB 2; its responses stay held until the command claim is released. -/
def confirmCut (s : State) : State :=
  match s.snap.cut with
  | some c => if twinReady c then
      sendCtl (.stateConfirm c.number) none (updSnap (fun x => { x with cut := some { c with step := 5 } }) s)
    else s
  | none => s
/-- R359 steps 2 and 3: every port has marked; the slices take their points, and each data slice tells the twin on its
half, after the records of the lines it applied. -/
def doCutMarksReported (s : State) : State :=
  match s.snap.cut with
  | none => s
  | some c =>
    if c.step ≠ 2 then s
    else
      let s1 := takePoint true (updSnap (fun x => { x with cut := some { c with step := 3 } }) s)
      let s2 := when_ (decide (s1.cp.twin ≠ .inSync)) (takePoint false) s1
      when_ (decide (s.cp.twin = .inSync)) (each (List.range 14) (fun n a =>
        sendOn (if (halfOf a (if n ≤ 6 then 0 else 1)).st = .service then (if n ≤ 6 then 0 else 1) else (if n ≤ 6 then 1 else 0))
          (.statePoint c.number n) none a)) s2
/-- R359 steps 3 to 5: slices and channels have reported; without a twin to wait for, the responses are released. `ns` is
the duration measured (0x3700.05). -/
def doCutPointsReported (ns : Nat) (s : State) : State :=
  match s.snap.cut with
  | none => s
  | some c =>
    if c.step ≠ 3 then s
    else
      let s1 := dset 0x370005 (ns % 2 ^ 32) (updSnap (fun x => { x with cut := some { c with step := 4 } }) s)
      if !c.own then confirmCut s1 else if c.twinDone then releaseCut s1 else s1

/-! ## CLONE (R367, R372) -/

/-- What an entry's content reads as. -/
def heldContent (s : State) (h : Held) : Mem :=
  match h with
  | .zero => []
  | .image e => imageData s e
  | .units l => ((List.range 4).zip l).foldl (fun m p => m ++ (match p.2 with
      | some pl => (unitData s pl).map (fun c => (c.1 + p.1 * 16384, c.2))
      | none => [])) []
/-- State n reads a page (R367): its own entry, the oldest newer State's, or the live page's durable contents. -/
def stateContent (s : State) (number region page : Nat) : Mem :=
  let newer := ((live s).snaps.takeWhile (fun n => n.number ≠ number)).reverse
  let self := (live s).snaps.filter (fun n => n.number = number)
  match (self ++ newer).findSome? (fun n => snapEntry n region page) with
  | some e => heldContent s e.content
  | none => match findRegion s region with
    | some (_, r) => heldContent s (durableOf s (r.base + page))
    | none => []
/-- R372: the next page of a CLONE is copied, or one that a request waits for; each line is written at its home slice
and mirrored. An unreadable source that the twin's State cannot supply poisons the new page. -/
def doClonePageCopy (readable : Bool) (s : State) : State :=
  match s.snap.clone with
  | none => s
  | some c =>
    match c.asked ++ c.todo, findRegion s c.target with
    | tpn :: _, some (_, r) =>
      let twinHas := ((live s).snaps.find? (fun n => n.number = c.number)).any (·.twinHolds) && linkUp s
      let rest := dropSet c.todo tpn
      let s1 := updSnap (fun x => { x with clone := if rest.isEmpty then none else some { c with todo := rest, asked := dropSet c.asked tpn } }) s
      if !readable && !twinHas then bump 0x701a05 (poisonPage tpn 2 s1)
      else
        let data := stateContent s c.number c.source (tpn - r.base)
        if data.isEmpty then bump 0x701a05 s1
        else
          let s2 := changePage tpn s1
          let put := fun i (a : State) =>
            let piece := mslice data (i * 128) 128
            let line := tpn * 512 + i
            handLine line (.write line 0 (mbytes piece 0 128) none) none (homeWrite line piece a)
          bump 0x701a05 (each (List.range 512) put s2)
    | _, _ => s

/-! ## The meanings: each completes -/

/-- CUT (R359). -/
def execCut (b : StateBlock) (s : State) : Result := .next (doCut b s)
/-- STATE_DELETE (R369). -/
def execStateDelete (b : StateBlock) (s : State) : Result := .next (doStateDelete b s)
/-- CLONE (R372). -/
def execClone (b : StateBlock) (s : State) : Result := .next (doClone b s)
/-- SET_RETAIN (R371). -/
def execSetRetain (b : StateBlock) (s : State) : Result := .next (doSetRetain b s)
/-- CUT_MARKS_REPORTED (R359). -/
def execCutMarksReported (s : State) : Result := .next (doCutMarksReported s)
/-- CUT_POINTS_REPORTED (R359). -/
def execCutPointsReported (ns : Nat) (s : State) : Result := .next (doCutPointsReported ns s)
/-- STATE_CAPTURE_DONE (R366). -/
def execStateCaptureDone (number tpn : Nat) (ok : Bool) (s : State) : Result := .next (doStateCaptureDone number tpn ok s)
/-- STATE_SETTLE (R366). -/
def execStateSettle (number : Nat) (s : State) : Result := .next (doStateSettle number s)
/-- STATE_RETENTION_EXPIRE (R369). -/
def execStateRetentionExpire (number : Nat) (s : State) : Result := .next (doStateRetentionExpire number s)
/-- CLONE_PAGE_COPY (R372). -/
def execClonePageCopy (readable : Bool) (s : State) : Result := .next (doClonePageCopy readable s)

end Sys2Proof.Machine
end

