-- ==== Sys2Proof/Machine/Dram.lean ====
section
/-! DEFINITION. The DRAM subsystem (chapter 8): error correction and the log (R216–R219), recovery of a word (R221), the
repair ladder (R224, R225, R227), refresh (R202–R204), panic (R199), power states (R205), training and retraining
(R206–R210), the loss of a channel (R211, R215) and hard repair (R228). -/
namespace Sys2Proof.Machine
open Sys2Proof

/-! ## Bursts and refresh -/

/-- The real-time burst of a channel (R199). -/
def inBurst (c : Channel) : Bool := c.panicCp || c.panicFx
/-- R199: panic is raised; every rank leaves power-down. -/
def doPanicRaise (channel : Fin 32) (fixative : Bool) (s : State) : State :=
  let n := channel.val
  if !servingChan s n then s
  else
    let up := fun (c : Channel) => if fixative then { c with panicFx := true, rankPower := [0, 0] } else { c with panicCp := true, rankPower := [0, 0] }
    when_ (!inBurst (chanOf s n)) (bump 0x701502) (setChan n up s)
/-- R199: panic is cleared. -/
def doPanicClear (channel : Fin 32) (fixative : Bool) (s : State) : State :=
  setChan channel.val (fun c => if fixative then { c with panicFx := false } else { c with panicCp := false }) s
/-- R202: a refresh falls due on subchannel-rank A0, A1, B0 or B1: postponed in a burst while the count is below 8. -/
def doRefreshDue (channel : Fin 32) (subrank : Fin 4) (s : State) : State :=
  let c := chanOf s channel.val
  let n := (c.post[subrank.val]?).getD 0
  if !servingChan s channel.val || !inBurst c || (c.rankPower[subrank.val % 2]?).getD 0 = 2 then s
  else if n < 8 then bump 0x701503 (setChan channel.val (fun x => { x with post := x.post.set subrank.val (n + 1) }) s)
  else bump 0x701504 s
/-- R203: after a burst one owed refresh is issued. -/
def doRefreshCatchup (channel : Fin 32) (subrank : Fin 4) (s : State) : State :=
  let c := chanOf s channel.val
  if inBurst c then s else setChan channel.val (fun x => { x with post := x.post.set subrank.val ((x.post[subrank.val]?).getD 0 - 1) }) s
/-- R205: an idle rank goes down by the policy in force: never under Latency, power-down otherwise, self-refresh at the
second threshold under Endurance. -/
def doRankIdleTimeout (channel : Fin 32) (rank : Fin 2) (s : State) : State :=
  let c := chanOf s channel.val
  if !servingChan s channel.val || inBurst c || c.policy = 1 then s
  else
    let now := (c.rankPower[rank.val]?).getD 0
    let deeper := if now = 0 then 1 else if c.policy = 3 then 2 else now
    let post := if deeper = 2 then (c.post.set rank.val 0).set (rank.val + 2) 0 else c.post
    setChan channel.val (fun x => { x with rankPower := x.rankPower.set rank.val deeper, post := post }) s
/-- A bank's activation is counted and RFM issued at RAAIMT, or RAAMMT in a burst (R204). -/
def activate (n : Nat) (e : DramWord) (s : State) : State :=
  if Config.raaimt = 0 then s
  else
    let c := chanOf s n
    let bank := (((e.sub * 2 + e.rank) * 2 + e.cid) * 8 + e.bg) * 4 + e.ba
    let raa := tget 0 c.raa bank + 1
    let at_ := if inBurst c then Config.raammt else Config.raaimt
    if raa ≥ at_ then bump 0x701505 (setChan n (fun x => { x with raa := tset 0 x.raa bank (raa - Config.raaimt) }) s)
    else setChan n (fun x => { x with raa := tset 0 x.raa bank raa }) s
/-- R197: the controller drains writes from 40 queued to 16. -/
def drainWrites (n : Nat) (s : State) : State :=
  let mine := (s.cs.slices.map (fun p => (p.2.wbs.filter (fun w => match (dirOf s (lineTpn w.line)).home with
    | .dram f => decide (f % 32 = n) | _ => false)).length)).foldl (· + ·) 0
  setChan n (fun c => { c with draining := if mine ≥ 40 then true else if mine ≤ 16 then false else c.draining }) s

/-! ## Loss of a channel (R211, R166, R215) -/

/-- All 512 lines of a page stand in the slices or their write-back buffers. -/
def wholeInSlices (s : State) (tpn : Nat) : Bool :=
  (List.range 512).all (fun i =>
    let sl := sliceOf s (homeSlice (tpn * 512 + i))
    (cached sl (tpn * 512 + i)).isSome || sl.wbs.any (fun w => w.line = tpn * 512 + i))
/-- A channel is lost: its record and bit, its domain off, its reserve group degraded (a second loss there raises
RESERVE_DOUBLE), pages that no copy supplies poisoned, the rest moved to other channels (Table 6.5). -/
def loseChannel (n cause sub rank : Nat) (s : State) : State :=
  if (chanOf s n).st = .lost then s
  else
    let s1 := faultHandled (post 0x0303 2 n (leBytes 1 cause ++ leBytes 1 sub ++ leBytes 1 rank)
      (setChan n (fun c => { c with st := .lost, panicCp := false, panicFx := false, draining := false }) s))
    let s2 := updRst (fun r => { r with powered := clrBit r.powered (16 + n), offFault := setBit r.offFault (16 + n) })
      (dset (chanKey n 8) 0 s1)
    let g := n / 8
    let s3 := if s.dram.degraded.contains g then
        raiseKeep 8 (updDram (fun d => { d with doubleLost := insertSet d.doubleLost g }) s2)
      else updDram (fun d => { d with degraded := insertSet d.degraded g }) s2
    let mine := (live s).dir.filterMap (fun p => match p.2.home with | .dram f => if f % 32 = n then some p.1 else none | _ => none)
    let s4 := if s.cp.twin = .inSync then s3
      else each (mine.filter (fun t => isDirty s t && !wholeInSlices s t && !s.rec_.unrestored.contains t)) (fun t a => poisonPage t 1 a) s3
    let s5 := disarmAt [(0x0101, n), (0x0602, n), (0x0701, 0x200 + n)] s4
    ownMoves mine .channel 2 s5

/-! ## The error log and the ladder -/

/-- The log entry a new error of a word takes: none to raise, else a free place or the one replaced first (R218, R219). -/
def logRoom (l : List ErrEntry) : List ErrEntry :=
  if l.length < 64 then l
  else
    let older := fun (a b : ErrEntry) => decide ((b.last + 2 ^ 32 - a.last) % 2 ^ 32 < 2 ^ 31)
    let pick := fun (better : ErrEntry → ErrEntry → Bool) (c : List ErrEntry) => c.foldl (fun (m : Option ErrEntry) e => match m with
      | none => some e
      | some x => if better e x then some e else m) none
    let done := l.filter (fun e => e.step ≥ 2)
    let zero := l.filter (fun e => e.step = 0)
    let gone := if !done.isEmpty then pick older done
      else if !zero.isEmpty then pick (fun a b => decide (a.total < b.total) || (decide (a.total = b.total) && older a b)) zero
      else pick older l
    match gone with
    | some g => dropFirst (fun e => e.word = g.word && e.step = g.step) l
    | none => l
def rowOf (e : DramWord) : RowAddr := ⟨e.sub, e.rank, e.bg, e.ba, e.cid, e.row⟩
def wordKey (e : DramWord) : Nat := e.line * 2 + e.word % 2
/-- The open entry of a word: one at STEP 0 or 1. -/
def openEntry (c : Channel) (word : Nat) : Option ErrEntry := c.log.find? (fun e => e.word = word ∧ e.step < 2)
def setEntry (n word : Nat) (f : ErrEntry → ErrEntry) (s : State) : State :=
  setChan n (fun c => { c with log := modFirst (fun e => e.word = word ∧ e.step < 2) f c.log }) s
/-- The 16 bytes of an entry (Table 8.8), least significant first. -/
def entryBytes (e : ErrEntry) : Bytes :=
  leBytes 16 (2 ^ 127 + b2n e.kind * 2 ^ 126 + e.step % 4 * 2 ^ 124 + e.device % 16 * 2 ^ 120 + e.at_.sub % 2 * 2 ^ 119
    + e.at_.rank % 2 * 2 ^ 118 + e.at_.cid % 2 * 2 ^ 117 + e.at_.bg % 8 * 2 ^ 112 + e.at_.ba % 4 * 2 ^ 110
    + e.at_.row % 131072 * 2 ^ 93 + e.col % 128 * 2 ^ 86 + e.cnt % 256 * 2 ^ 64 + e.total % 65536 * 2 ^ 48 + e.last % 2 ^ 32)
def repairRecord (n : Nat) (a : RowAddr) (what : Nat) (s : State) : State :=
  post 0x0302 1 n (leBytes 1 a.sub ++ leBytes 1 a.rank ++ leBytes 1 a.bg ++ leBytes 1 a.ba ++ leBytes 4 a.row ++ leBytes 1 what ++ leBytes 1 a.cid) s
/-- Frames with lines in a word's row: one under orders T and E, eight under L (R227). -/
def rowFrames (s : State) (line : Nat) : List Nat :=
  match (dirOf s (lineTpn line)).home with
  | .dram f => if s.dram.mapOrder = 1 then (List.range 8).map (fun i => (f / 32 / 8 * 8 + i) * 32 + f % 32) else [f]
  | _ => []
/-- Frames are retired and their pages moved (R227). -/
def retireFrames (n : Nat) (a : RowAddr) (frames : List Nat) (s : State) : State :=
  let fresh := frames.filter (fun f => !(live s).retiredFrames.contains f)
  let s1 := updLive (fun t => { t with retiredFrames := fresh.foldl insertSet t.retiredFrames }) s
  let s2 := setChan n (fun c => { c with retired := c.retired + fresh.length }) s1
  let pages := (live s).dir.filterMap (fun p => match p.2.home with | .dram f => if fresh.contains f then some p.1 else none | _ => none)
  ownMoves pages .frame 1 (repairRecord n a 2 s2)
/-- Repair a row: by sPPR while the bank group's resource is unused, else by retiring its frames (R224, R225, R227).
Answers the STEP reached. -/
def repairRow (n line : Nat) (a : RowAddr) (s : State) : Nat × State :=
  let res := (a.sub, a.rank, a.bg, a.cid)
  if (chanOf s n).spprUsed.contains res then (3, retireFrames n a (rowFrames s line) s)
  else
    let add := fun (c : Channel) => { c with spprUsed := c.spprUsed ++ [res], repairs := c.repairs ++ [a] }
    (2, bump 0x701507 (repairRecord n a 1 (setChan n add s)))
/-- CNT has reached 4 (Table 8.5): the line is written back, then the row repaired. -/
def climbLadder (n line : Nat) (e : ErrEntry) (s : State) : State :=
  if e.step = 0 then bump 0x701506 (setEntry n e.word (fun x => { x with cnt := 0, step := 1 }) s)
  else
    let (st, s1) := repairRow n line e.at_ s
    setEntry n e.word (fun x => { x with cnt := 0, step := st }) s1
/-- R218: a corrected word is counted and logged, and its ladder advances. An injected error enters no log. -/
def correctable (n : Nat) (e : DramWord) (s : State) : State :=
  let s1 := bump (chanKey n 2) (setChan n (fun c => { c with
    corrections := c.corrections.filter (fun t => (s.rtc + 2 ^ 32 - t) % 2 ^ 32 < 1000) ++ [s.rtc] }) s)
  if s.pres.injecting then s1
  else
    let w := wordKey e
    let put : ErrEntry := match openEntry (chanOf s n) w with
      | some x => { x with cnt := x.cnt + 1, total := min 65535 (x.total + 1), last := s.rtc, device := e.device }
      | none => ⟨w, false, 0, 1, 1, s.rtc, e.device, e.col, rowOf e⟩
    let s2 := match openEntry (chanOf s n) w with
      | some _ => setEntry n w (fun _ => put) s1
      | none => setChan n (fun c => { c with log := logRoom c.log ++ [put] }) s1
    if put.cnt ≥ 4 then climbLadder n e.line put s2 else s2

/-! ## Recovery (R221) -/

/-- A recovered word's log entry goes to STEP 2 or 3 at once (R225), and the record names the recovery step. -/
def recovered (n line step : Nat) (s : State) : State :=
  let s0 := updDram (fun d => { d with waiters := d.waiters.filter (fun p => p.1 ≠ line) }) s
  if s.pres.injecting then s0
  else match (chanOf s n).log.find? (fun e => e.kind && e.word / 2 = line && e.step < 2) with
    | none => s0
    | some e =>
      let s1 := post 0x0301 2 n (entryBytes e ++ leBytes 1 step) s0
      let (st, s2) := repairRow n line e.at_ s1
      setEntry n e.word (fun x => { x with step := st }) s2
/-- Steps 3 and 4: the page's journal image when it is clean, else poison. -/
def recoverLocal (n line : Nat) (imageOk : Bool) (s : State) : State :=
  let tpn := lineTpn line
  let e := tget {} (live s).images tpn
  if imageOk && !isDirty s tpn && e.st = 1 then
    recovered n line 3 (homeWrite line (mslice (imageData s e) (lineIdx line * 128) 128) s)
  else if s.pres.injecting then recovered n line 4 s
  else recovered n line 4 (poisonPage tpn 1 s)
/-- R221: an uncorrectable word is counted and logged with KIND 1 and recovered: from reserve parity, from the twin while
in sync, from the image, or its page is poisoned. -/
def uncorrectable (n : Nat) (e : DramWord) (s : State) : State :=
  let s1 := bump (chanKey n 3) s
  let entry : ErrEntry := ⟨wordKey e, true, 0, 0, 0, s.rtc, e.device, e.col, rowOf e⟩
  let s2 := if s.pres.injecting then s1 else setChan n (fun c => { c with log := logRoom c.log ++ [entry] }) s1
  if e.line ≥ 2 ^ 41 then recovered n e.line 1 (bump 0x701508 s2)
  else if s.cp.twin = .inSync then
    let s3 := updDram (fun d => { d with waiters := d.waiters ++ [(e.line, n)] }) s2
    updCp (fun c => { c with fetches := c.fetches ++ [⟨e.line, .dramWord⟩] }) (sendOn (halfFor s3 e.line) (.fetch e.line false) none s3)
  else recoverLocal n e.line e.retryOk s2

/-- R216: a read returns. A real error is handled; otherwise an armed point 0x0101 may make one (R469). -/
def readWord (n : Nat) (e : DramWord) (s0 : State) : State :=
  let s := drainWrites n (activate n e s0)
  if e.verdict = 1 then correctable n e s
  else if e.verdict ≥ 2 then uncorrectable n e s
  else match fireRecorded 0x0101 n [1] s with
    | some p => injected (correctable n e) p.2
    | none => match fire 0x0101 n [2] s with
      | some p => injected (fun a => uncorrectable n e (post 0x0301 2 n (entryBytes ⟨wordKey e, true, 0, 0, 0, s.rtc, e.device, e.col, rowOf e⟩
          ++ leBytes 1 (if e.line ≥ 2 ^ 41 then 1 else if s.cp.twin = .inSync then 2 else if isDirty s (lineTpn e.line) then 4 else 3)) a)) p.2
      | none => s
/-- R216: a DRAM read returns and its ECC word is decoded. -/
def doDramReadDone (channel : Fin 32) (e : DramWord) (s : State) : State :=
  if servingChan s channel.val then readWord channel.val e s else s

/-- ECC words of a channel. -/
def channelWords (s : State) : Nat := s.rst.options.density * s.rst.options.ranks * 2 * 2 ^ 30 / 64
/-- Burnisher passes every live channel has finished. -/
def scrubPasses (s : State) : Nat :=
  (((List.range 32).filter (servingChan s)).map (fun c => (chanOf s c).patrol / max 1 (channelWords s))).foldl
    (fun (m : Option Nat) x => some (match m with | none => x | some y => min x y)) none |>.getD 0
/-- R220: the Burnisher reads the next word, pausing in bursts; a pass over every channel raises 0x3240.06. -/
def doBurnisherScrub (channel : Fin 32) (e : DramWord) (s : State) : State :=
  let n := channel.val
  if !servingChan s n || inBurst (chanOf s n) then s
  else
    let s1 := setChan n (fun c => { c with patrol := c.patrol + 1 }) (readWord n e s)
    when_ (decide (scrubPasses s < scrubPasses s1)) (bump32 0x324006) s1

/-! ## Training (R206–R210) -/

/-- R206: a channel ends fast restore or full training; its repair list is reapplied by sPPR (R226). `preserved` tells
whether its contents were retained: a warm start needs that of every channel (R331). A channel that fails goes on
training until its deadline. -/
def doDramTrainingDone (channel : Fin 32) (margin : Nat) (ok preserved : Bool) (s : State) : State :=
  let n := channel.val
  if (chanOf s n).st ≠ .training || !ok then s
  else
    let up := fun (c : Channel) => { c with
      st := .serving, margin := margin, trainTemp := s.md.hot, saved := true, rankPower := [0, 0], post := [0, 0, 0, 0],
      spprUsed := (c.repairs.map (fun a => (a.sub, a.rank, a.bg, a.cid))).eraseDups, policy := 2 }
    let s1 := setChan n up s
    if preserved then s1 else updRecall (fun r => { r with reserveSeal := none }) s1
/-- R206: 150 ms after PWRGD, or after the last hPPR programming, a channel not yet trained is lost. -/
def doTrainingDeadline (s : State) : State :=
  if s.md.mode ≠ .recall || s.dram.hpprRun then s
  else each ((List.range 32).filter (fun n => (chanOf s n).st = .training)) (fun n a => loseChannel n 4 0xff 0xff a)
    (if (List.range 32).any (fun n => (chanOf s n).st = .training) then updRecall (fun r => { r with reserveSeal := none }) s else s)
/-- R208: ZQ calibration of a serving channel; it changes no state the specification names. -/
def doZqCalibrationTick (channel : Fin 32) (s : State) : State :=
  if servingChan s channel.val then setChan channel.val (fun c => { c with rankPower := [0, 0] }) s else s
/-- R208: the DQS oscillator is read and the write timing corrected where it drifted; the ranks are awake for it. -/
def doDqsOscillatorTick (channel : Fin 32) (drift : Bool) (s : State) : State :=
  if servingChan s channel.val && drift then setChan channel.val (fun c => { c with rankPower := [0, 0], saved := true }) s else s
/-- A serving channel begins to retrain (R209). -/
def beginRetrain (n : Nat) (s : State) : State :=
  if (chanOf s n).st = .serving then
    dset (chanKey n 8) 1 (setChan n (fun c => { c with st := .retraining }) s)
  else s
/-- R209: a temperature change of 0x3240.07 degrees, or more than 256 corrections in a second. -/
def doRetrainStart (channel : Fin 32) (temp : Int) (s0 : State) : State :=
  let s := setChan channel.val (fun c => { c with highTemp := decide (temp > 85) }) s0
  let c := chanOf s channel.val
  let hot := decide ((temp - c.trainTemp).natAbs ≥ dget s 0x324007)
  let many := decide ((c.corrections.filter (fun t => (s.rtc + 2 ^ 32 - t) % 2 ^ 32 < 1000)).length > 256)
  if hot || many then beginRetrain channel.val s else s
/-- R209: 1 is written to 0x3200+n.08. -/
def doRetrainRequest (channel : Fin 32) (s : State) : State :=
  dictGuard (0x3200 + channel.val) 8 false (fun a => dictDone (0x3200 + channel.val) 8 (beginRetrain channel.val a)) s
/-- R209, R210: retraining ends re-centred, or the channel is lost for want of margin on a subchannel-rank. -/
def doRetrainDone (channel : Fin 32) (margin : Nat) (temp : Int) (failing : Option (Nat × Nat)) (s : State) : State :=
  let n := channel.val
  if (chanOf s n).st ≠ .retraining then s
  else match failing with
    | some (sub, rank) => loseChannel n 1 sub rank s
    | none => bump 0x701509 (dset (chanKey n 8) 0 (setChan n (fun c => { c with
        st := .serving, margin := margin, trainTemp := temp, highTemp := decide (temp > 85), corrections := [], saved := true }) s))
/-- R214: the lost share is copied and the group's parity recomputed: it is no longer degraded. -/
def doReserveRebuildDone (group : Fin 4) (s : State) : State :=
  if s.dram.doubleLost.contains group.val then s
  else updDram (fun d => { d with degraded := dropSet d.degraded group.val }) s
/-- R228: in a maintenance start the rows hPPR could take leave the repair list and free their sPPR resources; 0x3240.0b
clears; training begins and the timeline runs from here. -/
def doHpprProgrammingDone (s : State) : State :=
  if !s.dram.hpprRun then s
  else
    let fix := fun (a : State) (n : Nat) =>
      let k := min (chanOf a n).repairs.length (Config.hpprRows n)
      setChan n (fun c => { c with repairs := c.repairs.drop k, hppr := c.hppr + k }) a
    dset 0x32400b 0 (updDram (fun d => { d with hpprRun := false }) ((List.range 32).foldl fix s))

/-! ## The meanings: each completes -/

/-- DRAM_READ_DONE (R216). -/
def execDramReadDone (channel : Fin 32) (e : DramWord) (s : State) : Result := .next (doDramReadDone channel e s)
/-- REFRESH_DUE (R202). -/
def execRefreshDue (channel : Fin 32) (subrank : Fin 4) (s : State) : Result := .next (doRefreshDue channel subrank s)
/-- REFRESH_CATCHUP (R203). -/
def execRefreshCatchup (channel : Fin 32) (subrank : Fin 4) (s : State) : Result := .next (doRefreshCatchup channel subrank s)
/-- PANIC_RAISE (R199). -/
def execPanicRaise (channel : Fin 32) (fixative : Bool) (s : State) : Result := .next (doPanicRaise channel fixative s)
/-- PANIC_CLEAR (R199). -/
def execPanicClear (channel : Fin 32) (fixative : Bool) (s : State) : Result := .next (doPanicClear channel fixative s)
/-- RANK_IDLE_TIMEOUT (R205). -/
def execRankIdleTimeout (channel : Fin 32) (rank : Fin 2) (s : State) : Result := .next (doRankIdleTimeout channel rank s)
/-- DRAM_TRAINING_DONE (R206). -/
def execDramTrainingDone (channel : Fin 32) (margin : Nat) (ok : Bool) (preserved : Bool) (s : State) : Result := .next (doDramTrainingDone channel margin ok preserved s)
/-- TRAINING_DEADLINE (R206). -/
def execTrainingDeadline (s : State) : Result := .next (doTrainingDeadline s)
/-- ZQ_CALIBRATION_TICK (R208). -/
def execZqCalibrationTick (channel : Fin 32) (s : State) : Result := .next (doZqCalibrationTick channel s)
/-- DQS_OSCILLATOR_TICK (R208). -/
def execDqsOscillatorTick (channel : Fin 32) (drift : Bool) (s : State) : Result := .next (doDqsOscillatorTick channel drift s)
/-- RETRAIN_START (R209). -/
def execRetrainStart (channel : Fin 32) (temp : Int) (s : State) : Result := .next (doRetrainStart channel temp s)
/-- RETRAIN_REQUEST (R209). -/
def execRetrainRequest (channel : Fin 32) (s : State) : Result := .next (doRetrainRequest channel s)
/-- RETRAIN_DONE (R210). -/
def execRetrainDone (channel : Fin 32) (margin : Nat) (temp : Int) (failing : Option (Nat × Nat)) (s : State) : Result := .next (doRetrainDone channel margin temp failing s)
/-- RESERVE_REBUILD_DONE (R214). -/
def execReserveRebuildDone (group : Fin 4) (s : State) : Result := .next (doReserveRebuildDone group s)
/-- BURNISHER_SCRUB (R220). -/
def execBurnisherScrub (channel : Fin 32) (e : DramWord) (s : State) : Result := .next (doBurnisherScrub channel e s)
/-- HPPR_PROGRAMMING_DONE (R228). -/
def execHpprProgrammingDone (s : State) : Result := .next (doHpprProgrammingDone s)

end Sys2Proof.Machine
end

