-- ==== Sys2Proof/Machine/Restore.lean ====
section
/-! DEFINITION. How Recall restores pages and ends (R340, R345–R348, R352, R355): the stages of the stream, a page
restored, the release of the dump plate, the end of Recall. -/
namespace Sys2Proof.Machine
open Sys2Proof

/-! ## The stream (R345, R352) -/

/-- The pages an extent names. -/
def extentPages (s : State) (e : Extent) : List Nat :=
  match findRegion s e.region with
  | some (_, r) => span (r.base + e.first) 0 e.pages
  | none => []
/-- The pages of a stage still to restore. -/
def stageLeft (s : State) (k : Nat) : List Nat :=
  let named := (s.rec_.orders.flatMap (fun l => l.filter (·.stage = k))).flatMap (extentPages s)
  s.rec_.unrestored.filter named.contains
/-- Dumped pages still to restore: the dump sweep. -/
def sweepLeft (s : State) : List Nat :=
  match s.rec_.dump with
  | some d => s.rec_.unrestored.filter (fun t => d.pages.any (fun p => p.1 = t))
  | none => []
/-- Some stage names a page. -/
def stageNames (s : State) (tpn : Nat) : Bool :=
  s.rec_.orders.any (fun l => l.any (fun e => match findRegion s e.region with
    | some (_, r) => decide (r.base + e.first ≤ tpn) && decide (tpn < r.base + e.first + e.pages)
    | none => false))
/-- What 0x3600.03 names still has pages to restore: stages 0–7, 8 the sweep, 9 the refill. -/
def streamLeft (s : State) (stage : Nat) : List Nat :=
  if stage < 8 then stageLeft s stage else if stage = 8 then sweepLeft s else s.rec_.unrestored
/-- The stage that follows: stage 0, the sweep, stages 1 to 7, the refill. -/
def nextStage (stage : Nat) : Nat := if stage = 0 then 8 else if stage = 8 then 1 else if stage < 7 then stage + 1 else 9
/-- Stages with nothing left to restore end; the end of stage 0 is timed (0x3600.05). -/
def advance : Nat → State → State
  | 0, s => s
  | n + 1, s =>
    if s.rec_.stage = 9 || !(streamLeft s s.rec_.stage).isEmpty then s
    else
      let s1 := when_ (decide (s.rec_.stage = 0)) (dset 0x360005 ((s.rtc + 2 ^ 32 - s.md.since) % 2 ^ 32)) s
      advance n (updRecall (fun r => { r with stage := nextStage r.stage }) s1)

/-! ## Release of a plate, and the end of Recall (R348, R355) -/

/-- The groups of a plate are to be erased, on every live die. -/
def erasePlate (plate : Nat) (s : State) : State :=
  each (liveDies s) (fun n a => each (areaGroups a (if plate = 0 then .plateA else .plateB)) (fun g b =>
    if (groupOf b n g).st = .retired then b
    else
      let b1 := setGroup n g (fun x => { x with st := .free }) b
      if (dieOf b1 n).ops.length < 8 then setDie n (fun d => { d with ops := d.ops ++ [⟨5, 0, .erase g⟩] }) b1 else b1) a) s
/-- Every plate that a dump holds is released and erased. -/
def releasePlates (s : State) : State :=
  let held := (List.range 2).filter (fun p => (s.fix.plates[p]?) = some .holds)
  let s1 := each held erasePlate s
  updRecall (fun r => { r with dump := none })
    (updFix (fun f => { f with sealed := none, plates := f.plates.map (fun p => if p = .holds then .erasing else p) }) s1)
/-- The dump is no longer needed: every dumped page restored, discarded or written in full, the other items reinstated. -/
def dumpDone (s : State) : Bool := s.rec_.dump.isSome && s.rec_.indexed && (sweepLeft s).isEmpty
/-- Recall ends: every page restored, the plate released, the first pass complete with its groups VERIFIED. -/
def recallEnd (s : State) : State :=
  let sure := s.rec_.passAfter && s.rec_.passGroups.all (fun p => (groupOf s p.1 p.2).st ≠ .opened && (groupOf s p.1 p.2).st ≠ .full
    && (groupOf s p.1 p.2).st ≠ .rewrite)
  let s1 := if sure && !s.rec_.verified then updRecall (fun r => { r with verified := true }) s else s
  if s1.rec_.serving && s1.rec_.verified && s1.rec_.unrestored.isEmpty && s1.rec_.dump.isNone && s1.rec_.phase ≠ .none
      && !s1.md.entering then
    let s2 := updRecall (fun r => { r with phase := .none }) s1
    if s1.md.mode = .recall then setMode (if s1.cp.twin = .inSync then .duplex else .solo) 2 s2 else s2
  else s1
/-- Recall moves on: stages, the plate, the phase (0x3600.02), its end. -/
def recallStep (s : State) : State :=
  if s.rec_.phase = .none then s
  else
    let s1 := if s.rec_.ordersRead then advance 10 s else s
    let s2 := if dumpDone s1 then releasePlates s1 else s1
    let phase := if !s2.rec_.ordersRead then RecallPhase.preparing else if s2.rec_.unrestored.isEmpty then .awaiting
      else if s2.rec_.stage = 9 then .refill else .streaming
    recallEnd (updRecall (fun r => { r with phase := phase }) s2)

/-! ## A page restored -/

/-- A page counts as restored. -/
def markRestored (tpn : Nat) (s : State) : State :=
  let seg := 2 * (tpn / 65536)
  let done := fun (r : RecallSide) =>
    { r with unrestored := dropSet r.unrestored tpn, demand := dropSet r.demand tpn, readahead := dropSet r.readahead tpn,
             segLeft := dropSet r.segLeft seg, segAsked := dropSet r.segAsked seg }
  recallStep (updRecall done s)
/-- A page came back, by demand, refill, or the stream and sweep (0x7019.01–.03). -/
def countRestore (tpn : Nat) (s : State) : State :=
  bump (if s.rec_.demand.contains tpn then 0x701902 else if s.rec_.stage = 9 then 0x701903 else 0x701901) s
/-- A restore source that nothing replaces: the page is poisoned, its block marked for a later copy (R353). -/
def restorePoison (tpn : Nat) (s : State) : State :=
  markRestored tpn (markBlock (tpn / 16) (bump 0x701904 (poisonPage tpn 4 s)))
/-- 64 KiB of a frame are written. -/
def fillFrame (tpn : Nat) (data : Mem) (s : State) : State :=
  match (dirOf s tpn).home with
  | .dram f => updDram (fun m => { m with mem := mpaste m.mem (frameAddr f) 65536 data }) s
  | _ => s

end Sys2Proof.Machine
end

