-- ==== Sys2Proof/Machine/Nand.lean ====
section
/-! DEFINITION. NAND media (chapter 9): channels, unit reads and their recovery ladder, wordlines, garbage collection and
refresh, the map log and checkpoint rounds, die parity, the Tracer, bad blocks and dies; the XTS quads (R395–R397) and
migration of a key slot (R406). -/
namespace Sys2Proof.Machine
open Sys2Proof

/-! ## XTS quads (R395–R397) -/

/-- Units that name a key slot and are valid, held by a State, or in a held dump plate (Table 15.2, UNITS). -/
def slotUnits (s : State) (slot : Nat) : Nat :=
  ((namedPlaces (live s)).eraseDups.filter (fun p => match tfind s.nand.heads (punit p) with
    | some h => decide (h.slot = slot) | none => false)).length
    + (match s.fix.sealed with | some d => if d.slot = slot then d.pageUnits + d.lineUnits + d.otherUnits else 0 | none => 0)
/-- A quad is fenced: its domain off, its bit and record; a pair of fenced quads leaves no dump path (R396, R397). -/
def xqFence (n : Nat) (s : State) : State :=
  if s.keys.fenced.contains n then s
  else
    let s1 := post 0x0601 2 n (leBytes 8 (1024 * tget 0 s.keys.blocks n)) (updKeys (fun k => { k with fenced := insertSet k.fenced n }) s)
    let s2 := disarmAt [(0x0901, n)] (faultHandled (updRst (fun r => { r with powered := clrBit r.powered (104 + n), offFault := setBit r.offFault (104 + n) }) s1))
    if s.keys.fenced.contains (n ^^^ 1) then stopDead s2 else s2
/-- A mismatch of a quad's two datapaths: recovered by the retry, or the quad is fenced (R395, R396). -/
def xqMismatch (n : Nat) (second : Bool) (s : State) : State :=
  if s.keys.fenced.contains n then s
  else if second then xqFence n (bump32 0x701c02 s) else bump 0x701c01 s
/-- A unit passes the quad that serves its channel; an armed point 0x0901 fires there. -/
def throughQuad (ch : Nat) (s : State) : State :=
  let own := ch / 10
  let n := if s.keys.fenced.contains own || bitOf s.rst.offReq (104 + own) then own ^^^ 1 else own
  let s1 := updKeys (fun k => { k with blocks := tmod 0 k.blocks n (· + 1) }) s
  match fireRecorded 0x0901 n [1] s1 with
  | some p => injected (xqMismatch n false) p.2
  | none => match fire 0x0901 n [2] s1 with
    | some p => injected (xqMismatch n true) p.2
    | none => s1

/-! ## Dies and reserves (R263–R266, R286) -/

/-- MiB a dump plate can count on: the smaller plate of the live dies and their pSLC spares (Table 9.11). -/
def dumpRoom (s : State) : Nat :=
  min (plateMiB s 0) (plateMiB s 1) + ((liveDies s).map (fun d => (dieOf s d).spares.foldl (· + ·) 0 * 8)).foldl (· + ·) 0
/-- The Keep causes that follow from the reserves (R266, Table 14.6). -/
def reserveCauses (s : State) : State :=
  let a := if dumpRoom s < plateNeed (budget s) then (if bitOf s.md.causes 2 then s else raiseKeep 2 s)
    else if bitOf s.md.causes 2 then clearKeep 2 s else s
  if usableHead a < headNeed (budget a) then (if bitOf a.md.causes 5 then a else raiseKeep 5 a)
  else if bitOf a.md.causes 5 then clearKeep 5 a else a
/-- Media-full is entered or left; leaving it clears GC_STALL (Table 14.6). -/
def mediaStep (s : State) : State :=
  let s1 := mediaCheck s
  if !mediaFull s1 && bitOf s1.md.causes 6 then clearKeep 6 s1 else s1
/-- Fewer than 38 channels or 512 dies live: Keep (R286). -/
def mediaMin (s : State) : State :=
  if (liveNandChannels s < 38 || (liveDies s).length < 512) && !bitOf s.md.causes 7 then
    raiseKeep 7 (post 0x0406 3 0 (leBytes 1 (liveNandChannels s) ++ [0] ++ leBytes 2 (liveDies s).length) s)
  else s
/-- Pages whose stripe set includes a die. -/
def pagesOfSet (s : State) (n : Nat) : List Nat :=
  let set := n / 16 % 10 * 16 + n % 16
  (live s).dir.filterMap (fun p => match p.2.home with | .nand t _ => if t = set then some p.1 else none | _ => none)
/-- A page has a unit on a die that nothing can supply: mapped there without parity, not wholly in the merge buffer. -/
def unitLost (s : State) (n tpn : Nat) : Bool :=
  match (dirOf s tpn).home with
  | .nand _ lpn =>
    let l := lpn * 4 + n / 160
    let e := tget {} (live s).fmap l
    decide (e.st = 1) && decide (protAt s e.place = 0)
      && !(s.nand.merge.any (fun m => m.lunit = l && decide (m.lines.length = 128)))
  | _ => false
/-- A page poisoned by its NAND units (R260). -/
def poisonNand (tpn : Nat) (s : State) : State := if s.pres.injecting then s else bump 0x701608 (poisonPage tpn 2 s)
/-- A die is retired (R263): its record, its stripe set's pages moved, the reserves and minima seen to. A die that no
longer answers takes with it what neither parity nor the twin supplies. -/
def retireDie (n cause : Nat) (s : State) : State :=
  if (dieOf s n).st ≠ .service then s
  else
    let pages := pagesOfSet s n
    let gone := if cause = 1 || s.cp.twin = .inSync then [] else pages.filter (unitLost s n)
    let s1 := post 0x0403 2 n (leBytes 1 cause) (setDie n (fun d => { d with st := .retired, ops := [], wordline := [] }) s)
    let s2 := ownMoves pages .die 3 (each gone poisonNand s1)
    mediaMin (reserveCauses (mediaStep s2))
/-- R263: a die with no spare, or not responding, is retired. -/
def doDieRetire (channel : Fin 40) (die : Fin 16) (cause : Nat) (s : State) : State :=
  retireDie (dieNo channel.val die.val) cause s
/-- A block fails: its record, and a spare of its plane in its place, or the die is retired (R262, R263). -/
def retireBlock (n g plane cause : Nat) (s : State) : State :=
  let s1 := post 0x0402 1 n (leBytes 1 plane ++ [0] ++ leBytes 2 g ++ leBytes 1 cause) s
  let left := ((dieOf s n).spares[plane]?).getD 0
  let s2 := setDie n (fun d => { d with grown := d.grown + 1, spares := d.spares.set plane (left - 1) }) s1
  if left = 0 then retireDie n 1 s2 else reserveCauses s2
/-- A NAND channel is lost: its live dies are retired and its domain goes off (R232, R263, R507). -/
def loseNand (c : Nat) (s : State) : State :=
  let off := fun (r : ResetSide) => { r with powered := clrBit r.powered (48 + c), offFault := setBit r.offFault (48 + c) }
  disarmAt [(0x0201, c), (0x0202, c)] (each (List.range 16) (fun d a => retireDie (dieNo c d) 3 a)
    (updRst off (setNchan c (fun x => { x with st := .lost, wp := false }) s)))
/-- R232: a channel is serving, or lost with its 16 dies. -/
def doNandChannelReady (channel : Fin 40) (ok : Bool) (present : Nat) (s : State) : State :=
  let c := channel.val
  match (nchanOf s c).st with
  | .identifying | .training =>
    if ok then
      setNchan c (fun x => { x with st := .serving, present := present % 65536, rate := s.rst.options.nandRate }) s
    else
      loseNand c s
  | _ => s

/-! ## Copying out: garbage collection, fold, refresh, migration (R246–R250, R258, R406) -/

/-- A unit's place changes in the map and in every State entry that names it (R247, R365); a 0x03 record that no longer
finds the old place takes no effect. Whether it took effect is answered. -/
def movePlace (lunit : Nat) (src dst : Place) (s : State) : Bool × State :=
  let e := tget {} (live s).fmap lunit
  let cur := decide (e.st = 1) && decide (e.place = src)
  let s1 := if cur then setMap lunit { e with place := dst, prot := protAt s dst } s else s
  let swap := fun (o : Option Place) => if o = some src then some dst else o
  let entry := fun (x : StateEntry) => match x.content with
    | .units l => { x with content := .units (l.map swap) }
    | _ => x
  let inSnap := (live s).snaps.any (fun n => n.entries.any (fun x => match x.content with | .units l => l.contains (some src) | _ => false))
  let s2 := if inSnap then updLive (fun t => { t with snaps := t.snaps.map (fun n => { n with entries := n.entries.map entry }) }) s1 else s1
  (cur || inSnap, s2)
/-- The slot under which a copy of a unit is written: its own (R237), or the write slot under a migration (R406). -/
def copySlot (s : State) (src : Place) : Nat :=
  let h := ((tfind s.nand.heads (punit src)).map (·.slot)).getD 0
  if s.keys.migrate = some h then writeSlot s else h
/-- A unit copied by a migration counts in 0x4002.03 and passes a quad both ways. -/
def countMigrated (src : Place) (n : Nat) (s : State) : State :=
  if ((tfind s.nand.heads (punit src)).any (fun h => s.keys.migrate = some h.slot)) then
    bumpBy 0x701c03 n (bumpBy 0x701c04 n (bumpBy 0x400203 n s)) else s
/-- The images that lie in a group: (tpn, entry), current ones and those States hold. -/
def imagesIn (s : State) (ch die g : Nat) : List (Nat × ImageEntry) :=
  let cur := (live s).images.filterMap (fun p => if p.2.st = 1 && (imagePlaces p.2).any (inGroup ch die g) then some p else none)
  let held := (live s).snaps.flatMap (fun n => n.entries.filterMap (fun e => match e.content with
    | .image i => if (imagePlaces i).any (inGroup ch die g) then some (((findRegion s e.region).map (fun q => q.2.base + e.page)).getD 0, i) else none
    | _ => none))
  (cur ++ held).eraseDups
/-- An image is copied, head images to the journal body of the same dies, and named at its new place (R249). -/
def moveImage (tpn : Nat) (e : ImageEntry) (body : Bool) (s : State) : State :=
  let src : Place := ⟨setChannel e.set 0, setDieNo e.set, e.group, e.unit⟩
  match programImageAt body e.set tpn (copySlot s src) (imageData s e) s with
  | none => s
  | some (e', s1) =>
    let s2 := countMigrated src 4 (if (tget {} (live s1).images tpn) = e then setImage tpn e' s1 else s1)
    let entry := fun (x : StateEntry) => if x.content = .image e then { x with content := .image e' } else x
    let s3 := updLive (fun t => { t with snaps := t.snaps.map (fun n => { n with entries := n.entries.map entry }) }) s2
    bumpBy (if body && !e.body then 0x701603 else 0x701602) 4 s3
/-- Groups of a die being emptied. -/
def emptying (s : State) (n : Nat) : List Nat :=
  ((live s).groups.filter (fun p => p.1 / 2048 = n ∧ (p.2.st = .victim ∨ p.2.st = .rewrite))).map (·.1 % 2048)
/-- NAND-tier units of a die still to copy: from groups being emptied, or named by a slot under migration. -/
def toCopy (s : State) (n : Nat) : List Place :=
  let out := emptying s n
  ((namedPlaces (live s)).filter (fun p => decide (dieNo p.ch p.die = n) && !copying s p &&
    (match tfind s.nand.heads (punit p) with
      | some h => decide (h.area = 1) && (out.contains p.group || s.keys.migrate = some h.slot)
      | none => false))).eraseDups
/-- One batch of up to 12 units is read and its program queued, class 5, or class 4 at the GC reserve (R246, R247). -/
def copyBatch (n : Nat) (s : State) : State :=
  let l := (toCopy s n).take 12
  if l.isEmpty || (dieOf s n).ops.length ≥ 8 then s
  else
    let unit := fun (p : Place) => (⟨1, ((tfind s.nand.heads (punit p)).map (·.key)).getD 0, .copy p, copySlot s p, unitData s p⟩ : ProgUnit)
    setDie n (fun d => { d with ops := d.ops ++ [⟨if freeGroups s n ≤ 8 then 4 else 5, 0, .program (l.map unit)⟩] }) s
/-- Images and parity units leave the groups being emptied. -/
def copyWhole (n : Nat) (s : State) : State :=
  each (emptying s n) (fun g a =>
    let a1 := each (imagesIn a (n / 16) (n % 16) g) (fun p b => moveImage p.1 p.2 (p.2.body || decide (groupArea b g = .head)) b) a
    each (a1.nand.stripes.filter (fun x => x.parity.any (inGroup (n / 16) (n % 16) g))) (fun x b => writeParity x (!x.openBlock) b) a1) s
/-- Images under a slot being migrated. -/
def migrateImages (s : State) : State :=
  match s.keys.migrate with
  | none => s
  | some slot =>
    let named := fun (e : ImageEntry) => (tfind s.nand.heads (punit ⟨setChannel e.set 0, setDieNo e.set, e.group, e.unit⟩)).any (fun h => h.slot = slot)
    let cur := (live s).images.filter (fun p => p.2.st = 1 && named p.2)
    each cur (fun p a => moveImage p.1 p.2 p.2.body a) s
/-- The TLC group garbage collection takes next: the VERIFIED one with the fewest valid units, oldest first; the least
erased one while the spread of erase counts is too wide (R246, R250). -/
def gcChoice (s : State) (n : Nat) : Option Nat :=
  let pool := (live s).groups.filter (fun p => p.1 / 2048 = n ∧ groupArea s (p.1 % 2048) = .pool)
  let full := pool.filter (fun p => p.2.st = .verified)
  let least := fun (f : Nat × Group → Nat) => (full.foldl (fun (m : Option (Nat × Group)) p => match m with
    | none => some p
    | some q => if f p < f q ∨ (f p = f q ∧ p.2.order < q.2.order) then some p else m) none).map (·.1 % 2048)
  let hi := (pool.map (·.2.erases)).foldl max 0
  let lo := if pool.length < areaCount (areaSizes (dieType s)) .pool then 0 else (pool.map (·.2.erases)).foldl min hi
  if hi - lo > dget s 0x334204 then least (fun p => p.2.erases)
  else if (dieOf s n).gcOn then least (fun p => (validUnits s (n / 16) (n % 16) (p.1 % 2048)).length)
  else none
/-- A group is chosen to be emptied. -/
def takeVictim (n g : Nat) (s : State) : State := setGroup n g (fun x => { x with st := .victim }) s
/-- Garbage collection goes on or off on a die by its free groups (R246). -/
def gcSwitch (n : Nat) (s : State) : State :=
  let f := freeGroups s n
  let on := if f < dget s 0x334201 then true else if f ≥ dget s 0x334202 then false else (dieOf s n).gcOn
  if on = (dieOf s n).gcOn then s else setDie n (fun d => { d with gcOn := on }) s
/-- A migration that has emptied its slot is done (R406). -/
def migrateCheck (s : State) : State :=
  match s.keys.migrate with
  | some slot => if slotUnits s slot = 0 then dset 0x400202 0 (updKeys (fun k => { k with migrate := none }) s) else s
  | none => s
/-- Copying work of a die: victims freed, a new one taken, the next batch queued; none starts in Drain (R248). -/
def gcStep (n : Nat) (s : State) : State :=
  if s.md.mode = .drain || !liveDie s n then s
  else
    let s1 := gcSwitch n (each (emptying s n) (fun g a => freeIfEmpty (n / 16) (n % 16) g a) s)
    let s2 := if (emptying s1 n).isEmpty then (match gcChoice s1 n with | some g => takeVictim n g s1 | none => s1) else s1
    issueWordline n (copyBatch n (copyWhole n s2))
/-- Dies with a group that has been used. -/
def usedDies (s : State) : List Nat := ((live s).groups.map (·.1 / 2048)).eraseDups
def gcAll (s : State) : State := migrateCheck (mediaStep (each (usedDies s) gcStep (if s.md.mode = .drain then s else migrateImages s)))

/-- Before the journal head runs short, the oldest verified head group of a stripe set is folded (R249). -/
def foldHead (set : Nat) (s : State) : State :=
  let d := dieNo (setChannel set 0) (setDieNo set)
  let heads := areaGroups s .head
  let free := (heads.filter (fun g => (groupOf s d g).st = .free || (groupOf s d g).st = .erased)).length
  let need := headNeed (budget s) / max 1 (liveDies s).length + 2
  if free ≥ need || s.md.mode = .drain || heads.any (fun g => (groupOf s d g).st = .victim) then s
  else
    let done := heads.filter (fun g => (setDies set).all (fun n => (groupOf s n g).st = .verified))
    match done.foldl (fun (m : Option Nat) g => match m with
      | none => some g
      | some x => if (groupOf s d g).order < (groupOf s d x).order then some g else m) none with
    | none => s
    | some g => each (setDies set) gcStep (each (setDies set) (fun n a => takeVictim n g a) s)

/-- A group is refreshed by copying out its valid units (R258); in Keep only while the die has erased groups. -/
def refreshGroup (n g : Nat) (s : State) : State :=
  if s.pres.injecting || (groupOf s n g).st ≠ .verified then s
  else if s.md.mode = .keep && decide (freeGroups s n = 0) then s
  else
    let dies := if groupArea s g = .head then setDies (n / 16 % 10 * 16 + n % 16) else [n]
    each dies gcStep (bump 0x701606 (each dies (fun m a => takeVictim m g a) s))

/-! ## Wear (R251) -/

/-- Wear that reaches 50, 75, 90 or 100 % is recorded once. -/
def wearStep (s : State) : State :=
  each [(1, 50), (1, 75), (1, 90), (1, 100), (2, 50), (2, 75), (2, 90), (2, 100)] (fun p a =>
    if wear a (p.1 = 1) ≥ p.2 * 100 && !a.nand.wearMarks.contains p then
      post 0x0404 1 0 (leBytes 1 p.1 ++ leBytes 1 p.2) (updNand (fun n => { n with wearMarks := n.wearMarks ++ [p] }) a)
    else a) s

/-! ## Programs -/

/-- The program the die finishes first: lowest class, oldest first (R233). -/
def nextProgram (d : Die) : Option DieOp :=
  (d.ops.filter (fun o => match o.act with | .program _ => true | _ => false)).foldl (fun (m : Option DieOp) o => match m with
    | none => some o
    | some x => if o.cls < x.cls then some o else m) none
/-- A written-back unit has been programmed (R244): mapped unless discarded since; its buffer entry is released, or waits
for the next wordline when lines merged meanwhile. -/
def placeBack (n : Nat) (u : ProgUnit) (lunit : Nat) (s : State) : State :=
  match poolSlot n (dieOf s n).openPool (fun g d => { d with openPool := some g }) s with
  | none => setDie n (fun d => { d with wordline := d.wordline ++ [u] }) s
  | some (g, k, s1) =>
    let p : Place := ⟨n / 16, n % 16, g, k⟩
    let s2 := bump 0x701601 (bump 0x701c03 (programUnit p 1 lunit u.slot u.data (useUnit n g k 6144 s1)))
    match s.nand.merge.find? (fun m => m.lunit = lunit) with
    | none => s2
    | some m =>
      let same := overlay u.data m.lines m.data = lunitData s lunit
      let s3 := if same then setMap lunit ⟨1, protAt s2 p, p, 0⟩ s2 else s2
      if u.data = lunitData s lunit then updNand (fun x => { x with merge := x.merge.filter (fun y => y.lunit ≠ lunit) }) s3
      else setDie n (fun d => { d with wordline := d.wordline ++ [{ u with data := [] }] }) s3
/-- A copied unit has been programmed in the die's garbage-collection group (R247). -/
def placeCopy (n : Nat) (u : ProgUnit) (src : Place) (s : State) : State :=
  match poolSlot n (dieOf s n).openGc (fun g d => { d with openGc := some g }) s with
  | none => s
  | some (g, k, s1) =>
    let p : Place := ⟨n / 16, n % 16, g, k⟩
    let s2 := programUnit p u.area u.key u.slot u.data (useUnit n g k 6144 s1)
    let (took, s3) := movePlace u.key src p s2
    if took then countMigrated src 1 (bump 0x701602 s3) else s3
/-- A pad unit takes a place and nothing more. -/
def placePad (n : Nat) (s : State) : State :=
  match poolSlot n (dieOf s n).openPool (fun g d => { d with openPool := some g }) s with
  | none => s
  | some (g, k, s1) => useUnit n g k 6144 (programRaw ⟨n / 16, n % 16, g, k⟩ 9 0 0 [] s1)
/-- The group a failed program was filling. -/
def programGroup (d : Die) (units : List ProgUnit) : Nat :=
  if units.any (fun u => match u.why with | .writeBack _ => true | _ => false) then d.openPool.getD 0 else d.openGc.getD (d.openPool.getD 0)
/-- R244, R246, R247, R262: a wordline program ends. A failed one retires the block and is sent again. -/
def doNandProgramDone (channel : Fin 40) (die : Fin 16) (ok : Bool) (plane : Fin 4) (s0 : State) : State :=
  let n := dieNo channel.val die.val
  match nextProgram (dieOf s0 n) with
  | none => s0
  | some o =>
    match o.act with
    | .program units =>
      let s := throughQuad channel.val s0
      if !ok then retireBlock n (programGroup (dieOf s n) units) plane.val 1 s
      else
        let s1 := setDie n (fun d => { d with ops := dropFirst (fun x => x = o) d.ops }) s
        let s2 := each units (fun u a => match u.why with
          | .writeBack l => placeBack n u l a
          | .copy src => placeCopy n u src a
          | .pad => placePad n a) s1
        migrateCheck (wearStep (mediaStep (gcStep n s2)))
    | _ => s0
/-- R244: the oldest unit of an open wordline has waited 1 ms: it is filled with copies waiting on the die, then with pad
units, and programmed. -/
def doWordlineWaitTimeout (channel : Fin 40) (die : Fin 16) (s : State) : State :=
  let n := dieNo channel.val die.val
  let have_ := (dieOf s n).wordline.length
  if have_ = 0 || s.md.mode = .drain then s
  else
    let copies := ((toCopy s n).take (12 - have_)).map (fun p =>
      (⟨1, ((tfind s.nand.heads (punit p)).map (·.key)).getD 0, .copy p, copySlot s p, unitData s p⟩ : ProgUnit))
    let pads := List.replicate (12 - have_ - copies.length) (⟨9, 0, .pad, 0, []⟩ : ProgUnit)
    issueWordline n (setDie n (fun d => { d with wordline := d.wordline ++ copies ++ pads }) s)

/-- The plate a group belongs to. -/
def plateOf (s : State) (g : Nat) : Option Nat :=
  match groupArea s g with
  | .plateA => some 0
  | .plateB => some 1
  | _ => none
/-- A plate whose groups are all ERASED on the live dies becomes the ready one; PLATES_HELD clears (R283, R348). -/
def plateReady (plate : Nat) (s : State) : State :=
  let area := if plate = 0 then Area.plateA else Area.plateB
  let all := (liveDies s).all (fun d => (areaGroups s area).all (fun g => (groupOf s d g).st = .erased || (groupOf s d g).st = .retired))
  if !all || (s.fix.plates[plate]?) ≠ some .erasing then s
  else
    let none_ := !(s.fix.plates.contains .ready)
    let s1 := updFix (fun f => { f with plates := f.plates.set plate .ready, ready := if none_ then plate else f.ready }) s
    if none_ then clearKeep 3 s1 else s1
/-- R243, R250, R262: an erase ends: the group becomes ERASED, or its block is retired and the group stays FREE. -/
def doNandEraseDone (channel : Fin 40) (die : Fin 16) (group : Nat) (ok : Bool) (plane : Fin 4) (s : State) : State :=
  let n := dieNo channel.val die.val
  let held := match plateOf s group with | some p => decide ((s.fix.plates[p]?) ≠ some .erasing) | none => false
  if !liveDie s n || (groupOf s n group).st ≠ .free || held then s
  else
    let s1 := setDie n (fun d => { d with ops := dropFirst (fun o => o.act = .erase group) d.ops }) s
    if !ok then retireBlock n group plane.val 2 s1
    else
      let use := fun (x : Group) => { x with st := .erased, erases := x.erases + 1, reads := 0, next := 0 }
      let s2 := releaseParity (bump 0x701604 (setGroup n group use s1))
      let s3 := match plateOf s group with | some p => plateReady p s2 | none => s2
      mediaStep (gcStep n (wearStep s3))

/-! ## The map log and checkpoint rounds (R241, R242) -/

/-- A log write begins with every record logged since the last began. -/
def startLogWrite (s : State) : State :=
  if s.per.writing.isSome || s.per.logged = 0 then s
  else { s with per := { s.per with writing := some s.per.live, logged := 0 } }
/-- R241, R247: both copies of a log write are programmed: its records are log-durable and victims may be erased. -/
def doMapLogDurable (s : State) : State :=
  match s.per.writing with
  | none => s
  | some t => gcAll (startLogWrite { s with per := { s.per with durable := t, writing := none } })
/-- R242: a checkpoint round starts, one at a time. -/
def doCheckpointRoundStart (s : State) : State :=
  if s.per.rounding || s.md.mode = .drain then s
  else { s with per := { s.per with rounding := true, sinceRound := 0 } }
/-- R242: the round's segments and directory copies are programmed; the round is counted and its mark logged. -/
def doCheckpointRoundDone (s : State) : State :=
  if !s.per.rounding then s
  else logRecs 1 (bump32 0x334003 { s with per := { s.per with rounding := false } })

/-! ## Parity stripes (R253) -/

/-- The number PARITY_PAD_TIMEOUT gives a stripe. -/
def stripeKey (x : Stripe) : Nat := (x.pgroup * 4 + x.area) * 8192 + x.unit
/-- R253: a stripe not filled 1 ms after its first unit is padded and its parity written. -/
def doParityPadTimeout (stripe : Nat) (s : State) : State :=
  match s.nand.stripes.find? (fun x => x.parity.isNone && decide (stripeKey x = stripe)) with
  | none => s
  | some x => if s.md.mode = .drain then s else writeParity x (scheme s ≠ 1) s

/-! ## Reads and their recovery (R259, R260) -/

/-- The page that a logical unit belongs to. -/
def tpnOfUnit (s : State) (lunit : Nat) : Option Nat :=
  ((live s).dir.find? (fun p => match p.2.home with | .nand _ lpn => decide (lpn = lunit / 4) | _ => false)).map (·.1)
/-- Every requester waiting on a page draws MEDIA_ERROR without poison (R401). -/
def failFills (tpn : Nat) (s : State) : State :=
  each (List.range 14) (fun n a =>
    let mine := (sliceOf a n).fills.filter (fun f => f.line / 512 = tpn)
    let a1 := setSlice n (fun x => { x with fills := x.fills.filter (fun f => f.line / 512 ≠ tpn) }) a
    each (mine.flatMap (·.attached)) (fun r b => lineDone r.op (if isChange r.act then opNak r.op (nakVal 6 1) b else readPoison r b)) a1) s
/-- A unit is written again as a new unit through the merge buffer, and its group refreshed (R260). -/
def rewriteUnit (tpn lunit : Nat) (data : Mem) (s : State) : State :=
  match (dirOf s tpn).home with
  | .nand set _ =>
    let e := tget {} (live s).fmap lunit
    let present := ((s.nand.merge.find? (fun m => m.lunit = lunit)).map (·.lines)).getD []
    let s1 := each ((List.range 128).filter (fun i => !present.contains i)) (fun i a =>
      mergeLine tpn set lunit i (mslice data (i * 128) 128) a) s
    refreshGroup (dieNo e.place.ch e.place.die) e.place.group s1
  | _ => s
/-- Step 4, then 5, of Table 9.10: the whole page from the twin, or poison. A unit whose key slot is lost is no media
error: its readers are refused and nothing is poisoned (R401). -/
def unitFailed (lunit : Nat) (keyLost : Bool) (s : State) : State :=
  match tpnOfUnit s lunit with
  | none => s
  | some tpn =>
    if s.cp.twin = .inSync then
      let line := tpn * 512 + lunit % 4 * 128
      bump 0x70160a (sendOn (halfFor s line) (.fetch line true) none
        (updCp (fun c => { c with fetches := c.fetches ++ [⟨line, .nandUnit lunit⟩] })
          (updNand (fun n => { n with ladder := n.ladder ++ [⟨lunit, 4⟩] }) s)))
    else if keyLost then failFills tpn s
    else poisonNand tpn s
/-- The verdict an armed point makes of a good read (Table 18.2): 0x0201, and 0x0202 at its rebuild. -/
def injectRead (ch prot : Nat) (v : UnitVerdict) (s : State) : Option (UnitVerdict × State) :=
  if v ≠ .hard then none
  else match fireRecorded 0x0201 ch [1] s with
    | some p => some (.retry 1, p.2)
    | none => match fireRecorded 0x0201 ch [2] s with
      | some p =>
        if prot = 0 then some (.failed, p.2)
        else match fireRecorded 0x0202 ch [1] p.2 with
          | some q => some (.failed, q.2)
          | none => some (.parity, p.2)
      | none => none
/-- The ladder's outcome for a unit (Table 9.10). -/
def readLadder (lunit : Nat) (e : MapEntry) (v : UnitVerdict) (s : State) : State :=
  let c := e.place.ch
  let key := nandKey c
  let fresh := refreshGroup (dieNo c e.place.die) e.place.group
  match v with
  | .hard => s
  | .retry level =>
    let s1 := bump (key 2) s
    if s.pres.injecting then s1 else fresh (setMap lunit { e with hint := min 8 level } s1)
  | .soft => fresh (bump (key 3) (bump (key 2) s))
  | .parity =>
    let s1 := bump (key 3) (bump (key 2) s)
    if e.prot = 0 then unitFailed lunit false (bump (key 5) s1)
    else match tpnOfUnit s lunit with
      | some tpn => rewriteUnit tpn lunit (unitData s e.place) (bump (key 4) s1)
      | none => s1
  | .failed => unitFailed lunit false (bump (key 5) (bump (key 3) (bump (key 2) s)))
/-- R259: a unit read ends. -/
def doNandReadDone (lunit : Nat) (v : UnitVerdict) (s0 : State) : State :=
  let e := tget {} (live s0).fmap lunit
  let n := dieNo e.place.ch e.place.die
  let mine := fun (o : DieOp) => decide (o.act = .read lunit)
  if !((dieOf s0 n).ops.any mine) then s0
  else
    let s1 := bump 0x701c04 (throughQuad e.place.ch (setDie n (fun d => { d with ops := dropFirst mine d.ops }) s0))
    let s2 := setGroup n e.place.group (fun g => { g with reads := g.reads + 1 }) s1
    let lost := (tfind s2.nand.heads (punit e.place)).any (fun h => (keySlotOf s2 h.slot).st = .lost)
    let s3 := if lost then unitFailed lunit true s2
      else match injectRead e.place.ch e.prot v s2 with
        | some p => injected (readLadder lunit e p.1) p.2
        | none => readLadder lunit e v s2
    let limit := dget s0 0x335004 * (if groupArea s0 e.place.group = .pool then 1 else 10)
    let s4 := if (groupOf s3 n e.place.group).reads > limit then refreshGroup n e.place.group s3 else s3
    each (emptying s4 n) (fun g a => freeIfEmpty e.place.ch e.place.die g a) s4

/-! ## The Tracer (R256–R258) -/

/-- R256: the verify pass of a group that became FULL starts; only class 1 runs in Drain. -/
def doTracerVerifyStart (channel : Fin 40) (die : Fin 16) (group : Nat) (s : State) : State :=
  let n := dieNo channel.val die.val
  if (groupOf s n group).st ≠ .full || s.md.mode = .drain || s.nand.verifying.contains (n, group) then s
  else updNand (fun x => { x with verifying := x.verifying ++ [(n, group)] }) s
/-- R256: the verify pass ends: VERIFIED, or REWRITE with its units copied out and the failing block retired. `worst` is
the highest corrected share in per cent. Parity is released and Recall may end. -/
def doTracerVerifyDone (channel : Fin 40) (die : Fin 16) (group worst : Nat) (failed : Bool) (plane : Fin 4) (s : State) : State :=
  let n := dieNo channel.val die.val
  if !s.nand.verifying.contains (n, group) then s
  else
    let s1 := bumpBy 0x701605 (groupUnits (groupArea s group))
      (updNand (fun x => { x with verifying := x.verifying.filter (· ≠ (n, group)), verifyOrder := x.verifyOrder + 1 }) s)
    let good := !failed && decide (worst < dget s 0x335005)
    let s2 := setGroup n group (fun g => { g with st := if good then .verified else .rewrite, order := s.nand.verifyOrder + 1 }) s1
    let s3 := if !good then gcStep n (retireBlock n group plane.val 3 s2)
      else if worst > dget s 0x335003 then refreshGroup n group s2 else s2
    recallStep (releaseParity s3)
/-- R257: the Tracer's patrol reads the next programmed page; a weak or retried one has its group refreshed. -/
def doTracerPatrol (channel : Fin 40) (die : Fin 16) (group worst : Nat) (retried : Bool) (s : State) : State :=
  let n := dieNo channel.val die.val
  if s.md.mode = .drain || !liveDie s n || (groupOf s n group).next = 0 then s
  else
    let s1 := bump 0x701605 (updNand (fun x => { x with patrol := x.patrol + 1 }) s)
    if worst > dget s 0x335003 || retried then refreshGroup n group s1 else s1

/-- R266: garbage collection has freed no group on a die for 10 s while media-full. -/
def doGcStallTimeout (s : State) : State := if mediaFull s && !bitOf s.md.causes 6 then raiseKeep 6 s else s

/-! ## The meanings: each completes -/

/-- NAND_CHANNEL_READY (R232). -/
def execNandChannelReady (channel : Fin 40) (ok : Bool) (present : Nat) (s : State) : Result := .next (doNandChannelReady channel ok present s)
/-- NAND_READ_DONE (R259). -/
def execNandReadDone (lunit : Nat) (v : UnitVerdict) (s : State) : Result := .next (doNandReadDone lunit v s)
/-- NAND_PROGRAM_DONE (R244). -/
def execNandProgramDone (channel : Fin 40) (die : Fin 16) (ok : Bool) (plane : Fin 4) (s : State) : Result := .next (doNandProgramDone channel die ok plane s)
/-- NAND_ERASE_DONE (R243). -/
def execNandEraseDone (channel : Fin 40) (die : Fin 16) (group : Nat) (ok : Bool) (plane : Fin 4) (s : State) : Result := .next (doNandEraseDone channel die group ok plane s)
/-- WORDLINE_WAIT_TIMEOUT (R244). -/
def execWordlineWaitTimeout (channel : Fin 40) (die : Fin 16) (s : State) : Result := .next (doWordlineWaitTimeout channel die s)
/-- MAP_LOG_DURABLE (R241). -/
def execMapLogDurable (s : State) : Result := .next (doMapLogDurable s)
/-- CHECKPOINT_ROUND_START (R242). -/
def execCheckpointRoundStart (s : State) : Result := .next (doCheckpointRoundStart s)
/-- CHECKPOINT_ROUND_DONE (R242). -/
def execCheckpointRoundDone (s : State) : Result := .next (doCheckpointRoundDone s)
/-- PARITY_PAD_TIMEOUT (R253). -/
def execParityPadTimeout (stripe : Nat) (s : State) : Result := .next (doParityPadTimeout stripe s)
/-- TRACER_VERIFY_START (R256). -/
def execTracerVerifyStart (channel : Fin 40) (die : Fin 16) (group : Nat) (s : State) : Result := .next (doTracerVerifyStart channel die group s)
/-- TRACER_VERIFY_DONE (R256). -/
def execTracerVerifyDone (channel : Fin 40) (die : Fin 16) (group : Nat) (worst : Nat) (failed : Bool) (plane : Fin 4) (s : State) : Result := .next (doTracerVerifyDone channel die group worst failed plane s)
/-- TRACER_PATROL (R257). -/
def execTracerPatrol (channel : Fin 40) (die : Fin 16) (group : Nat) (worst : Nat) (retried : Bool) (s : State) : Result := .next (doTracerPatrol channel die group worst retried s)
/-- DIE_RETIRE (R263). -/
def execDieRetire (channel : Fin 40) (die : Fin 16) (cause : Nat) (s : State) : Result := .next (doDieRetire channel die cause s)
/-- GC_STALL_TIMEOUT (R266). -/
def execGcStallTimeout (s : State) : Result := .next (doGcStallTimeout s)

end Sys2Proof.Machine
end

