-- ==== Sys2Proof/Machine/Takeover.lean ====
section
/-! DEFINITION. Loss of the twin (R309–R314, R322): declaring, standing down, and the decision of Table 11.5. -/
namespace Sys2Proof.Machine
open Sys2Proof

/-! ## Records not acknowledged -/

/-- Records sent on a half and not seen acknowledged. -/
def unacked (h : Half) : List SentRec := h.sent.flatMap (·.recs) ++ h.open_
/-- The 1 MiB block a record changes. -/
def recBlock (r : CpRec) : Option Nat :=
  match r with
  | .write line .. | .zero line | .atomic line .. | .copy line _ => some (line / 8192)
  | .discardUnit key .. => some (key / 64)
  | _ => none
/-- Blocks of the records not acknowledged. -/
def unackedBlocks (s : State) : List Nat :=
  sortNats ((s.cp.halves.flatMap (fun p => (unacked p.2).filterMap (fun r => recBlock r.rcd))))
/-- Mark the blocks of every record not acknowledged (R312 step 3, R313, R314 step 1). -/
def markUnacked (s : State) : State := each (unackedBlocks s) markBlock s
/-- What the halves still hold is dropped. -/
def clearHalves (s : State) : State :=
  updCp (fun c => { c with halves := c.halves.map (fun p => (p.1, { p.2 with open_ := [], sent := [], rx := [], rxFetch := [], syncSeen := false })) }) s

/-! ## Fetches that the twin will not answer -/

/-- FETCH_FAIL, or no twin left to answer: the requester takes its next recovery step (R221, R260, R186, R305). -/
def fetchFailed (f : Fetch) (s0 : State) : State :=
  let s := updCp (fun c => { c with fetches := dropFirst (fun x => x = f) c.fetches }) s0
  match f.why with
  | .dramWord => match s.dram.waiters.find? (fun p => p.1 = f.line) with
    | some p => recoverLocal p.2 f.line true s
    | none => s
  | .nandUnit lunit =>
    let s1 := updNand (fun n => { n with ladder := n.ladder.filter (fun l => l.lunit ≠ lunit) }) s
    let e := tget {} (live s1).fmap lunit
    let keyLost := (tfind s1.nand.heads (punit e.place)).any (fun h => (keySlotOf s1 h.slot).st = .lost)
    if keyLost then failFills (lineTpn f.line) s1 else poisonNand (lineTpn f.line) s1
  | .sliceLine => poisonPage (lineTpn f.line) 3 s
  | .restore tpn => restorePoison tpn s
  | .mirror => updCp (fun c => { c with halves := c.halves.map (fun p => (p.1, { p.2 with rxFetch := dropSet p.2.rxFetch f.line })) }) s

/-! ## Declaring twin loss (R312) -/

/-- A table write that waited for the twin's verdict is decided here (R143). -/
def decideWrite (w : PendingWrite) (s : State) : State :=
  if groupAccepted s w.elems then dictDone w.idx w.sub (each w.elems applyElem s) else dictRefuse w.idx w.sub 0x06040003 s
/-- The descriptors of a READ_BATCH that were at the twin run here. -/
def restartBatch (o : Op) (s : State) : State :=
  let offs := (o.descs.foldl (fun (acc : Nat × List (BatchDesc × Nat)) d => (acc.1 + d.len, acc.2 ++ [(d, acc.1)])) (32, [])).2
  let mine := offs.filter (fun p => o.fwds.any (fun f => f.2 = p.2))
  let s1 := modOp o.id (fun x => { x with fwds := [] }) s
  each mine (fun p a => match findRegion a p.1.region with
    | none => a
    | some (_, r) =>
      let reqs : List LineReq := (pieces r p.1.off p.1.len).map (fun (line, lo, n, dst) => ⟨o.id, .host, line, .read lo n (p.2 + dst)⟩)
      enqueue reqs (modOp o.id (fun x => { x with waiting := x.waiting + reqs.length }) a)) s1
/-- An operation outstanding to the twin: an atomic whose ATOMIC record has come is done; any other runs here as new
(R312 step 5). One held for a region in transfer, or behind such an operation, starts too. -/
def restartOp (o : Op) (s : State) : State :=
  if !o.fwds.isEmpty then
    if (o.kind = .add || o.kind = .cas) && o.checked then modOp o.id (fun x => { x with fwds := [] }) s
    else if o.kind = .batch then restartBatch o s
    else startOp o.id (modOp o.id (fun x => { x with fwds := [], reads := [] }) s)
  else if o.held then startOp o.id s
  else s
/-- The twin's shadows are promoted (R113): the next expected PSN is the first that arrives. -/
def promoteShadows (s : State) : State :=
  let up := fun (q : Qp) => if q.st = .shadow then
    { q with st := .serving, adopted := true, ackPsn := psnAdd q.epsn (psnMod - 1), lastRx := s.rtc } else q
  updRc (fun r => { r with shadows := r.shadows.map (fun p => (p.1, up p.2)) }) s
/-- The running region command goes on under Solo (R139, R531); SET_OWNER ends with status 0x09 (R302). -/
def soloCommand (s : State) : State :=
  let s1 := updEng (fun e => { e with claimed := [], twinClaims := [], asked := [], heldRegion := none, handed := false }) s
  match s1.eng.run with
  | none => s1
  | some c => match c.phase with
    | .claim | .twin => startCmd { c with phase := .claim } s1
    | .fence | .drain => fenceDone s1
    | .owner => finishCmd 9 0 s1
/-- A running State command, and a cut, go on under Solo (R361). A cut that the twin began ends without a State. -/
def soloStates (s : State) : State :=
  match s.snap.cut with
  | some c =>
    if c.own then
      let s1 := updSnap (fun x => { x with cut := some { c with twinDone := true } }) s
      let s2 := when_ (decide (c.step ≥ 3)) (takePoint false) s1
      if c.step ≥ 4 then releaseCut s2 else s2
    else deleteSnap c.number (releaseHeld s)
  | none => match s.snap.run with
    | some (code, b) => startState code b (when_ (code = 3) (updSnap (fun x => { x with clone := none })) s)
    | none => s
/-- PLACEs the twin owned stop here, with what they have moved left where it is (R158). -/
def dropTwinPlaces (s : State) : State :=
  let mine := s.tier.places.filter (fun p => p.op.isNone)
  let s1 := each mine (fun p a => stopPlace p.token retryDrain a) s
  updTier (fun x => { x with places := x.places.filter (fun p => p.op.isSome) }) s1

/-- R312: this Steoc declares twin loss; `row` is the row of Table 11.5, or 10. -/
def declare (row : Nat) (s : State) : State :=
  let blocks := unackedBlocks s
  let notice := fun (a : State) => each ((List.range 2).filter (fun h => (halfOf a h).st = .service)) (fun h b => sendOn h (.notice 6 0) none b) a
  let fetches := s.cp.fetches
  let waits := s.eng.writes
  let shadowWait := s.rc.waitShadow
  let imaged := (s.fix.dirty.filter (·.twinWait)).map (·.tpn)
  let s1 := when_ s.cp.sessionUp notice (clearHalves (markUnacked s))
  let s2 := updCp (fun c => { c with twin := .lost, declared := true, settled := true, ownsNone := false, resync := {}, share := 0,
                                     charged := [], waitImages := [], notices := [], failover := none }) s1
  let own := fun (t : Tables) => { t with standing := .alone, regions := t.regions.map (fun p => (p.1, { p.2 with owner := s.rst.node })) }
  let s3 := logRecs 1 (countTable (updLive own s2))
  let s4 := bump32 0x701805 (post 0x0201 2 0 (leBytes 1 row ++ [0, 0, 0] ++ leBytes 4 blocks.length) s3)
  let s5 := when_ (row ≤ 4) (faultHandled) (if s4.md.mode = .duplex then setMode .solo 5 s4 else s4)
  let s6 := each imaged finishImage (each fetches fetchFailed s5)
  let s7 := soloStates (soloCommand (dropTwinPlaces s6))
  let s8 := each s7.host.ops restartOp s7
  let s9 := each shadowWait (fun p a => sendRep p.1 a) (promoteShadows (updRc (fun r => { r with waitShadow := [] }) s8))
  let s10 := each waits (fun w a => decideWrite w a) (updEng (fun e => { e with writes := [] }) s9)
  closePlaces (startMoves s10)

/-! ## Standing down (R314) -/

/-- Its completions that wait for the twin are never released (R314 step 3). -/
def dropWaiting (s : State) : State :=
  each (s.host.ops.filter (fun o => !o.fwds.isEmpty || !mirrored s o.id)) (fun o a => dropOp o.id a) s
/-- R314: this Steoc stands down; `row` is the row of Table 11.5, 10, 11 for mode request 0x06 or 12 for a settlement. -/
def standDown (row : Nat) (s : State) : State :=
  let blocks := unackedBlocks s
  let s1 := updLive (fun t => { t with standing := .yielded }) (dropWaiting (markUnacked s))
  let s2 := updCp (fun c => { c with twin := .stoodDown, resync := {}, charged := [], waitImages := [] }) (clearHalves (logRecs 1 s1))
  let s3 := bump32 0x701806 (post 0x0202 2 0 (leBytes 1 row ++ [0, 0, 0] ++ leBytes 4 blocks.length) s2)
  let s3 := each s.eng.writes (fun w a => dictRefuse w.idx w.sub 0x06040003 a) s3
  let s4 := when_ s3.eng.run.isSome (finishCmd 9 0) (updEng (fun e => { e with claimed := [], twinClaims := [], asked := [], writes := [], heldRegion := none, handed := false }) s3)
  let s5 := when_ s4.snap.run.isSome (finishState 9 0) s4
  match s5.md.mode with
  | .duplex | .solo | .service =>
    updRst (fun r => { r with dumpReset := true, cause := setBit r.cause 7 }) (enterDrain 3 s5)
  | _ => s5

/-! ## Table 11.5 and R322 -/

/-- R322: the link is lost, or a loss counts as one, during a resynchronisation. -/
def resyncLoss (s : State) : State :=
  let r := s.cp.resync
  let s1 := markUnacked s
  if r.source && !r.target then declare 10 s1
  else if r.target && !r.source then
    if s.rst.twinPresent then standDown 10 s1
    else raiseKeep 10 (post 0x0206 2 0 (leBytes 1 0x20) (clearHalves (updCp (fun c => { c with twin := .absent, ownsNone := true }) s1)))
  else clearHalves (updCp (fun c => { c with twin := .linking, resync := { c.resync with ownDone := false, twinDone := false, ackIn := false, ackOut := false, todo := [] } }) s1)
/-- Table 11.5 for one of its rows. A Steoc in Drain or YIELDED takes no action (R311). -/
def lossEvent (row : Nat) (s : State) : State :=
  if s.md.mode = .drain || (live s).standing = .yielded then s
  else if s.cp.twin = .resync && row ≠ 5 && row ≠ 7 then resyncLoss s
  else match row with
    | 1 | 2 | 4 | 8 | 9 => if s.cp.twin = .inSync || row = 9 then declare row s else s
    | 3 | 5 | 7 => when_ (row = 3) (faultHandled) (standDown row s)
    | _ => s
/-- The link is lost (R309): the session ends, and Table 11.5 decides by TWIN_PRESENT_N and seniority. -/
def linkLost (s : State) : State :=
  let row := if !s.rst.twinPresent then 1 else if senior s then 2 else 3
  let down := fun (h : Half) => { h with st := if h.st = .service then HalfSt.training else h.st }
  let s1 := if s.cp.twin = .inSync || s.cp.twin = .resync then lossEvent row (updCp (fun c => { c with sessionUp := false }) s) else s
  updCp (fun c => { c with sessionUp := false, hello := false, helloSeen := none, failover := none,
                           halves := c.halves.map (fun p => (p.1, down p.2)) }) s1

/-! ## Shares, and what a target does before TABLES_DONE (R307, R319) -/

def dirtyMiB (s : State) : Nat := (countedDirty s + 15) / 16
/-- The lower of the two budgets, MiB. -/
def pairBudget (s : State) : Nat := min (budget s) s.cp.twinBudget * 1024
def ownsAny (s : State) : Bool := (live s).regions.any (fun p => ownsRegion s p.2)
/-- The share at the start: the own count plus half the remaining room; 0 with no region owned (R307). -/
def firstShare (s : State) : State :=
  let own := dirtyMiB s
  updCp (fun c => { c with share := if ownsAny s then own + (pairBudget s - own - c.twinDirty) / 2 else 0 }) s
/-- Past TABLES_DONE on every side that sends one: the states of R306 and R307 begin. -/
def enterCopying (s : State) : State :=
  let r := s.cp.resync
  if (r.phase = .marked || r.phase = .imaging) && (!r.target || r.ownDone) && (!r.source || r.twinDone) then
    let s1 := updCp (fun c => { c with resync := { c.resync with phase := .copying } }) s
    firstShare s1
  else s
/-- Dirty DRAM-tier pages of regions this Steoc does not own (R319 step 4). -/
def foreignDirty (s : State) : List Nat := (s.fix.dirty.filter (fun d => !ownsTpn s d.tpn)).map (·.tpn)
/-- Pages with a home whose region is gone leave (a table adopted whole). -/
def dropOrphanPages (s : State) : State :=
  each (((live s).dir.map (·.1)).filter (fun t => (regionOfTpn s t).isNone)) freePage s
/-- R319 steps 4 and 5: the target images what it holds dirty of regions it does not own, then sends TABLES_DONE. -/
def targetStep (s : State) : State :=
  let r := s.cp.resync
  if s.cp.twin ≠ .resync || !r.target || r.ownDone || !r.tables || (r.phase ≠ .marked && r.phase ≠ .imaging) then s
  else
    let s0 := updCp (fun c => { c with resync := { c.resync with phase := .imaging } }) (if r.adopt then dropOrphanPages s else s)
    let todo := foreignDirty s0
    if todo.isEmpty then
      enterCopying (sendCtl .tablesDone none (updCp (fun c => { c with resync := { c.resync with ownDone := true } }) s0))
    else each (todo.filter (fun t => !(s0.fix.dirty.any (fun d => d.tpn = t ∧ d.imaging)) && !pageAbsent s0 t)) beginImage
      (each (todo.filter (pageAbsent s0)) demandPage s0)

end Sys2Proof.Machine
end

