-- ==== Sys2Proof/Machine/Fixative.lean ====
section
/-! DEFINITION. The Fixative (chapter 10): journal passes (R268–R272), budgets and hold-up (R274, R286, R288), the end of
admission at Drain, Keep and in a reset window (R279, R381, R488), the dump and its seal (R280–R285). -/
namespace Sys2Proof.Machine
open Sys2Proof

/-! ## Journal passes -/

/-- A dirty page that this Steoc's own passes take: not of a region its twin owns, in the states of R306. -/
def ownDirty (s : State) (d : Dirty) : Bool := !pairWorks s || ownsTpn s d.tpn
/-- Capture every page of the pass that is eligible (R269); one not restored is first demanded (R348). -/
def startImages (s : State) : State :=
  each s.fix.pass (fun t a =>
    match a.fix.dirty.find? (fun d => d.tpn = t) with
    | none => updFix (fun f => { f with pass := dropSet f.pass t }) a
    | some d =>
      if d.imaging || !eligible a t then a
      else if pageAbsent a t then demandPage t a
      else beginImage t a) s
/-- A page discarded whole and unchanged since gets index STATE 0b10 instead of an image (R272). -/
def dropImage (t : Nat) (s : State) : State :=
  let mark := fun (d : Dirty) => { d with imaging := true, changed := false }
  bump 0x701703 (recordImage t { st := 2 } (updFix (fun f => { f with dirty := modFirst (fun d => d.tpn = t) mark f.dirty }) s))
/-- Groups of the head that the first pass of a Recall wrote are closed, so that they can be verified (R355). -/
def closePassGroups (s : State) : State :=
  each s.rec_.passGroups (fun p a => if (groupOf a p.1 p.2).st = .opened then setGroup p.1 p.2 (fun g => { g with st := .full }) a else a) s
/-- The pass ends: it is counted, and the first one of a Recall is noted. -/
def passEnd (s : State) : State :=
  let s1 := bump 0x340008 (updFix (fun f => { f with passRunning := false }) s)
  if s1.rec_.phase ≠ .none && !s1.rec_.passAfter then
    recallStep (closePassGroups (updRecall (fun r => { r with passAfter := true }) s1))
  else s1
/-- A pass begins with every dirty page not being imaged, oldest first. -/
def beginPass (s : State) : State :=
  let mine := s.fix.dirty.filter (fun d => !d.imaging && ownDirty s d)
  let s1 := updFix (fun f => { f with passRunning := true, tickWait := false, pass := (mine.filter (fun d => !d.whole)).map (·.tpn) }) s
  startImages (each ((mine.filter (·.whole)).map (·.tpn)) dropImage s1)
/-- A running pass with nothing left ends; one that waited for it begins. -/
def passStep (s : State) : State :=
  if s.fix.passRunning && s.fix.pass.isEmpty then
    let s1 := passEnd s
    if s1.fix.tickWait then
      let s2 := beginPass s1
      targetStep (if s2.fix.pass.isEmpty then passEnd s2 else s2)
    else targetStep (recallStep s1)
  else targetStep (recallStep s)
/-- R268: a journal interval tick begins a pass, or makes one wait for the running pass. -/
def doJournalTick (s : State) : State :=
  if s.md.mode = .drain || s.rst.phase = .window || (s.md.mode = .recall && !s.rec_.serving) then s
  else if s.fix.passRunning then updFix (fun f => { f with tickWait := true }) s
  else passStep (beginPass s)
/-- R269: a page of the pass becomes eligible and is captured. -/
def doImageEligible (tpn : Nat) (s : State) : State := if s.fix.pass.contains tpn then startImages s else s

/-- Spent pressure wear in 1/100 cycle: one cycle per 2,400 GiB (R278, 0x3400.0b). -/
def pressureSpent (s : State) : Nat := s.fix.pressurePages * 100 / (2400 * 16384)
/-- A pressure image is counted; reaching the allowance is recorded once. -/
def countPressure (s : State) : State :=
  let s1 := updFix (fun f => { f with pressurePages := f.pressurePages + 1 }) s
  let limit := 100 * dget s 0x34000a
  if pressureSpent s < limit && limit ≤ pressureSpent s1 then post 0x0503 1 0 (leBytes 4 (pressureSpent s1)) s1 else s1
/-- The twin's image request is answered once its page is imaged, or need not be (R306 step 3). -/
def answerImage (tpn : Nat) (s : State) : State :=
  if s.cp.answerImages.contains tpn then
    sendCtl (.imageDone tpn) none (updCp (fun c => { c with answerImages := dropSet c.answerImages tpn }) s)
  else s
/-- R270 steps 2 to 4: an image's units are programmed and its record logged. In Drain the page stays in the dump. A failed
program is repeated. -/
def doJournalImageDone (tpn : Nat) (ok : Bool) (s : State) : State :=
  match s.fix.dirty.find? (fun d => d.tpn = tpn ∧ d.imaging ∧ !d.twinWait) with
  | none => s
  | some d =>
    if !ok then s
    else match programImage tpn d.copy s with
      | none => s
      | some (e, s1) =>
        let s2 := bump 0x701701 (if d.pressure then countPressure s1 else s1)
        if s.md.mode = .drain then setImage tpn e s2
        else
          let s3 := if s.rec_.phase ≠ .none && !s.rec_.passAfter then
              updRecall (fun r => { r with passGroups := (r.passGroups ++ (setDies e.set).map (fun n => (n, e.group))).eraseDups }) s2
            else s2
          let s4 := if d.changed then s3 else imageServes tpn s3
          passStep (foldHead e.set (answerImage tpn (recordImage tpn e s4)))

/-! ## Budgets and hold-up -/

/-- Hold-up energy in force: 0 once the report timeout has passed (R288). -/
def energy (s : State) : Nat := if s.fix.holdFresh then dget s 0x340401 else 0
/-- The hold-up requirement of a budget, in J rounded up: 1.5 × 110 W × (b / 85 GB/s + 50 ms) (R286). -/
def energyNeed (gib : Nat) : Nat := (165 * (gib * 1073741824 + 4250000000) + 84999999999) / 85000000000
/-- The HOLDUP cause follows the comparison (R288, Table 14.6). -/
def holdupCheck (s : State) : State :=
  if energy s < energyNeed (budget s) then (if bitOf s.md.causes 0 then s else raiseKeep 0 s)
  else if bitOf s.md.causes 0 then clearKeep 0 s else s
/-- A budget passes the tests of R274. -/
def budgetFits (s : State) (gib : Nat) : Bool :=
  decide (energyNeed gib ≤ energy s) && decide (plateNeed gib ≤ plateMiB s s.fix.ready) && decide (headNeed gib ≤ erasedHead s)
/-- What follows a change of the budget in force: the twin is told, the share falls with it, the causes are judged. -/
def budgetChanged (s : State) : State :=
  let s1 := when_ (pairWorks s) (fun a => sendCtl (.table (.budget (budget a))) none (updCp (fun c => { c with share := min c.share (budget a * 1024) }) a)) s
  mediaStep (reserveCauses (holdupCheck s1))
/-- R274: a budget is written: `profile` 0 is 0x3400.01, 1–3 the entries of the profiles. -/
def doBudgetWrite (profile gib : Nat) (s : State) : State :=
  let idx := if profile = 0 then 0x3400 else 0x3401
  let sub := if profile = 0 then 1 else profile
  let p := if profile = 0 then dget s 0x110002 else profile
  dictGuard idx sub false (fun a =>
    if gib = 0 || gib > 64 then dictRefuse idx sub 0x06040001 a
    else if !budgetFits a gib then dictRefuse idx sub 0x06040003 a
    else
      let a1 := dictDone idx sub (dset (0x340100 + p) gib a)
      if p = dget a 0x110002 then budgetChanged a1 else a1) s
/-- R288: the energy available is written. -/
def doHoldupEnergyWrite (joules : Nat) (s : State) : State :=
  dictGuard 0x3404 1 false (fun a =>
    if joules > 65535 then dictRefuse 0x3404 1 0x06040001 a
    else dictDone 0x3404 1 (holdupCheck (updFix (fun f => { f with holdFresh := true }) (dset 0x340401 joules a)))) s
/-- R288: the value was not rewritten within 0x3404.03: it counts as 0. -/
def doHoldupReportTimeout (s : State) : State :=
  if dget s 0x340403 = 0 then s else holdupCheck (updFix (fun f => { f with holdFresh := false }) s)

/-! ## Power failure and quiescing (R279, R381, R488) -/

/-- R32, R279: PFAIL_N has been low for some CLK_CORE cycles; 64 declare a power failure. After a seal no second dump
starts (R285). -/
def doPfailFall (cycles : Nat) (s : State) : State :=
  if cycles < 64 || s.rst.phase = .off || s.rst.phase = .powerOn || s.rst.phase = .asserted then s
  else enterDrain 1 (updRst (fun r => { r with pfail := true }) s)

/-- Operations not yet applied are abandoned with no completion: all of them, or those that change memory. -/
def abandonOps (changesOnly : Bool) (s : State) : State :=
  let late := fun (o : Op) => (!changesOnly || changesMemory o.kind) && (decide (0 < o.waiting) || o.held || !o.fwds.isEmpty)
  each (s.host.ops.filter late) (fun o a => dropOp o.id a) (updRecall (fun r => { r with writes := [] }) s)
/-- NOTICE DRAIN or KEEP on every half in service, after the records of the applied operations; the standing is YIELDED and
what is not acknowledged is marked (R313). -/
def yieldTo (sub : Nat) (s : State) : State :=
  if !pairWorks s || (live s).standing = .yielded then s
  else
    let tell := fun (a : State) => each ((List.range 2).filter (fun h => (halfOf a h).st = .service)) (fun h b => sendOn h (.notice sub 0) none b) a
    let s1 := markUnacked s
    logRecs 1 (updLive (fun t => { t with standing := .yielded }) (if linkUp s then tell s1 else s1))
/-- The Fixative's pass stops: pages being imaged stay dirty (R285). -/
def stopPass (s : State) : State :=
  let still := fun (d : Dirty) => { d with imaging := false, twinWait := false, pressure := false }
  updFix (fun f => { f with passRunning := false, tickWait := false, pass := [], dirty := f.dirty.map still }) s
/-- Each die finishes the program or erase in flight and drops the rest (R279, R233). -/
def stopDies (s : State) : State :=
  let first := fun (d : Die) => { d with ops := (d.ops.filter (fun o => match o.act with | .read _ => false | _ => true)).take 1 }
  updNand (fun n => { n with dies := n.dies.map (fun p => (p.1, first p.2)) }) s
/-- Every move before its switch step is abandoned (R164). -/
def abandonMoves (s : State) : State :=
  let s1 := each (s.tier.moves.map (·.tpn)) (fun t a => unpinPage t (abandon t a)) s
  updTier (fun x => { x with waiting := [], rehoming := [] }) s1
/-- R279, R381, R488: 5 µs after entry into Drain, entry into Keep, or the start of a full-form reset window. -/
def doQuiesceDeadline (s : State) : State :=
  if s.md.mode = .drain && s.fix.phase = .draining && !s.fix.dumpDead then
    let s1 := yieldTo 1 (abandonOps false s)
    let s2 := abandonMoves (stopDies (stopPass s1))
    updFix (fun f => { f with quiesced := true, phase := .dumping }) s2
  else if s.md.entering then
    intoKeep (if s.md.mode = .recall then 3 else 9) (yieldTo 2 (abandonOps true s))
  else if s.rst.phase = .window && !s.rst.short then
    abandonMoves (stopPass (yieldTo 1 (abandonOps false s)))
  else s

/-! ## The dump (R280–R285) -/

/-- Dirty lines of NAND-tier pages in the slices and their write-back buffers (Table 10.3, item 4). -/
def dirtyNandLines (s : State) : List (Nat × Mem) :=
  (List.range 14).flatMap (fun n =>
    let sl := sliceOf s n
    let inN := fun line => inNand (dirOf s (lineTpn line))
    sl.lines.filterMap (fun p =>
      let line := lineOfSet n (p.1 / 16) p.2.tag
      if p.2.dirty && inN line then some (line, p.2.data) else none)
    ++ (sl.wbs.filter (fun w => inN w.line && (cached sl w.line).isNone)).map (fun w => (w.line, w.data)))
/-- Where the dump goes: the ready plate, or 2 for erased head groups while both plates are held. -/
def dumpPlate (s : State) : Nat := if (s.fix.plates[s.fix.ready]?) = some .ready then s.fix.ready else 2
/-- The plate that is ready once a dump has gone to a plate (0x3403.01). -/
def nextReady (f : FixSide) (plate : Nat) : Nat := if plate = f.ready && (f.plates[1 - plate]?) = some .ready then 1 - plate else f.ready
/-- The tables the media give: the durable log, and after it the log buffer of the dump. -/
def mediaTables (s : State) : Tables :=
  match s.fix.sealed with
  | some d => if d.tables.writeSeq ≥ s.per.durable.writeSeq then d.tables else s.per.durable
  | none => { s.per.durable with everSynced := false }
/-- The dump as it stands when its last unit is programmed. A page that an earlier dump still holds and Recall has not
restored keeps that dump's content (R348), and so does everything in that dump before Recall has indexed it. -/
def makeDump (duration units : Nat) (s : State) : Dump :=
  let seen := s.rec_.dirLoaded && (s.rec_.dump.isNone || s.rec_.indexed)
  let held := s.fix.sealed
  let old := fun t => if s.rec_.unrestored.contains t then (s.rec_.dump.bind (fun d => (d.pages.find? (fun p => p.1 = t)).map (·.2.2))) else none
  let pages := if seen then (s.fix.dirty.map (·.tpn)).map (fun t => (t, (dirOf s t).poison, (old t).getD (readPage s t)))
    else (held.map (·.pages)).getD []
  let lines := if seen then dirtyNandLines s else (held.map (·.lines)).getD []
  let bundles := (lines.length + 127) / 128
  let lineUnits := bundles + (bundles + 15) / 16
  { plate := dumpPlate s, cause := s.fix.cause, seqFirst := nextSeq s, seqLast := (nextSeq s + units - 1) % 2 ^ 48,
    pageUnits := pages.length * 4, lineUnits := lineUnits, otherUnits := units - pages.length * 4 - lineUnits,
    poisoned := (pages.filter (·.2.1)).length, incarnation := incarnation s, duration := duration, slot := writeSlot s,
    tables := if s.rec_.dirLoaded then live s else mediaTables s,
    merges := if seen then s.nand.merge else (held.map (·.merges)).getD [], pages := pages, lines := lines,
    ring := if seen then s.rmq.ring else s.rmq.ring.foldl (fun t p => tput t p.1 p.2) ((held.map (·.ring)).getD []) }
/-- R282, R285: both seal copies are programmed. A dump for PFAIL_N leads to a system reset once PFAIL_N is high, and a
reset held until the seal follows now. -/
def doDumpSealed (duration units : Nat) (s : State) : State :=
  if s.fix.phase ≠ .dumping then s
  else
    let d := makeDump duration units s
    let s1 := updLive (fun t => { t with writeSeq := (t.writeSeq + units) % 2 ^ 48 }) s
    let hold := fun (f : FixSide) => { f with phase := DumpPhase.sealed, sealed := some d, plates := f.plates.set d.plate .holds, ready := nextReady f d.plate }
    let s2 := dset 0x340302 d.cause (dset 0x340303 (duration % 2 ^ 32) (dset 0x340304 (units % 2 ^ 32) (dset 0x340305 1 (updFix hold s1))))
    let detail := leBytes 1 d.plate ++ leBytes 1 d.cause ++ leBytes 6 d.seqFirst ++ leBytes 6 d.seqLast ++ leBytes 4 d.pageUnits
      ++ leBytes 4 d.lineUnits ++ leBytes 4 d.otherUnits ++ leBytes 4 d.poisoned ++ leBytes 4 d.duration ++ [0, 0]
    let s3 := bump32 0x701705 (post 0x0501 0 0 detail s2)
    if s.rst.dumpReset then updRst (fun r => { r with dumpReset := false }) (acceptReset ((bitList 11 s.rst.cause).headD 7) s3)
    else if d.cause = 1 && !s.rst.pfail && s.rst.pwrgd then acceptReset 6 s3 else s3
/-- R285: PFAIL_N rises; after the seal of a power-fail dump the Steoc resets with cause "dump complete". -/
def doPfailRise (s : State) : State :=
  let s1 := updRst (fun r => { r with pfail := false }) s
  if s.rst.pfail && s.fix.phase = .sealed && s.fix.cause = 1 && s.rst.pwrgd && s.md.mode = .drain && s.rst.phase = .running then acceptReset 6 s1 else s1

/-! ## The meanings: each completes -/

/-- JOURNAL_TICK (R268). -/
def execJournalTick (s : State) : Result := .next (doJournalTick s)
/-- IMAGE_ELIGIBLE (R269). -/
def execImageEligible (tpn : Nat) (s : State) : Result := .next (doImageEligible tpn s)
/-- JOURNAL_IMAGE_DONE (R270). -/
def execJournalImageDone (tpn : Nat) (ok : Bool) (s : State) : Result := .next (doJournalImageDone tpn ok s)
/-- BUDGET_WRITE (R274). -/
def execBudgetWrite (profile : Nat) (gib : Nat) (s : State) : Result := .next (doBudgetWrite profile gib s)
/-- PFAIL_N_FALL (R279). -/
def execPfailFall (cycles : Nat) (s : State) : Result := .next (doPfailFall cycles s)
/-- QUIESCE_DEADLINE (R279). -/
def execQuiesceDeadline (s : State) : Result := .next (doQuiesceDeadline s)
/-- DUMP_SEALED (R282). -/
def execDumpSealed (duration : Nat) (units : Nat) (s : State) : Result := .next (doDumpSealed duration units s)
/-- PFAIL_N_RISE (R285). -/
def execPfailRise (s : State) : Result := .next (doPfailRise s)
/-- HOLDUP_ENERGY_WRITE (R288). -/
def execHoldupEnergyWrite (joules : Nat) (s : State) : Result := .next (doHoldupEnergyWrite joules s)
/-- HOLDUP_REPORT_TIMEOUT (R288). -/
def execHoldupReportTimeout (s : State) : Result := .next (doHoldupReportTimeout s)

end Sys2Proof.Machine
end

