-- ==== Sys2Proof/Machine/Counterproof.lean ====
section
/-! DEFINITION. Counterproof (chapter 11): frames and their acknowledgement (R295–R298), the records of Table 11.4, fetches
(R308), the command claim (R531), resynchronisation (R319–R322), notices (R310, R311), sessions, epochs and halves
(R291, R318, R323–R328). -/
namespace Sys2Proof.Machine
open Sys2Proof

/-! ## Frames out -/

/-- A line record, by its line. -/
def recLine (r : CpRec) : Option Nat :=
  match r with
  | .write line .. | .zero line | .atomic line .. | .copy line _ | .fetch line _ | .fetchData line _ | .fetchFail line => some line
  | _ => none
/-- Records that change a line of this Steoc's copy. -/
def changesLine (r : CpRec) : Bool :=
  match r with
  | .write .. | .zero _ | .atomic .. | .copy .. => true
  | _ => false
/-- The highest FSN up to which every frame of a half is held (R297). -/
def heldFsn (h : Half) : Nat :=
  match h.rx.find? (fun r => changesLine r.rcd) with
  | some r => r.fsn - 1
  | none => h.expect - 1
/-- A half carries frames. -/
def halfLive (s : State) (half : Nat) : Bool := s.cp.sessionUp && decide ((halfOf s half).st = .service)
/-- An acknowledgement of a half (R297); none is sent once a Drain has quiesced (R279). -/
def sendAck (half : Nat) (nak : Bool) (s : State) : State :=
  let h := halfOf s half
  if !halfLive s half || s.fix.quiesced || s.fix.phase = .dumping then s
  else updCp (fun c => { c with txCount := c.txCount + 1 })
    (setHalf half (fun x => { x with ackSent := heldFsn h, nakSent := x.nakSent || nak })
      (emit (.frame half 2 h.lastFsn (heldFsn h) nak []) s))
/-- Report an advance of what is held. -/
def reportHeld (half : Nat) (s : State) : State :=
  if heldFsn (halfOf s half) > (halfOf s half).ackSent then sendAck half false s else s
/-- R296: the open frame of a half is closed and sent. An armed point 0x0901 of GE0 fires here. -/
def doFrameCloseTimer (half : Fin 2) (s0 : State) : State :=
  let h := halfOf s0 half.val
  if !halfLive s0 half.val || h.open_.isEmpty || decide ((halfOf s0 0).sent.length + (halfOf s0 1).sent.length ≥ 16384) then s0
  else
    let (lost, s) := match fireRecorded 0x0901 4 [1] s0 with
      | some p => (false, bump 0x701c01 p.2)
      | none => match fire 0x0901 4 [2] s0 with
        | some p => (true, p.2)
        | none => (false, s0)
    if lost then
      let s1 := bump32 0x701c02 (updKeys (fun k => { k with fenced := insertSet k.fenced 4 }) s)
      linkLost (draw (postAs true false 0x0601 2 4 (leBytes 8 (Config.measured s.freeCtr)) s1))
    else
      let fsn := h.lastFsn + 1
      let out := fun (x : Half) => { x with open_ := [], sent := x.sent ++ [⟨fsn, x.open_⟩], lastFsn := fsn, ackSent := heldFsn x }
      updCp (fun c => { c with txCount := c.txCount + 1 })
        (setHalf half.val out (emit (.frame half.val 1 fsn (heldFsn h) false (h.open_.map (·.rcd))) s))
/-- Resend every frame not acknowledged, each sealed again under its old FSN (R297). -/
def resendFrames (half : Nat) (s : State) : State :=
  if !halfLive s half then s
  else each (halfOf s half).sent (fun f a =>
    updCp (fun c => { c with txCount := c.txCount + 1 })
      (bump 0x701803 (emit (.frame half 1 f.fsn (heldFsn (halfOf a half)) false (f.recs.map (·.rcd))) a))) s
/-- R297: ACK_FSN has not advanced for 8 µs. -/
def doResendTimeout (half : Fin 2) (s : State) : State := resendFrames half.val s

/-- The status body of this Steoc (Table 11.2). -/
def statusBody (s : State) : StatusBody :=
  ⟨(live s).syncGen, (live s).tableGen, incarnation s, s.rst.twinPresent, (live s).everSynced, standingCode (live s).standing,
   (live s).regions.any (fun p => ownsRegion s p.2)⟩
/-- R309: a half that has sent nothing for 2 µs sends a HEARTBEAT. -/
def doHeartbeatSendTimer (half : Fin 2) (s : State) : State :=
  if !halfLive s half.val then s
  else updCp (fun c => { c with txCount := c.txCount + 1 }) (emit (.status 3 half.val s.cp.epoch (statusBody s)) s)

/-! ## Resynchronisation: shares, tables, copying -/

/-- The table records of a one-directional source, then, from every source, the window and the budget (R319 step 3, R303). -/
def tableRecords (s : State) : List CpRec :=
  let t := live s
  t.tenants.map (fun p => .table (.tenant p.1 (b2n p.2.enable * 2 ^ 63 + p.2.maxRegions * 2 ^ 32)))
    ++ t.quotas.map (fun p => .table (.quota p.1 (p.2.dramQuota * 2 ^ 96 + p.2.nandQuota * 2 ^ 32)))
    ++ t.hosts.map (fun p => .table (.host p.1 p.2))
    ++ t.regions.map (fun p => .table (regionElem p.1 p.2 (regionPages s p.2 true) (regionPages s p.2 false)))
    ++ t.keys.map (fun p => .table (.key p.1 (keyNumber p.1 p.2)
        (match p.2.st with | .valid => 1 | .fencing => 2 | .revoked => 3 | .free => 0) p.2.slot p.2.region))
    ++ t.dir.map (fun p => .table (.directory p.1 (match p.2.home with | .nand .. => 2 | .dram _ => 1 | .none => 0) p.2.tenant p.2.zero))
def statusRecords (s : State) : List CpRec := [.table (.window (dget s 0x210002)), .table (.budget (budget s))]
/-- R319 step 3: REPLAY of every unexpired ADD, CAS and PLACE entry, shadows of the own contexts, tables. -/
def sourceRecords (s : State) : List CpRec :=
  (if s.cp.resync.source then ((s.host.replay ++ s.host.mirror).filter (fun e => !e.pending && (e.resp.status = 0 || e.resp.status ≠ 8))).map
      (fun e => CpRec.replay e.token e.resp) else [])
    ++ (s.rc.own.filter (fun p => p.2.st = .serving ∨ p.2.st = .connecting)).map (fun p => CpRec.qpShadow (shadowOf (s.rst.node * 65536 + p.1) p.2))
    ++ (if s.cp.resync.source && !s.cp.resync.target && s.cp.resync.adopt then tableRecords s else [])
    ++ statusRecords s
/-- Blocks to copy: the union of both maps, or every block of the regions this Steoc is source of. -/
def copyBlocks (s : State) (blocks : List Nat) : List Nat :=
  let mine := fun (r : Region) => !s.cp.resync.target || ownsRegion s r
  let regs := ((live s).regions.map (·.2)).filter mine
  let all := regs.flatMap (fun r => (List.range ((r.base % 16 + r.pages + 15) / 16)).map (fun i => r.base / 16 + i))
  if s.cp.resync.full then sortNats all
  else (sortNats ((live s).divergence ++ blocks)).filter (fun b => all.contains b)
/-- When every block is copied and acknowledged the source sends SYNC on each half in service (R321). -/
def syncStep (s : State) : State :=
  let r := s.cp.resync
  if s.cp.twin = .resync && r.phase = .copying && r.source && r.todo.isEmpty && s.cp.halves.all (fun p => (unacked p.2).isEmpty) then
    each ((List.range 2).filter (fun h => (halfOf s h).st = .service)) (fun h a => sendOn h .sync none a)
      (updCp (fun c => { c with resync := { c.resync with phase := .synced } }) s)
  else s
/-- The pair is in sync (R321): map cleared, standing PAIRED, Duplex rule; causes that end with a target's
resynchronisation clear (Table 14.6). -/
def enterSync (s : State) : State :=
  let r := s.cp.resync
  let t := fun (x : Tables) => { x with standing := Standing.paired, everSynced := true, divergence := [] }
  let role := b2n r.source + 2 * b2n r.target
  let s1 := logRecs 1 (updLive t (updCp (fun c => { c with twin := .inSync, resync := {}, ownsNone := false, declared := false, charged := [] }) s))
  let s2 := bump32 0x70180a (post 0x0205 0 0 (leBytes 1 role ++ leBytes 1 (b2n r.full) ++ [0, 0] ++ leBytes 4 r.total) s1)
  let s3 := if s2.md.mode = .solo && !s2.md.entering then setMode .duplex 6 s2 else s2
  let clear := fun bit (a : State) => if r.target && bitOf a.md.causes bit then clearKeep bit a else a
  clear 10 (clear 9 s3)
/-- Each side's part of the end is done. -/
def syncDone (s : State) : State :=
  let r := s.cp.resync
  if s.cp.twin = .resync && (!r.source || r.ackIn) && (!r.target || r.ackOut) then enterSync s else s
/-- SYNC_GEN becomes one more than the greater of the two values exchanged. -/
def setSyncGen (s : State) : State := updLive (fun t => { t with syncGen := (s.cp.resync.gen + 1) % 2 ^ 32 }) s

/-- A page of a block is copied (R320): its directory entry, then its lines, or zeros and discards where ZERO is set. -/
def copyPage (tpn : Nat) (s : State) : State :=
  let d := dirOf s tpn
  if d.home = .none || d.poison then s
  else
    let home := match d.home with | .nand .. => 2 | _ => 1
    let s1 := sendCtl (.table (.directory tpn home d.tenant d.zero)) none s
    let s2 := each (List.range 512) (fun i a =>
      let line := tpn * 512 + i
      sendOn (halfFor a line) (if d.zero then .zero line else .copy line (mbytes (readLine s line) 0 128)) none a) s1
    let s3 := if d.zero then each (List.range 4) (fun k a => sendCtl (.discardUnit (tpn * 4 + k) (halfOf a 0).lastFsn (halfOf a 1).lastFsn) none a) s2
      else s2
    if inDram d then
      sendCtl (.imageRequest tpn (halfOf s3 0).lastFsn (halfOf s3 1).lastFsn) none (updCp (fun c => { c with charged := insertSet c.charged tpn }) s3)
    else s3
/-- R320: the source copies the next block, while its share has room for the pages charged. -/
def doResyncCopyBlock (s : State) : State :=
  let r := s.cp.resync
  if s.cp.twin ≠ .resync || !r.source || r.phase ≠ .copying || !linkUp s then s
  else match r.todo with
    | [] => syncStep s
    | b :: rest =>
      let pages := (span (b * 16) 0 16).filter (fun t => (dirOf s t).home ≠ .none && (!r.target || ownsTpn s t))
      let dram := (pages.filter (fun t => inDram (dirOf s t) && !s.cp.charged.contains t)).length
      if pages.any (pageAbsent s) then each (pages.filter (pageAbsent s)) demandPage s
      else if countedDirty s + dram > dirtyLimit s then s
      else
        let s1 := each pages copyPage (updCp (fun c => { c with resync := { c.resync with todo := rest } }) s)
        syncStep s1

/-! ## Frames in -/

/-- Frames acknowledged leave the transmit store; a NAK resends the rest. A switch of epoch is acknowledged too (R325). -/
def ackTo (half ackFsn : Nat) (nak : Bool) (s : State) : State :=
  let done := fun (h : Half) => { h with sent := h.sent.filter (fun f => decide (f.fsn > ackFsn)), ackSeen := max h.ackSeen ackFsn }
  let s1 := setHalf half done s
  let s2 := match s1.cp.nextEpoch with
    | some e => updCp (fun c => { c with epoch := e, nextEpoch := none, txCount := 0 }) s1
    | none => s1
  syncStep (if nak then resendFrames half s2 else s2)
/-- What every accepted frame's header tells (Table 11.1). -/
def noteHead (h : FrameHead) (s : State) : State :=
  updCp (fun c => { c with twinNode := h.node, twinMode := h.mode, twinDirty := h.dirty, rxPrev := if h.epoch = c.rxEpoch then 0 else c.rxPrev })
    (setHalf h.half.val (fun x => { x with counter := h.counter }) s)
/-- A frame is authentic (R327): tag, epoch, counter. -/
def authentic (s : State) (h : FrameHead) : Bool :=
  h.tagOk && (decide (h.epoch = s.cp.rxEpoch) || (decide (h.epoch = s.cp.rxPrev) && decide (s.cp.rxPrev ≠ 0)))
    && decide (h.counter > (halfOf s h.half.val).counter) && halfLive s h.half.val
/-- The injected verdict on an arriving frame: 0x0302 its tag, 0x0901 of GE1. -/
def injectFrame (h : FrameHead) (s : State) : Bool × Bool × State :=
  match fireRecorded 0x0302 h.half.val [1] s with
  | some p => (true, false, p.2)
  | none => match fireRecorded 0x0901 5 [1] s with
    | some p => (false, false, bump 0x701c01 p.2)
    | none => match fire 0x0901 5 [2] s with
      | some p => (false, true, p.2)
      | none => (false, false, s)
/-- R297: a DATA frame. One not acceptable is discarded, with one NAK for the FSN expected. -/
def doDataFrame (h : FrameHead) (recs : List CpRec) (s0 : State) : State :=
  let (bad, fence, s) := injectFrame h s0
  if fence then
    let s1 := bump32 0x701c02 (updKeys (fun k => { k with fenced := insertSet k.fenced 5 }) s)
    linkLost (draw (postAs true false 0x0601 2 5 (leBytes 8 (Config.measured s.freeCtr)) s1))
  else if !halfLive s h.half.val then s
  else if bad || !authentic s h || decide (h.fsn ≠ (halfOf s h.half.val).expect) then
    let s1 := when_ (bad || !h.tagOk) (bump 0x701804) s
    if (halfOf s1 h.half.val).nakSent then s1 else sendAck h.half.val true s1
  else
    let take := fun (x : Half) => { x with expect := x.expect + 1, nakSent := false, rx := x.rx ++ recs.map (fun r => ⟨h.fsn, r⟩) }
    reportHeld h.half.val (ackTo h.half.val h.ackFsn h.nak (setHalf h.half.val take (noteHead h s)))
/-- R297: an ACK frame. -/
def doAckFrame (h : FrameHead) (s : State) : State :=
  if !authentic s h then when_ (halfLive s h.half.val && !h.tagOk) (bump 0x701804) s
  else ackTo h.half.val h.ackFsn h.nak (noteHead h s)
/-- R294: a HEARTBEAT keeps the session alive. -/
def doHeartbeatFrame (h : FrameHead) (b : StatusBody) (s : State) : State :=
  if !authentic s h then when_ (halfLive s h.half.val && !h.tagOk) (bump 0x701804) s
  else ackTo h.half.val h.ackFsn h.nak (updCp (fun c => { c with helloSeen := some b }) (noteHead h s))

/-! ## Taking records -/

/-- Records from the twin are applied: not once this Steoc has declared, stood down, or quiesced its Drain (R304, R279). -/
def applies (s : State) : Bool :=
  (s.cp.twin = .inSync || s.cp.twin = .resync) && !s.fix.quiesced && (live s).standing ≠ .yielded || (s.cp.twin = .resync && s.cp.resync.target && !s.fix.quiesced)
/-- A twin's cut of whose slices this half has brought some points, but not yet all, holds later line records (R360). -/
def cutHolds (s : State) (line : Nat) : Bool :=
  match s.snap.cut with
  | some c => !c.own && c.points.contains (homeSlice line) && decide (c.points.length < 14)
  | none => false
/-- Whether a record is free to be applied behind those before it on its half (R297): a line record passes other lines'
records, a control record line records that wait, a strict one nothing. -/
def passes (strict : Bool) (r : CpRec) (before : List RxRec) : Bool :=
  if strict then before.isEmpty
  else match recLine r with
    | some l => before.all (fun x => match recLine x.rcd with | some m => decide (m ≠ l) | none => false)
    | none => before.all (fun x => changesLine x.rcd)
/-- The first record of a kind on a half that may be applied now. -/
def takeRec (strict : Bool) (sel : CpRec → Bool) : List RxRec → List RxRec → Option (RxRec × List RxRec)
  | _, [] => none
  | before, r :: t =>
    if sel r.rcd then (if passes strict r.rcd before then some (r, before ++ t) else none)
    else takeRec strict sel (before ++ [r]) t
/-- Take the next record of a kind off a half, counted as applied, and report what becomes held. -/
def withRec (half : Fin 2) (strict : Bool) (sel : CpRec → Bool) (f : RxRec → State → State) (s : State) : State :=
  match takeRec strict sel [] (halfOf s half.val).rx with
  | none => s
  | some (r, rest) =>
    let s1 := bump 0x701802 (setHalf half.val (fun h => { h with rx := rest }) s)
    reportHeld half.val (f r s1)

/-- Every frame up to an FSN of a half has been applied. A failed half brings nothing more. -/
def appliedUpTo (s : State) (half fsn : Nat) : Bool :=
  let h := halfOf s half
  h.st ≠ .service || (decide (h.expect > fsn) && !(h.rx.any (fun r => changesLine r.rcd && decide (r.fsn ≤ fsn))))
/-- The twin's image of a page starts, or is answered at once when the page is clean or lies on the NAND tier (R306). -/
def imageForTwin (tpn : Nat) (s : State) : State :=
  match s.fix.dirty.find? (fun d => d.tpn = tpn) with
  | none => sendCtl (.imageDone tpn) none s
  | some d =>
    let s1 := updCp (fun c => { c with answerImages := insertSet c.answerImages tpn }) s
    if d.imaging then s1 else if pageAbsent s1 tpn then demandPage tpn s1 else beginImage tpn s1
/-- Image requests whose frames have all been applied go on. -/
def imageStep (s : State) : State :=
  let ready := s.cp.waitImages.filter (fun w => appliedUpTo s 0 w.2.1 && appliedUpTo s 1 w.2.2)
  each ready (fun w a => imageForTwin w.1 (updCp (fun c => { c with waitImages := c.waitImages.filter (· ≠ w) }) a)) s

/-! ## Line records -/

/-- A mirrored change of a line at its home slice, in the MIRROR class (R297). -/
def mirrorPut (line : Nat) (f : Mem → Mem) (clean : Bool) (s : State) : State :=
  let n := homeSlice line
  let v := f (readLine s line)
  let s1 := changePage (lineTpn line) s
  if (sliceOf s1 n).st = .enabled then
    match cached (sliceOf s1 n) line with
    | some p => touch n p.1 (fun l => { l with data := v, dirty := !clean }) s1
    | none => match install line .mirror (!clean) false false v s1 with
      | some s2 => s2
      | none => homeWrite line v s1
  else
    let s2 := match (if sliceHits (sliceOf s1 n) then cached (sliceOf s1 n) line else none) with
      | some p => touch n p.1 (fun l => { l with data := v, dirty := false }) s1
      | none => s1
    homeWrite line v s2
/-- A line record waits: for its page in Recall (R346), a fetch (R305), a fill of the line, or a cut. -/
def lineWaits (s : State) (half : Fin 2) (line : Nat) (whole : Bool) : Bool :=
  (pageAbsent s (lineTpn line) && !whole) || (halfOf s half.val).rxFetch.contains line
    || (sliceOf s (homeSlice line)).fills.any (fun f => f.line = line) || cutHolds s line
/-- A record for a line being fetched is discarded: the fetched value contains it (R308). -/
def fetchCovers (s : State) (line : Nat) : Bool :=
  s.cp.fetches.any (fun f => match f.why with
    | .nandUnit _ => decide (f.line / 512 = line / 512)
    | .mirror => false
    | _ => decide (f.line = line))
/-- While the target images, a record that would make a clean page dirty is not applied and its block is marked (R319). -/
def refusedInResync (s : State) (tpn : Nat) : Bool :=
  s.cp.twin = .resync && s.cp.resync.target && !s.cp.resync.ownDone && !ownsTpn s tpn && inDram (dirOf s tpn) && !isDirty s tpn
/-- Apply a line record: wait, drop, mark or change. -/
def lineRecord (half : Fin 2) (sel : CpRec → Bool) (whole : Bool) (f : CpRec → State → State) (s : State) : State :=
  match takeRec false sel [] (halfOf s half.val).rx with
  | none => s
  | some (r, _) =>
    match recLine r.rcd with
    | none => s
    | some line =>
      let tpn := lineTpn line
      if !applies s then withRec half false sel (fun _ a => a) s
      else if lineWaits s half line whole then demandPage tpn s
      else if refusedInResync s tpn then withRec half false sel (fun _ a => markBlock (tpn / 16) a) s
      else if fetchCovers s line || (dirOf s tpn).home = .none then withRec half false sel (fun _ a => a) s
      else imageStep (withRec half false sel (fun x a => f x.rcd a) s)
/-- A write or atomic ends a count of discarded units of its page. -/
def unDiscard (tpn : Nat) (s : State) : State := updCp (fun c => { c with discarded := tdel c.discarded tpn }) s
/-- The shadow of a QP has had a PSN applied: its EPSN is one beyond, and an atomic's result joins its ring (R113). -/
def shadowApplied (qpn psn : Nat) (result : Option Nat) (s : State) : State :=
  let f := fun (q : Qp) =>
    let e := if psnDist psn q.epsn < 2 ^ 23 then psnAdd psn 1 else q.epsn
    { q with epsn := e, ring := match result with | some v => (q.ring ++ [(psn, v)]).drop (q.ring.length + 1 - 16) | none => q.ring }
  updRc (fun r => { r with shadows := r.shadows.map (fun p => if p.1 = qpn ∧ p.2.st = .shadow then (p.1, f p.2) else p) }) s
/-- R295, R297: a WRITE record. -/
def doWriteRecord (half : Fin 2) (s : State) : State :=
  lineRecord half (fun r => match r with | .write .. => true | _ => false) false (fun r a => match r with
    | .write line off data src =>
      let a1 := unDiscard (lineTpn line) (mirrorPut line (fun v => mput v off data) false a)
      (match src with | some (q, p) => shadowApplied q p none a1 | none => a1)
    | _ => a) s
/-- R295, R252: a ZERO record: clean zeros on the NAND tier, dirty on the DRAM tier. -/
def doZeroRecord (half : Fin 2) (s : State) : State :=
  lineRecord half (fun r => match r with | .zero _ => true | _ => false) false (fun r a => match r with
    | .zero line => mirrorPut line (fun _ => []) (inNand (dirOf a (lineTpn line))) a
    | _ => a) s
/-- A token and response from the twin: stored in this Steoc's own entry for it, or in the mirror area (R83). -/
def mirrorEntry (t : Token) (v : RespVal) (s : State) : State :=
  if s.host.replay.any (fun e => e.token = t) then
    updHost (fun h => { h with replay := modFirst (fun e => e.token = t) (fun e => { e with resp := if e.pending then v else e.resp }) h.replay }) s
  else updHost (fun h => { h with mirror := h.mirror.filter (fun e => e.token ≠ t) ++ [⟨t, false, v, dget s 0x210002, none⟩] }) s
def mirrorFull (s : State) : Bool := decide (s.host.mirror.length ≥ Config.replayEntries)
/-- The result of an atomic this Steoc forwarded has come with its ATOMIC record (R312 step 5). -/
def resultHere (host seq prior : Nat) (s : State) : State :=
  updHost (fun h => { h with ops := h.ops.map (fun o =>
    if (o.kind = .add || o.kind = .cas) && decide (o.host = host) && decide (o.seq = seq) && !o.fwds.isEmpty then
      { o with checked := true, result := prior } else o) }) s
/-- R83, R113: an ATOMIC record. -/
def doAtomicRecord (half : Fin 2) (s : State) : State :=
  if mirrorFull s then s
  else lineRecord half (fun r => match r with | .atomic .. => true | _ => false) false (fun r a => match r with
    | .atomic line off new prior rc idHost idSeq =>
      let a1 := resultHere idHost idSeq prior (unDiscard (lineTpn line) (mirrorPut line (fun v => mput v off (leBytes 8 new)) false a))
      if rc then shadowApplied idHost idSeq (some prior) a1 else mirrorEntry ⟨idHost, idSeq⟩ { okVal with result := prior } a1
    | _ => a) s
/-- R320: a COPY record installs a whole line; the copy of all 512 lines restores a page and clears its poison (R55). -/
def doCopyRecord (half : Fin 2) (s : State) : State :=
  lineRecord half (fun r => match r with | .copy .. => true | _ => false) true (fun r a => match r with
    | .copy line data =>
      let tpn := lineTpn line
      let a1 := mirrorPut line (fun _ => memOf 0 data) false a
      let a2 := updCp (fun c => { c with resync := { c.resync with got := tmod 0 c.resync.got tpn (· + 1) } }) a1
      if tget 0 a2.cp.resync.got tpn < 512 then a2
      else
        let a3 := logRecs 1 (setDir tpn (fun d => { d with poison := false }) a2)
        updRecall (fun x => { x with unrestored := dropSet x.unrestored tpn, demand := dropSet x.demand tpn }) a3
    | _ => a) s

/-! ## Fetches (R308) -/

/-- R308: a FETCH is answered from this Steoc's copy, without allocating, after every record sent before. -/
def doFetchRecord (half : Fin 2) (readable : Bool) (s : State) : State :=
  withRec half false (fun r => match r with | .fetch .. => true | _ => false) (fun r a => match r.rcd with
    | .fetch line page =>
      let tpn := lineTpn line
      let lines := if page then span (tpn * 512) 0 512 else [line]
      let ok := readable && !(dirOf a tpn).poison && (dirOf a tpn).home ≠ .none && !pageAbsent a tpn
      bump 0x701808 (if ok then each lines (fun l b => sendOn (halfFor b l) (.fetchData l (mbytes (readLine a l) 0 128)) none b) a
        else sendOn half.val (.fetchFail line) none a)
    | _ => a) s
/-- A fetched line is put where it was lost: the DRAM word, the NAND unit through the merge buffer, the slice's line, or
under a mirror record that waited (R221, R260, R186, R305). -/
def fetched (f : Fetch) (line : Nat) (data : Mem) (s : State) : State :=
  let drop := fun (a : State) => updCp (fun c => { c with fetches := dropFirst (fun x => x = f) c.fetches }) a
  match f.why with
  | .dramWord => match s.dram.waiters.find? (fun p => p.1 = line) with
    | some p => recovered p.2 line 2 (homeWrite line data (drop s))
    | none => drop s
  | .sliceLine => (install line .host true false false data (drop s)).getD (homeWrite line data (drop s))
  | .mirror =>
    let s1 := updCp (fun c => { c with halves := c.halves.map (fun p => (p.1, { p.2 with rxFetch := dropSet p.2.rxFetch line })) }) (drop s)
    homeWrite line data s1
  | .restore tpn =>
    let s1 := updDram (fun m => match (dirOf s tpn).home with
      | .dram f => { m with mem := mpaste m.mem (frameAddr f + lineIdx line * 128) 128 data }
      | _ => m) (updRecall (fun r => { r with fetched := tmod 0 r.fetched tpn (· + 1) }) s)
    if tget 0 s1.rec_.fetched tpn < 512 then s1
    else markRestored tpn (markDirty tpn (countRestore tpn (updRecall (fun r => { r with fetched := tdel r.fetched tpn }) (drop s1))))
  | .nandUnit lunit =>
    match (dirOf s (lineTpn line)).home with
    | .nand set _ =>
      if lineIdx line / 128 ≠ lunit % 4 then s
      else
        let s1 := mergeLine (lineTpn line) set lunit (lineIdx line % 128) data s
        if (s1.nand.merge.find? (fun m => m.lunit = lunit)).any (fun m => m.lines.length < 128) then s1
        else
          let e := tget {} (live s1).fmap lunit
          refreshGroup (dieNo e.place.ch e.place.die) e.place.group
            (updNand (fun n => { n with ladder := n.ladder.filter (fun l => l.lunit ≠ lunit) }) (drop s1))
    | _ => updNand (fun n => { n with ladder := n.ladder.filter (fun l => l.lunit ≠ lunit) }) (drop s)
/-- The fetch a reply belongs to: of the line, or of its page. -/
def fetchOf (s : State) (line : Nat) : Option Fetch :=
  s.cp.fetches.find? (fun f => match f.why with
    | .nandUnit lunit => decide (f.line / 512 = line / 512) && decide (lineIdx line / 128 = lunit % 4)
    | .restore tpn => decide (tpn = line / 512)
    | _ => decide (f.line = line))
/-- R308: FETCH_DATA recovers a line. -/
def doFetchDataRecord (half : Fin 2) (s : State) : State :=
  withRec half false (fun r => match r with | .fetchData .. => true | _ => false) (fun r a => match r.rcd with
    | .fetchData line data => (match fetchOf a line with | some f => fetched f line (memOf 0 data) a | none => a)
    | _ => a) s
/-- R308: FETCH_FAIL: the next recovery step. -/
def doFetchFailRecord (half : Fin 2) (s : State) : State :=
  withRec half false (fun r => match r with | .fetchFail _ => true | _ => false) (fun r a => match r.rcd with
    | .fetchFail line => (match fetchOf a line with | some f => fetchFailed f a | none => a)
    | _ => a) s

/-! ## Forwarding (R300) -/

/-- A control record of this Steoc's twin, once it may be applied. -/
def control (half : Fin 2) (strict : Bool) (sel : CpRec → Bool) (f : CpRec → State → State) (s : State) : State :=
  withRec half strict sel (fun r a => if applies a then f r.rcd a else a) s
/-- R300: a FORWARD executes at the owner with no second access check. Its token enters the replay table (R83). -/
def doForwardRecord (half : Fin 2) (s : State) : State :=
  control half false (fun r => match r with | .forward _ => true | _ => false) (fun r a => match r with
    | .forward d =>
      let k := kindOf d.opcode
      let t : Token := ⟨d.idHost, d.idSeq⟩
      let answer := fun v => sendCtl (.forwardDone d.fwdId v) none a
      match findRegion a d.region with
      | none => answer (nakVal 5 1)
      | some (_, g) =>
        if !ownsRegion a g then answer retryDrain
        else if (a.md.mode = .keep || a.md.entering) && changesMemory k then answer (nakVal 3 2)
        else match (if nonIdem k && !d.rc then replayFind a t else none) with
          | some e => if e.pending then a else answer e.resp
          | none =>
            if nonIdem k && !d.rc && decide (a.host.replay.length ≥ Config.replayEntries) then answer (busyVal 2)
            else
              let len := if k = .place || k = .discard then d.operand1 else if k = .add || k = .cas then 8 else d.len
              let o : Op := { id := 0, origin := .forwarded d.fwdId d.rc, kind := k, host := d.idHost, seq := d.idSeq, region := d.region,
                              key := d.key, off := d.off, len := len, a := d.operand1, b := d.operand2, data := d.data }
              let id := a.host.nextOp
              startOp id (when_ (nonIdem k && !d.rc) (replayCreate t) (addOp o a))
    | _ => a) s
/-- R300: FORWARD_DONE completes the accepting Steoc's request. -/
def doForwardDoneRecord (half : Fin 2) (s : State) : State :=
  control half false (fun r => match r with | .forwardDone .. => true | _ => false) (fun r a => match r with
    | .forwardDone id v =>
      match a.host.ops.find? (fun o => o.fwds.any (fun p => p.1 = id)) with
      | none => a
      | some o =>
        let dst := ((o.fwds.find? (fun p => p.1 = id)).map (·.2)).getD 0
        let rest := o.fwds.filter (fun p => p.1 ≠ id)
        let put := fun (x : Op) =>
          if v.status ≠ 0 && decide (x.kind = .batch) then { x with fwds := rest, statuses := x.statuses.set (descAt x.descs dst) v.status }
          else if v.status ≠ 0 then { x with fwds := rest, nak := some (x.nak.getD v) }
          else { x with fwds := rest, result := v.result, reads := if v.data.isEmpty then x.reads else mput x.reads dst v.data }
        modOp o.id put a
    | _ => a) s

/-! ## Tables, fences, owners (R138, R143, R302) -/

/-- Adopt an element of a source's tables whole: pages of new regions take their homes from directory records (R320). -/
def adoptElem (e : TableElem) (s : State) : State :=
  match e with
  | .region slot id st owner tenant pages base _ _ =>
    if st = 0 then s
    else
      let s1 := updLive (fun t => { t with regions := t.regions.filter (fun p => p.2.id ≠ id) }) s
      addRegion slot ⟨id, if st = 2 then .fencing else if st = 3 then .deleting else .active, owner, tenant, pages, base⟩ s1
  | _ => applyElem e s
/-- R143: a TABLE record is applied and logged, and its verdict answered; at a resynchronisation it is adopted. -/
def doTableRecord (half : Fin 2) (s : State) : State :=
  control half false (fun r => match r with | .table _ => true | _ => false) (fun r a => match r with
    | .table e =>
      let resync := a.cp.twin = .resync && !a.cp.resync.ownDone && a.cp.resync.target
      match e with
      | .budget _ =>
        let a1 := applyElem e a
        if a.cp.twin = .resync && (a.cp.resync.phase = .marked || a.cp.resync.phase = .imaging || a.cp.resync.phase = .started) then
          targetStep (updCp (fun c => { c with resync := { c.resync with tables := true } }) a1)
        else updCp (fun c => { c with share := min c.share (pairBudget a1) }) a1
      | .window _ | .directory .. => applyElem e a
      | _ =>
        if resync then adoptElem e a
        else
          let ok := elemAccepted a e
          sendCtl (.verdict ok e) none (if ok then applyElem e a else a)
    | _ => a) s
/-- A region command ends with the twin's verdict on its element. -/
def commandVerdict (accept : Bool) (e : TableElem) (c : RunCmd) (s : State) : State :=
  if accept then finishCmd 0 c.result (applyElem e s) else finishCmd 4 0 s
/-- Whether a verdict on an element can be that of a region command or a CLONE. -/
def commandElem (e : TableElem) : Bool := match e with | .region .. | .key .. => true | _ => false
/-- A table element as it stands here. -/
def presentElem (s : State) (e : TableElem) : TableElem :=
  match e with
  | .tenant i _ => .tenant i (b2n (tenantOf s i).enable * 2 ^ 63 + (tenantOf s i).maxRegions * 2 ^ 32)
  | .quota i _ => .quota i ((quotaOf s i).dramQuota * 2 ^ 96 + (quotaOf s i).nandQuota * 2 ^ 32)
  | .host i _ => .host i (tget 0 (live s).hosts i)
  | x => x
/-- The twin's verdict on an element of a write: applied with the last acceptance; refused with the first refusal, when the
twin takes back the other elements (R143, R423). -/
def writeVerdict (ok : Bool) (e : TableElem) (w : PendingWrite) (s : State) : State :=
  let drop := fun (a : State) => updEng (fun x => { x with writes := dropFirst (fun y => y = w) x.writes }) a
  if !ok then
    dictRefuse w.idx w.sub 0x06040003 (each (w.elems.filter (· ≠ e)) (fun x a => sendCtl (.table (presentElem s x)) none a) (drop s))
  else if w.left ≤ 1 then dictDone w.idx w.sub (each w.elems applyElem (drop s))
  else updEng (fun x => { x with writes := modFirst (fun y => y = w) (fun y => { y with left := y.left - 1 }) x.writes }) s
/-- R143: the twin's verdict decides the write, the region command or the CLONE that waits for it. -/
def doTableVerdict (half : Fin 2) (s : State) : State :=
  control half false (fun r => match r with | .verdict .. => true | _ => false) (fun r a => match r with
    | .verdict ok e =>
      match a.eng.writes.find? (fun w => w.elems.contains e) with
      | some w => writeVerdict ok e w a
      | none =>
        if !commandElem e then a
        else match a.eng.run with
        | some c => if c.phase = .twin then commandVerdict ok e c a else (if a.snap.run.isSome then cloneVerdict ok e a else a)
        | none => if a.snap.run.isSome then cloneVerdict ok e a else a
    | _ => a) s
/-- R138 step 5, R140: the twin's fence is run here too. -/
def doFenceMarkRecord (half : Fin 2) (s : State) : State :=
  control half false (fun r => match r with | .fenceMark .. => true | _ => false) (fun r a => match r with
    | .fenceMark region keys pages => if a.eng.fence.isSome then a else startFence ⟨region, keys, pages, true, false, false, false⟩ a
    | _ => a) s
/-- R138: the twin's drain has ended. -/
def doFenceConfirmRecord (half : Fin 2) (s : State) : State :=
  control half false (fun r => match r with | .fenceConfirm _ => true | _ => false) (fun _ a =>
    match a.eng.run with
    | some c => if c.phase = .fence then fenceDone (updEng (fun e => { e with run := some { c with twin := true } }) a) else a
    | none => a) s
/-- A region changes hands, logged and counted. -/
def setOwner (region node : Nat) (s : State) : State :=
  logRecs 1 (countTable (modRegion region (fun r => { r with owner := node }) s))
/-- R302 step 3: after every earlier record, this Steoc becomes owner and confirms; its own command is done. -/
def doOwnerHandover (half : Fin 2) (s : State) : State :=
  control half true (fun r => match r with | .ownerHandover .. => true | _ => false) (fun r a => match r with
    | .ownerHandover region _ =>
      let a1 := sendCtl (.ownerConfirm region a.rst.node) none (setOwner region a.rst.node a)
      match a1.eng.run with
      | some c => if c.phase = .owner && decide (c.blk.region = region) then finishCmd 0 0 a1 else a1
      | none => a1
    | _ => a) s
/-- R302 step 4: the transfer is complete: the held requests are forwarded to the new owner. -/
def doOwnerConfirm (half : Fin 2) (s : State) : State :=
  control half false (fun r => match r with | .ownerConfirm .. => true | _ => false) (fun r a => match r with
    | .ownerConfirm region node =>
      if a.eng.heldRegion ≠ some region then a
      else
        let a1 := updEng (fun e => { e with heldRegion := none, handed := false }) (setOwner region node a)
        let a2 := each (a1.host.ops.filter (fun o => o.held && decide (o.region = region))) (fun o b => startOp o.id b) a1
        match a2.eng.run with
        | some c => if c.phase = .owner then finishCmd 0 0 a2 else a2
        | none => a2
    | _ => a) s
/-- R302: the Steoc named in a SET_OWNER asks the owner to run the transfer. -/
def doOwnerRequest (half : Fin 2) (s : State) : State :=
  control half false (fun r => match r with | .ownerRequest .. => true | _ => false) (fun r a => match r with
    | .ownerRequest region _ =>
      match findRegion a region with
      | some (_, g) => if ownsRegion a g && a.eng.heldRegion.isNone && decide (a.cp.twin = .inSync) then
          updEng (fun e => { e with heldRegion := some region }) a else a
      | none => a
    | _ => a) s

/-! ## PLACE, QPs, replay entries, images (R102, R158, R306) -/

/-- R158: a PLACE begins at the twin: its own capacity is checked, quotas are not. -/
def doPlaceStartRecord (half : Fin 2) (s : State) : State :=
  control half false (fun r => match r with | .placeStart .. => true | _ => false) (fun r a => match r with
    | .placeStart t region off len tier =>
      match findRegion a region with
      | none => sendCtl (.placeDone t false 5 1 0) none a
      | some (_, g) =>
        let first := tpnOf g off
        let pages := span first 0 (len / 65536)
        match placeCheck a g.tenant tier pages false with
        | some v => sendCtl (.placeDone t false v.status v.reason 0) none a
        | none =>
          let resv := pages.filter (fun p => if tier = 0 then !(tierAfter a p).2 else (tierAfter a p).2)
          let run : PlaceRun := ⟨t, none, 0, region, first, pages.length, tier, g.tenant, resv, 0, pages, false, true, none⟩
          let a1 := each resv (fun _ b => addUsed g.tenant tier true b) (updTier (fun x => { x with places := x.places ++ [run] }) a)
          closePlaces (startMoves a1)
    | _ => a) s
/-- R158: the twin has finished its part, or stopped early; RESULT is then the smaller of the two counts. -/
def doPlaceDoneRecord (half : Fin 2) (s : State) : State :=
  control half false (fun r => match r with | .placeDone .. => true | _ => false) (fun r a => match r with
    | .placeDone t ok status reason count =>
      if ok then modPlace t (fun p => { p with twinDone := true }) a
      else
        let low := fun (p : PlaceRun) => { p with twinDone := true, outcome := p.outcome.map (fun v => { v with result := min v.result count }) }
        modPlace t low (stopPlace t (nakVal status reason) a)
    | _ => a) s
/-- R158, R83: the outcome of a PLACE enters the mirror area; the twin's own part of it ends. -/
def doPlaceOutcomeRecord (half : Fin 2) (s : State) : State :=
  if mirrorFull s then s
  else control half false (fun r => match r with | .placeOutcome .. => true | _ => false) (fun r a => match r with
    | .placeOutcome t v =>
      let mine := a.tier.places.filter (fun p => p.token = t && p.op.isNone)
      let a1 := each mine (fun p b => each ((b.tier.moves.filter (ofPlace p.token)).map (·.tpn)) abandon (returnReserved p b)) a
      mirrorEntry t v (updTier (fun x => { x with places := x.places.filter (fun p => !(decide (p.token = t) && p.op.isNone)) }) a1)
    | _ => a) s
/-- R102: a shadow is held and confirmed. -/
def doQpShadowRecord (half : Fin 2) (s : State) : State :=
  control half false (fun r => match r with | .qpShadow _ => true | _ => false) (fun r a => match r with
    | .qpShadow q =>
      let c : Qp := { st := .shadow, spray := q.spray, pmtu := q.pmtu, host := q.hostId, tenant := q.tenant, remoteQpn := q.remoteQpn, epsn := q.epsn,
                      ackPsn := psnAdd q.epsn (psnMod - 1), port := q.port, ipv6 := q.ipv6, remoteIp := q.remoteIp, remoteMac := q.remoteMac,
                      pcp := q.pcp, vlan := q.vlan, dscp := q.dscp }
      sendCtl (.qpHeld q.qpn) none (updRc (fun x => { x with shadows := tput x.shadows q.qpn c }) a)
    | _ => a) s
/-- R103: a shadow is freed. -/
def doQpFreeRecord (half : Fin 2) (s : State) : State :=
  control half false (fun r => match r with | .qpFree _ => true | _ => false) (fun r a => match r with
    | .qpFree qpn => updRc (fun x => { x with shadows := x.shadows.filter (fun p => !(decide (p.1 = qpn) && decide (p.2.st = .shadow))) }) a
    | _ => a) s
/-- R102: the twin holds the shadow, and the REP is sent. -/
def doQpHeldRecord (half : Fin 2) (s : State) : State :=
  control half false (fun r => match r with | .qpHeld _ => true | _ => false) (fun r a => match r with
    | .qpHeld qpn =>
      if a.rc.waitShadow.any (fun p => p.1 = qpn) then
        sendRep qpn (updRc (fun x => { x with waitShadow := x.waitShadow.filter (fun p => p.1 ≠ qpn) }) a)
      else a
    | _ => a) s
/-- R319, R83: an entry of the source's replay table. -/
def doReplayRecord (half : Fin 2) (s : State) : State :=
  if mirrorFull s then s
  else control half false (fun r => match r with | .replay .. => true | _ => false) (fun r a => match r with
    | .replay t v => mirrorEntry t v a
    | _ => a) s
/-- R306 step 3: the twin's copy is imaged once every frame up to both FSNs is applied. -/
def doImageRequestRecord (half : Fin 2) (s : State) : State :=
  control half false (fun r => match r with | .imageRequest .. => true | _ => false) (fun r a => match r with
    | .imageRequest tpn f0 f1 => imageStep (updCp (fun c => { c with waitImages := c.waitImages ++ [(tpn, f0, f1)] }) a)
    | _ => a) s
/-- R306 step 4, R320: the owner cleans its page; a copied page leaves the share. -/
def doImageDoneRecord (half : Fin 2) (s : State) : State :=
  control half false (fun r => match r with | .imageDone _ => true | _ => false) (fun r a => match r with
    | .imageDone tpn =>
      let a1 := updCp (fun c => { c with charged := dropSet c.charged tpn }) a
      if a1.fix.dirty.any (fun d => d.tpn = tpn ∧ d.twinWait) then passStep (finishImage tpn a1) else a1
    | _ => a) s
/-- R295, R252: a discarded unit at the receiver, after every frame up to both FSNs. Four of a page make it read zero on the
NAND tier and clear its poison. -/
def doDiscardUnitRecord (half : Fin 2) (s : State) : State :=
  match takeRec false (fun r => match r with | .discardUnit .. => true | _ => false) [] (halfOf s half.val).rx with
  | some (⟨_, .discardUnit key f0 f1⟩, _) =>
    if applies s && !(appliedUpTo s 0 f0 && appliedUpTo s 1 f1) then s
    else control half false (fun r => match r with | .discardUnit .. => true | _ => false) (fun _ a =>
      let tpn := key / 4
      let a1 := match (dirOf a tpn).home with | .nand _ lpn => discardUnit (lpn * 4 + key % 4) a | _ => a
      let mask := setBit (tget 0 a1.cp.discarded tpn) (key % 4)
      let a2 := updCp (fun c => { c with discarded := tput c.discarded tpn mask }) a1
      if mask ≠ 15 then a2
      else unDiscard tpn (logRecs 1 (setDir tpn (fun d => { d with poison := false, zero := d.zero || inNand d }) a2))) s
  | _ => s

/-! ## Cuts and claims (R359, R531) -/

/-- R359: the twin begins its part of a cut: its ports mark. -/
def doStateBeginRecord (half : Fin 2) (s : State) : State :=
  control half false (fun r => match r with | .stateBegin .. => true | _ => false) (fun r a => match r with
    | .stateBegin n all tenant retain => if a.snap.cut.isSome then a
        else updSnap (fun x => { x with cut := some ⟨n, 2, false, all, tenant, retain, true, []⟩ }) a
    | _ => a) s
/-- R359: the twin's cut is confirmed: the initiator releases the responses once its own part is done. -/
def doStateConfirmRecord (half : Fin 2) (s : State) : State :=
  control half false (fun r => match r with | .stateConfirm _ => true | _ => false) (fun r a => match r, a.snap.cut with
    | .stateConfirm n, some c =>
      if !c.own || c.number ≠ n then a
      else
        let a1 := updSnap (fun x => { x with cut := some { c with twinDone := true } }) (when_ (c.step ≥ 3) (takePoint false) a)
        if c.step ≥ 4 then releaseCut a1 else a1
    | _, _ => a) s
/-- R360: a slice of the initiator has taken its point; with the last of the 14 the twin's copies of those lines do. -/
def doStatePointRecord (half : Fin 2) (s : State) : State :=
  control half true (fun r => match r with | .statePoint .. => true | _ => false) (fun r a => match r, a.snap.cut with
    | .statePoint n slice, some c =>
      if c.own || c.number ≠ n then a
      else
        let c1 := { c with points := insertSet c.points slice }
        let a1 := updSnap (fun x => { x with cut := some c1 }) a
        if c1.points.length ≥ 14 && c.points.length < 14 then confirmCut (takePoint false a1) else a1
    | _, _ => a) s
/-- R531 step 2: the twin claims a command entry: granted, unless held here, or claimed here by the senior. -/
def doClaim (half : Fin 2) (s : State) : State :=
  control half false (fun r => match r with | .claim _ => true | _ => false) (fun r a => match r with
    | .claim e =>
      if a.eng.claimed.contains e || (a.eng.asked.contains e && senior a) then sendCtl (.claimRefuse e) none a
      else sendCtl (.claimGrant e) none (updEng (fun x => { x with twinClaims := insertSet x.twinClaims e }) a)
    | _ => a) s
/-- R531: the claim is granted and the command starts. -/
def doClaimGrant (half : Fin 2) (s : State) : State :=
  control half false (fun r => match r with | .claimGrant _ => true | _ => false) (fun r a => match r with
    | .claimGrant e =>
      if !a.eng.asked.contains e then a
      else
        let a1 := updEng (fun x => { x with asked := dropSet x.asked e, claimed := insertSet x.claimed e }) a
        if e = 0x2210 then (match a1.eng.run with | some c => startCmd c a1 | none => a1)
        else match a1.snap.run with | some (code, b) => startState code b a1 | none => a1
    | _ => a) s
/-- R531 step 3: the claim is refused: status 0x01, nothing executed. -/
def doClaimRefuse (half : Fin 2) (s : State) : State :=
  control half false (fun r => match r with | .claimRefuse _ => true | _ => false) (fun r a => match r with
    | .claimRefuse e =>
      if !a.eng.asked.contains e then a
      else
        let a1 := updEng (fun x => { x with asked := dropSet x.asked e }) a
        if e = 0x2210 then finishCmd 1 0 a1 else finishState 1 0 a1
    | _ => a) s
/-- R531 step 5: the twin's claim ends, and with the State entry's claim its cut here. -/
def doClaimRelease (half : Fin 2) (s : State) : State :=
  control half false (fun r => match r with | .claimRelease _ => true | _ => false) (fun r a => match r with
    | .claimRelease e =>
      let a1 := updEng (fun x => { x with twinClaims := dropSet x.twinClaims e }) a
      if e = 0x3710 && a1.snap.cut.any (fun c => !c.own) then releaseCut a1 else a1
    | _ => a) s

/-! ## Resynchronisation records (R319, R321) -/

/-- R319 step 1, R73: START: each side adopts the greater incarnation and sends its marks. -/
def doResyncStart (half : Fin 2) (s : State) : State :=
  withRec half false (fun r => match r with | .resyncStart _ => true | _ => false) (fun r a => match r.rcd with
    | .resyncStart inc =>
      if a.cp.twin ≠ .resync then a
      else sendCtl (.resyncMarks (live a).divergence) none (dset 0x210004 (max inc (incarnation a)) a)
    | _ => a) s
/-- R319 steps 2 and 3: MARKS: the blocks to copy are the union; then replay entries, shadows, tables. -/
def doResyncMarks (half : Fin 2) (s : State) : State :=
  withRec half false (fun r => match r with | .resyncMarks _ => true | _ => false) (fun r a => match r.rcd with
    | .resyncMarks blocks =>
      if a.cp.twin ≠ .resync || a.cp.resync.phase ≠ .started then a
      else
        let todo := if a.cp.resync.source then copyBlocks a blocks else []
        let a1 := updLive (fun t => { t with divergence := blocks.foldl insertSet t.divergence }) a
        let a2 := updCp (fun c => { c with resync := { c.resync with phase := .marked, todo := todo, total := todo.length } }) a1
        targetStep (each (sourceRecords a2) (fun x b => sendCtl x none b) a2)
    | _ => a) s
/-- R319 step 5: the twin is a target past its imaging. -/
def doTablesDone (half : Fin 2) (s : State) : State :=
  withRec half false (fun r => match r with | .tablesDone => true | _ => false) (fun _ a =>
    if a.cp.twin ≠ .resync then a
    else enterCopying (updCp (fun c => { c with resync := { c.resync with twinDone := true } }) a)) s
/-- R321 step 2: SYNC on every half in service: generation, map, standing; SYNC_ACK goes back. -/
def doSync (half : Fin 2) (s : State) : State :=
  withRec half true (fun r => match r with | .sync => true | _ => false) (fun _ a =>
    if a.cp.twin ≠ .resync || !a.cp.resync.target then a
    else
      let a1 := setHalf half.val (fun h => { h with syncSeen := true }) a
      if (List.range 2).any (fun h => (halfOf a1 h).st = .service && !(halfOf a1 h).syncSeen) then a1
      else syncDone (setSyncGen (sendCtl .syncAck none (updCp (fun c => { c with resync := { c.resync with ackOut := true } }) a1)))) s
/-- R321 step 3: SYNC_ACK: the source does the same. -/
def doSyncAck (half : Fin 2) (s : State) : State :=
  withRec half false (fun r => match r with | .syncAck => true | _ => false) (fun _ a =>
    if a.cp.twin ≠ .resync || a.cp.resync.phase ≠ .synced then a
    else syncDone (setSyncGen (updCp (fun c => { c with resync := { c.resync with ackIn := true } }) a))) s

/-! ## Notices (R310, R311) -/

def noticeIs (sub : Nat) (r : CpRec) : Bool := match r with | .notice n _ => decide (n = sub) | _ => false
/-- NOTICE DRAIN or KEEP: the twin will be declared lost, at once when both halves have delivered one. -/
def leaveNotice (half : Nat) (s : State) : State :=
  let s1 := updCp (fun c => { c with notices := insertSet c.notices half }) s
  if s1.cp.notices.length ≥ 2 then lossEvent 4 (updCp (fun c => { c with notices := [] }) s1) else s1
/-- R311: NOTICE DRAIN. -/
def doNoticeDrain (half : Fin 2) (s : State) : State := withRec half true (noticeIs 1) (fun _ a => leaveNotice half.val a) s
/-- R311: NOTICE KEEP. -/
def doNoticeKeep (half : Fin 2) (s : State) : State := withRec half true (noticeIs 2) (fun _ a => leaveNotice half.val a) s
/-- R311: 10 µs after the first notice. -/
def doNoticeDeclareTimeout (s : State) : State :=
  if s.cp.notices.isEmpty then s else lossEvent 4 (updCp (fun c => { c with notices := [] }) s)
/-- R326: NOTICE BARRED: this Steoc stands down. -/
def doNoticeBarred (half : Fin 2) (s : State) : State := withRec half false (noticeIs 3) (fun _ a => lossEvent 7 a) s
/-- R311: NOTICE LOSS: stand down, unless this Steoc has declared and is the senior. -/
def doNoticeLoss (half : Fin 2) (s : State) : State :=
  withRec half false (noticeIs 6) (fun _ a => if a.cp.declared && senior a then a else lossEvent 5 a) s
/-- A half leaves service: its domain is switched off (R310). -/
def halfOff (half : Nat) (s : State) : State :=
  disarmAt [(0x0302, half), (0x0401, half)] (updRst (fun r => { r with powered := clrBit r.powered (108 + half), offFault := setBit r.offFault (108 + half) })
    (setHalf half (fun h => { h with st := .failed }) s))
/-- R310 step 2: FAILOVER is answered with the highest FSN of the failed half whose frame was applied. -/
def doNoticeFailover (half : Fin 2) (s : State) : State :=
  withRec half false (noticeIs 4) (fun _ a =>
    let failed := 1 - half.val
    let a1 := sendOn half.val (.notice 5 (heldFsn (halfOf a failed))) none a
    let a2 := if (halfOf a1 failed).st = .service then halfOff failed (updCp (fun c => { c with failover := some failed }) a1) else a1
    if s.cp.failover.isNone then sendOn half.val (.notice 4 failed) none a2 else a2) s
/-- R310 step 3: the failed half's later records go out on the live half, in order, before new ones. -/
def doFailoverReply (half : Fin 2) (s : State) : State :=
  withRec half false (noticeIs 5) (fun r a => match r.rcd, a.cp.failover with
    | .notice _ fsn, some failed =>
      let h := halfOf a failed
      let late := (h.sent.filter (fun f => f.fsn > fsn)).flatMap (·.recs) ++ h.open_
      let a1 := setHalf failed (fun x => { x with sent := [], open_ := [], rx := x.rx.filter (fun y => y.fsn ≤ heldFsn x) }) a
      updCp (fun c => { c with failover := none }) (setHalf half.val (fun x => { x with open_ := x.open_ ++ late }) a1)
    | _, _ => a) s

/-! ## Halves and sessions -/

/-- R291, R310: a half fails while the other serves: failover; otherwise the link is lost (R309). `cause` is that of
Table 19.3. -/
def doHalfFail (half : Fin 2) (cause : Nat) (s : State) : State :=
  if !halfLive s half.val then s
  else if !halfLive s (1 - half.val) then (if (halfOf s (1 - half.val)).st = .failed then linkLost s else s)
  else
    let s1 := bump32 0x701807 (faultHandled (post 0x0203 1 half.val (leBytes 1 cause) s))
    sendOn (1 - half.val) (.notice 4 half.val) none (halfOff half.val (updCp (fun c => { c with failover := some half.val }) s1))
/-- R310: a failed half is powered and retrained, every 1 s. -/
def doHalfRetrainTick (half : Fin 2) (s : State) : State :=
  if (halfOf s half.val).st ≠ .failed || s.md.mode = .drain || !s.rst.loadDone || bitOf s.rst.offReq (108 + half.val) then s
  else updRst (fun r => { r with powered := setBit r.powered (108 + half.val), offFault := clrBit r.offFault (108 + half.val) })
    (setHalf half.val (fun h => { h with st := .training }) s)
/-- R309: no valid frame on either half for 10 µs. -/
def doLinkLossTimeout (s : State) : State := if s.cp.sessionUp then linkLost s else s

/-- The next transmit epoch, burning a fuse for a new block when n is spent or the copies are unreadable (R324). -/
def nextEpochOf (s : State) (writable : Bool) : Option (Nat × Bool) :=
  if !writable then none
  else if s.cp.epochsOk && decide (s.cp.epoch % 2 ^ 24 < 2 ^ 24 - 1) then some (s.cp.epoch + 1, false)
  else if s.cp.burned < 255 then some ((s.cp.burned + 1) * 2 ^ 24, true) else none
/-- The UE is fenced, so no key can be derived (R399). -/
def ueFenced (s : State) : Bool := s.keys.fenced.contains 6
/-- Persist a new epoch (R324). -/
def takeEpoch (p : Nat × Bool) (s : State) : State :=
  if p.2 then postFixed (p.1 / 2 ^ 24) 0x0603 0 (p.1 / 2 ^ 24) (leBytes 1 1) (updCp (fun c => { c with burned := c.burned + 1, epochsOk := true }) s) else s
def barred (cause : Nat) (s : State) : State :=
  post 0x0204 2 0 (leBytes 1 cause) (updCp (fun c => { c with twin := .barred, sessionUp := false }) s)
/-- The link key slot holds a loaded link key (R323). -/
def linkKey (s : State) : Option Nat :=
  let k := keySlotOf s (dget s 0x350104)
  if (k.st = .loaded || k.st = .shadow) && decide (k.kind = 2) then some k.value else none
/-- R290, R296, R318, R324: a half ends its training. With no session up this is a bring-up: the epoch advances and a HELLO
is sent; an empty key slot or an epoch that cannot advance bars the link. -/
def doLaneTrainingDone (half : Fin 2) (ok epochWritable : Bool) (s : State) : State :=
  if (halfOf s half.val).st ≠ .training then s
  else if !ok then halfOff half.val s
  else
    let s1 := setHalf half.val (fun h => { h with st := .service, lastFsn := 0, expect := 1, nakSent := false, ackSent := 0, ackSeen := 0,
                                                  open_ := [], sent := [], rx := [], rxFetch := [], syncSeen := false, counter := 0 }) s
    if s.cp.sessionUp || s.cp.hello then s1
    else if s.keys.fenced.contains 4 || s.keys.fenced.contains 5 || s.cp.twin = .barred then s1
    else if (linkKey s).isNone then barred 2 s1
    else match (if ueFenced s then none else nextEpochOf s epochWritable) with
      | none => barred 4 s1
      | some p =>
        let s2 := bump32 0x701c05 (updCp (fun c => { c with epoch := p.1, txCount := 1, hello := true, nextEpoch := none }) (takeEpoch p s1))
        let s3 := when_ (s2.cp.twin = .absent) (updCp (fun c => { c with twin := .linking })) s2
        emit (.status 4 half.val p.1 (statusBody s3)) s3

/-- R319: roles and kind of a resynchronisation after a HELLO exchange, and the first record. -/
def beginResync (source target : Bool) (b : StatusBody) (s : State) : State :=
  let delta := decide (b.syncGen = (live s).syncGen) && b.mapValid && (live s).everSynced
  let differs := decide (b.tableGen ≠ (live s).tableGen)
  let one := source != target
  let r : Resync := { phase := .started, full := !delta, source := source, target := target, adopt := one && (differs || !delta || target),
                      gen := max b.syncGen (live s).syncGen }
  let s1 := updCp (fun c => { c with twin := .resync, settled := true, ownsNone := false, declared := false, resync := r, notices := [], dirtied := [] }) s
  let s2 := if target && !source then logRecs 1 (updLive (fun t => { t with standing := .yielded }) s1) else s1
  -- a target of a full copy discards its own content of the regions concerned first
  let s3 := if target && !delta then each (((live s2).dir.map (·.1)).filter (fun t => !source || !ownsTpn s2 t)) freePage s2 else s2
  let s4 := if target && !source && r.adopt then updLive (fun t => { t with regions := [], keys := [], hosts := [], tenants := [], tableGen := b.tableGen }) s3 else s3
  sendCtl (.resyncStart (incarnation s4)) none s4
/-- Table 11.7 for a HELLO. -/
def settleHello (h : FrameHead) (b : StatusBody) (s : State) : State :=
  let mineY := (live s).standing = .yielded
  let twinY := decide (b.standing = 2)
  let first := decide (s.rst.node < h.node)
  if s.md.mode ≠ .recall && h.mode ≠ 0 && !mineY && !twinY then
    let s1 := updCp (fun c => { c with settled := true }) s
    if first then beginResync true false b s1 else standDown 12 s1
  else if mineY && !twinY then beginResync false true b s
  else if twinY && !mineY then beginResync true false b s
  else if mineY && twinY then beginResync first (!first) b s
  else if b.tableGen ≠ (live s).tableGen then
    beginResync (decide ((live s).tableGen > b.tableGen)) (decide ((live s).tableGen < b.tableGen)) b s
  else
    let mine := (live s).regions.any (fun p => p.2.owner = s.rst.node)
    beginResync (mine || !b.ownsAny) (b.ownsAny || !mine) b s
/-- R318, R323, R325, R327: a HELLO opens a session, or announces an epoch within one. -/
def doHelloFrame (h : FrameHead) (b : StatusBody) (s : State) : State :=
  if (halfOf s h.half.val).st ≠ .service || s.cp.twin = .barred || s.md.mode = .drain then s
  else if !h.tagOk then bump 0x701804 (post 0x0204 2 0 (leBytes 1 3) s)
  else if h.node = s.rst.node then barred 1 s
  else if h.epoch ≤ s.cp.rxEpoch then s
  else
    let prev := if s.cp.sessionUp then s.cp.rxEpoch else 0
    let s1 := updCp (fun c => { c with rxEpoch := h.epoch, rxPrev := prev, helloSeen := some b }) s
    let s2 := bump32 0x701c05 (noteHead { h with epoch := 0 } s1)
    if s.cp.sessionUp then sendAck h.half.val false s2
    else
      let s3 := updCp (fun c => { c with sessionUp := true, rxPrev := 0, failover := none }) s2
      if s3.cp.twin = .inSync then s3 else settleHello h b s3
/-- R325, R326: the frame counter reaches its limit: the next epoch is announced, or the link is barred and the twin
declared lost. -/
def doCounterLimit (epochWritable : Bool) (s : State) : State :=
  if !s.cp.sessionUp || s.cp.nextEpoch.isSome then s
  else match (if ueFenced s then none else nextEpochOf s epochWritable) with
    | some p =>
      let s1 := bump32 0x701c05 (updCp (fun c => { c with nextEpoch := some p.1 }) (takeEpoch p s))
      emit (.status 4 (ctlHalf s) s.cp.epoch (statusBody s1)) s1
    | none =>
      let half := ctlHalf s
      let s1 := emit (.frame half 1 ((halfOf s half).lastFsn + 1) (heldFsn (halfOf s half)) false [.notice 3 0]) s
      let s2 := updCp (fun c => { c with sessionUp := false, hello := false, halves := c.halves.map (fun p => (p.1, { p.2 with st := HalfSt.off })) }) s1
      lossEvent 9 (post 0x0204 2 0 (leBytes 1 4) s2)

/-! ## Timers of the pair -/

/-- An answer of the twin is awaited (R139, R143, R302, R361, R531). -/
def awaiting (s : State) : Bool :=
  !s.eng.asked.isEmpty || !s.eng.writes.isEmpty || s.eng.handed || s.snap.run.any (fun p => p.1 = 3) && s.snap.clone.isSome
    || s.eng.run.any (fun c => c.phase = .twin || c.phase = .owner || ((c.phase = .fence) && !c.twin && s.eng.fence.any (·.past)))
    || s.snap.cut.any (fun c => c.own && !c.twinDone)
/-- R311: an answer is missing at 200 µs. -/
def doTwinAnswerTimeout (s : State) : State := if pairWorks s && awaiting s then lossEvent 8 s else s
/-- Settlement with no twin to be seen (Table 11.7, rows 1 and 2). -/
def settleAlone (s : State) : State :=
  if s.cp.settled then s
  else if (live s).standing = .alone then declare 1 s
  else
    let s1 := updCp (fun c => { c with settled := true, ownsNone := true, twin := .absent }) s
    raiseKeep 10 (post 0x0206 2 0 (leBytes 1 2) s1)
/-- R318, R322: TWIN_PRESENT_N changes. -/
def doTwinPresentChange (present : Bool) (s : State) : State :=
  let s1 := updRst (fun r => { r with twinPresent := present }) s
  if present then when_ (s1.cp.twin = .absent) (updCp (fun c => { c with twin := .linking })) s1
  else
    let after := s1.cp.twin = .linking && s1.cp.settled && s1.cp.resync.source && s1.cp.resync.target
    let s2 := when_ (s1.cp.twin = .linking) (updCp (fun c => { c with twin := .absent })) s1
    if after then raiseKeep 10 s2
    else if s2.md.mode = .recall && s2.rec_.serving then settleAlone s2 else s2
/-- R318: no HELLO within the settle time of the serving instant. -/
def doSettleTimeout (s : State) : State :=
  if s.cp.settled || !s.rst.twinPresent then s
  else post 0x0206 2 0 (leBytes 1 8) (updCp (fun c => { c with settled := true, ownsNone := true }) s)
/-- R307: every 100 ms the share moves toward the ratio of pages dirtied, by a free step; it is lowered only once the own
count is below the new value. -/
def doBudgetShareTick (s : State) : State :=
  if !pairWorks s then updCp (fun c => { c with dirtied := [] }) s
  else
    let top := pairBudget s
    let floor := if ownsAny s then min 1024 (top / 2) else 0
    let want := if ownsAny s then max floor (min top (Config.shareStep s.freeCtr)) else 0
    let new := if want < s.cp.share && dirtyMiB s > want then s.cp.share else want
    draw (updCp (fun c => { c with share := new, dirtied := [] }) s)
/-- R318: 1 is written to 0x3502.03: a Steoc that owns none declares twin loss. -/
def doTakeOwnership (s : State) : State :=
  dictGuard 0x3502 3 true (fun a =>
    let a1 := dictDone 0x3502 3 a
    if a1.cp.ownsNone || (live a1).standing = .yielded then
      let a2 := declare 1 a1
      if bitOf a2.md.causes 10 then clearKeep 10 a2 else a2
    else a1) s

/-! ## The meanings: each completes -/

/-- DATA_FRAME (R297). -/
def execDataFrame (h : FrameHead) (recs : List CpRec) (s : State) : Result := .next (doDataFrame h recs s)
/-- ACK_FRAME (R297). -/
def execAckFrame (h : FrameHead) (s : State) : Result := .next (doAckFrame h s)
/-- HEARTBEAT_FRAME (R294). -/
def execHeartbeatFrame (h : FrameHead) (b : StatusBody) (s : State) : Result := .next (doHeartbeatFrame h b s)
/-- HELLO_FRAME (R318). -/
def execHelloFrame (h : FrameHead) (b : StatusBody) (s : State) : Result := .next (doHelloFrame h b s)
/-- WRITE_RECORD (R295). -/
def execWriteRecord (half : Fin 2) (s : State) : Result := .next (doWriteRecord half s)
/-- ZERO_RECORD (R295). -/
def execZeroRecord (half : Fin 2) (s : State) : Result := .next (doZeroRecord half s)
/-- ATOMIC_RECORD (R83). -/
def execAtomicRecord (half : Fin 2) (s : State) : Result := .next (doAtomicRecord half s)
/-- COPY_RECORD (R320). -/
def execCopyRecord (half : Fin 2) (s : State) : Result := .next (doCopyRecord half s)
/-- FETCH_RECORD (R308). -/
def execFetchRecord (half : Fin 2) (readable : Bool) (s : State) : Result := .next (doFetchRecord half readable s)
/-- FETCH_DATA_RECORD (R308). -/
def execFetchDataRecord (half : Fin 2) (s : State) : Result := .next (doFetchDataRecord half s)
/-- FETCH_FAIL_RECORD (R308). -/
def execFetchFailRecord (half : Fin 2) (s : State) : Result := .next (doFetchFailRecord half s)
/-- FORWARD_RECORD (R300). -/
def execForwardRecord (half : Fin 2) (s : State) : Result := .next (doForwardRecord half s)
/-- FORWARD_DONE_RECORD (R300). -/
def execForwardDoneRecord (half : Fin 2) (s : State) : Result := .next (doForwardDoneRecord half s)
/-- TABLE_RECORD (R143). -/
def execTableRecord (half : Fin 2) (s : State) : Result := .next (doTableRecord half s)
/-- TABLE_VERDICT (R143). -/
def execTableVerdict (half : Fin 2) (s : State) : Result := .next (doTableVerdict half s)
/-- FENCE_MARK_RECORD (R138). -/
def execFenceMarkRecord (half : Fin 2) (s : State) : Result := .next (doFenceMarkRecord half s)
/-- FENCE_CONFIRM_RECORD (R138). -/
def execFenceConfirmRecord (half : Fin 2) (s : State) : Result := .next (doFenceConfirmRecord half s)
/-- OWNER_HANDOVER (R302). -/
def execOwnerHandover (half : Fin 2) (s : State) : Result := .next (doOwnerHandover half s)
/-- OWNER_CONFIRM (R302). -/
def execOwnerConfirm (half : Fin 2) (s : State) : Result := .next (doOwnerConfirm half s)
/-- OWNER_REQUEST (R302). -/
def execOwnerRequest (half : Fin 2) (s : State) : Result := .next (doOwnerRequest half s)
/-- PLACE_START_RECORD (R158). -/
def execPlaceStartRecord (half : Fin 2) (s : State) : Result := .next (doPlaceStartRecord half s)
/-- PLACE_DONE_RECORD (R158). -/
def execPlaceDoneRecord (half : Fin 2) (s : State) : Result := .next (doPlaceDoneRecord half s)
/-- PLACE_OUTCOME_RECORD (R158). -/
def execPlaceOutcomeRecord (half : Fin 2) (s : State) : Result := .next (doPlaceOutcomeRecord half s)
/-- QP_SHADOW_RECORD (R102). -/
def execQpShadowRecord (half : Fin 2) (s : State) : Result := .next (doQpShadowRecord half s)
/-- QP_FREE_RECORD (R103). -/
def execQpFreeRecord (half : Fin 2) (s : State) : Result := .next (doQpFreeRecord half s)
/-- QP_HELD_RECORD (R102). -/
def execQpHeldRecord (half : Fin 2) (s : State) : Result := .next (doQpHeldRecord half s)
/-- REPLAY_RECORD (R319). -/
def execReplayRecord (half : Fin 2) (s : State) : Result := .next (doReplayRecord half s)
/-- IMAGE_REQUEST_RECORD (R306). -/
def execImageRequestRecord (half : Fin 2) (s : State) : Result := .next (doImageRequestRecord half s)
/-- IMAGE_DONE_RECORD (R306). -/
def execImageDoneRecord (half : Fin 2) (s : State) : Result := .next (doImageDoneRecord half s)
/-- DISCARD_UNIT_RECORD (R295). -/
def execDiscardUnitRecord (half : Fin 2) (s : State) : Result := .next (doDiscardUnitRecord half s)
/-- STATE_BEGIN_RECORD (R359). -/
def execStateBeginRecord (half : Fin 2) (s : State) : Result := .next (doStateBeginRecord half s)
/-- STATE_CONFIRM_RECORD (R359). -/
def execStateConfirmRecord (half : Fin 2) (s : State) : Result := .next (doStateConfirmRecord half s)
/-- STATE_POINT_RECORD (R359). -/
def execStatePointRecord (half : Fin 2) (s : State) : Result := .next (doStatePointRecord half s)
/-- CLAIM (R531). -/
def execClaim (half : Fin 2) (s : State) : Result := .next (doClaim half s)
/-- CLAIM_GRANT (R531). -/
def execClaimGrant (half : Fin 2) (s : State) : Result := .next (doClaimGrant half s)
/-- CLAIM_REFUSE (R531). -/
def execClaimRefuse (half : Fin 2) (s : State) : Result := .next (doClaimRefuse half s)
/-- CLAIM_RELEASE (R531). -/
def execClaimRelease (half : Fin 2) (s : State) : Result := .next (doClaimRelease half s)
/-- RESYNC_START (R319). -/
def execResyncStart (half : Fin 2) (s : State) : Result := .next (doResyncStart half s)
/-- RESYNC_MARKS (R319). -/
def execResyncMarks (half : Fin 2) (s : State) : Result := .next (doResyncMarks half s)
/-- TABLES_DONE (R319). -/
def execTablesDone (half : Fin 2) (s : State) : Result := .next (doTablesDone half s)
/-- SYNC (R321). -/
def execSync (half : Fin 2) (s : State) : Result := .next (doSync half s)
/-- SYNC_ACK (R321). -/
def execSyncAck (half : Fin 2) (s : State) : Result := .next (doSyncAck half s)
/-- RESYNC_COPY_BLOCK (R320). -/
def execResyncCopyBlock (s : State) : Result := .next (doResyncCopyBlock s)
/-- NOTICE_DRAIN (R311). -/
def execNoticeDrain (half : Fin 2) (s : State) : Result := .next (doNoticeDrain half s)
/-- NOTICE_KEEP (R311). -/
def execNoticeKeep (half : Fin 2) (s : State) : Result := .next (doNoticeKeep half s)
/-- NOTICE_BARRED (R326). -/
def execNoticeBarred (half : Fin 2) (s : State) : Result := .next (doNoticeBarred half s)
/-- NOTICE_FAILOVER (R310). -/
def execNoticeFailover (half : Fin 2) (s : State) : Result := .next (doNoticeFailover half s)
/-- FAILOVER_REPLY (R310). -/
def execFailoverReply (half : Fin 2) (s : State) : Result := .next (doFailoverReply half s)
/-- NOTICE_LOSS (R311). -/
def execNoticeLoss (half : Fin 2) (s : State) : Result := .next (doNoticeLoss half s)
/-- FRAME_CLOSE_TIMER (R296). -/
def execFrameCloseTimer (half : Fin 2) (s : State) : Result := .next (doFrameCloseTimer half s)
/-- RESEND_TIMEOUT (R297). -/
def execResendTimeout (half : Fin 2) (s : State) : Result := .next (doResendTimeout half s)
/-- HEARTBEAT_SEND_TIMER (R309). -/
def execHeartbeatSendTimer (half : Fin 2) (s : State) : Result := .next (doHeartbeatSendTimer half s)
/-- LINK_LOSS_TIMEOUT (R309). -/
def execLinkLossTimeout (s : State) : Result := .next (doLinkLossTimeout s)
/-- HALF_FAIL (R291). -/
def execHalfFail (half : Fin 2) (cause : Nat) (s : State) : Result := .next (doHalfFail half cause s)
/-- HALF_RETRAIN_TICK (R310). -/
def execHalfRetrainTick (half : Fin 2) (s : State) : Result := .next (doHalfRetrainTick half s)
/-- LANE_TRAINING_DONE (R290). -/
def execLaneTrainingDone (half : Fin 2) (ok : Bool) (epochWritable : Bool) (s : State) : Result := .next (doLaneTrainingDone half ok epochWritable s)
/-- NOTICE_DECLARE_TIMEOUT (R311). -/
def execNoticeDeclareTimeout (s : State) : Result := .next (doNoticeDeclareTimeout s)
/-- TWIN_ANSWER_TIMEOUT (R311). -/
def execTwinAnswerTimeout (s : State) : Result := .next (doTwinAnswerTimeout s)
/-- TWIN_PRESENT_CHANGE (R318). -/
def execTwinPresentChange (present : Bool) (s : State) : Result := .next (doTwinPresentChange present s)
/-- SETTLE_TIMEOUT (R318). -/
def execSettleTimeout (s : State) : Result := .next (doSettleTimeout s)
/-- BUDGET_SHARE_TICK (R307). -/
def execBudgetShareTick (s : State) : Result := .next (doBudgetShareTick s)
/-- COUNTER_LIMIT (R325). -/
def execCounterLimit (epochWritable : Bool) (s : State) : Result := .next (doCounterLimit epochWritable s)
/-- TAKE_OWNERSHIP (R318). -/
def execTakeOwnership (s : State) : Result := .next (doTakeOwnership s)

end Sys2Proof.Machine
end

