-- ==== Sys2Proof/Machine/Catalogue.lean ====
section
/-! DEFINITION. The dictionary catalogue (R438–R442 and the entry table of every chapter): for each entry its index (or the
first index of a row repeated per unit), subindex, type, access right, reset level and stated range. -/
namespace Sys2Proof.Machine
open Sys2Proof

/-- Types of entries (Table 16.5); a DOMAIN has its size and element size in bytes. -/
inductive EntryType | bool | u8 | u16 | u32 | u64 | i32 | b16 | b32 | b64 | str | domain (size elem : Nat)
  deriving DecidableEq, Repr
/-- Access rights (R13). -/
inductive Access | ro | rw | rwp | wop | rof
  deriving DecidableEq, Repr
/-- Reset levels (R14). -/
inductive Level | never | p | s | c
  deriving DecidableEq, Repr
/-- A row of an entry table; `units` is how many indices it stands for. -/
structure Entry where
  idx    : Nat
  units  : Nat
  sub    : Nat
  type   : EntryType
  access : Access
  level  : Level
  range  : Option (Nat × Nat)
  deriving DecidableEq, Repr

/-- Identity, Fieth channels, mode (Tables 16.12, 14.11, 17.5). -/
def entriesIdentity : List Entry := [
  ⟨0x1000, 1, 1, .str, .ro, .never, none⟩,
  ⟨0x1000, 1, 2, .str, .ro, .never, none⟩,
  ⟨0x1000, 1, 3, .str, .ro, .never, none⟩,
  ⟨0x1000, 1, 4, .u16, .ro, .never, none⟩,
  ⟨0x1000, 1, 5, .u64, .ro, .never, none⟩,
  ⟨0x1000, 1, 6, .u32, .ro, .s, none⟩,
  ⟨0x1001, 1, 1, .u8, .ro, .p, none⟩,
  ⟨0x1002, 1, 1, .u8, .ro, .p, none⟩,
  ⟨0x1002, 1, 2, .u8, .ro, .p, none⟩,
  ⟨0x1002, 1, 3, .u16, .ro, .p, none⟩,
  ⟨0x1002, 1, 4, .u8, .ro, .p, none⟩,
  ⟨0x1002, 1, 5, .u16, .ro, .p, none⟩,
  ⟨0x1002, 1, 6, .u8, .ro, .p, none⟩,
  ⟨0x1003, 1, 1, .u32, .ro, .c, none⟩,
  ⟨0x1080, 1, 1, .u8, .rwp, .never, some (1, 2)⟩,
  ⟨0x1080, 1, 2, .u8, .rwp, .never, some (1, 4)⟩,
  ⟨0x1080, 1, 3, .u8, .rwp, .never, some (1, 2)⟩,
  ⟨0x1080, 1, 4, .u8, .rwp, .never, some (1, 4)⟩,
  ⟨0x1080, 1, 5, .u16, .rw, .never, some (10, 1000)⟩,
  ⟨0x1080, 1, 6, .u16, .rw, .never, some (100, 5000)⟩,
  ⟨0x1080, 1, 7, .b16, .rwp, .never, none⟩,
  ⟨0x1080, 1, 8, .bool, .rw, .never, none⟩,
  ⟨0x1081, 1, 1, .b32, .ro, .s, none⟩,
  ⟨0x1081, 1, 2, .b32, .ro, .s, none⟩,
  ⟨0x1100, 1, 1, .u8, .ro, .s, none⟩,
  ⟨0x1100, 1, 2, .u8, .rw, .never, some (1, 3)⟩,
  ⟨0x1100, 1, 3, .u8, .rwp, .s, none⟩,
  ⟨0x1100, 1, 4, .u8, .ro, .s, none⟩,
  ⟨0x1100, 1, 5, .b32, .ro, .p, none⟩,
  ⟨0x1100, 1, 6, .u32, .ro, .s, none⟩,
  ⟨0x1100, 1, 7, .u8, .rwp, .never, some (95, 110)⟩,
  ⟨0x1100, 1, 8, .i32, .ro, .p, none⟩,
  ⟨0x1100, 1, 9, .u32, .ro, .never, none⟩]

/-- Host ports (Table 17.6). -/
def entriesPorts : List Entry := [
  ⟨0x2000, 128, 1, .bool, .rwp, .never, none⟩,
  ⟨0x2000, 128, 2, .u8, .rwp, .never, some (1, 2)⟩,
  ⟨0x2000, 128, 3, .u64, .rwp, .never, none⟩,
  ⟨0x2000, 128, 4, .u32, .rwp, .never, none⟩,
  ⟨0x2000, 128, 5, (.domain 16 16), .rwp, .never, none⟩,
  ⟨0x2000, 128, 6, .u16, .rw, .never, some (1500, 9216)⟩,
  ⟨0x2000, 128, 7, .b16, .rw, .never, none⟩,
  ⟨0x2000, 128, 8, .b32, .ro, .p, none⟩]

/-- Transports, tenants, regions and keys (Tables 3.11, 4.10, 5.11). -/
def entriesAccess : List Entry := [
  ⟨0x2100, 1, 1, .u16, .rw, .never, none⟩,
  ⟨0x2100, 1, 2, .u8, .rw, .never, some (1, 64)⟩,
  ⟨0x2100, 1, 3, .u16, .rw, .never, some (10, 10000)⟩,
  ⟨0x2100, 1, 4, .u32, .ro, .never, none⟩,
  ⟨0x2100, 1, 5, .u32, .ro, .s, none⟩,
  ⟨0x2101, 1, 0, (.domain 131072 2), .rwp, .never, none⟩,
  ⟨0x2102, 1, 1, .bool, .rwp, .never, none⟩,
  ⟨0x2102, 1, 2, .u64, .rwp, .never, none⟩,
  ⟨0x2102, 1, 3, .u16, .rw, .never, none⟩,
  ⟨0x2102, 1, 4, .bool, .rw, .never, none⟩,
  ⟨0x2102, 1, 5, .u32, .ro, .s, none⟩,
  ⟨0x2102, 1, 6, .u16, .rw, .never, some (1, 1000)⟩,
  ⟨0x2102, 1, 7, .u16, .rw, .never, none⟩,
  ⟨0x2102, 1, 8, .u16, .rw, .never, none⟩,
  ⟨0x2102, 1, 9, .u16, .rw, .never, none⟩,
  ⟨0x2102, 1, 0xa, .u16, .rw, .never, none⟩,
  ⟨0x2102, 1, 0xb, .u16, .rw, .never, none⟩,
  ⟨0x2102, 1, 0xc, .u8, .rw, .never, some (1, 16)⟩,
  ⟨0x2102, 1, 0xd, .u32, .ro, .s, none⟩,
  ⟨0x2103, 1, 0, (.domain 67108864 512), .ro, .s, none⟩,
  ⟨0x2200, 1, 1, .u32, .ro, .never, none⟩,
  ⟨0x2200, 1, 2, .u32, .ro, .never, none⟩,
  ⟨0x2200, 1, 3, .u32, .ro, .never, none⟩,
  ⟨0x2201, 1, 0, (.domain 2048 8), .rwp, .never, none⟩,
  ⟨0x2210, 1, 1, (.domain 32 32), .rw, .s, none⟩,
  ⟨0x2210, 1, 2, .u8, .ro, .s, none⟩,
  ⟨0x2210, 1, 3, .u64, .ro, .s, none⟩,
  ⟨0x2220, 1, 1, .u32, .rw, .s, none⟩,
  ⟨0x2220, 1, 2, (.domain 32 1), .ro, .s, none⟩,
  ⟨0x2221, 1, 1, .u32, .rw, .s, none⟩,
  ⟨0x2221, 1, 2, (.domain 16 1), .ro, .s, none⟩]

/-- Tiers and cache slices (Tables 6.8, 7.8). -/
def entriesTiers : List Entry := [
  ⟨0x3000, 1, 1, .u32, .ro, .never, none⟩,
  ⟨0x3000, 1, 2, .u32, .ro, .never, none⟩,
  ⟨0x3000, 1, 3, .u32, .ro, .never, none⟩,
  ⟨0x3000, 1, 4, .u32, .ro, .never, none⟩,
  ⟨0x3000, 1, 5, .u8, .rw, .never, some (1, 24)⟩,
  ⟨0x3000, 1, 6, .u16, .ro, .s, none⟩,
  ⟨0x3000, 1, 7, .u32, .ro, .never, none⟩,
  ⟨0x3000, 1, 8, .bool, .rw, .s, none⟩,
  ⟨0x3001, 1, 0, (.domain 4096 16), .rwp, .never, none⟩,
  ⟨0x3002, 1, 1, .u32, .rw, .s, none⟩,
  ⟨0x3002, 1, 2, .u64, .ro, .s, none⟩,
  ⟨0x3100, 1, 1, .b16, .ro, .p, none⟩,
  ⟨0x3100, 1, 2, .b16, .ro, .p, none⟩,
  ⟨0x3100, 1, 3, .bool, .rw, .never, none⟩,
  ⟨0x3100, 1, 4, .u8, .rw, .never, some (0, 32)⟩,
  ⟨0x3101, 1, 1, .b16, .rw, .never, none⟩,
  ⟨0x3101, 1, 2, .b16, .rw, .never, none⟩,
  ⟨0x3101, 1, 3, .b16, .rw, .never, none⟩,
  ⟨0x3101, 1, 4, .b16, .rw, .never, none⟩,
  ⟨0x3101, 1, 5, .b16, .rw, .never, none⟩,
  ⟨0x3101, 1, 6, .b16, .rw, .never, none⟩,
  ⟨0x3101, 1, 7, .b16, .rw, .never, none⟩,
  ⟨0x3101, 1, 8, .b16, .rw, .never, none⟩,
  ⟨0x3101, 1, 9, .b16, .rw, .never, none⟩,
  ⟨0x3101, 1, 0xa, .b16, .rw, .never, none⟩,
  ⟨0x3101, 1, 0xb, .b16, .rw, .never, none⟩,
  ⟨0x3101, 1, 0xc, .b16, .rw, .never, none⟩,
  ⟨0x3102, 1, 1, (.domain 16 16), .rwp, .s, none⟩,
  ⟨0x3102, 1, 2, .u8, .ro, .s, none⟩,
  ⟨0x3103, 1, 1, .b64, .ro, .p, none⟩,
  ⟨0x3103, 1, 2, .b64, .ro, .p, none⟩,
  ⟨0x3103, 1, 3, .b64, .ro, .p, none⟩,
  ⟨0x3103, 1, 4, .b64, .ro, .p, none⟩,
  ⟨0x3103, 1, 5, .b64, .ro, .p, none⟩,
  ⟨0x3103, 1, 6, .b64, .ro, .p, none⟩,
  ⟨0x3103, 1, 7, .b64, .ro, .p, none⟩,
  ⟨0x3103, 1, 8, .b64, .ro, .p, none⟩,
  ⟨0x3103, 1, 9, .b64, .ro, .p, none⟩,
  ⟨0x3103, 1, 0xa, .b64, .ro, .p, none⟩,
  ⟨0x3103, 1, 0xb, .b64, .ro, .p, none⟩,
  ⟨0x3103, 1, 0xc, .b64, .ro, .p, none⟩,
  ⟨0x3103, 1, 0xd, .b64, .ro, .p, none⟩,
  ⟨0x3103, 1, 0xe, .b64, .ro, .p, none⟩,
  ⟨0x3103, 1, 0xf, .b64, .ro, .p, none⟩,
  ⟨0x3103, 1, 0x10, .b64, .ro, .p, none⟩]

/-- DRAM (Table 8.6). -/
def entriesMemory : List Entry := [
  ⟨0x3200, 32, 1, .b64, .ro, .p, none⟩,
  ⟨0x3200, 32, 2, .u64, .ro, .s, none⟩,
  ⟨0x3200, 32, 3, .u64, .ro, .s, none⟩,
  ⟨0x3200, 32, 4, (.domain 1024 16), .ro, .p, none⟩,
  ⟨0x3200, 32, 5, .u16, .ro, .never, none⟩,
  ⟨0x3200, 32, 6, .u16, .ro, .never, none⟩,
  ⟨0x3200, 32, 7, .u32, .ro, .never, none⟩,
  ⟨0x3200, 32, 8, .bool, .rw, .s, none⟩,
  ⟨0x3200, 32, 9, .u8, .ro, .p, none⟩,
  ⟨0x3240, 1, 1, .u16, .ro, .never, none⟩,
  ⟨0x3240, 1, 2, .u8, .ro, .p, none⟩,
  ⟨0x3240, 1, 3, .u8, .rw, .never, some (0, 3)⟩,
  ⟨0x3240, 1, 4, .u8, .ro, .s, none⟩,
  ⟨0x3240, 1, 5, .u16, .rw, .never, some (6, 168)⟩,
  ⟨0x3240, 1, 6, .u32, .ro, .p, none⟩,
  ⟨0x3240, 1, 7, .u8, .rw, .never, some (5, 30)⟩,
  ⟨0x3240, 1, 8, .bool, .rw, .never, none⟩,
  ⟨0x3240, 1, 9, .b32, .ro, .p, none⟩,
  ⟨0x3240, 1, 0xa, .b16, .ro, .p, none⟩,
  ⟨0x3240, 1, 0xb, .bool, .rwp, .never, none⟩]

/-- NAND media (Table 9.13). -/
def entriesMedia : List Entry := [
  ⟨0x3300, 40, 1, .b64, .ro, .p, none⟩,
  ⟨0x3300, 40, 2, .u64, .ro, .s, none⟩,
  ⟨0x3300, 40, 3, .u64, .ro, .s, none⟩,
  ⟨0x3300, 40, 4, .u64, .ro, .s, none⟩,
  ⟨0x3300, 40, 5, .u64, .ro, .s, none⟩,
  ⟨0x3340, 1, 1, .u64, .ro, .never, none⟩,
  ⟨0x3340, 1, 2, .u32, .ro, .p, none⟩,
  ⟨0x3340, 1, 3, .u32, .ro, .never, none⟩,
  ⟨0x3340, 1, 4, .u32, .ro, .p, none⟩,
  ⟨0x3340, 1, 5, .u32, .ro, .p, none⟩,
  ⟨0x3340, 1, 6, .u32, .ro, .p, none⟩,
  ⟨0x3340, 1, 7, .bool, .ro, .p, none⟩,
  ⟨0x3340, 1, 8, .u8, .ro, .p, none⟩,
  ⟨0x3340, 1, 9, .u32, .ro, .p, none⟩,
  ⟨0x3342, 1, 1, .u16, .rw, .never, some (12, 200)⟩,
  ⟨0x3342, 1, 2, .u16, .rw, .never, some (16, 400)⟩,
  ⟨0x3342, 1, 3, .u8, .rw, .never, some (1, 8)⟩,
  ⟨0x3342, 1, 4, .u16, .rw, .never, some (50, 1000)⟩,
  ⟨0x3342, 1, 5, .u32, .ro, .p, none⟩,
  ⟨0x3350, 1, 1, .u8, .rw, .never, some (1, 14)⟩,
  ⟨0x3350, 1, 2, .u8, .ro, .never, none⟩,
  ⟨0x3350, 1, 3, .u8, .rw, .never, some (20, 90)⟩,
  ⟨0x3350, 1, 4, .u32, .rw, .never, none⟩,
  ⟨0x3350, 1, 5, .u8, .rw, .never, some (10, 60)⟩,
  ⟨0x3350, 1, 6, .u32, .ro, .p, none⟩,
  ⟨0x3360, 1, 1, .u32, .ro, .never, none⟩,
  ⟨0x3360, 1, 2, .u32, .ro, .never, none⟩,
  ⟨0x3360, 1, 3, .u16, .ro, .never, none⟩,
  ⟨0x3360, 1, 4, .u16, .ro, .never, none⟩,
  ⟨0x3360, 1, 5, .u32, .ro, .never, none⟩,
  ⟨0x3361, 1, 0, (.domain 10240 16), .ro, .never, none⟩]

/-- Fixative (Table 10.8). -/
def entriesJournal : List Entry := [
  ⟨0x3400, 1, 1, .u8, .rw, .never, some (1, 64)⟩,
  ⟨0x3400, 1, 2, .u32, .ro, .p, none⟩,
  ⟨0x3400, 1, 3, .u32, .ro, .s, none⟩,
  ⟨0x3400, 1, 4, .u8, .ro, .s, none⟩,
  ⟨0x3400, 1, 5, .u8, .rw, .never, some (25, 85)⟩,
  ⟨0x3400, 1, 6, .u8, .rw, .never, some (35, 95)⟩,
  ⟨0x3400, 1, 7, .u16, .ro, .s, none⟩,
  ⟨0x3400, 1, 8, .u64, .ro, .never, none⟩,
  ⟨0x3400, 1, 9, .u64, .ro, .never, none⟩,
  ⟨0x3400, 1, 0xa, .u32, .rwp, .never, none⟩,
  ⟨0x3400, 1, 0xb, .u32, .ro, .never, none⟩,
  ⟨0x3401, 1, 1, .u8, .rw, .never, some (1, 64)⟩,
  ⟨0x3401, 1, 2, .u8, .rw, .never, some (1, 64)⟩,
  ⟨0x3401, 1, 3, .u8, .rw, .never, some (1, 64)⟩,
  ⟨0x3402, 1, 1, .u32, .rw, .s, none⟩,
  ⟨0x3402, 1, 2, .u64, .ro, .s, none⟩,
  ⟨0x3403, 1, 1, .u8, .ro, .never, none⟩,
  ⟨0x3403, 1, 2, .u8, .ro, .never, none⟩,
  ⟨0x3403, 1, 3, .u32, .ro, .never, none⟩,
  ⟨0x3403, 1, 4, .u32, .ro, .never, none⟩,
  ⟨0x3403, 1, 5, .bool, .ro, .never, none⟩,
  ⟨0x3403, 1, 6, .u32, .ro, .p, none⟩,
  ⟨0x3404, 1, 1, .u16, .rw, .s, none⟩,
  ⟨0x3404, 1, 2, .u16, .ro, .s, none⟩,
  ⟨0x3404, 1, 3, .u16, .rwp, .never, none⟩]

/-- Counterproof and Recall (Tables 11.11, 12.9). -/
def entriesPair : List Entry := [
  ⟨0x3500, 1, 1, .u8, .ro, .s, none⟩,
  ⟨0x3500, 1, 2, .u8, .ro, .s, none⟩,
  ⟨0x3500, 1, 3, .u8, .ro, .never, none⟩,
  ⟨0x3500, 1, 4, .b16, .ro, .p, none⟩,
  ⟨0x3500, 1, 5, .u32, .ro, .never, none⟩,
  ⟨0x3500, 1, 6, .u32, .ro, .never, none⟩,
  ⟨0x3500, 1, 7, .u8, .ro, .s, none⟩,
  ⟨0x3500, 1, 8, .u32, .ro, .never, none⟩,
  ⟨0x3500, 1, 9, .u32, .ro, .never, none⟩,
  ⟨0x3500, 1, 0xa, .u32, .ro, .never, none⟩,
  ⟨0x3500, 1, 0xb, .u32, .ro, .s, none⟩,
  ⟨0x3501, 1, 1, .u16, .rw, .never, some (20, 320)⟩,
  ⟨0x3501, 1, 3, .u16, .rw, .never, some (100, 10000)⟩,
  ⟨0x3501, 1, 4, .u8, .rwp, .never, some (0, 63)⟩,
  ⟨0x3502, 1, 1, .u16, .ro, .s, none⟩,
  ⟨0x3502, 1, 2, .u32, .ro, .s, none⟩,
  ⟨0x3502, 1, 3, .bool, .wop, .s, none⟩,
  ⟨0x3600, 1, 1, .u8, .ro, .never, none⟩,
  ⟨0x3600, 1, 2, .u8, .ro, .s, none⟩,
  ⟨0x3600, 1, 3, .u8, .ro, .s, none⟩,
  ⟨0x3600, 1, 4, .u8, .rw, .never, some (1, 60)⟩,
  ⟨0x3600, 1, 5, .u32, .ro, .never, none⟩,
  ⟨0x3600, 1, 6, .u32, .ro, .never, none⟩,
  ⟨0x3600, 1, 7, .u32, .ro, .s, none⟩,
  ⟨0x3600, 1, 8, .u8, .rw, .never, some (8, 90)⟩,
  ⟨0x3600, 1, 9, .u32, .ro, .s, none⟩,
  ⟨0x3601, 1, 0, (.domain 1024 4), .rwp, .never, none⟩]

/-- States (Table 13.6). -/
def entriesSnaps : List Entry := [
  ⟨0x3700, 1, 1, .u16, .ro, .never, none⟩,
  ⟨0x3700, 1, 2, .u16, .ro, .never, none⟩,
  ⟨0x3700, 1, 3, .bool, .ro, .s, none⟩,
  ⟨0x3700, 1, 4, .u8, .rw, .never, some (1, 24)⟩,
  ⟨0x3700, 1, 5, .u32, .ro, .s, none⟩,
  ⟨0x3700, 1, 6, .u32, .ro, .s, none⟩,
  ⟨0x3702, 1, 1, .u16, .rw, .s, none⟩,
  ⟨0x3702, 1, 2, (.domain 32 1), .ro, .s, none⟩,
  ⟨0x3702, 1, 3, .u32, .ro, .s, none⟩,
  ⟨0x3710, 1, 1, (.domain 32 32), .rwp, .s, none⟩,
  ⟨0x3710, 1, 2, .u8, .ro, .s, none⟩,
  ⟨0x3710, 1, 3, .u64, .ro, .s, none⟩]

/-- Cipher and keys (Table 15.9). -/
def entriesCipher : List Entry := [
  ⟨0x4000, 1, 1, .u8, .rwp, .never, some (0, 63)⟩,
  ⟨0x4000, 1, 2, .b16, .ro, .p, none⟩,
  ⟨0x4000, 1, 3, .bool, .ro, .never, none⟩,
  ⟨0x4001, 1, 0, (.domain 1024 16), .ro, .never, none⟩,
  ⟨0x4002, 1, 1, (.domain 8 8), .rwp, .s, none⟩,
  ⟨0x4002, 1, 2, .u8, .ro, .s, none⟩,
  ⟨0x4002, 1, 3, .u64, .ro, .s, none⟩,
  ⟨0x4002, 1, 4, (.domain 64 1), .wop, .s, none⟩,
  ⟨0x4010, 1, 1, .u8, .ro, .s, none⟩,
  ⟨0x4010, 1, 2, .u32, .ro, .s, none⟩,
  ⟨0x4020, 1, 1, (.domain 8388608 1), .wop, .never, none⟩,
  ⟨0x4020, 1, 2, (.domain 8388608 1), .wop, .never, none⟩,
  ⟨0x4021, 1, 1, .b64, .ro, .c, none⟩,
  ⟨0x4021, 1, 2, .b64, .ro, .c, none⟩,
  ⟨0x4021, 1, 3, .u8, .rwp, .never, some (0, 1)⟩,
  ⟨0x4021, 1, 4, .u8, .ro, .never, none⟩,
  ⟨0x4021, 1, 5, .u8, .wop, .s, some (0, 63)⟩]

/-- Reset, power, clocks, presence, injection (Tables 17.8, 17.11, 17.13). -/
def entriesBoard : List Entry := [
  ⟨0x5000, 1, 1, .b32, .rw, .p, none⟩,
  ⟨0x5000, 1, 2, .u8, .rwp, .s, none⟩,
  ⟨0x5001, 1, 1, (.domain 16 1), .ro, .p, none⟩,
  ⟨0x5001, 1, 2, (.domain 16 1), .ro, .p, none⟩,
  ⟨0x5001, 1, 3, (.domain 16 1), .rwp, .s, none⟩,
  ⟨0x5002, 1, 1, .b32, .ro, .p, none⟩,
  ⟨0x5003, 1, 1, .u32, .ro, .never, none⟩,
  ⟨0x5004, 1, 1, .i32, .ro, .p, none⟩,
  ⟨0x5004, 1, 2, .i32, .ro, .p, none⟩,
  ⟨0x5004, 1, 3, .i32, .ro, .p, none⟩,
  ⟨0x5004, 1, 4, .i32, .ro, .p, none⟩,
  ⟨0x5004, 1, 5, .i32, .ro, .p, none⟩,
  ⟨0x5005, 1, 1, .u16, .ro, .p, none⟩,
  ⟨0x5005, 1, 2, .u16, .ro, .p, none⟩,
  ⟨0x5005, 1, 3, .u16, .ro, .p, none⟩,
  ⟨0x5005, 1, 4, .u16, .ro, .p, none⟩,
  ⟨0x5005, 1, 5, .u16, .ro, .p, none⟩,
  ⟨0x5005, 1, 6, .u16, .ro, .p, none⟩,
  ⟨0x5005, 1, 7, .u16, .ro, .p, none⟩,
  ⟨0x5005, 1, 8, .u16, .ro, .p, none⟩,
  ⟨0x5005, 1, 9, .u16, .ro, .p, none⟩,
  ⟨0x5005, 1, 0xa, .u16, .ro, .p, none⟩,
  ⟨0x5100, 1, 1, .bool, .rw, .p, none⟩,
  ⟨0x5100, 1, 2, .u8, .rwp, .never, some (1, 60)⟩,
  ⟨0x5100, 1, 3, .u16, .ro, .p, none⟩,
  ⟨0x5100, 1, 4, .b16, .ro, .p, none⟩,
  ⟨0x5100, 1, 5, .u32, .ro, .never, none⟩,
  ⟨0x5200, 1, 1, (.domain 16 16), .rwp, .s, none⟩,
  ⟨0x5200, 1, 2, .u8, .ro, .s, none⟩,
  ⟨0x5200, 1, 3, .u16, .ro, .s, none⟩,
  ⟨0x5201, 1, 0, (.domain 1024 16), .ro, .s, none⟩]

/-- Remarque (Tables 17.16, 19.4). -/
def entriesRecorder : List Entry := [
  ⟨0x6000, 1, 1, .u64, .ro, .never, none⟩,
  ⟨0x6000, 1, 2, .u16, .ro, .never, none⟩,
  ⟨0x6000, 1, 3, .u32, .ro, .never, none⟩,
  ⟨0x6000, 1, 4, .u32, .ro, .p, none⟩,
  ⟨0x6000, 1, 5, .u32, .ro, .p, none⟩,
  ⟨0x6000, 1, 6, (.domain 32768 64), .ro, .never, none⟩,
  ⟨0x6000, 1, 7, .u32, .ro, .never, none⟩,
  ⟨0x6000, 1, 8, .u32, .ro, .p, none⟩,
  ⟨0x6001, 1, 1, .u64, .rw, .s, none⟩,
  ⟨0x6001, 1, 2, (.domain 64 64), .ro, .s, none⟩,
  ⟨0x6002, 1, 0, (.domain 262144 64), .ro, .never, none⟩,
  ⟨0x6003, 1, 0, (.domain 16777216 64), .ro, .never, none⟩,
  ⟨0x6004, 1, 0, (.domain 2097152 64), .ro, .p, none⟩]

/-- Statistics 0x7000–0x7013. -/
def entriesStatsA : List Entry := [
  ⟨0x7000, 1, 1, .bool, .rwp, .s, none⟩,
  ⟨0x7010, 1, 1, .u64, .ro, .s, none⟩,
  ⟨0x7010, 1, 2, .u64, .ro, .s, none⟩,
  ⟨0x7010, 1, 3, .u64, .ro, .s, none⟩,
  ⟨0x7010, 1, 4, .u64, .ro, .s, none⟩,
  ⟨0x7010, 1, 5, .u64, .ro, .s, none⟩,
  ⟨0x7010, 1, 6, .u64, .ro, .s, none⟩,
  ⟨0x7010, 1, 7, .u64, .ro, .s, none⟩,
  ⟨0x7010, 1, 8, .u64, .ro, .s, none⟩,
  ⟨0x7011, 1, 1, .u64, .ro, .s, none⟩,
  ⟨0x7011, 1, 2, .u64, .ro, .s, none⟩,
  ⟨0x7011, 1, 3, .u64, .ro, .s, none⟩,
  ⟨0x7011, 1, 4, .u64, .ro, .s, none⟩,
  ⟨0x7011, 1, 5, .u64, .ro, .s, none⟩,
  ⟨0x7011, 1, 6, .u64, .ro, .s, none⟩,
  ⟨0x7011, 1, 7, .u64, .ro, .s, none⟩,
  ⟨0x7011, 1, 8, .u64, .ro, .s, none⟩,
  ⟨0x7011, 1, 9, .u64, .ro, .s, none⟩,
  ⟨0x7011, 1, 0xa, .u64, .ro, .s, none⟩,
  ⟨0x7012, 1, 1, .u64, .ro, .s, none⟩,
  ⟨0x7012, 1, 2, .u64, .ro, .s, none⟩,
  ⟨0x7012, 1, 3, .u64, .ro, .s, none⟩,
  ⟨0x7012, 1, 4, .u64, .ro, .s, none⟩,
  ⟨0x7013, 1, 1, .u64, .ro, .s, none⟩,
  ⟨0x7013, 1, 2, .u64, .ro, .s, none⟩,
  ⟨0x7013, 1, 3, .u64, .ro, .s, none⟩,
  ⟨0x7013, 1, 4, .u64, .ro, .s, none⟩,
  ⟨0x7013, 1, 5, .u64, .ro, .s, none⟩]

/-- Statistics 0x7014–0x7017. -/
def entriesStatsB : List Entry := [
  ⟨0x7014, 1, 1, .u64, .ro, .s, none⟩,
  ⟨0x7014, 1, 2, .u64, .ro, .s, none⟩,
  ⟨0x7014, 1, 3, .u64, .ro, .s, none⟩,
  ⟨0x7014, 1, 4, .u64, .ro, .s, none⟩,
  ⟨0x7014, 1, 5, .u64, .ro, .s, none⟩,
  ⟨0x7014, 1, 6, .u64, .ro, .s, none⟩,
  ⟨0x7014, 1, 7, .u64, .ro, .s, none⟩,
  ⟨0x7014, 1, 8, .u16, .ro, .p, none⟩,
  ⟨0x7015, 1, 1, .u64, .ro, .s, none⟩,
  ⟨0x7015, 1, 2, .u64, .ro, .s, none⟩,
  ⟨0x7015, 1, 3, .u64, .ro, .s, none⟩,
  ⟨0x7015, 1, 4, .u64, .ro, .s, none⟩,
  ⟨0x7015, 1, 5, .u64, .ro, .s, none⟩,
  ⟨0x7015, 1, 6, .u64, .ro, .s, none⟩,
  ⟨0x7015, 1, 7, .u64, .ro, .s, none⟩,
  ⟨0x7015, 1, 8, .u64, .ro, .s, none⟩,
  ⟨0x7015, 1, 9, .u64, .ro, .s, none⟩,
  ⟨0x7016, 1, 1, .u64, .ro, .s, none⟩,
  ⟨0x7016, 1, 2, .u64, .ro, .s, none⟩,
  ⟨0x7016, 1, 3, .u64, .ro, .s, none⟩,
  ⟨0x7016, 1, 4, .u64, .ro, .s, none⟩,
  ⟨0x7016, 1, 5, .u64, .ro, .s, none⟩,
  ⟨0x7016, 1, 6, .u64, .ro, .s, none⟩,
  ⟨0x7016, 1, 7, .u64, .ro, .s, none⟩,
  ⟨0x7016, 1, 8, .u64, .ro, .s, none⟩,
  ⟨0x7016, 1, 9, .u64, .ro, .s, none⟩,
  ⟨0x7016, 1, 0xa, .u64, .ro, .s, none⟩,
  ⟨0x7017, 1, 1, .u64, .ro, .s, none⟩,
  ⟨0x7017, 1, 2, .u64, .ro, .s, none⟩,
  ⟨0x7017, 1, 3, .u64, .ro, .s, none⟩,
  ⟨0x7017, 1, 4, .u64, .ro, .s, none⟩,
  ⟨0x7017, 1, 5, .u32, .ro, .never, none⟩]

/-- Statistics 0x7018–0x701b. -/
def entriesStatsC : List Entry := [
  ⟨0x7018, 1, 1, .u64, .ro, .s, none⟩,
  ⟨0x7018, 1, 2, .u64, .ro, .s, none⟩,
  ⟨0x7018, 1, 3, .u64, .ro, .s, none⟩,
  ⟨0x7018, 1, 4, .u64, .ro, .s, none⟩,
  ⟨0x7018, 1, 5, .u32, .ro, .never, none⟩,
  ⟨0x7018, 1, 6, .u32, .ro, .never, none⟩,
  ⟨0x7018, 1, 7, .u32, .ro, .never, none⟩,
  ⟨0x7018, 1, 8, .u64, .ro, .s, none⟩,
  ⟨0x7018, 1, 9, .u64, .ro, .s, none⟩,
  ⟨0x7018, 1, 0xa, .u32, .ro, .never, none⟩,
  ⟨0x7019, 1, 1, .u64, .ro, .s, none⟩,
  ⟨0x7019, 1, 2, .u64, .ro, .s, none⟩,
  ⟨0x7019, 1, 3, .u64, .ro, .s, none⟩,
  ⟨0x7019, 1, 4, .u64, .ro, .s, none⟩,
  ⟨0x7019, 1, 5, .u64, .ro, .s, none⟩,
  ⟨0x7019, 1, 6, .u64, .ro, .s, none⟩,
  ⟨0x7019, 1, 7, .u32, .ro, .s, none⟩,
  ⟨0x701a, 1, 1, .u64, .ro, .s, none⟩,
  ⟨0x701a, 1, 2, .u64, .ro, .s, none⟩,
  ⟨0x701a, 1, 3, .u64, .ro, .s, none⟩,
  ⟨0x701a, 1, 4, .u32, .ro, .never, none⟩,
  ⟨0x701a, 1, 5, .u64, .ro, .s, none⟩,
  ⟨0x701b, 1, 1, .u32, .ro, .never, none⟩,
  ⟨0x701b, 1, 2, .u32, .ro, .never, none⟩,
  ⟨0x701b, 1, 3, .u32, .ro, .never, none⟩,
  ⟨0x701b, 1, 4, .u32, .ro, .never, none⟩,
  ⟨0x701b, 1, 5, .u32, .ro, .never, none⟩,
  ⟨0x701b, 1, 6, .u32, .ro, .never, none⟩]

/-- Statistics 0x701c–0x717f. -/
def entriesStatsD : List Entry := [
  ⟨0x701c, 1, 1, .u64, .ro, .s, none⟩,
  ⟨0x701c, 1, 2, .u32, .ro, .never, none⟩,
  ⟨0x701c, 1, 3, .u64, .ro, .s, none⟩,
  ⟨0x701c, 1, 4, .u64, .ro, .s, none⟩,
  ⟨0x701c, 1, 5, .u32, .ro, .s, none⟩,
  ⟨0x701d, 1, 1, .u64, .ro, .s, none⟩,
  ⟨0x701d, 1, 2, .u64, .ro, .s, none⟩,
  ⟨0x701d, 1, 3, .u64, .ro, .s, none⟩,
  ⟨0x701d, 1, 4, .u32, .ro, .s, none⟩,
  ⟨0x701d, 1, 5, .u32, .ro, .s, none⟩,
  ⟨0x701d, 1, 6, .u64, .ro, .s, none⟩,
  ⟨0x701d, 1, 7, .u32, .ro, .p, none⟩,
  ⟨0x701e, 1, 1, .u32, .ro, .never, none⟩,
  ⟨0x701e, 1, 2, .u32, .ro, .never, none⟩,
  ⟨0x701e, 1, 3, .u32, .ro, .never, none⟩,
  ⟨0x701f, 1, 1, .u64, .ro, .s, none⟩,
  ⟨0x701f, 1, 2, .u64, .ro, .s, none⟩,
  ⟨0x701f, 1, 3, .u64, .ro, .s, none⟩,
  ⟨0x7020, 1, 1, .u32, .ro, .never, none⟩,
  ⟨0x7020, 1, 2, .u32, .ro, .never, none⟩,
  ⟨0x7020, 1, 3, .u32, .ro, .never, none⟩,
  ⟨0x7020, 1, 4, .u32, .ro, .never, none⟩,
  ⟨0x7100, 128, 1, .u64, .ro, .s, none⟩,
  ⟨0x7100, 128, 2, .u64, .ro, .s, none⟩,
  ⟨0x7100, 128, 3, .u64, .ro, .s, none⟩,
  ⟨0x7100, 128, 4, .u64, .ro, .s, none⟩,
  ⟨0x7100, 128, 5, .u64, .ro, .s, none⟩,
  ⟨0x7100, 128, 6, .u64, .ro, .s, none⟩,
  ⟨0x7100, 128, 7, .u64, .ro, .s, none⟩,
  ⟨0x7100, 128, 8, .u64, .ro, .s, none⟩,
  ⟨0x7100, 128, 9, .u64, .ro, .s, none⟩,
  ⟨0x7100, 128, 0xa, .u64, .ro, .s, none⟩]

/-- Factory area (Table 17.17). -/
def entriesFactory : List Entry := [
  ⟨0xf000, 1, 1, (.domain 4096 1), .rof, .never, none⟩,
  ⟨0xf000, 1, 2, .u32, .rof, .never, none⟩,
  ⟨0xf000, 1, 3, (.domain 1024 1), .rof, .never, none⟩,
  ⟨0xf000, 1, 4, (.domain 64 1), .rof, .never, none⟩]

/-- Every entry. -/
def entries : List Entry :=
  entriesIdentity ++ entriesPorts ++ entriesAccess ++ entriesTiers ++ entriesMemory ++ entriesMedia ++ entriesJournal ++ entriesPair ++ entriesSnaps
    ++ entriesCipher ++ entriesBoard ++ entriesRecorder ++ entriesStatsA ++ entriesStatsB ++ entriesStatsC ++ entriesStatsD ++ entriesFactory

/-- A row covers an index. -/
def Entry.covers (e : Entry) (idx : Nat) : Bool := decide (e.idx ≤ idx) && decide (idx < e.idx + e.units)
/-- The entry at an index and subindex. -/
def entryAt (idx sub : Nat) : Option Entry := entries.find? (fun e => e.covers idx && decide (e.sub = sub))
/-- Some entry has the index. -/
def indexExists (idx : Nat) : Bool := entries.any (fun e => e.covers idx)
/-- The highest subindex of an index (R12). -/
def highestSub (idx : Nat) : Nat := ((entries.filter (fun e => e.covers idx)).map (·.sub)).foldl max 0
/-- Bytes of a value (Table 16.5); a DOMAIN and a STR vary. -/
def EntryType.bytes : EntryType → Nat
  | .bool | .u8 => 1 | .u16 | .b16 => 2 | .u32 | .i32 | .b32 => 4 | .u64 | .b64 => 8 | .str => 0 | .domain _ _ => 0

/-- A reset of a level clears an entry of a level (R14). -/
def Level.cleared (reset : Level) (entry : Level) : Bool :=
  match reset, entry with
  | _, .never | .never, _ => false
  | .p, _ => true
  | .s, .s | .s, .c | .c, .c => true
  | .s, .p | .c, .p | .c, .s => false
/-- The reset level of a stored entry by its key. -/
def levelOf (k : Nat) : Level := ((entryAt (k / 256) (k % 256)).map (·.level)).getD .never
/-- Stored entries of the levels that a reset clears return to their defaults. -/
def clearDict (reset : Level) (s : State) : State :=
  { s with dict := s.dict.filter (fun p => !reset.cleared (levelOf p.1)) }

end Sys2Proof.Machine
end

