-- ==== Sys2Proof/Machine/Recall.lean ====
section
/-! DEFINITION. Recall (chapter 12): the kind of start and the tables (R330, R331, R336), the dump's items (R338), restore
orders (R341–R344), pages restored (R340, R345–R353), segments (R337), orphans (R339), traces (R350), first format and the
serving instant (R332). -/
namespace Sys2Proof.Machine
open Sys2Proof

/-! ## Tables (R330, R336, R337) -/

/-- The reserve stands as it was sealed, every channel having kept its contents (R331). -/
def warmStart (s : State) : Bool := decide (s.rec_.reserveSeal = some (live s).writeSeq)
/-- The kind of this start (Table 12.1); `rebuilt` segments were rebuilt for want of a readable map directory. -/
def startKind (rebuilt : Nat) (s : State) : Nat :=
  if !s.rec_.formatted then 4 else if warmStart s then 2 else if rebuilt > 0 then 6 else if s.rec_.maint then 5
  else if s.fix.sealed.isSome then 1 else 3
/-- Directory and map segments that hold an entry. -/
def segmentsOf (t : Tables) : List Nat :=
  (t.dir.map (fun (p : Nat × DirEntry) => 2 * (p.1 / 65536)) ++ t.fmap.map (fun (p : Nat × MapEntry) => 2 * (p.1 / 65536) + 1)).foldl insertSet []
/-- What the media did not keep: merged units, open wordlines and groups, the dirty volume, repairs waiting. -/
def forgetWork (s : State) : State :=
  let idle := fun (d : Die) => { d with
    ops := [], wordline := [], openPool := none, openGc := none, openHead := none, openBody := none, openParity := none, gcOn := false }
  updFix (fun f => { f with dirty := [], captured := [] })
    (updNand (fun n => { n with merge := [], dies := n.dies.map (fun p => (p.1, idle p.2)) }) s)
/-- The tables are read from the media: no page is back, the open groups are known. -/
def loadTables (s : State) : State :=
  let t := mediaTables s
  let pages := t.dir.filterMap (fun p => match p.2.home with | .dram _ => some p.1 | _ => none)
  let opened := t.groups.filterMap (fun p => if p.2.st = .opened then some (p.1 / 2048, p.1 % 2048) else none)
  let s1 := { s with per := { s.per with live := t, writing := none, logged := if s.fix.sealed.isSome then 32 else 0 } }
  let s2 := updRecall (fun r => { r with unrestored := pages, segLeft := segmentsOf t, opened := opened, dump := s.fix.sealed }) (forgetWork s1)
  each ((List.range 32).filter (fun c => (chanOf s2 c).st = .lost)) (fun c a =>
    ownMoves (pages.filter (fun p => match (dirOf a p).home with | .dram f => decide (f % 32 = c) | _ => false)) .channel 2 a) s2
/-- The highest SEQ of the recorder found in the dump and the last area (R476). -/
def highestSeq (s : State) : Nat :=
  let ring := match s.rec_.dump with | some d => d.ring | none => []
  ((ring ++ s.rmq.last).map (fun p => p.2.seq)).foldl max 0
/-- R330, R336: the tables are loaded and the kind of the start is known. -/
def doMapDirectoryLoaded (rebuilt : Nat) (s : State) : State :=
  if s.md.mode ≠ .recall || s.rec_.dirLoaded || !s.rst.loadDone || (List.range 32).any (fun c => (chanOf s c).st = .training) then s
  else
    let kind := startKind rebuilt s
    let s1 := updRecall (fun r => { r with kind := kind, phase := .preparing, stage := 0 }) s
    if kind = 4 then s1
    else
      let s2 := if kind = 2 then updRecall (fun r => { r with unrestored := [], segLeft := [], opened := [], dump := none }) s1 else loadTables s1
      let s3 := replayFence (updRecall (fun r => { r with dirLoaded := true }) s2)
      let high := highestSeq s3
      let none_ := s3.rmq.last.isEmpty && (match s3.rec_.dump with | some d => d.ring.isEmpty | none => true)
      let s4 := when_ (s3.rec_.powerOn && !none_) (updRmq (fun r => { r with next := high + 1024 })) s3
      let s5 := post 0x0103 0 0 (leBytes 1 kind ++ List.replicate 7 0 ++ leBytes 8 high) s4
      let s6 := when_ (decide (kind = 6)) (post 0x0505 2 0 (leBytes 4 rebuilt)) s5
      let s7 := if kind ≠ 2 && s6.fix.sealed.isNone then
          raiseKeep 9 (post 0x0502 2 0 (leBytes 8 ((s6.rmq.last.map (fun p => p.2.seq)).foldl max 0)) s6) else s6
      if s7.fix.plates.all (· = .holds) then raiseKeep 3 s7 else s7
/-- R337: a segment is loaded with the log records that name it. -/
def doSegmentLoadDone (segment : Nat) (s : State) : State :=
  if !s.rec_.dirLoaded || !s.rec_.segLeft.contains segment then s
  else
    let asked := s.rec_.segAsked.contains segment
    when_ asked (bump 0x701905)
      (updRecall (fun r => { r with segLeft := dropSet r.segLeft segment, segAsked := dropSet r.segAsked segment }) s)

/-! ## The dump's items (R338, R476) -/

/-- A merged unit goes back into the merge buffer and waits for its die. -/
def reinstateMerge (m : Merge) (s : State) : State :=
  let n := dieNo (setChannel m.set (m.lunit % 4)) (setDieNo m.set)
  issueWordline n (setDie n (fun d => { d with wordline := d.wordline ++ [⟨1, m.lunit, .writeBack m.lunit, 0, []⟩] })
    (updNand (fun x => { x with merge := x.merge ++ [m] }) s))
/-- A dumped line goes dirty into its home slice, or through the FTL where no way takes it. -/
def reinstateLine (line : Nat) (data : Mem) (s : State) : State :=
  (install line .host true false false data s).getD (homeWrite line data s)
/-- The DUMP_SEALED record built from the seal, with REPLAYED set (R476). -/
def replaySeal (d : Dump) (s : State) : State :=
  let detail := leBytes 1 d.plate ++ leBytes 1 d.cause ++ leBytes 6 d.seqFirst ++ leBytes 6 d.seqLast ++ leBytes 4 d.pageUnits
    ++ leBytes 4 d.lineUnits ++ leBytes 4 d.otherUnits ++ leBytes 4 d.poisoned ++ leBytes 4 d.duration ++ [0, 0]
  updRmq (fun r => { r with waiting := r.waiting ++
    [⟨0x0501 * 65536, s.rtc, 0x0501, 0, 0, false, false, true, d.incarnation, detail⟩] }) s
/-- R338, R348: the dump plate is indexed; its items are reinstated and its pages are dirty. -/
def doDumpIndexed (s : State) : State :=
  match s.rec_.dump with
  | none => s
  | some d =>
    if !s.rec_.dirLoaded || s.rec_.indexed then s
    else
      let s1 := each d.lines (fun p a => reinstateLine p.1 p.2 a) (each d.merges reinstateMerge s)
      let back := fun (r : RecSide) =>
        { r with ring := r.ring.foldl (fun t p => tput t p.1 p.2) d.ring,
                 unflushed := (d.ring.map (·.1)).filter (fun p => !r.unflushed.contains p) ++ r.unflushed }
      let s2 := if s1.rec_.powerOn then updRmq back s1 else s1
      let s3 := updFix (fun f => { f with dirty := d.pages.map (fun p => ⟨p.1, false, false, false, false, false, []⟩) }) s2
      let bad := (d.pages.filter (·.2.1)).map (·.1)
      let s4 := each bad (fun t a => poisonPage t 5 a) s3
      let gone := fun (r : RecallSide) => { r with indexed := true, unrestored := r.unrestored.filter (fun t => !bad.contains t) }
      recallStep (replaySeal d (updRecall gone s4))

/-! ## Restoring a page (R340, R346, R352, R353) -/

/-- The next page of the region is queued after a demand fetch of a page that no stage names (R352). -/
def readAhead (tpn : Nat) (s : State) : State :=
  let next := tpn + 1
  let inside := match regionOfTpn s tpn with | some r => decide (next < r.base + r.pages) | none => false
  if inside && !stageNames s tpn && s.rec_.unrestored.contains next && !s.rec_.demand.contains next && !s.rec_.readahead.contains next
      && !stageNames s next then
    updRecall (fun r => { r with readahead := r.readahead ++ [next] }) s
  else s
/-- A page's source could not be read: the twin's copy, or poison (R353). -/
def restoreFailed (tpn : Nat) (s : State) : State :=
  if pairWorks s && linkUp s then
    updCp (fun c => { c with fetches := c.fetches ++ [⟨tpn * 512, .restore tpn⟩] }) (sendOn (halfFor s (tpn * 512)) (.fetch (tpn * 512) true) none s)
  else restorePoison tpn s
/-- A page is written from the first source of Table 12.3 that applies. -/
def restorePage (tpn : Nat) (readable : Bool) (s : State) : State :=
  let dumped := s.rec_.dump.bind (fun d => (d.pages.find? (fun p => p.1 = tpn)).map (·.2.2))
  let e := tget {} (live s).images tpn
  let back := fun (m : Mem) => markRestored tpn (countRestore tpn (fillFrame tpn m s))
  match dumped with
  | some m => if readable then back m else restoreFailed tpn s
  | none =>
    if (dirOf s tpn).zero || e.st = 2 then back []
    else if e.st = 1 then (if readable then back (imageData s e) else restoreFailed tpn s)
    else restorePoison tpn s
/-- R340, R345, R346: a restore ends, of a page fetched on demand or whose turn it is. -/
def doRestorePageDone (tpn : Nat) (readable : Bool) (s : State) : State :=
  let turn := s.rec_.demand.contains tpn || (s.rec_.ordersRead && (streamLeft s s.rec_.stage).contains tpn)
  let busy := s.cp.fetches.any (fun f => f.why = .restore tpn)
  if !s.rec_.dirLoaded || (s.rec_.dump.isSome && !s.rec_.indexed) || !s.rec_.unrestored.contains tpn || !turn || busy then s
  else
    let ahead := s.rec_.demand.contains tpn
    targetStep (restorePage tpn readable (when_ ahead (readAhead tpn) s))

/-! ## Restore orders (R341–R344) -/

/-- `len` bytes of a region as a read without allocation gives them. -/
def regionBytes (s : State) (r : Region) (off len : Nat) : Bytes :=
  (pieces r off len).flatMap (fun p => mbytes (readLine s p.1) p.2.1 p.2.2.1)
/-- A little-endian 32-bit field of a slot. -/
def slotWord (s : State) (r : Region) (off : Nat) : Nat := leNat (regionBytes s r off 4)
/-- The slots Recall reads: tenant, region, slot number, by tenant and slot, at most 4,096 (R341). -/
def restoreSlots (s : State) : List (Nat × Region × Nat) :=
  ((List.range 256).flatMap (fun t => match findRegion s (dget s (dkey 0x3601 t)) with
    | some (_, r) => if r.tenant = t && dget s (dkey 0x3601 t) ≠ 0 then (List.range (min 4096 (r.pages / 4))).map (fun n => (t, r, n)) else []
    | none => [])).take 4096
/-- Extents of an area of a slot: those taken, and whether one was skipped (R343, R344). -/
def readExtents (s : State) (tenant : Nat) (r : Region) (off count : Nat) : List Extent × Bool :=
  (List.range count).foldl (fun (acc : List Extent × Bool) i =>
    let b := regionBytes s r (off + i * 16) 16
    let w := fun k => leNat ((b.drop (4 * k)).take 4)
    let e : Extent := ⟨w 0, w 1, w 2 % 2 ^ 24, w 2 / 2 ^ 29⟩
    let fits := match findRegion s (w 0) with
      | some (_, g) => decide (g.tenant = tenant) && decide (e.first + e.pages ≤ g.pages)
      | none => false
    if decide (w 2 / 2 ^ 24 % 32 = 0) && decide (w 3 = 0) && fits then (acc.1 ++ [e], acc.2) else (acc.1, true)) ([], false)
/-- What one slot gives: HOST_ID when it is taken into account, its extents, its ORDER_STATUS (Table 12.6). -/
def readSlot (s : State) (hosts : List Nat) (room tenant : Nat) (r : Region) (n : Nat) : Option Nat × List Extent × Nat :=
  let base := n * 0x40000
  let claim := leNat (regionBytes s r base 8)
  let host := claim % 65536
  if !bitOf claim 63 || (dirOf s (r.base + n * 4)).poison then (none, [], 0)
  else if !(hostEnabled s host && decide (hostTenant s host = tenant)) then (none, [], 2 ^ 12)
  else if hosts.contains host then (none, [], 2 ^ 11)
  else
    let accept := slotWord s r (base + 0x10)
    let half := fun gen cnt area => if accept ≠ 0 && accept = slotWord s r (base + gen) then
        some (readExtents s tenant r (base + area) (min 4096 (slotWord s r (base + cnt)))) else none
    let sHalf := half 0x18 0x20 0x20000
    let jHalf := half 0x1c 0x24 0x30000
    let count := slotWord s r (base + 8)
    let both := sHalf.isSome || jHalf.isSome
    let (l, skipped) := if both then ((sHalf.getD ([], false)).1 ++ (jHalf.getD ([], false)).1, (sHalf.getD ([], false)).2 || (jHalf.getD ([], false)).2)
      else if count ≠ 0 then readExtents s tenant r (base + 0x40) (min 8188 count) else ([], false)
    let source := if both then 2 else if count ≠ 0 then 1 else 0
    (some host, l.take room, b2n skipped * 2 ^ 10 + b2n (decide (l.length > room)) * 2 ^ 9 + b2n (decide (accept ≠ 0) && !both) * 2 ^ 8 + source)
/-- What has been read of the slots so far. -/
structure OrderRead where
  hosts  : List Nat
  orders : List (List Extent)
  slots  : List (Nat × Nat × Nat)
  writes : List (Nat × Nat × Bytes)
  flags  : Nat
/-- Every slot in order, within the device limit of extents. -/
def readOrders (s : State) : OrderRead :=
  (restoreSlots s).foldl (fun (a : OrderRead) p =>
    let (t, r, n) := p
    let room := 262144 - (a.orders.map List.length).foldl (· + ·) 0
    let (h, l, st) := readSlot s a.hosts room t r n
    { hosts := a.hosts ++ h.toList, orders := if h.isSome then a.orders ++ [l] else a.orders,
      slots := a.slots ++ h.toList.map (fun x => (x, r.id, n)),
      writes := a.writes ++ [(r.id, n * 0x40000 + 0x2c, leBytes 4 st)], flags := a.flags + b2n (decide (st / 256 ≠ 0)) }) ⟨[], [], [], [], 0⟩
/-- R341, R344: the restore regions are restored and their slots read, and ORDER_STATUS is written to each. -/
def doRestoreOrdersRead (s : State) : State :=
  if !s.rec_.dirLoaded || s.rec_.ordersRead || (s.rec_.dump.isSome && !s.rec_.indexed) then s
  else
    let pages := ((restoreSlots s).flatMap (fun p => (List.range 4).map (fun k => p.2.1.base + p.2.2 * 4 + k))).filter s.rec_.unrestored.contains
    let s1 := each pages (fun t a => restorePage t true a) s
    let o := readOrders s1
    let first := ((o.orders.flatMap (fun l => l.filter (·.stage = 0))).flatMap (extentPages s1)).eraseDups.filter (fun t => inDram (dirOf s1 t))
    let s2 := updRecall (fun r => { r with ordersRead := true, orders := o.orders, slots := o.slots, writes := r.writes ++ o.writes }) s1
    let s3 := dset 0x360006 (first.length / 16) (dset 0x360009 (o.orders.map List.length |>.foldl (· + ·) 0) s2)
    startWrite (recallStep (bumpBy 0x701907 o.flags s3))

/-! ## Traces (R349, R350) -/

/-- An extent as 16 bytes (Table 12.5). -/
def extentBytes (e : Extent) : Bytes := leBytes 4 e.region ++ leBytes 4 e.first ++ leBytes 4 (e.stage * 2 ^ 29 + e.pages % 2 ^ 24) ++ leBytes 4 0
/-- R349, R350: a host's trace ends and this Steoc's half of its slot is written, one write after another. -/
def doTraceWindowEnd (host : Nat) (s : State) : State :=
  match s.rec_.traces.find? (fun t => t.host = host), s.rec_.slots.find? (fun p => p.1 = host) with
  | some t, some (_, region, n) =>
    if t.extents.isEmpty then s
    else
      let base := n * 0x40000
      let (gen, cnt, area) := if senior s then (0x18, 0x20, 0x20000) else (0x1c, 0x24, 0x30000)
      let l := [(region, base + gen, leBytes 4 0), (region, base + area, t.extents.flatMap extentBytes),
        (region, base + cnt, leBytes 4 t.extents.length), (region, base + gen, leBytes 4 (incarnation s))]
      let end_ := fun (x : Trace) => if x.host = host then { x with ended := true, extents := [] } else x
      startWrite (bump 0x701906 (updRecall (fun r => { r with traces := r.traces.map end_, writes := r.writes ++ l }) s))
  | _, _ => s

/-! ## Orphans (R339) -/

/-- R339: the headers of a group that the log shows OPEN are read: its orphans are reclaimed and it is closed. -/
def doOrphanReclaim (channel : Fin 40) (die : Fin 16) (group : Nat) (s : State) : State :=
  let n := dieNo channel.val die.val
  if !s.rec_.serving || !s.rec_.opened.contains (n, group) then s
  else
    let valid := validUnits s channel.val die.val group
    let lo := punit ⟨channel.val, die.val, group, 0⟩
    let orphans := s.nand.heads.filter (fun p => decide (lo ≤ p.1) && decide (p.1 < lo + 8192) && !(valid.any (fun q => punit q = p.1)))
    let s1 := bumpBy 0x701607 orphans.length (updRecall (fun r => { r with opened := r.opened.filter (· ≠ (n, group)) }) s)
    let shut := fun (g : Group) => { g with st := if g.st = .opened then (if valid.isEmpty then GroupSt.victim else .full) else g.st }
    mediaStep (freeIfEmpty channel.val die.val group (setGroup n group shut s1))

/-! ## The serving instant (R332, R348, R366, R381) -/

/-- Admission opens: States not FIXED go, ownership settles when no twin is to be seen, Keep causes take effect, a dump
before a warm start is released, and the first journal pass begins. -/
def openAdmission (s : State) : State :=
  let s1 := each (((live s).snaps.filter (fun n => n.phase ≠ .fixed)).map (·.number)) (fun n a => dropSnap n 1 a) s
  let s2 := if s1.rst.twinPresent then s1 else settleAlone s1
  let s3 := updRecall (fun r => { r with serving := true }) s2
  let s4 := if s3.rec_.kind = 2 && s3.fix.sealed.isSome then releasePlates s3 else s3
  let s5 := if s4.md.causes ≠ 0 then intoKeep 4 (updMode (fun x => { x with left := .recall }) (yieldTo 2 s4)) else s4
  startWrite (recallStep (doJournalTick s5))
/-- R332: 200 ms after PWRGD, the end of a system reset, or the end of hPPR programming. -/
def doServingInstant (s : State) : State :=
  if s.md.mode ≠ .recall || s.rec_.serving || !s.rec_.dirLoaded || (s.rec_.dump.isSome && !s.rec_.indexed) || s.dram.hpprRun then s
  else openAdmission s
/-- R332, R405: the media are formatted: empty tables, an XTS key in slot 1, admission opens. -/
def doFirstFormatDone (s : State) : State :=
  if s.md.mode ≠ .recall || s.rec_.formatted || s.rec_.kind ≠ 4 || !s.rst.loadDone then s
  else
    let s1 := { s with per := { live := {}, durable := {} } }
    let s2 := updNand (fun n => { n with mem := [], heads := [], merge := [], stripes := [] }) s1
    let key : KeySlot := { st := .loaded, kind := 1, source := 1, value := Config.drbgKey s.freeCtr, nor := true }
    let s3 := draw (dset 0x400001 1 (setKeySlot 1 (fun _ => key) s2))
    let ready := fun (r : RecallSide) => { r with formatted := true, dirLoaded := true, indexed := true, ordersRead := true, stage := 9,
                                                  unrestored := [], segLeft := [], opened := [], dump := none }
    openAdmission (updFix (fun f => { f with plates := [.ready, .ready], ready := 0, sealed := none }) (updRecall ready s3))

/-! ## The meanings: each completes -/

/-- SERVING_INSTANT (R332). -/
def execServingInstant (s : State) : Result := .next (doServingInstant s)
/-- MAP_DIRECTORY_LOADED (R336). -/
def execMapDirectoryLoaded (rebuilt : Nat) (s : State) : Result := .next (doMapDirectoryLoaded rebuilt s)
/-- DUMP_INDEXED (R338). -/
def execDumpIndexed (s : State) : Result := .next (doDumpIndexed s)
/-- RESTORE_ORDERS_READ (R344). -/
def execRestoreOrdersRead (s : State) : Result := .next (doRestoreOrdersRead s)
/-- RESTORE_PAGE_DONE (R340). -/
def execRestorePageDone (tpn : Nat) (readable : Bool) (s : State) : Result := .next (doRestorePageDone tpn readable s)
/-- SEGMENT_LOAD_DONE (R337). -/
def execSegmentLoadDone (segment : Nat) (s : State) : Result := .next (doSegmentLoadDone segment s)
/-- ORPHAN_RECLAIM (R339). -/
def execOrphanReclaim (channel : Fin 40) (die : Fin 16) (group : Nat) (s : State) : Result := .next (doOrphanReclaim channel die group s)
/-- TRACE_WINDOW_END (R349). -/
def execTraceWindowEnd (host : Nat) (s : State) : Result := .next (doTraceWindowEnd host s)
/-- FIRST_FORMAT_DONE (R332). -/
def execFirstFormatDone (s : State) : Result := .next (doFirstFormatDone s)

end Sys2Proof.Machine
end

