-- ==== Sys2Proof/Machine/Modes.lean ====
section
/-! DEFINITION. Mode requests and profiles (R377, R380), the temperature limits (R381, R384), failover of ports (R386). -/
namespace Sys2Proof.Machine
open Sys2Proof

/-! ## Mode requests (R377) -/

/-- A mode request (Table 14.3): refused while one executes; a request that the mode does not permit answers status 0x02,
one that needs SVC_JMP_N and lacks it 0x03. -/
def modeRequest (code : Nat) (status : State → Nat) (run : State → State) (s : State) : State :=
  dictGuard 0x1100 3 true (fun a =>
    if dget a 0x110004 = 255 then dictRefuse 0x1100 3 0x06050002 a
    else
      let a1 := keepBlock 0x110003 code (dictDone 0x1100 3 (dset 0x110004 (status a) a))
      if status a = 0 then run a1 else a1) s
/-- The mode, where entry into Keep has not begun. -/
def settledIn (s : State) (l : List Mode) : Bool := l.contains s.md.mode && !s.md.entering
/-- 0x01: Drain from the second row of Table 10.2, seal CAUSE 0x03. -/
def doPlannedShutdown (s : State) : State :=
  modeRequest 1 (fun a => if [Mode.duplex, .solo, .service, .keep].contains a.md.mode then 0 else 2) (enterDrain 3) s
/-- 0x02: Service. -/
def doEnterService (s : State) : State :=
  modeRequest 2 (fun a => if !settledIn a [.duplex, .solo] then 2 else if !a.pres.jumper then 3 else 0) (setMode .service 7) s
/-- The mode that follows Service (R377). -/
def endService (s : State) : State := setMode (if s.cp.twin = .inSync then .duplex else .solo) 8 s
/-- 0x03: Duplex where the twin is in sync, else Solo. -/
def doLeaveService (s : State) : State := modeRequest 3 (fun a => if settledIn a [.service] then 0 else 2) endService s
/-- 0x04: UNSEALED and FORCED clear. -/
def doAcceptKeep (s : State) : State :=
  modeRequest 4 (fun a => if a.md.mode = .keep then 0 else 2) (fun a =>
    let left := clrBit (clrBit a.md.causes 9) 12
    let a1 := updMode (fun x => { x with causes := left }) a
    if left = 0 then leaveKeep a1 else a1) s
/-- 0x05: FORCED. -/
def doForceKeep (s : State) : State :=
  serviceOnly 0x1100 3 (modeRequest 5 (fun a => if settledIn a [.service] then 0 else 2) (raiseKeep 12)) s
/-- 0x06: the Steoc stands down. -/
def doForceStandDown (s : State) : State :=
  serviceOnly 0x1100 3 (modeRequest 6 (fun a => if settledIn a [.service] && decide (a.cp.twin = .inSync) then 0 else 2) (standDown 11)) s
/-- A code that Table 14.3 does not assign answers status 0x04. -/
def unknownRequest (code : Nat) (s : State) : State := modeRequest code (fun _ => 4) id s

/-- R380: the profile is written: refused when its budget fails R274. -/
def doProfileWrite (profile : Nat) (s : State) : State :=
  dictGuard 0x1100 2 false (fun a =>
    if profile = 0 || profile > 3 then dictRefuse 0x1100 2 0x06040001 a
    else if !budgetFits a (budgetOf a profile) then dictRefuse 0x1100 2 0x06040003 a
    else budgetChanged (dictDone 0x1100 2 (dset 0x110002 profile a))) s

/-! ## Temperature -/

/-- R381, R384: the hottest junction passes the critical limit, or 115 °C. -/
def doTempThreshold (celsius : Int) (s : State) : State :=
  let s1 := updMode (fun x => { x with hot := celsius }) s
  if celsius > 115 then fatal 5 s1
  else if celsius > (dget s 0x110007 : Int) && !bitOf s.md.causes 1 then raiseKeep 1 s1 else s1
/-- Table 14.6: the hottest junction has stayed 5 °C or more below the limit for 10 s. -/
def doTempClearTimeout (celsius : Int) (s : State) : State :=
  let s1 := updMode (fun x => { x with hot := celsius }) s
  if bitOf s.md.causes 1 && decide (celsius + 5 ≤ (dget s 0x110007 : Int)) then clearKeep 1 s1 else s1

/-! ## Ports (R386) -/

/-- One port fails: its sibling answers for its addresses, its QP contexts and the answers it owes move there. -/
def failPort (p : Nat) (s : State) : State :=
  let sib := p ^^^ 8
  let take := (portOf s sib).st ≠ .failed && (portOf s sib).st ≠ .disabled
  let s1 := setPort p (fun x => { x with st := .failed, answering := false, proxied := take, fecLock := false, pausing := 0, pausedBy := 0 }) s
  let s2 := updMode (fun x => { x with failedPorts := insertSet x.failedPorts p }) s1
  if !take then s2
  else
    let qp := fun (t : Tbl Qp) => t.map (fun e => (e.1, if e.2.port = p then { e.2 with port := sib } else e.2))
    let org := fun (o : Op) => match o.origin with
      | .stipple r => if r.port = p then { o with origin := .stipple { r with port := sib } } else o
      | .rc q qpn psn last ack => if q = p then { o with origin := .rc sib qpn psn last ack } else o
      | _ => o
    setPort sib (fun x => { x with answering := true })
      (updHost (fun h => { h with ops := h.ops.map org }) (updRc (fun r => { r with own := qp r.own, shadows := r.shadows.map (fun e =>
        (e.1, if e.2.adopted && decide (e.2.port = p) then { e.2 with port := sib } else e.2)) }) s2))
/-- The ports of a port group. -/
def groupPorts (g : Nat) : List Nat := (List.range 8).map (g * 8 + ·)
/-- A port or a port group fails: one single fault (R386); frames held in the group's buffers are lost. -/
def failPorts (ports : List Nat) (s : State) : State :=
  let live := ports.filter (fun p => (portOf s p).st ≠ .failed)
  if live.isEmpty then s
  else
    let here := fun (p : RcPacket) => live.contains p.port.val
    let s1 := updRc (fun r => { r with held := r.held.filter (fun h => !here h.2), parked := r.parked.filter (fun p => !here p) }) s
    let points := live.flatMap (fun p => [(0x0301, p), (0x0303, p), (0x0b01, p), (0x0b02, p)])
    bump32 0x701b05 (faultHandled (disarmAt points (each live failPort s1)))
/-- A port group fails, and its block is reset (R386, R494, R495). -/
def failGroup (g : Nat) (s : State) : State :=
  let hour := fun (f : Nat × Nat) => decide ((s.rtc + 2 ^ 32 - f.2) % 2 ^ 32 < 3600000)
  disarmAt [(0x0603, g), (0x0701, 0x100 + g)] (updRst (fun r => { r with
    blockReset := insertSet r.blockReset g, repower := dropSet r.repower g, pgFaults := r.pgFaults.filter hour ++ [(g, s.rtc)] })
      (failPorts (groupPorts g) s))
/-- R386: a host port, or its whole group, fails. -/
def doPortFailure (port : Fin 128) (wholeGroup : Bool) (s : State) : State :=
  if wholeGroup then failGroup (port.val / 8) s else failPorts [port.val] s
/-- R386: the failed port's link has been up for 1 s: the sibling stops answering for it. -/
def doProxyStopTimer (port : Fin 128) (s : State) : State :=
  let p := port.val
  if (portOf s p).st = .up && (portOf s p).proxied then
    updMode (fun x => { x with failedPorts := dropSet x.failedPorts p })
      (setPort p (fun x => { x with proxied := false }) (setPort (p ^^^ 8) (fun x => { x with answering := false }) s))
  else s

/-! ## The meanings: each completes -/

/-- PLANNED_SHUTDOWN (R377). -/
def execPlannedShutdown (s : State) : Result := .next (doPlannedShutdown s)
/-- ENTER_SERVICE (R464). -/
def execEnterService (s : State) : Result := .next (doEnterService s)
/-- LEAVE_SERVICE (R465). -/
def execLeaveService (s : State) : Result := .next (doLeaveService s)
/-- ACCEPT_KEEP (R377). -/
def execAcceptKeep (s : State) : Result := .next (doAcceptKeep s)
/-- FORCE_KEEP (R377). -/
def execForceKeep (s : State) : Result := .next (doForceKeep s)
/-- FORCE_STAND_DOWN (R377). -/
def execForceStandDown (s : State) : Result := .next (doForceStandDown s)
/-- PROFILE_WRITE (R380). -/
def execProfileWrite (profile : Nat) (s : State) : Result := .next (doProfileWrite profile s)
/-- TEMP_THRESHOLD (R381). -/
def execTempThreshold (celsius : Int) (s : State) : Result := .next (doTempThreshold celsius s)
/-- TEMP_CLEAR_TIMEOUT (R381). -/
def execTempClearTimeout (celsius : Int) (s : State) : Result := .next (doTempClearTimeout celsius s)
/-- PORT_FAILURE (R386). -/
def execPortFailure (port : Fin 128) (wholeGroup : Bool) (s : State) : Result := .next (doPortFailure port wholeGroup s)
/-- PROXY_STOP_TIMER (R386). -/
def execProxyStopTimer (port : Fin 128) (s : State) : Result := .next (doProxyStopTimer port s)

end Sys2Proof.Machine
end

