-- ==== Sys2Proof/Machine/Records.lean ====
section
/-! DEFINITION. Remarque (chapter 19): the bytes of a record (R471), acceptance into the ring (R472–R475), EVENT frames
(R435), the flush to both areas with its seal (R475, R477–R479). -/
namespace Sys2Proof.Machine
open Sys2Proof

/-! ## A record as bytes (Table 19.1) -/

/-- Byte 14: SEVERITY, INJECTED, FIXED, REPLAYED. -/
def recordFlags (d : Draft) : Nat := d.sev % 4 * 64 + b2n d.injected * 32 + b2n d.fixed * 16 + b2n d.replayed * 8
/-- Bytes 0–59. -/
def recordBody (r : Rcd) : Bytes :=
  leBytes 8 r.seq ++ leBytes 4 r.draft.time ++ leBytes 2 r.draft.type ++ leBytes 1 (recordFlags r.draft) ++ leBytes 1 (r.node % 128)
    ++ leBytes 2 r.draft.inst ++ [0, 0] ++ leBytes 4 r.draft.incarnation ++ (r.draft.detail ++ List.replicate 36 0).take 36
/-- The 64 bytes of a record. -/
def recordBytes (r : Rcd) : Bytes := recordBody r ++ leBytes 4 (crc32c (recordBody r))

/-! ## EVENT frames (R435) -/

/-- The MCC runs and answers Fieth. -/
def mccRuns (s : State) : Bool := !s.fieth.mccHeld && !s.fieth.boot && !s.pres.halted
/-- A record is sent on a channel, at most one in a millisecond; else it is skipped. -/
def sendEvent (n : Nat) (r : Rcd) (s : State) : State :=
  let c := canOf s n
  if !canTalks c then s
  else if c.eventAt = some s.rtc then bump 0x701d06 s
  else emit (.can n (0x600 + s.rst.node) (recordBytes r)) (setCan n (fun x => { x with eventAt := some s.rtc }) s)
/-- R435: a record accepted is sent on both channels when 0x1080.08 is 1. -/
def sendEvents (r : Rcd) (s : State) : State :=
  if dget s 0x108008 = 1 && mccRuns s then sendEvent 1 r (sendEvent 0 r s) else s

/-! ## The ring (R473, R474) -/

/-- SEQ can be assigned: at a power-on only once Recall has found the highest one (R473). -/
def seqKnown (s : State) : Bool := !(s.rec_.powerOn && s.rec_.formatted && !s.rec_.dirLoaded && decide (s.md.mode = .recall))
/-- A record takes the next SEQ and its place in the ring; overwriting an unflushed record is counted (R475). -/
def putRecord (d : Draft) (s : State) : State :=
  let pos := s.rmq.next % 32768
  let r : Rcd := ⟨s.rmq.next, s.rst.node, d⟩
  let lost := s.rmq.unflushed.contains pos
  let put := fun (x : RecSide) => { x with
    next := (x.next + 1) % 2 ^ 64, ring := tput x.ring pos r, unflushed := dropSet x.unflushed pos ++ [pos],
    overwritten := if lost then x.overwritten + 1 else x.overwritten }
  sendEvents r (bump 0x701f01 (when_ lost (bump 0x701f03) (updRmq put s)))

/-! ## Flushing (R475–R479) -/

/-- The unflushed records in sequence order. -/
def unflushedRecords (s : State) : List Rcd :=
  (s.rmq.unflushed.filterMap (tfind s.rmq.ring)).foldl (fun (l : List Rcd) r =>
    l.filter (fun x => x.seq < r.seq) ++ [r] ++ l.filter (fun x => r.seq ≤ x.seq)) []
/-- Pages a flush programs: up to 256 records each, in both areas. -/
def flushPages (l : List Rcd) : Nat := (l.length + 255) / 256 + ((l.filter (fun r => r.seq < 4096)).length + 255) / 256
/-- A flush programs both areas, each page with its CMAC or, unsealed, with zeros. An OVERRUN record goes before the first
that succeeds after records were overwritten. -/
def flushRecords (sealed : Bool) (s0 : State) : State :=
  let n := s0.rmq.overwritten
  let overrun : Draft := ⟨0x0706 * 65536, s0.rtc, 0x0706, 1, 0, false, false, false, incarnation s0, leBytes 8 n⟩
  let s := if n = 0 then s0 else putRecord overrun s0
  let l := unflushedRecords s
  let pages := flushPages l
  let macs := if sealed then (List.range pages).map (fun i => Config.recorderCmac (s.freeCtr + i)) else List.replicate pages 0
  let done := fun (r : RecSide) => { r with
    first := (l.filter (fun x => x.seq < 4096)).foldl (fun t x => tput t x.seq x) r.first,
    last := l.foldl (fun t x => tput t (x.seq % 262144) x) r.last,
    unflushed := [], overwritten := 0, lastFlush := s.rtc, cmacs := r.cmacs ++ macs, lockWait := false }
  let s1 := bump 0x701f02 (updRmq done { s with freeCtr := s.freeCtr + pages })
  if sealed then s1 else (List.range pages).foldl (fun a _ => bump32 0x600007 a) s1
/-- A flush that waited for the utility engine goes on (R479). -/
def flushWaiting (sealed : Bool) (s : State) : State :=
  if !s.rmq.lockWait then s
  else if s.md.mode = .drain || s.rmq.unflushed.isEmpty then updRmq (fun r => { r with lockWait := false }) s
  else flushRecords sealed s

end Sys2Proof.Machine
end

