-- ==== Sys2Proof/Machine/Keys.lean ====
section
/-! DEFINITION. Key commands and slots (R400–R406), mismatches of the engines (R395–R399), the utility engine lock (R408),
firmware banks (R409, R410). -/
namespace Sys2Proof.Machine
open Sys2Proof

/-! ## Slots -/

/-- Operations in progress under a slot's present key (Table 15.2, IN_USE): units being programmed or read, and a key
derivation for the link slot. -/
def inUse (s : State) (slot : Nat) : Nat :=
  let units := fun (o : DieOp) => match o.act with
    | .program l => (l.filter (fun u => u.slot = slot)).length
    | .read lunit => if (tfind s.nand.heads (punit (tget {} (live s).fmap lunit).place)).any (fun h => h.slot = slot) then 1 else 0
    | .erase _ => 0
  ((s.nand.dies.flatMap (fun p => p.2.ops)).map units).foldl (· + ·) 0 + b2n (decide (slot = dget s 0x350104) && decide (s.keys.ueOwner = 2))
/-- The check value of the present key (R400); 0 when empty. -/
def slotKcv (k : KeySlot) : Nat := if k.st = .empty || k.st = .lost then 0 else Config.kcv k.value % 2 ^ 32
def slotStCode : SlotSt → Nat
  | .empty => 0 | .loaded => 1 | .shadow => 2 | .eraseWait => 3 | .lost => 4
/-- A slot element as a number (Table 15.2). -/
def slotElement (s : State) (n : Nat) : Nat :=
  let k := keySlotOf s n
  slotStCode k.st * 2 ^ 124 + k.kind * 2 ^ 120 + k.source * 2 ^ 118 + min 65535 (inUse s n) * 2 ^ 96 + slotKcv k * 2 ^ 64
    + slotUnits s n % 2 ^ 40 * 2 ^ 24
/-- The command ends with a status and a result. -/
def keyStatus (status result : Nat) (s : State) : State := dset 0x400202 status (dset 0x400203 result s)
/-- A slot's shadow becomes its key, or its erased key is zeroed, both NOR copies written (R404). -/
def swapSlot (n : Nat) (s : State) : State :=
  let k := keySlotOf s n
  match k.st with
  | .shadow =>
    let v := k.next.getD 0
    keyStatus 0 (Config.kcv v % 2 ^ 32)
      (setKeySlot n (fun _ => { st := .loaded, kind := k.nextKind, source := k.nextSource, value := v, nor := true }) s)
  | .eraseWait => keyStatus 0 0 (setKeySlot n (fun _ => {}) s)
  | _ => s
/-- R404: IN_USE of a slot has reached 0. -/
def doKeySwap (slot : Fin 64) (s : State) : State := if inUse s slot.val = 0 then swapSlot slot.val s else s

/-! ## The utility engine lock (R408) -/

/-- The waiting claim of highest priority is granted; a client's number is its priority (Table 15.6). -/
def grantUe (s : State) : State :=
  match sortNats s.keys.ueWait with
  | [] => updKeys (fun k => { k with ueOwner := 0 }) s
  | c :: _ => updKeys (fun k => { k with ueOwner := c, ueWait := dropSet k.ueWait c }) s
/-- A client claims: granted at once when the lock is free. -/
def claimUe (client : Nat) (s : State) : State :=
  if client = 0 || client > 5 || s.keys.ueOwner = client then s
  else if s.keys.ueOwner = 0 then updKeys (fun k => { k with ueOwner := client }) s
  else updKeys (fun k => { k with ueWait := insertSet k.ueWait client }) s
/-- The key operation ends: the key is loaded, through the shadow where the slot holds one (R401, R404). -/
def endKeyJob (s : State) : State :=
  match s.keys.job with
  | none => s
  | some j =>
    let s1 := updKeys (fun k => { k with job := none }) s
    let shadow := fun (k : KeySlot) => { k with st := SlotSt.shadow, next := some j.value, nextKind := j.kind, nextSource := j.source }
    let s2 := setKeySlot j.slot shadow s1
    if (keySlotOf s j.slot).st = .loaded && decide (inUse s1 j.slot > 0) then s2 else swapSlot j.slot s2
/-- The holder's operation ends with an error: a key command with status 0x06, a flush without its
seal, a verification with an invalid bank. -/
def failUe (s : State) : State :=
  match s.keys.ueOwner with
  | 3 => if s.keys.job.isSome then keyStatus 6 0 (updKeys (fun k => { k with job := none }) s) else s
  | 4 => flushWaiting false s
  | 5 => updKeys (fun k => { k with banks := k.banks.map (fun b => { b with verifying := false }) }) s
  | _ => s
/-! ## Key commands (R402–R406) -/

/-- A block for 0x4002.01: refused while the status is 0xff; `status` is the code of Table 15.5 that ends it at once, or
none where it runs. The material written for IMPORT is used up. -/
def keyCommand (code slot kind : Nat) (status : State → Option Nat) (run : State → State) (s : State) : State :=
  dictGuard 0x4002 1 true (fun a =>
    if dget a 0x400202 = 255 then dictRefuse 0x4002 1 0x06050002 a
    else
      let barredMode := (a.md.mode = .recall && !a.rec_.serving) || a.md.mode = .drain || a.md.mode = .keep
      let a1 := dictDone 0x4002 1 a
      let a2 := match (if barredMode then some 9 else status a) with
        | some v => keyStatus v 0 a1
        | none => run a1
      keepBlock 0x400201 (blockValue [code * 2 ^ 24 + slot * 2 ^ 8 + kind % 16, 0]) (updKeys (fun k => { k with material := none }) a2)) s
/-- UNITS and the write slot protect an XTS slot that holds a key (R403). -/
def slotProtected (s : State) (n : Nat) : Bool :=
  let k := keySlotOf s n
  decide (k.kind = 1) && decide (k.st ≠ .empty) && (decide (slotUnits s n ≠ 0) || decide (writeSlot s = n))
/-- A key goes to the utility engine for its slot. -/
def loadKey (j : KeyJob) (s : State) : State := claimUe 3 (keyStatus 255 0 (updKeys (fun k => { k with job := some j }) s))
/-- R402: GENERATE. -/
def doKeyGenerate (slot kind : Nat) (s : State) : State :=
  let n := slot % 64
  keyCommand 1 n kind (fun a => if kind ≠ 1 && kind ≠ 2 then some 2 else if slotProtected a n then some 3 else if ueFenced a then some 6 else none)
    (fun a => draw (loadKey ⟨n, kind, 1, Config.drbgKey a.freeCtr⟩ a)) s
/-- R402: IMPORT of the material in 0x4002.04. -/
def doKeyImport (slot kind : Nat) (s : State) : State :=
  let n := slot % 64
  let size := if kind = 1 then 64 else 32
  let equal := fun (b : Bytes) => decide (kind = 1) && decide (b.take 32 = b.drop 32)
  keyCommand 2 n kind (fun a =>
    let m := a.keys.material
    if kind ≠ 1 && kind ≠ 2 then some 2
    else if m.any (fun b => b.length = size && equal b) then some 2
    else if slotProtected a n then some 3
    else if !m.any (fun b => b.length = size) then some 5
    else if ueFenced a then some 6 else none)
    (fun a => loadKey ⟨n, kind, 2, beNat (a.keys.material.getD [])⟩ a) s
/-- R402, R403: ERASE: at once when nothing uses the slot, else once IN_USE reaches 0. -/
def doKeyErase (slot : Nat) (s : State) : State :=
  let n := slot % 64
  keyCommand 3 n 0 (fun a =>
    if slotProtected a n then some 3
    else if dget a 0x350104 = n && (a.cp.twin = .resync || a.cp.twin = .inSync) then some 4 else none)
    (fun a =>
      let a1 := keyStatus 255 0 (setKeySlot n (fun k => { k with st := .eraseWait }) a)
      if inUse a n = 0 then swapSlot n a1 else a1) s
/-- R406: MIGRATE: the FTL rewrites every unit that names the slot. -/
def doKeyMigrate (slot : Nat) (s : State) : State :=
  let n := slot % 64
  keyCommand 4 n 0 (fun a => if writeSlot a = n || (keySlotOf a n).st = .empty then some 7 else if ueFenced a then some 6 else none)
    (fun a => gcAll (keyStatus 255 0 (updKeys (fun k => { k with migrate := some n }) a))) s
/-- A CODE that Table 15.4 does not assign. -/
def unknownKeyCommand (code slot kind : Nat) (s : State) : State := keyCommand code slot kind (fun _ => some 8) id s
/-- R405: 0x4000.01 is written. -/
def doWriteSlotWrite (slot : Nat) (s : State) : State :=
  dictGuard 0x4000 1 true (fun a =>
    let k := keySlotOf a slot
    if slot > 63 then dictRefuse 0x4000 1 0x06040001 a
    else if (k.st = .loaded || k.st = .shadow) && decide (k.kind = 1) then dictDone 0x4000 1 (dset 0x400001 slot a)
    else dictRefuse 0x4000 1 0x06040003 a) s

/-! ## Mismatches (R395–R399) -/

/-- GE0 or GE1 is fenced: the link is lost until the next power-on (R398). -/
def fenceGcm (n : Nat) (s : State) : State :=
  linkLost (disarmAt [(0x0901, n)] (faultHandled (draw (post 0x0601 2 n (leBytes 8 (Config.measured s.freeCtr)) (updKeys (fun k => { k with fenced := insertSet k.fenced n }) s)))))
/-- The UE's operation fails; the third failure within 1 s fences it (R399). -/
def ueMismatch (s : State) : State :=
  let recent := s.keys.ueMismatch.filter (fun t => (s.rtc + 2 ^ 32 - t) % 2 ^ 32 < 1000) ++ [s.rtc]
  let s1 := grantUe (failUe (updKeys (fun k => { k with ueMismatch := recent }) s))
  if recent.length ≥ 3 then
    let s2 := draw (post 0x0601 2 6 (leBytes 8 (Config.measured s.freeCtr)) (updKeys (fun k => { k with fenced := insertSet k.fenced 6 }) s1))
    updKeys (fun k => { k with ueOwner := 0, ueWait := [] }) (failUe (disarmAt [(0x0901, 6)] s2))
  else s1
/-- R408: a client claims the lock. -/
def doUeLockClaim (client : Nat) (s : State) : State := if ueFenced s then s else claimUe client s
/-- R408: the holder's operation ends and it releases the lock. An armed point 0x0901 of the UE fires on it. -/
def doUeLockRelease (client : Nat) (s : State) : State :=
  if s.keys.ueOwner = 0 || s.keys.ueOwner ≠ client then s
  else match fireRecorded 0x0901 6 [2] s with
    | some p => injected (fun a => ueMismatch (bump32 0x701c02 a)) p.2
    | none =>
      let s1 := ((fireRecorded 0x0901 6 [1] s).map (fun p => bump 0x701c01 p.2)).getD s
      grantUe (if client = 3 then endKeyJob s1 else if client = 4 then flushWaiting true s1 else s1)
/-- R408: a lock held longer than 10 ms is taken back. -/
def doUeLockTimeout (s : State) : State := if s.keys.ueOwner = 0 then s else grantUe (failUe (bump32 0x401002 s))
/-- R395: an engine's two datapaths disagree: XQ0–XQ3, GE0, GE1, UE; `second` when the retry disagrees too. -/
def doCipherMismatch (engine : Fin 7) (second : Bool) (s : State) : State :=
  let n := engine.val
  if s.keys.fenced.contains n || (decide (n = 6) && decide (s.keys.ueOwner = 0)) then s
  else if n < 4 then xqMismatch n second s
  else if !second then bump 0x701c01 s
  else
    let s1 := bump32 0x701c02 s
    if n = 6 then ueMismatch s1 else fenceGcm n s1

/-! ## Firmware (R409, R410) -/

def bankOf (s : State) (n : Nat) : Bank := (s.keys.banks[n]?).getD {}
def setBank (n : Nat) (f : Bank → Bank) (s : State) : State := updKeys (fun k => { k with banks := k.banks.modify n f }) s
/-- A field of a bank's header (Table 15.7). -/
def headerField (m : Mem) (at_ len : Nat) : Nat := leNat (mbytes m at_ len)
/-- The header of an image is well formed: MAGIC, LENGTH, SVN, reserved bytes. -/
def headerOk (m : Mem) : Bool :=
  decide (headerField m 0 4 = 0x4c4e4657) && decide (1 ≤ headerField m 12 4) && decide (headerField m 12 4 ≤ 8388480)
    && decide (headerField m 8 1 < 64) && decide (headerField m 9 3 = 0) && decide (headerField m 16 16 = 0)
/-- Bank status (Table 15.10). -/
def bankStatus (s : State) (n : Nat) : Nat :=
  let b := bankOf s n
  b2n b.valid * 2 ^ 63 + b2n (decide (s.keys.running = some n)) * 2 ^ 62 + b.svn % 256 * 2 ^ 32 + b.version % 2 ^ 32
/-- R410, R411, R423: a write transfer of a firmware bank. In option fault the boot ROM takes none. -/
def doFirmwareBankWrite (bank : Fin 2) (off : Nat) (data : Bytes) (s : State) : State :=
  let n := bank.val
  let refuse := fun code => dictRefuse 0x4020 (n + 1) code s
  let b := bankOf s n
  if fiethSilent s then s
  else if s.fieth.boot && s.rst.optFault then refuse 0x06070001
  else if !s.pres.windowOpen then refuse 0x06020003
  else if data.isEmpty || (decide (off ≠ 0) && decide (off ≠ b.written)) || decide (off + data.length > 8388608) then refuse 0x06030002
  else if data.length > 1048576 then refuse 0x06030003
  else if s.keys.running = some n || b.verifying then refuse 0x06040003
  else
    let base := if off = 0 then { b with image := [], valid := false } else b
    let image := mput base.image off data
    let done := decide (off + data.length ≥ 128) && decide (off + data.length ≥ 128 + headerField image 12 4)
    let next := { base with image := image, written := off + data.length, verifying := done && !ueFenced s }
    when_ (done && !ueFenced s) (claimUe 5) (dictDone 0x4020 (n + 1) (setBank n (fun _ => next) s))
/-- A bank's image is judged: VALID when its signature verifies and its SVN is not below the fused one (R409); an invalid
one is recorded. -/
def judgeBank (n : Nat) (sigOk : Bool) (s : State) : State :=
  let m := (bankOf s n).image
  let svn := headerField m 8 1
  let sound := sigOk && headerOk m
  let good := sound && decide (s.keys.fusedSvn ≤ svn)
  let s1 := setBank n (fun b => { b with verifying := false, valid := good, svn := svn, version := headerField m 4 4, length := headerField m 12 4 }) s
  if good then s1 else post 0x0604 1 n (leBytes 1 (if sound then 2 else 1)) s1
/-- R410: the UE ends the verification of a written bank. -/
def doFirmwareVerifyDone (bank : Fin 2) (sigOk : Bool) (s : State) : State :=
  if !(bankOf s bank.val).verifying || s.keys.ueOwner ≠ 5 then s else grantUe (judgeBank bank.val sigOk s)
/-- R410: the fused security version is burned up to a value above it and not above the running image's SVN. -/
def doSvnCommit (value : Nat) (s : State) : State :=
  dictGuard 0x4021 5 true (fun a =>
    let top := match a.keys.running with | some n => (bankOf a n).svn | none => 0
    if value > 63 then dictRefuse 0x4021 5 0x06040001 a
    else if value ≤ a.keys.fusedSvn || value > top then dictRefuse 0x4021 5 0x06040003 a
    else
      let weak := fun (b : Bank) => { b with valid := b.valid && decide (value ≤ b.svn) }
      dictDone 0x4021 5 (updKeys (fun k => { k with fusedSvn := value, banks := k.banks.map weak }) a)) s

/-! ## The meanings: each completes -/

/-- KEY_GENERATE (R402). -/
def execKeyGenerate (slot : Nat) (kind : Nat) (s : State) : Result := .next (doKeyGenerate slot kind s)
/-- KEY_IMPORT (R402). -/
def execKeyImport (slot : Nat) (kind : Nat) (s : State) : Result := .next (doKeyImport slot kind s)
/-- KEY_ERASE (R403). -/
def execKeyErase (slot : Nat) (s : State) : Result := .next (doKeyErase slot s)
/-- KEY_MIGRATE (R406). -/
def execKeyMigrate (slot : Nat) (s : State) : Result := .next (doKeyMigrate slot s)
/-- KEY_SWAP (R404). -/
def execKeySwap (slot : Fin 64) (s : State) : Result := .next (doKeySwap slot s)
/-- WRITE_SLOT_WRITE (R405). -/
def execWriteSlotWrite (slot : Nat) (s : State) : Result := .next (doWriteSlotWrite slot s)
/-- CIPHER_MISMATCH (R395). -/
def execCipherMismatch (engine : Fin 7) (second : Bool) (s : State) : Result := .next (doCipherMismatch engine second s)
/-- UE_LOCK_CLAIM (R408). -/
def execUeLockClaim (client : Nat) (s : State) : Result := .next (doUeLockClaim client s)
/-- UE_LOCK_RELEASE (R408). -/
def execUeLockRelease (client : Nat) (s : State) : Result := .next (doUeLockRelease client s)
/-- UE_LOCK_TIMEOUT (R408). -/
def execUeLockTimeout (s : State) : Result := .next (doUeLockTimeout s)
/-- FIRMWARE_BANK_WRITE (R410). -/
def execFirmwareBankWrite (bank : Fin 2) (off : Nat) (data : Bytes) (s : State) : Result := .next (doFirmwareBankWrite bank off data s)
/-- FIRMWARE_VERIFY_DONE (R410). -/
def execFirmwareVerifyDone (bank : Fin 2) (sigOk : Bool) (s : State) : Result := .next (doFirmwareVerifyDone bank sigOk s)
/-- SVN_COMMIT (R410). -/
def execSvnCommit (value : Nat) (s : State) : Result := .next (doSvnCommit value s)

end Sys2Proof.Machine
end

