-- ==== Sys2Proof/Machine/Recorder.lean ====
section
/-! DEFINITION. Remarque's steps (R472–R479): a record accepted, the flush, the lock it may wait for, the seal check. -/
namespace Sys2Proof.Machine
open Sys2Proof

/-- A flush begins unless nothing is unflushed, in Drain, before the media are read, or while LOG_SYSTEM is set (R475). It
claims the utility engine, and waits where another client holds it (R479). -/
def beginFlush (s : State) : State :=
  if s.md.mode = .drain || !s.rec_.dirLoaded || s.rmq.unflushed.isEmpty || s.rmq.lockWait || bitOf s.md.causes 4 then s
  else if ueFenced s then flushRecords false s
  else if s.keys.ueOwner = 0 then flushRecords true s
  else claimUe 4 (updRmq (fun r => { r with lockWait := true }) s)
/-- R472–R475: the recorder accepts the record posted first. -/
def doRecordAccept (s : State) : State :=
  match s.rmq.waiting with
  | [] => s
  | d :: rest =>
    if !seqKnown s || s.rst.phase = .off || s.rst.phase = .powerOn then s
    else
      let s1 := putRecord d (updRmq (fun r => { r with waiting := rest }) s)
      if d.sev ≥ 2 || s1.rmq.unflushed.length ≥ 16384 then beginFlush s1 else s1
/-- R475: the 250 ms flush. One that neither copy takes leaves its records unflushed and raises LOG_SYSTEM (R266). -/
def doRecorderFlushTick (ok : Bool) (s : State) : State :=
  if ok then beginFlush s
  else if s.md.mode = .drain || !s.rec_.dirLoaded || s.rmq.unflushed.isEmpty || bitOf s.md.causes 4 then s
  else raiseKeep 4 s
/-- R479: the lock was not granted within 2 ms: the page is flushed without a seal. -/
def doRecorderLockTimeout (s : State) : State :=
  if s.rmq.lockWait && s.keys.ueOwner ≠ 4 then
    flushWaiting false (updKeys (fun k => { k with ueWait := dropSet k.ueWait 4 }) s)
  else s
/-- R479: the check of the CMAC chain at Recall ends. -/
def doRecorderSealCheck (failing : Nat) (s : State) : State :=
  if s.rec_.phase = .none then s
  else when_ (decide (failing ≠ 0)) (post 0x0707 2 0 (leBytes 4 failing)) (dset 0x600008 (min failing (2 ^ 32 - 1)) s)

/-! ## The meanings: each completes -/

/-- RECORD_ACCEPT (R472). -/
def execRecordAccept (s : State) : Result := .next (doRecordAccept s)
/-- RECORDER_FLUSH_TICK (R475). -/
def execRecorderFlushTick (ok : Bool) (s : State) : Result := .next (doRecorderFlushTick ok s)
/-- RECORDER_LOCK_TIMEOUT (R479). -/
def execRecorderLockTimeout (s : State) : Result := .next (doRecorderLockTimeout s)
/-- RECORDER_SEAL_CHECK (R479). -/
def execRecorderSealCheck (failing : Nat) (s : State) : Result := .next (doRecorderSealCheck failing s)

end Sys2Proof.Machine
end

