-- ==== Sys2Proof/Machine/Reset.lean ====
section
/-! DEFINITION. What a reset of each level clears (R14, R185, R486, Table 20.2), entry into Recall (R73, R330, R335) and
the core reset (R487). -/
namespace Sys2Proof.Machine
open Sys2Proof

/-! ## Entry into Recall -/

/-- The next pair incarnation (R73), block × 2^24 + n as an epoch is formed (R324): a new block burns a fuse and writes a
record to the first area. -/
def nextIncarnation (s : State) : State :=
  let v := incarnation s
  let b := max (v / 2 ^ 24) s.cp.burnedInc + 1
  if v % 2 ^ 24 < 2 ^ 24 - 1 then dset 0x210004 (v + 1) s
  else if b ≤ 255 then postFixed (255 + b) 0x0603 0 b (leBytes 1 2) (dset 0x210004 (b * 2 ^ 24) (updCp (fun c => { c with burnedInc := b }) s))
  else s
/-- Recall is entered at the end of a power-on or system reset (R330, R335). What Recall empties, the reset has emptied. -/
def enterRecall (s : State) : State :=
  let s1 := nextIncarnation s
  let s2 := if s1.md.mode = .recall then s1 else setMode .recall 1 s1
  updMode (fun x => { x with entering := false, since := s.rtc, left := .recall }) s2

/-! ## What a system reset clears, and what a power-on reset clears besides -/

/-- The slices are invalidated. A failed one, and an invalidated one with its domain off, return to enabled only at
power-on (R185); its disabled ways and error times last with the slice. -/
def resetSlices (power : Bool) (s : State) : State :=
  let next := fun (n : Nat) (sl : Slice) =>
    let stays := sl.st = .failed || (sl.st = .invalidated && !bitOf s.rst.powered (88 + n))
    { st := if stays then sl.st else .enabled, wayOff := sl.wayOff, errs := sl.errs : Slice }
  let kept := if power then [] else (List.range 16).foldl (fun t n => tset {} t n (next n (sliceOf s n))) []
  updCs (fun _ => { slices := kept }) s
/-- A DRAM channel waits for its training: after a system reset its ranks in self-refresh (R205), after a power-on its
contents gone and a lost channel to be tested again. Repairs and retired frames last. -/
def resetChannel (power : Bool) (c : Channel) : Channel :=
  if power then { repairs := c.repairs, hppr := c.hppr, retired := c.retired, saved := c.saved }
  else { c with st := if c.st = .lost then .lost else .off, panicCp := false, panicFx := false, highTemp := false, post := [0, 0, 0, 0],
                rankPower := [2, 2], draining := false, raa := [], corrections := [] }
/-- The map order is chosen at power-on: by 0x3240.03, or from the profile in force (R194). -/
def orderAt (s : State) : Nat := if dget s 0x324003 = 0 then dget s 0x110002 else dget s 0x324003
def resetDram (power : Bool) (s : State) : State :=
  let chans := s.dram.channels.map (fun p => (p.1, resetChannel power p.2))
  if power then updDram (fun _ => { channels := chans, mapOrder := orderAt s }) s
  else updDram (fun d => { d with channels := chans, waiters := [] }) s
/-- Dies drop what they were asked; units still merging wait in the wordlines of their dies again. -/
def resetNand (power : Bool) (s : State) : State :=
  let unit := fun (m : Merge) => (⟨1, m.lunit, .writeBack m.lunit, 0, []⟩ : ProgUnit)
  let mine := fun (n : Nat) => (s.nand.merge.filter (fun m => dieNo (setChannel m.set (m.lunit % 4)) (setDieNo m.set) = n)).map unit
  let die := fun (p : Nat × Die) => (p.1, { p.2 with ops := [], wordline := mine p.1 })
  let chan := fun (c : NandChan) => { c with st := if c.st = .lost && !power then NandSt.lost else .off, wp := false }
  let s1 := updNand (fun n => { n with dies := n.dies.map die, channels := n.channels.map (fun p => (p.1, chan p.2)), ladder := [], verifying := [] }) s
  if power then forgetWork s1 else s1
/-- Pages under a move stay in their old homes (R164); the running pass and dump are gone, plates and a seal stay. -/
def resetEngines (s : State) : State :=
  let s0 := { s with per := { s.per with writing := none, logged := if s.per.writing.isSome then max 32 s.per.logged else s.per.logged, rounding := false } }
  let s1 := updEng (fun _ => {}) (updTier (fun _ => {}) (abandonMoves (stopPass s0)))
  updSnap (fun _ => {}) (updFix (fun f => { f with
    phase := .none, cause := 0, quiesced := false, tickWait := false, refusedAt := none, holdFresh := true, dumpDead := false }) s1)
/-- The link is down and nothing of a session is left; epochs and the burned fuses stay (R324). -/
def resetTwin (s : State) : State :=
  updCp (fun c => { epoch := c.epoch, epochsOk := c.epochsOk, burned := c.burned, burnedInc := c.burnedInc, rxEpoch := c.rxEpoch,
                    twin := if s.rst.twinPresent then .linking else .absent }) s
/-- Recall begins afresh; the reserve seal of a system reset stays for it (R331). -/
def resetRecall (power : Bool) (s : State) : State :=
  updRecall (fun r => { formatted := r.formatted, powerOn := power, maint := power && dget s 0x32400b = 1,
                        reserveSeal := if power then none else r.reserveSeal, kind := r.kind }) s
/-- A port group that stays off keeps its ports failed, their siblings answering; every other port trains again. -/
def resetPorts (s : State) : State :=
  let off := fun p => bitOf s.rst.offFault (p / 8)
  let next := fun (t : Tbl Port) p =>
    if off p then tput t p { st := .failed, proxied := !off (p ^^^ 8) } else if off (p ^^^ 8) then tput t p { answering := true } else t
  updMode (fun x => { x with failedPorts := (List.range 128).filter off }) { s with ports := (List.range 128).foldl next [] }
/-- The engines that hold keys: what they ran is gone; a fenced engine stays fenced until power-on (R396–R399). -/
def resetKeys (power : Bool) (s : State) : State :=
  updKeys (fun k => { k with
    job := none, material := none, migrate := none, ueOwner := 0, ueWait := [], ueMismatch := if power then [] else k.ueMismatch,
    fenced := if power then [] else k.fenced, blocks := if power then [] else k.blocks,
    banks := k.banks.map (fun b => { b with verifying := false }), running := none,
    slots := k.slots.filterMap (fun p => if p.2.st = .empty then none
      else if p.2.st = .eraseWait then some (p.1, { p.2 with st := .loaded }) else some (p.1, { p.2 with st := if p.2.nor then .loaded else p.2.st, next := none })) }) s
/-- The rate codes a channel restarts with (R415), and whether it is enabled; strap 0 keeps it listening (R416). -/
def canAtReset (s : State) (n : Nat) : Can :=
  let rate := dget s (0x108002 + 2 * n)
  { st := if !bitOf (dget s 0x108007) n then .disabled else if s.rst.node = 0 then .listenOnly else .active
    tdc := decide (rate ≥ 2), nominal := dget s (0x108001 + 2 * n), rate := rate }
/-- Fieth: records and transfers are gone, the CAN controllers restart, the MCC is held (R415, R418, R436). -/
def resetFieth (power : Bool) (s : State) : State :=
  updFieth (fun f => { chans := [canAtReset s 0, canAtReset s 1], mccStarts := if power then 0 else f.mccStarts }) s
/-- The volatile buffer is lost at power-on, except as dumped (R476). -/
def resetRecorder (power : Bool) (s : State) : State :=
  if power then updRmq (fun r => { r with ring := [], unflushed := [], waiting := [], overwritten := 0, lastFlush := 0, lockWait := false }) s
  else updRmq (fun r => { r with lockWait := false }) s
/-- The dictionary returns to its defaults; what was in force is loaded again at load done. Keep causes are of level P, the
time in Keep of level S. -/
def resetDictionary (power : Bool) (s : State) : State :=
  updMode (fun x => { x with causes := if power then 0 else x.causes, keepMs := 0 })
    (clearDict (if power then .p else .s) { s with force := [] })
/-- Every unit that a system reset (or a power-on reset) clears. -/
def clearUnits (power : Bool) (s : State) : State :=
  let s1 := disarmAll 6 s
  let s2 := updRc (fun _ => {}) (updHost (fun _ => {}) s1)
  let s3 := resetNand power (resetEngines s2)
  let s4 := resetRecall power (resetTwin (resetDram power (resetSlices power s3)))
  resetDictionary power (resetRecorder power (resetFieth power (resetKeys power (resetPorts s4))))

/-! ## The reset controller (R484–R493) -/

/-- Pins and flags at the assertion of an internal reset: FAULT_N asserted until load done (R502), host outputs quiet. -/
def assertReset (s : State) : State :=
  let s1 := updMode (fun x => { x with fault := true }) s
  let down := fun (r : ResetSide) => { r with
    loadDone := false, optFault := false, coreRun := false, coreHeld := false, idle := [], offReq := 0, blockReset := [], repower := [],
    due := false, dumpReset := false }
  emit (.pin "FAULT_N" false) (updRst down s1)
/-- A power-on reset begins (R486): everything volatile is lost; domains switched off after faults will be tested again. -/
def powerReset (phase : ResetPhase) (cause causes : Nat) (s : State) : State :=
  let s1 := updPres (fun p => { p with windowOpen := false, closesAt := 0, halted := false, scan := none }) s
  let down := fun (r : ResetSide) => { r with
    phase := phase, cause := cause, causes := causes, short := false, powered := 0, offFault := 0, pgFaults := [] }
  let s2 := clearUnits true (assertReset (updRst down s1))
  { s2 with per := { s2.per with live := s2.per.durable } }

/-! ## The core reset (R487) -/

/-- A core reset is accepted with its cause bit. One that arrives while one runs, in a window, or during the load is
absorbed (R487, R491). -/
def acceptCore (bit : Nat) (s : State) : State :=
  let s1 := updRst (fun r => { r with causes := setBit r.causes bit }) s
  if s.rst.phase ≠ .running || s.rst.coreRun || s.fieth.mccHeld && !s.fieth.boot then s1
  else updRst (fun r => { r with coreRun := true }) s1
/-- The MCC is held in reset: open transfers are gone (R436), CS14 and CS15 invalidated, entries of level C cleared, and a
verification it ran at the utility engine ends with an error. -/
def holdMcc (s : State) : State :=
  let s1 := updFieth (fun f => { f with
    mccHeld := true, boot := false, chans := f.chans.map (fun c => { c with xfer := none }), dups := f.dups.filter (fun d => d.out.isSome) }) s
  let s2 := each [14, 15] (fun n a => setSlice n (fun sl => { sl with lines := [], fills := [] }) a) s1
  let s3 := updKeys (fun k => { k with banks := k.banks.map (fun b => { b with verifying := false }), ueWait := dropSet k.ueWait 5 }) s2
  clearDict .c (if s3.keys.ueOwner = 5 then grantUe s3 else s3)

end Sys2Proof.Machine
end

