-- ==== Sys2Proof/Machine/Power.lean ====
section
/-! DEFINITION. The rows of reset, power and clocks (chapter 20): power-on, system and core resets (R484–R493), blocks going
idle (R494, R495), the option load (R496–R503), domains (R504, R505), PLLs, clock and rail monitors (R507–R510, R384). -/
namespace Sys2Proof.Machine
open Sys2Proof

/-! ## Seal loops (R461, R462) -/

/-- The seal fuse is burned and the seal-broken record written to its place in the first area. -/
def burnSeal (s : State) : State :=
  postFixed 0 0x0703 1 s.pres.brokenLoop ([1, 0, 0, 0] ++ leBytes 4 s.pres.brokenAt) (updPres (fun p => { p with fuse := true }) s)
/-- A loop reads open: counted and recorded; the first one ever is the seal-broken event, whose fuse waits for the option
load while PD_MAIN is without power. -/
def sealOpening (loop : Nat) (s : State) : State :=
  let s1 := bump32 0x701e03 s
  if s.pres.broken then post 0x0703 1 loop ([0, 0, 0, 0] ++ leBytes 4 s.rtc) s1
  else
    let s2 := updPres (fun p => { p with broken := true, brokenAt := s.rtc, brokenLoop := loop }) s1
    if s.rst.phase = .off || s.rst.phase = .powerOn then s2 else burnSeal s2

/-! ## Power-on reset (R484, R485, R493, R520) -/

/-- R485: PWRGD is asserted: a power-on reset, with POWER_ON the one cause. -/
def doPwrgdAssert (s : State) : State :=
  if s.rst.phase ≠ .off then s else updRst (fun r => { r with pwrgd := true, phase := .powerOn, cause := 0, causes := 1 }) s
/-- R484: PWRGD is deasserted: at once, with no preparation; a dump in progress is lost (R491). -/
def doPwrgdDeassert (s : State) : State :=
  if s.rst.phase = .off then s else updRst (fun r => { r with pwrgd := false }) (powerReset .off 0 0 s)
/-- R493: PORST_N is asserted: while PWRGD stays asserted every cause clears and PORST is set. -/
def doPorstAssert (s : State) : State :=
  if s.rst.porst then s
  else
    let s1 := updRst (fun r => { r with porst := true }) s
    if s.rst.phase = .off then s1 else powerReset .powerOn 0 2 s1
/-- R485, R330: the option load begins, and Recall with it; SYSRST_N held low keeps the Steoc in reset. -/
def beginLoad (s : State) : State :=
  if s.rst.sysrst then updRst (fun r => { r with phase := .asserted, due := true }) s
  else enterRecall (updRst (fun r => { r with phase := .load, due := false }) s)
/-- R485, R514, R462: the later of PWRGD asserted and PORST_N deasserted: the straps are latched, loops found open count, and
strap 0 is no Fieth node (R416). -/
def doPowerOnResetEnd (node : Fin 128) (s : State) : State :=
  if s.rst.phase ≠ .powerOn || !s.rst.pwrgd then s
  else
    let s1 := resetFieth true (updRst (fun r => { r with porst := false, node := node.val }) s)
    let s2 := when_ (!s1.pres.loopB) (sealOpening 1) (when_ (!s1.pres.loopA) (sealOpening 0) s1)
    let s3 := when_ (node.val = 0) (post 0x0705 2 0 (leBytes 1 2)) s2
    beginLoad (updDram (fun d => { d with hpprRun := s3.rec_.maint }) s3)
/-- R520: VDD_AON is low while other rails are up: a power-on reset without a dump; the real-time counter and the presence
window in PD_AON are lost. -/
def doVddAonLow (s : State) : State :=
  if s.rst.phase = .off then s else { powerReset .powerOn 0 1 s with rtc := 0 }

/-! ## System reset (R484, R488–R492) -/

/-- R485: SYSRST_N has been low for 1,600 CLK_CORE cycles. -/
def doSysrstAssert (s : State) : State := acceptReset 2 (updRst (fun r => { r with sysrst := true }) s)
/-- R488, R490: the window ends. A full form with a block not idle leaves no reserve seal. The internal reset is asserted. -/
def doSystemResetWindowEnd (s : State) : State :=
  if s.rst.phase ≠ .window then s
  else
    let s1 := when_ (!s.rst.short && !s.rst.idle.isEmpty) (updRecall (fun r => { r with reserveSeal := none })) s
    let s2 := bump32 0x702001 (when_ (!s.rst.loadDone && !s.rst.optFault) (bump32 0x702003) s1)
    let seen := fun (r : ResetSide) => { r with
      phase := .asserted, short := false, cause := 0, causes := (bitList 11 r.cause).foldl setBit r.causes }
    clearUnits false (assertReset (updRst seen s2))
/-- R488: the internal reset has lasted 8,192 cycles. -/
def doSystemResetRelease (s : State) : State := if s.rst.phase ≠ .asserted then s else beginLoad s
/-- R485: SYSRST_N is deasserted. -/
def doSysrstDeassert (s : State) : State :=
  let s1 := updPres (fun p => { p with scan := none }) (updRst (fun r => { r with sysrst := false }) s)
  if s.rst.phase = .asserted && s.rst.due then beginLoad s1 else s1
/-- R491, R492: a request of 0x5000.02 is refused in Drain before the seal and during a window. -/
def resetRequest (run : State → State) (s : State) : State :=
  dictGuard 0x5000 2 true (fun a =>
    if a.rst.phase ≠ .running || (a.md.mode = .drain && a.fix.phase ≠ .sealed) then dictRefuse 0x5000 2 0x06040003 a
    else run (dictDone 0x5000 2 a)) s
/-- R492: 0x01 requests a core reset. -/
def doCoreResetRequest (s : State) : State := resetRequest (acceptCore 4) s
/-- R492: 0x02 requests a system reset. -/
def doSystemResetRequest (s : State) : State := resetRequest (acceptReset 3) s
/-- R446: writing 1 to a cause bit clears it. -/
def doResetCauseClear (mask : Nat) (s : State) : State :=
  dictGuard 0x5000 1 false (fun a =>
    if mask ≥ 2 ^ 11 then dictRefuse 0x5000 1 0x06040002 a
    else dictDone 0x5000 1 (updRst (fun r => { r with causes := (bitList 11 mask).foldl clrBit r.causes }) a)) s

/-! ## Core reset (R487) -/

/-- R487: the posted-write FIFO has had its 16,000 cycles: the MCC is held in reset. -/
def doCoreResetDrainEnd (s : State) : State :=
  if !s.rst.coreRun then s else holdMcc (bump32 0x702002 (updRst (fun r => { r with coreRun := false }) s))
/-- R487, R409, R411: the MCC leaves reset and the boot verifier runs: the preferred bank, then the other; `bankAok` and
`bankBok` say whether each bank's signature verifies. With neither valid, or the utility engine fenced, the boot ROM
answers Fieth. -/
def doMccResetRelease (bankAok bankBok : Bool) (s : State) : State :=
  if !s.fieth.mccHeld || s.rst.coreRun || !s.rst.mccClock || (!s.rst.loadDone && !s.rst.optFault) then s
  else
    let start := fun (n : Nat) (a : State) => updKeys (fun k => { k with running := some n })
      (updFieth (fun f => { f with mccHeld := false, boot := false, mccStarts := (f.mccStarts + 1) % 65536 }) a)
    let ok := fun n => if n = 0 then bankAok else bankBok
    let first := if dget s 0x402103 = 0 then 0 else 1
    let none_ := fun a => updKeys (fun k => { k with running := none }) (updFieth (fun f => { f with boot := true }) a)
    if s.rst.optFault || ueFenced s then none_ s
    else
      let s1 := judgeBank first (ok first) s
      if (bankOf s1 first).valid then start first s1
      else
        let s2 := judgeBank (1 - first) (ok (1 - first)) s1
        if (bankOf s2 (1 - first)).valid then start (1 - first) s2 else none_ s2
/-- R484: the MCC watchdog expires. -/
def doMccWatchdogExpiry (s : State) : State := if s.fieth.mccHeld then s else acceptCore 5 s
/-- R507, R509: CLK_MCC or CLK_CAN is lost: the MCC is held in core reset, Fieth silent. -/
def doMccClockLoss (s : State) : State :=
  if !s.rst.mccClock then s
  else updFieth (fun f => { f with mccHeld := true, boot := false }) (acceptCore 10 (updRst (fun r => { r with mccClock := false }) s))
/-- R509: the clock is back; the MCC restarts under R487. -/
def doMccClockReturn (s : State) : State := updRst (fun r => { r with mccClock := true }) s

/-! ## Blocks going idle (R488, R494, R495, Table 20.3) -/

/-- A slice has written every dirty line to its home. -/
def homeSliceLines (n : Nat) (s : State) : State :=
  let sl := sliceOf s n
  let s1 := each sl.wbs (fun w a => homeWrite w.line w.data a) s
  let s2 := each sl.lines (fun p a => if p.2.dirty then homeWrite (lineOfSet n (p.1 / 16) p.2.tag) p.2.data a else a) s1
  setSlice n (fun x => { x with lines := [], wbs := [], fills := [] }) s2
/-- Frames a port group still buffered are discarded. -/
def dropFrames (g : Nat) (s : State) : State :=
  let here := fun (p : RcPacket) => decide (p.port.val / 8 = g)
  updRc (fun r => { r with held := r.held.filter (fun h => !here h.2), parked := r.parked.filter (fun p => !here p) }) s
/-- A block of a full-form window is done with. When the last one has reported idle the FTL writes the reserve seal and the
serving channels go into self-refresh. -/
def windowBlock (block : Nat) (s : State) : State :=
  let s1 := updRst (fun r => { r with idle := dropSet r.idle block }) s
  if !s1.rst.idle.isEmpty then s1
  else
    let down := fun (c : Channel) => if c.st = .serving || c.st = .retraining then { c with rankPower := [2, 2] } else c
    updRecall (fun r => { r with reserveSeal := some (live s1).writeSeq })
      (updDram (fun d => { d with channels := d.channels.map (fun p => (p.1, down p.2)) }) s1)
/-- A block reset after a fault: the domain stays off, but a port group is re-powered unless this is its third fault within
an hour (R495). -/
def blockOff (block : Nat) (s : State) : State :=
  let faults := (s.rst.pgFaults.filter (fun f => f.1 = block && decide ((s.rtc + 2 ^ 32 - f.2) % 2 ^ 32 < 3600000))).length
  updRst (fun r => { r with blockReset := dropSet r.blockReset block, powered := clrBit r.powered block, offFault := setBit r.offFault block,
                            repower := if block < 16 && decide (faults < 3) then insertSet r.repower block else r.repower }) s
/-- Some die of a NAND channel has a program or erase in flight. -/
def programming (s : State) (ch : Nat) : Bool :=
  (List.range 16).any (fun d => (dieOf s (dieNo ch d)).ops.any (fun o => match o.act with | .read _ => false | _ => true))
/-- R494: a block reports idle. -/
def doBlockIdleReport (block : Nat) (s : State) : State :=
  if s.rst.phase = .window && s.rst.idle.contains block then
    if 48 ≤ block && block < 88 && programming s (block - 48) then s
    else if 88 ≤ block && block < 102 then windowBlock block (homeSliceLines (block - 88) s)
    else if block = 112 then
      windowBlock block { s with per := { s.per with durable := s.per.writing.getD s.per.durable, writing := none } }
    else windowBlock block s
  else if s.rst.blockReset.contains block then blockOff block s
  else s
/-- R494: a block is not idle by its timeout (Table 20.3). A data slice, a DRAM channel or the engines of PD_MAIN cost the
reserve seal: they never leave the list of a window. -/
def doBlockIdleTimeout (block : Nat) (s : State) : State :=
  let s1 := if block < 16 then dropFrames block s else s
  if s.rst.phase = .window && s.rst.idle.contains block then
    if (16 ≤ block && block < 48) || (88 ≤ block && block < 102) || block = 112 then s1 else windowBlock block s1
  else if s.rst.blockReset.contains block then blockOff block s1
  else s
/-- R484, R495: the watchdog of a port group, a DRAM channel or a slice expires and its fault action runs. -/
def doBlockWatchdogExpiry (block : Nat) (s : State) : State :=
  if !bitOf s.rst.powered block then s
  else if block < 16 then failGroup block s
  else if block < 48 then loseChannel (block - 16) 3 0xff 0xff s
  else if 88 ≤ block && block < 104 then failSlice (block - 88) 4 [] s
  else s
/-- R495: a port group is re-powered 1 s after its reset: its enabled ports train. -/
def doPortGroupRepower (group : Fin 16) (s : State) : State :=
  let g := group.val
  if !s.rst.repower.contains g then s
  else
    let s1 := updRst (fun r => { r with repower := dropSet r.repower g, powered := setBit r.powered g, offFault := clrBit r.offFault g }) s
    each (groupPorts g) (fun p a => setPort p (fun x => if x.st = .failed then { x with st := .training } else x) a) s1

/-! ## Option load (R496–R503, R401, R331) -/

/-- The option table's values are in range (Table 20.8). -/
def optionsOk (o : OptionFields) : Bool :=
  [16, 32, 64].contains o.density && [1, 2].contains o.ranks && [4800, 5200, 5600, 6000, 6400].contains o.dataRate
    && [1, 2].contains o.dieType && decide (8 ≤ o.nandRate) && decide (o.nandRate ≤ 24) && decide (o.dies ≤ 640)
    && decide (o.holdUp < 65536) && decide (o.tlcRated < 2 ^ 32) && decide (o.pslcRated < 2 ^ 32) && [1, 2].contains o.iface
    && decide (o.macBase < 2 ^ 48) && decide (o.ports ≤ 128) && decide (o.version < 2 ^ 32)
/-- The table as loaded. -/
def loadedOptions (o : OptionFields) : Options :=
  ⟨o.version, o.density, o.ranks, o.dataRate, o.dieType, o.nandRate, o.dies, o.holdUp, o.tlcRated, o.pslcRated, o.iface, o.macBase, o.ports⟩
/-- Domains whose hardware is present (R503): ports and dies are taken as populated from number 0 up. -/
def presentDomains (o : Options) : List Nat :=
  (List.range ((o.ports + 7) / 8)) ++ (List.range 32).map (16 + ·) ++ (List.range ((o.dies + 15) / 16)).map (48 + ·)
    ++ (List.range 24).map (88 + ·)
/-- A slot neither of whose copies unwraps is lost; units that name it set CONSISTENCY (R401). -/
def loseSlot (n : Nat) (s : State) : State :=
  if (keySlotOf s n).st = .empty then s
  else
    let units := slotUnits s n
    let s1 := post 0x0602 2 n (leBytes 8 units) (setKeySlot n (fun k => { k with st := .lost, nor := false }) s)
    if units > 0 then raiseKeep 11 s1 else s1
/-- Blocks are released into configuration: domains powered, channels, halves and ports start their training. -/
def releaseBlocks (s : State) : State :=
  let on := (presentDomains s.rst.options).filter (fun k => !bitOf s.rst.offFault k)
  let s1 := updRst (fun r => { r with powered := on.foldl setBit 0 }) s
  let s2 := each ((List.range 32).filter (fun n => on.contains (16 + n))) (fun n a => setChan n (fun c => if c.st = .off then { c with st := .training } else c) a) s1
  let s3 := each ((List.range 40).filter (fun n => on.contains (48 + n))) (fun n a => setNchan n (fun c => if c.st = .off then { c with st := .identifying } else c) a) s2
  let s4 := each ((List.range 2).filter (fun n => on.contains (108 + n))) (fun n a => setHalf n (fun h => { h with st := .training }) a) s3
  each (List.range 65) doConfigApplyAtIdle s4
/-- R496, R497, R499: the option load ends. `valid` is false when both copies of the option table fail or a fuse word is
uncorrectable; `lost` are the slots that do not unwrap. A value out of range makes a copy invalid. -/
def doOptionLoadDone (o : OptionFields) (valid : Bool) (lost : List Nat) (s : State) : State :=
  if s.rst.phase ≠ .load then s
  else if !valid || !optionsOk o then
    updFieth (fun f => { f with boot := true }) (updRst (fun r => { r with phase := .running, optFault := true, options := { r.options with version := 0 } }) s)
  else
    let s1 := updRst (fun r => { r with phase := .running, loadDone := true, options := loadedOptions o }) s
    let s2 := releaseBlocks (dset 0x340401 o.holdUp s1)
    let s3 := emit (.pin "FAULT_N" true) (updMode (fun x => { x with fault := false }) s2)
    let s4 := post 0x0104 0 0 (leBytes 4 s.rst.causes) s3
    let s5 := each (lost.filter (· < 64)) loseSlot s4
    reserveCauses (holdupCheck (if s5.pres.broken && !s5.pres.fuse then burnSeal s5 else s5))

/-! ## Domains (R504, R505, Table 20.9) -/

/-- Whether Table 20.9 accepts a domain's switching off. -/
def offAllowed (s : State) (k : Nat) : Bool :=
  if k < 16 then (groupPorts k).all (fun p => dget s (0x200001 + p * 256) = 0)
  else if k < 48 then (chanOf s (k - 16)).st = .lost
  else if k < 88 then (List.range 16).all (fun d => (dieOf s (dieNo (k - 48) d)).st = .retired)
  else if k < 104 then (sliceOf s (k - 88)).st = .invalidated
  else if k < 108 then bitOf s.rst.powered (104 + ((k - 104) ^^^ 1)) && !s.keys.fenced.contains ((k - 104) ^^^ 1)
  else if k < 110 then (halfOf s (109 - k)).st = .service
  else false
/-- The points whose instance is a domain's block. -/
def domainPoints (k : Nat) : List (Nat × Nat) :=
  if k < 16 then (0x0603, k) :: (0x0701, 0x100 + k) :: (groupPorts k).flatMap (fun p => [(0x0301, p), (0x0303, p), (0x0b01, p), (0x0b02, p)])
  else if k < 48 then [(0x0101, k - 16), (0x0602, k - 16), (0x0701, 0x200 + k - 16)]
  else if k < 88 then [(0x0201, k - 48), (0x0202, k - 48)]
  else if k < 104 then [(0x0102, k - 88), (0x0701, 0x300 + k - 88)]
  else if k < 108 then [(0x0901, k - 104)]
  else if k < 110 then [(0x0302, k - 108), (0x0401, k - 108)] else []
/-- A domain goes off, a half as one that failed (R504). -/
def switchOff (k : Nat) (a : State) : State :=
  let a0 := if k = 108 then doHalfFail 0 1 a else if k = 109 then doHalfFail 1 1 a else a
  let fault := a.rst.offFault
  disarmAt (domainPoints k) (updRst (fun r => { r with offReq := setBit r.offReq k, powered := clrBit r.powered k, offFault := fault }) a0)
/-- Whether Table 20.9 accepts a domain's switching on. -/
def onAllowed (s : State) (k : Nat) : Bool :=
  if k < 16 then true else if k < 88 then false else if k < 104 then true
  else if k < 108 then !s.keys.fenced.contains (k - 104) else decide (k < 110)
/-- A domain goes on, unless a fault switched it off; a half retrains, enabled ports train (R504, Table 20.9). -/
def switchOn (k : Nat) (a : State) : State :=
  let a1 := updRst (fun r => { r with offReq := clrBit r.offReq k }) a
  if bitOf a.rst.offFault k || !(presentDomains a.rst.options).contains k then a1
  else
    let a2 := updRst (fun r => { r with powered := setBit r.powered k }) a1
    if 108 ≤ k && k < 110 then setHalf (k - 108) (fun h => { h with st := .training }) a2
    else if k < 16 then doConfigApplyAtIdle (17 + k) a2
    else a2
/-- The request of one domain is brought to a value, where Table 20.9 accepts the change. -/
def domainChange (off : Bool) (k : Nat) (a : State) : Option State :=
  if bitOf a.rst.offReq k = off then some a
  else if off then (if offAllowed a k then some (switchOff k a) else none)
  else if onAllowed a k then some (switchOn k a) else none
/-- A write of 0x5001.03 changes the given domains, or is refused whole: also in Drain and in a window (R491, R505). -/
def domainWrite (l : List (Nat × Bool)) (s : State) : State :=
  dictGuard 0x5001 3 true (fun a =>
    match (if a.md.mode = .drain || a.rst.phase = .window then none else l.foldl (fun (o : Option State) p => o.bind (domainChange p.2 p.1)) (some a)) with
    | some b => dictDone 0x5001 3 b
    | none => dictRefuse 0x5001 3 0x06040003 a) s
/-- R505: a 1 is written for a domain. -/
def doDomainOffRequest (domain : Fin 112) (s : State) : State := domainWrite [(domain.val, true)] s
/-- R505: a 0 is written for a domain. -/
def doDomainOnRequest (domain : Fin 112) (s : State) : State := domainWrite [(domain.val, false)] s

/-! ## Clocks and rails (R384, R507–R510) -/

/-- R507: a PLL loses lock: 0 CLK_CORE, 1–16 port groups, 17–48 DRAM channels, 49–88 NAND channels, 89 and 90 the halves, 91
the MCC. -/
def doPllLockLost (pll : Nat) (s : State) : State :=
  if s.rst.phase = .off || s.rst.phase = .powerOn || pll > 91 then s
  else if pll = 0 then fatal 1 s
  else if pll < 17 then failGroup (pll - 1) s
  else if pll < 49 then loseChannel (pll - 17) 2 0xff 0xff s
  else if pll < 89 then loseNand (pll - 49) s
  else if pll = 89 then doHalfFail 0 1 s
  else if pll = 90 then doHalfFail 1 1 s
  else doMccClockLoss s
/-- The action of Table 20.11 for a clock found absent or out of limits, by its bit of Table 17.10. -/
def clockAction (bit : Nat) (s : State) : State :=
  if bit = 0 || bit = 6 then fatal 1 s
  else if bit = 1 || bit = 2 then doMccClockLoss s
  else if bit = 4 then doHalfFail 0 1 s
  else if bit = 5 then doHalfFail 1 1 s
  else if 7 ≤ bit && bit ≤ 10 then
    let i := bit - 7
    let s1 := each ((List.range 4).map (4 * i + ·)) failGroup s
    if i = 0 then doHalfFail 0 1 s1 else if i = 2 then doHalfFail 1 1 s1 else s1
  else s
/-- R508, R509: a monitor window ends with the status of Table 17.10: each clock found bad is counted and takes its action;
the MCC's clocks may return. -/
def doClockMonitorWindow (status : Nat) (s : State) : State :=
  if s.rst.phase = .off || s.rst.phase = .powerOn then s
  else
    let bad := (bitList 11 s.rst.clocks).filter (fun b => !bitOf status b)
    let s1 := each bad (fun b a => clockAction b (bump32 0x702004 a)) (updRst (fun r => { r with clocks := status % 2048 }) s)
    let back := (!bitOf s.rst.clocks 1 || !bitOf s.rst.clocks 2) && bitOf status 1 && bitOf status 2
    if back then doMccClockReturn s1 else s1
/-- Absolute maxima of the ten rails, mV (Table 21.5). -/
def railMax : List Nat := [900, 950, 1400, 2200, 1500, 900, 1100, 1500, 2200, 1000]
/-- A rail's voltage is reported; VDD_CORE and VDD_SRAM outside their operating limits are fatal (R384, R510), VDD_AON below
its limit is R520's. -/
def railReading (rail millivolts : Nat) (s : State) : State :=
  let s1 := updRst (fun r => { r with rails := r.rails.set rail millivolts }) s
  let mv10 := millivolts * 10
  let running := s.rst.phase ≠ .off && s.rst.phase ≠ .powerOn
  if rail = 9 && decide (millivolts < 760) then doVddAonLow s1
  else if running && ((rail = 0 && (decide (mv10 < 7275) || decide (7725 < mv10))) || (rail = 1 && (decide (mv10 < 7760) || decide (8240 < mv10)))) then fatal 4 s1
  else s1
/-- RAIL_MONITOR_EVENT (R510): a reading; beyond a rail's absolute maximum the behaviour is undefined (R517). -/
def execRailMonitorEvent (rail : Fin 10) (millivolts : Nat) (s : State) : Result :=
  if (railMax[rail.val]?).getD 0 < millivolts then .fault .beyondAbsoluteMaximum else .next (railReading rail.val millivolts s)
/-- R384: an uncorrectable error in the core fabric. -/
def doCoreFabricError (s : State) : State := if s.rst.phase = .off || s.rst.phase = .powerOn then s else fatal 2 s
/-- R384: the watchdog of a PD_MAIN unit. -/
def doPdMainWatchdogExpiry (s : State) : State := if s.rst.phase = .off || s.rst.phase = .powerOn then s else fatal 3 s

/-! ## Host port links (R386, R443) -/

/-- R386: a port's link has come up. -/
def doPortLinkUp (port : Fin 128) (s : State) : State :=
  let p := port.val
  if !s.rst.loadDone || !bitOf s.rst.powered (p / 8) || (portOf s p).st = .disabled || (portOf s p).st = .up then s
  else setPort p (fun x => { x with st := .up, fecLock := true }) s
/-- R443: a PFC frame pauses or resumes priorities of a port. -/
def doPfcPauseFrame (port : Fin 128) (priorities : Nat) (pause : Bool) (s : State) : State :=
  let p := port.val
  if !portOpen s p then s
  else
    let l := bitList 8 priorities
    bump (0x710008 + p * 256) (setPort p (fun x => { x with pausedBy := if pause then l.foldl setBit x.pausedBy else l.foldl clrBit x.pausedBy }) s)

/-! ## The meanings: each completes -/

/-- RESET_CAUSE_CLEAR (R446). -/
def execResetCauseClear (mask : Nat) (s : State) : Result := .next (doResetCauseClear mask s)
/-- CORE_RESET_REQUEST (R492). -/
def execCoreResetRequest (s : State) : Result := .next (doCoreResetRequest s)
/-- SYSTEM_RESET_REQUEST (R492). -/
def execSystemResetRequest (s : State) : Result := .next (doSystemResetRequest s)
/-- DOMAIN_OFF_REQUEST (R505). -/
def execDomainOffRequest (domain : Fin 112) (s : State) : Result := .next (doDomainOffRequest domain s)
/-- DOMAIN_ON_REQUEST (R505). -/
def execDomainOnRequest (domain : Fin 112) (s : State) : Result := .next (doDomainOnRequest domain s)
/-- PWRGD_ASSERT (R485). -/
def execPwrgdAssert (s : State) : Result := .next (doPwrgdAssert s)
/-- PWRGD_DEASSERT (R484). -/
def execPwrgdDeassert (s : State) : Result := .next (doPwrgdDeassert s)
/-- PORST_N_ASSERT (R493). -/
def execPorstAssert (s : State) : Result := .next (doPorstAssert s)
/-- POWER_ON_RESET_END (R485). -/
def execPowerOnResetEnd (node : Fin 128) (s : State) : Result := .next (doPowerOnResetEnd node s)
/-- VDD_AON_LOW (R520). -/
def execVddAonLow (s : State) : Result := .next (doVddAonLow s)
/-- SYSRST_N_ASSERT (R485). -/
def execSysrstAssert (s : State) : Result := .next (doSysrstAssert s)
/-- SYSTEM_RESET_WINDOW_END (R488). -/
def execSystemResetWindowEnd (s : State) : Result := .next (doSystemResetWindowEnd s)
/-- SYSTEM_RESET_RELEASE (R488). -/
def execSystemResetRelease (s : State) : Result := .next (doSystemResetRelease s)
/-- CORE_RESET_DRAIN_END (R487). -/
def execCoreResetDrainEnd (s : State) : Result := .next (doCoreResetDrainEnd s)
/-- MCC_RESET_RELEASE (R487). -/
def execMccResetRelease (bankAok bankBok : Bool) (s : State) : Result := .next (doMccResetRelease bankAok bankBok s)
/-- MCC_WATCHDOG_EXPIRY (R484). -/
def execMccWatchdogExpiry (s : State) : Result := .next (doMccWatchdogExpiry s)
/-- MCC_CLOCK_LOSS (R509). -/
def execMccClockLoss (s : State) : Result := .next (doMccClockLoss s)
/-- MCC_CLOCK_RETURN (R509). -/
def execMccClockReturn (s : State) : Result := .next (doMccClockReturn s)
/-- BLOCK_IDLE_REPORT (R494). -/
def execBlockIdleReport (block : Nat) (s : State) : Result := .next (doBlockIdleReport block s)
/-- BLOCK_IDLE_TIMEOUT (R494). -/
def execBlockIdleTimeout (block : Nat) (s : State) : Result := .next (doBlockIdleTimeout block s)
/-- BLOCK_WATCHDOG_EXPIRY (R484). -/
def execBlockWatchdogExpiry (block : Nat) (s : State) : Result := .next (doBlockWatchdogExpiry block s)
/-- PORT_GROUP_REPOWER (R495). -/
def execPortGroupRepower (group : Fin 16) (s : State) : Result := .next (doPortGroupRepower group s)
/-- OPTION_LOAD_DONE (R496). -/
def execOptionLoadDone (o : OptionFields) (valid : Bool) (lost : List Nat) (s : State) : Result := .next (doOptionLoadDone o valid lost s)
/-- PLL_LOCK_LOST (R507). -/
def execPllLockLost (pll : Nat) (s : State) : Result := .next (doPllLockLost pll s)
/-- CLOCK_MONITOR_WINDOW (R508). -/
def execClockMonitorWindow (status : Nat) (s : State) : Result := .next (doClockMonitorWindow status s)
/-- PORT_LINK_UP (R386). -/
def execPortLinkUp (port : Fin 128) (s : State) : Result := .next (doPortLinkUp port s)
/-- SYSRST_N_DEASSERT (R485). -/
def execSysrstDeassert (s : State) : Result := .next (doSysrstDeassert s)
/-- PFC_PAUSE_FRAME (R443). -/
def execPfcPauseFrame (port : Fin 128) (priorities : Nat) (pause : Bool) (s : State) : Result := .next (doPfcPauseFrame port priorities pause s)
/-- CORE_FABRIC_ERROR (R384). -/
def execCoreFabricError (s : State) : Result := .next (doCoreFabricError s)
/-- PD_MAIN_WATCHDOG_EXPIRY (R384). -/
def execPdMainWatchdogExpiry (s : State) : Result := .next (doPdMainWatchdogExpiry s)

end Sys2Proof.Machine
end

