-- ==== Sys2Proof/Machine/Presence.lean ====
section
/-! DEFINITION. Presence, seal, Service and JTAG (R457–R466), and fault injection (R467–R470, Table 18.2). -/
namespace Sys2Proof.Machine
open Sys2Proof

/-! ## The presence window (R457–R459) -/

/-- R457: PRES_BTN_N has been pressed for 2 s: the window opens, or starts again at its full length. -/
def doPresenceOpen (s : State) : State :=
  if s.pres.stuck || s.rst.phase = .off || s.rst.phase = .powerOn then s
  else
    let len := dget s 0x510002
    let open_ := fun (p : PresSide) => { p with windowOpen := true, pressed := true, closesAt := (s.rtc + len * 60000) % 2 ^ 32 }
    bump32 0x701e01 (post 0x0701 0 0 (leBytes 1 len ++ leBytes 1 (b2n s.pres.windowOpen)) (updPres open_ s))
/-- The window closes, and every armed point disarms (R458, R469). -/
def closeWindow (s : State) : State :=
  if !s.pres.windowOpen then s else disarmAll 4 (updPres (fun p => { p with windowOpen := false, closesAt := 0 }) s)
/-- R457: the press has lasted 30 s: the button is ignored. -/
def doButtonStuck (s : State) : State :=
  if s.pres.stuck then s else post 0x0702 1 0 [] (updPres (fun p => { p with stuck := true, pressed := true }) s)
/-- R457: a stuck button has been released for 1 s. -/
def doButtonReleaseTimeout (s : State) : State := updPres (fun p => { p with stuck := false, pressed := false }) s
/-- R458: the window's length has elapsed. -/
def doPresenceWindowExpire (s : State) : State := closeWindow s
/-- R449, R458: 0 is written to 0x5100.01. -/
def doPresenceCloseWrite (s : State) : State := dictGuard 0x5100 1 false (fun a => closeWindow (dictDone 0x5100 1 a)) s

/-! ## Seal, jumper, JTAG (R461, R465, R466) -/

/-- R461: a seal loop reads open. -/
def doSealLoopOpen (loopB : Bool) (s : State) : State :=
  sealOpening (b2n loopB) (updPres (fun p => if loopB then { p with loopB := false } else { p with loopA := false }) s)
/-- SVC_JMP_N reads removed: Service ends, and FORCED clears (R465, Table 14.6). -/
def jumperGone (s : State) : State :=
  let s1 := if s.md.mode = .service && !s.md.entering then endService s else s
  if bitOf s1.md.causes 12 then clearKeep 12 s1 else s1
/-- R465: the jumper is removed; boundary scan ends with it (R466). -/
def doSvcJmpRemoved (s : State) : State := jumperGone (updPres (fun p => { p with jumper := false, scan := none }) s)
/-- R466: a debug instruction, honoured in Service: 0 halts the MCC, 1 resumes it; stepping and reads of unit registers
(every other number) leave the state the specification names as it is. -/
def doJtagDebugInstruction (code : Nat) (s : State) : State :=
  if s.md.mode ≠ .service then s
  else if code = 0 then updPres (fun p => { p with halted := true }) s
  else if code = 1 then updPres (fun p => { p with halted := false }) s
  else s
/-- R466: a debug reset request. In Drain that was entered from Service it waits for the seal (Table 20.4). -/
def doJtagResetRequest (s : State) : State :=
  if s.md.mode = .service || (s.md.mode = .drain && s.md.left = .service) then acceptReset 8 s else s
/-- R466: EXTEST (0), CLAMP (1) or HIGHZ (2) take the pins while SYSRST_N is held asserted and the jumper is fitted. -/
def doJtagBoundaryScan (code : Nat) (s : State) : State :=
  if s.rst.sysrst && s.pres.jumper && decide (code < 3) then updPres (fun p => { p with scan := some code }) s else s

/-! ## Injection points (Table 18.2) -/

/-- How many variants a point has; none for a point not assigned. -/
def variantsOf (point : Nat) : Nat :=
  if [0x0101, 0x0102, 0x0201, 0x0401, 0x0501, 0x0502, 0x0901, 0x0c01].contains point then 2
  else if [0x0202, 0x0301, 0x0302, 0x0303, 0x0601, 0x0602, 0x0603, 0x0701, 0x0801, 0x0802, 0x0803, 0x0a01, 0x0b01, 0x0b02].contains point then 1
  else 0
/-- An instance is in range, and not failed, lost or switched off. -/
def instanceOk (s : State) (point i : Nat) : Bool :=
  let on := fun k => bitOf s.rst.powered k
  let chan := decide (i < 32) && on (16 + i) && (chanOf s i).st ≠ .lost
  let group := fun g => decide (g < 16) && on g
  let slice := fun n => decide (n < 16) && on (88 + n) && (sliceOf s n).st ≠ .failed
  if point = 0x0101 || point = 0x0602 then chan
  else if point = 0x0102 then slice i
  else if point = 0x0201 || point = 0x0202 then decide (i < 40) && on (48 + i) && (nchanOf s i).st ≠ .lost
  else if [0x0301, 0x0303, 0x0b01, 0x0b02].contains point then decide (i < 128) && on (i / 8) && (portOf s i).st ≠ .failed
  else if point = 0x0302 || point = 0x0401 then decide (i < 2) && on (108 + i) && (halfOf s i).st ≠ .failed
  else if point = 0x0501 then decide (1 ≤ i) && decide (i ≤ 10)
  else if point = 0x0502 then decide (i ≤ 4)
  else if point = 0x0601 then decide (i ≤ 10)
  else if point = 0x0603 then group i
  else if point = 0x0701 then
    i = 0 || i = 0x400 || (decide (i / 256 = 1) && group (i % 256)) || (decide (i / 256 = 3) && slice (i % 256))
      || (decide (i / 256 = 2) && decide (i % 256 < 32) && on (16 + i % 256) && (chanOf s (i % 256)).st ≠ .lost)
  else if point = 0x0901 then decide (i < 7) && !s.keys.fenced.contains i && (decide (4 ≤ i) || on (104 + i))
  else if point = 0x0802 then decide (i ≤ 1)
  else decide (i = 0)
/-- Points whose qualifying event is the arming instant itself (R468). -/
def firesAtArming (point : Nat) : Bool :=
  [0x0401, 0x0501, 0x0502, 0x0601, 0x0602, 0x0603, 0x0701, 0x0801, 0x0802, 0x0803, 0x0b01, 0x0b02, 0x0c01].contains point
/-- Whether the detector writes a record of its own for a variant. -/
def ownRecord (point i variant : Nat) : Bool :=
  if point = 0x0501 then decide (i ≤ 2) else if point = 0x0601 then i = 0 || i = 6
  else if point = 0x0701 then decide (0x200 ≤ i) else if point = 0x0c01 then variant = 2
  else !([0x0603, 0x0b01, 0x0b02].contains point)
/-- PFC frames pause every lossless priority of a port (Table 18.2, 0x0b02). -/
def pausePort (p : Nat) (s : State) : State :=
  bump (0x710007 + p * 256) (setPort p (fun x => { x with pausing := fget s (0x200007 + p * 256) 0 }) s)
/-- What the Steoc does on the fault a monitor is made to see (Table 18.2). -/
def monitorFault (point i variant : Nat) (s : State) : State :=
  match point with
  | 0x0401 => if variant = 1 then (if i = 0 then doHalfFail 0 3 s else doHalfFail 1 3 s) else doLinkLossTimeout s
  | 0x0501 => if i ≤ 2 then fatal 4 s else s
  | 0x0502 => doTempThreshold (if variant = 1 then (dget s 0x110007 : Int) + 1 else 116) s
  | 0x0601 => doClockMonitorWindow (clrBit s.rst.clocks i) s
  | 0x0602 => loseChannel i 2 0xff 0xff s
  | 0x0603 => failGroup i s
  | 0x0701 =>
    if i = 0 then doMccWatchdogExpiry s else if i = 0x400 then doPdMainWatchdogExpiry s
    else doBlockWatchdogExpiry (if i / 256 = 1 then i % 256 else if i / 256 = 2 then 16 + i % 256 else 88 + i % 256) s
  | 0x0801 => doButtonStuck s
  | 0x0802 => post 0x0703 1 i ([0, 0, 0, 0] ++ leBytes 4 s.rtc) (bump32 0x701e03 s)
  | 0x0803 => jumperGone s
  | 0x0b01 => failPorts [i] s
  | 0x0b02 => pausePort i s
  | 0x0c01 => if variant = 2 then enterDrain 1 s else s
  | _ => s
/-- A ready monitor point fires (R467, R468). -/
def fireMonitor (point i variant : Nat) (s : State) : State :=
  match (if ownRecord point i variant then fire point i [variant] s else fireRecorded point i [variant] s) with
  | some (_, s1) => injected (monitorFault point i variant) s1
  | none => s

/-! ## Injection commands (R450, R468, Tables 17.14, 17.15) -/

/-- A block in the form of Table 17.14. -/
def armedValue (code : Nat) (a : Armed) : Nat :=
  blockValue [code * 2 ^ 24 + a.point % 2 ^ 16, a.inst % 2 ^ 16, a.variant % 256 * 2 ^ 24 + a.count % 2 ^ 16, a.interval]
/-- A block for 0x5200.01: Service, the window open; `status` ends it. -/
def injectionCommand (block : Nat) (status : State → Nat) (run : State → State) (s : State) : State :=
  serviceOnly 0x5200 1 (dictGuard 0x5200 1 true (fun a =>
    let a1 := keepBlock 0x520001 block (dictDone 0x5200 1 (dset 0x520002 (status a) a))
    if status a = 0 then run a1 else a1)) s
/-- The status of arming a point. -/
def armStatus (a : Armed) (intervalOk : Bool) (s : State) : Nat :=
  if variantsOf a.point = 0 || a.variant = 0 || a.variant > variantsOf a.point then 2
  else if !instanceOk s a.point a.inst then 3
  else if s.pres.armed.length ≥ 64 && !s.pres.armed.any (samePoint a) then 5
  else if !intervalOk then 8 else 0
/-- A point is armed, with its record, in place of what was armed there; a monitor fires at once. -/
def arm (a : Armed) (s : State) : State :=
  let s1 := updPres (fun p => { p with armed := p.armed.filter (fun b => !samePoint a b) ++ [a] }) s
  let s2 := injectionRecord a 1 0 s1
  if firesAtArming a.point then fireMonitor a.point a.inst a.variant s2 else s2
/-- R468: CODE 0x01. -/
def doInjectOnce (point inst variant : Nat) (s : State) : State :=
  let a : Armed := ⟨false, point, inst, variant, 0, 0, 0, true⟩
  injectionCommand (armedValue 1 a) (armStatus a true) (arm a) s
/-- R468: CODE 0x02. -/
def doInjectRepeatedly (point inst variant count interval : Nat) (s : State) : State :=
  let a : Armed := ⟨true, point, inst, variant, count, interval, 0, true⟩
  injectionCommand (armedValue 2 a) (armStatus a (decide (1 ≤ interval) && decide (interval ≤ 10000000))) (arm a) s
/-- R469: CODE 0x03. -/
def doDisarmPoint (point inst variant : Nat) (s : State) : State :=
  let a : Armed := ⟨false, point, inst, variant, 0, 0, 0, true⟩
  injectionCommand (armedValue 3 a) (fun s => if variantsOf point = 0 || variant = 0 || variant > variantsOf point then 2 else if instanceOk s point inst || s.pres.armed.any (samePoint a) then 0 else 3)
    (fun s => each (s.pres.armed.filter (samePoint a)) (disarm 3) s) s
/-- R469: CODE 0x04. -/
def doDisarmEveryPoint (s : State) : State := injectionCommand (armedValue 4 ⟨false, 0, 0, 0, 0, 0, 0, false⟩) (fun _ => 0) (disarmAll 3) s
/-- A CODE that Table 17.14 does not assign. -/
def unknownInjection (block : Nat) (s : State) : State := injectionCommand block (fun _ => 8) id s
/-- R468: INTERVAL has passed since a firing: the point is ready; a monitor, which watches always, fires again. -/
def doInjectionInterval (point inst variant : Nat) (s : State) : State :=
  let a : Armed := ⟨true, point, inst, variant, 0, 0, 0, true⟩
  if s.pres.armed.any (fun b => samePoint a b && b.repeated && !b.ready) then
    let s1 := updPres (fun p => { p with armed := p.armed.map (fun b => if samePoint a b then { b with ready := true } else b) }) s
    if firesAtArming point then fireMonitor point inst variant s1 else s1
  else s

/-! ## The meanings: each completes -/

/-- PRESENCE_CLOSE_WRITE (R449). -/
def execPresenceCloseWrite (s : State) : Result := .next (doPresenceCloseWrite s)
/-- INJECT_ONCE (R468). -/
def execInjectOnce (point inst variant : Nat) (s : State) : Result := .next (doInjectOnce point inst variant s)
/-- INJECT_REPEATEDLY (R468). -/
def execInjectRepeatedly (point inst variant count interval : Nat) (s : State) : Result := .next (doInjectRepeatedly point inst variant count interval s)
/-- DISARM_POINT (R469). -/
def execDisarmPoint (point inst variant : Nat) (s : State) : Result := .next (doDisarmPoint point inst variant s)
/-- DISARM_EVERY_POINT (R469). -/
def execDisarmEveryPoint (s : State) : Result := .next (doDisarmEveryPoint s)
/-- INJECTION_INTERVAL (R468). -/
def execInjectionInterval (point inst variant : Nat) (s : State) : Result := .next (doInjectionInterval point inst variant s)
/-- PRESENCE_OPEN (R457). -/
def execPresenceOpen (s : State) : Result := .next (doPresenceOpen s)
/-- BUTTON_STUCK (R457). -/
def execButtonStuck (s : State) : Result := .next (doButtonStuck s)
/-- BUTTON_RELEASE_TIMEOUT (R457). -/
def execButtonReleaseTimeout (s : State) : Result := .next (doButtonReleaseTimeout s)
/-- PRESENCE_WINDOW_EXPIRE (R458). -/
def execPresenceWindowExpire (s : State) : Result := .next (doPresenceWindowExpire s)
/-- SEAL_LOOP_OPEN (R461). -/
def execSealLoopOpen (loopB : Bool) (s : State) : Result := .next (doSealLoopOpen loopB s)
/-- SVC_JMP_REMOVED (R465). -/
def execSvcJmpRemoved (s : State) : Result := .next (doSvcJmpRemoved s)
/-- JTAG_DEBUG_INSTRUCTION (R466). -/
def execJtagDebugInstruction (code : Nat) (s : State) : Result := .next (doJtagDebugInstruction code s)
/-- JTAG_RESET_REQUEST (R466). -/
def execJtagResetRequest (s : State) : Result := .next (doJtagResetRequest s)
/-- JTAG_BOUNDARY_SCAN (R466). -/
def execJtagBoundaryScan (code : Nat) (s : State) : Result := .next (doJtagBoundaryScan code s)

end Sys2Proof.Machine
end

