-- ==== Sys2Proof/Machine/Reads.lean ====
section
/-! DEFINITION. What every dictionary entry reads (R424, R438–R454 and the entry table of every chapter): status words that
the Steoc computes, tables by element, blocks and strings. An entry of no rule here reads what is stored. -/
namespace Sys2Proof.Machine
open Sys2Proof

/-! ## Status words -/

/-- Channel status (Table 16.10). -/
def canStatus (c : Can) : Nat :=
  (match c.st with | .disabled => 0 | .active => 1 | .passive => 2 | .busOff => 3 | .listenOnly => 4) * 2 ^ 28
    + b2n c.dup * 2 ^ 27 + b2n c.tdc * 2 ^ 26 + min 255 c.tec * 2 ^ 16 + min 255 c.rec_ * 2 ^ 8
/-- DRAM channel status (Table 8.7); TEMP_RANGE, which the devices report, is a free value. -/
def dramStatus (s : State) (n : Nat) : Nat :=
  let c := chanOf s n
  (match c.st with | .off => 0 | .training => 1 | .serving => 2 | .retraining => 3 | .lost => 4) * 2 ^ 60
    + b2n (inBurst c) * 2 ^ 57 + b2n c.highTemp * 2 ^ 56
    + ((List.range 4).map (fun i => (c.post[i]?).getD 0 % 16 * 2 ^ (40 + 4 * i))).foldl (· + ·) 0
    + ((List.range 2).map (fun i => (c.rankPower[i]?).getD 0 % 4 * 2 ^ (36 + 2 * i))).foldl (· + ·) 0
    + c.log.length % 256 * 2 ^ 24 + Config.reading (0x320001 + n * 256) s.freeCtr % 8
/-- NAND channel status (Table 9.14). -/
def nandStatus (s : State) (n : Nat) : Nat :=
  let c := nchanOf s n
  let ops := ((List.range 16).map (fun d => (dieOf s (dieNo n d)).ops.length)).foldl (· + ·) 0
  (match c.st with | .off => 0 | .identifying => 1 | .training => 2 | .serving => 3 | .lost => 4) * 2 ^ 60
    + b2n c.wp * 2 ^ 59 + c.rate % 256 * 2 ^ 48 + min 128 ops * 2 ^ 40 + c.present % 2 ^ 16 * 2 ^ 16
    + (List.range 16).foldl (fun v d => putBit v d ((dieOf s (dieNo n d)).st = .retired)) 0
/-- Bits of the halves in service (0x3500.04). -/
def halvesUp (s : State) : Nat := (List.range 2).foldl (fun v h => putBit v h ((halfOf s h).st = .service)) 0
/-- Dies identified on every channel (0x1002.03). -/
def diesFound (s : State) : Nat := ((List.range 40).map (fun n => countBits 16 (nchanOf s n).present)).foldl (· + ·) 0
/-- Seconds left of the presence window, rounded up. -/
def windowLeft (s : State) : Nat :=
  if s.pres.windowOpen then ((s.pres.closesAt + 2 ^ 32 - s.rtc) % 2 ^ 32 + 999) / 1000 else 0

/-! ## Descriptors and elements -/

/-- Region descriptor (Table 5.2) of the region that 0x2220.01 names; all 0 where none has that identifier. -/
def regionDescriptor (s : State) : Nat :=
  match findRegion s (dget s 0x222001) with
  | none => 0
  | some (_, r) =>
    let st := match r.st with | .free => 0 | .active => 1 | .fencing => 2 | .deleting => 3
    blockValue [r.id, st * 2 ^ 28 + r.owner % 128 * 2 ^ 16 + min 255 (regionKeys s r.id) * 2 ^ 8 + r.tenant % 256, r.pages, r.base,
      regionPages s r true, regionPages s r false]
/-- Key table entry (Table 5.4) of the key that 0x2221.01 names. -/
def keyDescriptor (s : State) : Nat :=
  let i := dget s 0x222101 / 16384
  let k := keyOf s i
  let st := match k.st with | .free => 0 | .valid => 1 | .fencing => 2 | .revoked => 3
  blockValue [if k.st = .free then 0 else keyNumber i k, st * 2 ^ 30 + b2n k.retired * 2 ^ 29 + k.slot % 2 ^ 16, k.region, k.revokedAt]
/-- Tier directory entry (Tables 6.1, 6.2) of the TPN that 0x3002.01 names. -/
def directoryWord (s : State) : Nat :=
  let d := dirOf s (dget s 0x300201)
  (match d.home with | .none => 0 | .dram f => 2 ^ 62 + f % 2 ^ 28 | .nand set lpn => 2 ^ 63 + set % 256 * 2 ^ 32 + lpn % 2 ^ 32)
    + b2n d.zero * 2 ^ 61 + b2n d.poison * 2 ^ 60 + b2n d.moving * 2 ^ 59 + b2n d.held * 2 ^ 58 + b2n d.displaced * 2 ^ 57 + d.tenant % 256 * 2 ^ 40
/-- Journal image index entry (Table 10.1) of the TPN that 0x3402.01 names. -/
def imageWord (s : State) : Nat :=
  let e : ImageEntry := tget {} (live s).images (dget s 0x340201)
  if e.st = 1 then 2 ^ 62 + b2n e.body * 2 ^ 61 + e.set % 256 * 2 ^ 50 + e.group % 8192 * 2 ^ 32 + e.unit % 8192 * 2 ^ 19 else e.st % 4 * 2 ^ 62
/-- State descriptor (Table 13.7) of the State that 0x3702.01 names. -/
def stateDescriptor (s : State) : Nat :=
  match (live s).snaps.find? (fun n => n.number = dget s 0x370201) with
  | none => 0
  | some n =>
    let ph := match n.phase with | .cutting => 1 | .settling => 2 | .fixed => 3 | .deleting => 4
    blockValue [ph * 2 ^ 28 + b2n n.twinHolds * 2 ^ 27 + 2 ^ 26 + b2n n.all * 2 ^ 16 + n.number % 2 ^ 16, if n.all then 0 else n.tenant % 256,
      n.cutAt, n.expires, n.scope.length, n.entries.length, n.pending.length, n.incarnation]
/-- Die wear element (Table 9.15). -/
def wearElement (s : State) (n : Nat) : Nat :=
  let d := dieOf s n
  let pool := areaFirst (areaSizes (dieType s)) .pool
  let mine := (live s).groups.filter (fun p => p.1 / 2048 = n)
  let most := (mine.filter (fun p => pool ≤ p.1 % 2048)).foldl (fun m p => max m p.2.erases) 0
  let st := if n ≥ s.rst.options.dies then 2 else match d.st with | .service => 0 | .retired => 1 | .absent => 2
  let valid := (mine.map (fun p => (validUnits s (n / 16) (n % 16) (p.1 % 2048)).length)).foldl (· + ·) 0
  eraseAvg s n true % 2 ^ 16 * 2 ^ 112 + most % 2 ^ 16 * 2 ^ 96 + eraseAvg s n false % 2 ^ 20 * 2 ^ 76 + d.grown % 1024 * 2 ^ 64
    + d.spares.foldl min 255 * 2 ^ 56 + st * 2 ^ 48 + freeGroups s n % 2 ^ 16 * 2 ^ 32 + valid % 2 ^ 32
/-- Tenant element (Table 5.1). -/
def tenantElement (s : State) (i : Nat) : Nat :=
  b2n (tenantOf s i).enable * 2 ^ 63 + (tenantOf s i).maxRegions % 2 ^ 17 * 2 ^ 32 + tenantRegions s i % 2 ^ 17
/-- Quota element (Table 6.3). -/
def quotaElement (s : State) (i : Nat) : Nat :=
  let q := quotaOf s i
  q.dramQuota % 2 ^ 32 * 2 ^ 96 + q.dramUsed % 2 ^ 32 * 2 ^ 64 + q.nandQuota % 2 ^ 32 * 2 ^ 32 + q.nandUsed % 2 ^ 32
/-- Armed point element (Table 17.14). -/
def armedElement (s : State) (i : Nat) : Nat := match s.pres.armed[i]? with | some a => armedValue (if a.repeated then 2 else 1) a | none => 0

/-- The context that an element of 0x2103 reads (R105). -/
def contextAt (s : State) (i : Nat) : Qp :=
  if i < 65536 then tget {} s.rc.own i else ((s.rc.shadows.find? (fun p => p.1 % 65536 = i - 65536)).map (·.2)).getD {}
/-- The 512 bytes of a context (Table 4.5). RATE_STATE holds current rate, target rate, alpha and stage as four U32. -/
def contextBytes (q : Qp) : Bytes :=
  let st := match q.st with | .free => 0 | .shadow => 1 | .connecting => 2 | .serving => 3 | .error => 4 | .closing => 5
  let ip := if q.ipv6 then q.remoteIp else 0xffff00000000 + q.remoteIp % 2 ^ 32
  let w := fun v => leBytes 4 v
  let ring := (q.ring.map (fun p => leBytes 16 (2 ^ 127 + p.1 % 2 ^ 24 * 2 ^ 96 + p.2 % 2 ^ 64))).flatten
  if q.st = .free then List.replicate 512 0
  else
    w (st * 2 ^ 28 + b2n q.spray * 2 ^ 27 + q.pmtu % 8 * 2 ^ 24 + (q.respRes - 1) % 16 * 2 ^ 20 + q.host % 2 ^ 16)
    ++ w (q.tenant % 256 * 2 ^ 24 + q.remoteQpn % 2 ^ 24) ++ w (q.epsn % 2 ^ 24) ++ w (q.msn % 2 ^ 24) ++ w (q.ackPsn % 2 ^ 24)
    ++ w (q.lastError % 2 ^ 16 * 2 ^ 16 + q.pcp % 8 * 2 ^ 13 + b2n q.vlan.isSome * 2 ^ 12 + q.vlan.getD 0 % 2 ^ 12)
    ++ w (q.dscp % 64 * 2 ^ 26 + b2n q.ipv6 * 2 ^ 25 + b2n q.lossless * 2 ^ 24 + q.port % 256 * 2 ^ 16 + q.udpSrc % 2 ^ 16)
    ++ leBytes 16 ip ++ leBytes 6 q.remoteMac ++ [0, 0] ++ w q.lastImm ++ w q.lastRx ++ [0, 0, 0, 0]
    ++ w q.rate ++ w q.target ++ w q.alpha ++ w q.stage ++ leBytes 8 q.bitmap ++ List.replicate 168 0
    ++ (ring ++ List.replicate 256 0).take 256

/-- The record at a place, all 0 where none was written (R477). -/
def recordAt (t : Tbl Rcd) (i : Nat) : Bytes := match tfind t i with | some r => recordBytes r | none => List.replicate 64 0
/-- The record with the sequence number of 0x6001.01, wherever it is held (R451). -/
def recordBySeq (s : State) : Bytes :=
  let n := dget s 0x600101
  match [s.rmq.ring, s.rmq.last, s.rmq.first].findSome? (fun t => t.find? (fun p => p.2.seq = n)) with
  | some (_, r) => recordBytes r
  | none => List.replicate 64 0

/-! ## Scalars -/

/-- Identity, build, Fieth, mode (Tables 17.5, 16.12, 14.11). -/
def readIdentity (s : State) (k : Nat) : Option Nat :=
  match k with
  | 0x100004 | 0x100005 => some (Config.factory k)
  | 0x100006 => some s.rst.options.version
  | 0x100101 => some s.rst.node
  | 0x100201 => some s.rst.options.density
  | 0x100202 => some s.rst.options.ranks
  | 0x100203 => some (diesFound s)
  | 0x100204 => some s.rst.options.dieType
  | 0x100205 => some (s.rst.options.nandRate * 100)
  | 0x100206 => some s.rst.options.ports
  | 0x100301 => some (match s.keys.running with | some n => if s.fieth.boot then 0 else (bankOf s n).version | none => 0)
  | 0x108101 => some (canStatus (canOf s 0))
  | 0x108102 => some (canStatus (canOf s 1))
  | 0x110001 => some (modeCode s.md.mode)
  | 0x110005 => some s.md.causes
  | 0x110006 => some ((s.rtc + 2 ^ 32 - s.md.since) % 2 ^ 32 / 1000)
  | 0x110008 => some (s.md.hot % 2 ^ 32).toNat
  | _ => none
/-- Transports, regions, tiers, slices (Tables 3.11, 4.10, 5.11, 6.8, 7.8). -/
def readAccess (s : State) (k : Nat) : Option Nat :=
  match k with
  | 0x210005 => some s.host.replay.length
  | 0x210205 => some (s.rc.own.filter (fun p => p.2.st ≠ .free)).length
  | 0x21020d => some s.rc.shadows.length
  | 0x220001 => some (live s).regions.length
  | 0x220002 => some ((live s).keys.filter (fun p => p.2.st = .valid)).length
  | 0x220003 => some ((live s).keys.filter (fun p => p.2.retired)).length
  | 0x222002 => some (regionDescriptor s)
  | 0x222102 => some (keyDescriptor s)
  | 0x300001 => some (dramCapacity s)
  | 0x300002 => some (freeFrames s)
  | 0x300003 => some (nandCapacity s)
  | 0x300004 => some (nandFree s)
  | 0x300006 => some s.tier.moves.length
  | 0x300007 => some ((live s).dir.filter (fun p => p.2.displaced)).length
  | 0x300202 => some (directoryWord s)
  | 0x310001 => some (slicesEnabled s)
  | 0x310002 => some (slicesBypass s)
  | _ => if k / 256 = 0x3103 then some (sliceStatus s (k % 256 - 1)) else none
/-- DRAM and NAND (Tables 8.6, 9.13). -/
def readMedia (s : State) (k : Nat) : Option Nat :=
  match k with
  | 0x324001 => some s.rst.options.dataRate
  | 0x324002 => some s.dram.mapOrder
  | 0x324004 => some (settings s)
  | 0x324009 => some (channelsLost s)
  | 0x32400a => some (s.dram.degraded.foldl setBit 0)
  | 0x334001 => some (Config.factory k)
  | 0x334002 | 0x334205 => some (Config.reading k s.freeCtr)
  | 0x334004 => some (s.per.sinceRound / 1024)
  | 0x334005 => some (((liveDies s).map (freeGroups s)).foldl (· + ·) 0)
  | 0x334006 => some (erasedHead s)
  | 0x334008 => some (scheme s)
  | 0x334009 => some (s.nand.stripes.filter (fun x => x.openBlock && x.parity.isSome)).length
  | 0x335002 => some (Config.reading k s.freeCtr % 101)
  | 0x335006 => some ((live s).groups.filter (fun p => p.2.st = .full)).length
  | 0x336001 => some s.rst.options.tlcRated
  | 0x336002 => some s.rst.options.pslcRated
  | 0x336003 => some (wear s true)
  | 0x336004 => some (wear s false)
  | 0x336005 => some (Config.projectedDays s.freeCtr)
  | _ =>
    let n := k / 256
    if 0x3200 ≤ n && n < 0x3220 then
      let c := chanOf s (n - 0x3200)
      match k % 256 with
      | 1 => some (dramStatus s (n - 0x3200))
      | 5 => some c.repairs.length
      | 6 => some c.hppr
      | 7 => some c.retired
      | 8 => some (b2n (c.st = .retraining))
      | 9 => some c.margin
      | _ => none
    else if 0x3300 ≤ n && n < 0x3328 && k % 256 = 1 then some (nandStatus s (n - 0x3300))
    else none
/-- Journal, Counterproof, Recall, States (Tables 10.8, 11.11, 12.9, 13.6). -/
def readJournal (s : State) (k : Nat) : Option Nat :=
  match k with
  | 0x340001 => some (budget s)
  | 0x340002 => some (dirtyVolume s)
  | 0x340003 => some (waitHint s)
  | 0x340004 => some (intervalOf (settings s))
  | 0x340007 => some (Config.reading k s.freeCtr)
  | 0x340009 => some (s.fix.pressurePages / 16384)
  | 0x34000b => some (pressureSpent s)
  | 0x340202 => some (imageWord s)
  | 0x340301 => some s.fix.ready
  | 0x340306 => some (plateMiB s s.fix.ready)
  | 0x340402 => some (energyNeed (budget s))
  | 0x350001 => some (twinCode s.cp.twin)
  | 0x350002 => some (if s.cp.twin = .resync then b2n s.cp.resync.source + 2 * b2n s.cp.resync.target else 0)
  | 0x350003 => some (standingCode (live s).standing)
  | 0x350004 => some (halvesUp s)
  | 0x350005 => some (live s).syncGen
  | 0x350006 => some (live s).tableGen
  | 0x350007 => some s.cp.twinNode
  | 0x350008 => some s.cp.epoch
  | 0x350009 => some s.cp.rxEpoch
  | 0x35000a => some (live s).divergence.length
  | 0x35000b => some s.cp.share
  | 0x350201 => some (if s.cp.resync.total = 0 then 0 else (s.cp.resync.total - s.cp.resync.todo.length) * 1000 / s.cp.resync.total)
  | 0x350202 => some s.cp.resync.todo.length
  | 0x360001 => some s.rec_.kind
  | 0x360002 => some (recallPhaseCode s.rec_.phase)
  | 0x360003 => some s.rec_.stage
  | 0x360007 => some s.rec_.unrestored.length
  | 0x370001 => some (live s).snaps.length
  | 0x370002 => some (live s).lastState
  | 0x370003 => some (b2n s.snap.cut.isSome)
  | 0x370006 => some (((live s).snaps.map (fun n => n.pending.length)).foldl (· + ·) 0)
  | 0x370202 => some (stateDescriptor s)
  | 0x370203 => some ((s.snap.clone.map (fun c => c.todo.length)).getD 0)
  | _ => none
/-- Cipher, board, recorder, statistics (Tables 15.9, 17.4, 17.8, 17.11, 17.13, 17.16). -/
def readBoard (s : State) (k : Nat) : Option Nat :=
  match k with
  | 0x400002 => some (s.keys.fenced.foldl setBit 0)
  | 0x400003 => some (b2n s.keys.deviceKey)
  | 0x401001 => some s.keys.ueOwner
  | 0x402101 => some (bankStatus s 0)
  | 0x402102 => some (bankStatus s 1)
  | 0x402104 => some s.keys.fusedSvn
  | 0x500001 => some s.rst.causes
  | 0x500101 => some s.rst.powered
  | 0x500102 => some s.rst.offFault
  | 0x500103 => some s.rst.offReq
  | 0x500201 => some s.rst.clocks
  | 0x500301 => some s.rtc
  | 0x510001 => some (b2n s.pres.windowOpen)
  | 0x510003 => some (windowLeft s)
  | 0x510004 => some (presenceStatus s)
  | 0x510005 => some (if s.pres.broken then s.pres.brokenAt else 0)
  | 0x520003 => some s.pres.armed.length
  | 0x600001 => some s.rmq.next
  | 0x600002 => some s.rmq.first.length
  | 0x600003 => some s.rmq.last.length
  | 0x600004 => some s.rmq.unflushed.length
  | 0x600005 => some s.rmq.lastFlush
  | _ =>
    let n := k / 256
    if n = 0x5004 then some (Config.reading k s.freeCtr)
    else if n = 0x5005 then some ((s.rst.rails[k % 256 - 1]?).getD 0)
    else if n = 0xf000 then some ((tfind s.dict k).getD (Config.factory k))
    else if 0x2000 ≤ n && n < 0x2080 then
      match k % 256 with
      | 2 => some ((tfind s.dict k).getD s.rst.options.iface)
      | 3 => some ((tfind s.dict k).getD (s.rst.options.macBase + (n - 0x2000)))
      | 8 => some (portStatus s (n - 0x2000))
      | _ => none
    else if 0x7100 ≤ n && n < 0x7180 && (k % 256 = 5 || k % 256 = 9) then some (Config.reading k s.freeCtr)
    else none
/-- The value of an entry as a number: computed, or as stored. -/
def entryValue (s : State) (k : Nat) : Nat :=
  match readIdentity s k with
  | some v => v
  | none => match readAccess s k with
    | some v => v
    | none => match readMedia s k with
      | some v => v
      | none => match readJournal s k with
        | some v => v
        | none => (readBoard s k).getD (dget s k)

/-! ## Bytes (R423, R424) -/

/-- The value of an element of a table. -/
def elementValue (s : State) (idx sub i : Nat) : Nat :=
  if idx = 0x2101 then tget 0 (live s).hosts i
  else if idx = 0x2201 then tenantElement s i
  else if idx = 0x3001 then quotaElement s i
  else if idx = 0x3361 then wearElement s i
  else if idx = 0x3601 then dget s (dkey 0x3601 i)
  else if idx = 0x4001 then slotElement s i
  else if idx = 0x5201 then armedElement s i
  else entryValue s (dkey idx sub)
/-- The bytes of an element. -/
def elementBytes (s : State) (idx sub i elem : Nat) : Bytes :=
  if idx = 0x2103 then contextBytes (contextAt s i)
  else if 0x3200 ≤ idx && idx < 0x3220 then ((((chanOf s (idx - 0x3200)).log)[i]?).map entryBytes).getD (List.replicate 16 0)
  else if idx = 0x6000 then recordAt s.rmq.fixedSec i
  else if idx = 0x6001 then recordBySeq s
  else if idx = 0x6002 then recordAt s.rmq.first i
  else if idx = 0x6003 then recordAt s.rmq.last i
  else if idx = 0x6004 then recordAt s.rmq.ring i
  else if 0x2000 ≤ idx && idx < 0x2080 then beBytes 16 (dget s (dkey idx sub))
  else leBytes elem (elementValue s idx sub i)
/-- Characters as bytes (STR, Table 16.5). -/
def asciiBytes (t : String) : Bytes := t.toList.map (fun c => BitVec.ofNat 8 c.toNat)
/-- The strings of Table 17.5. -/
def strBytes (sub : Nat) : Bytes := asciiBytes (if sub = 1 then "Zornasia" else if sub = 2 then "Linfeano Steoc" else "LNF-S128")
/-- A range of an entry's value as it travels. -/
def rangeBytes (s : State) (e : Entry) (idx sub off len : Nat) : Bytes :=
  match e.type with
  | .str => strBytes sub
  | .domain size elem =>
    if elem = 1 then ((leBytes size (entryValue s (dkey idx sub))).drop off).take len
    else ((List.range (len / elem)).map (fun i => elementBytes s idx sub (off / elem + i) elem)).flatten
  | t => leBytes t.bytes (entryValue s (dkey idx sub))

end Sys2Proof.Machine
end

