-- ==== Sys2Proof/Machine/Dict.lean ====
section
/-! DEFINITION. Writes of dictionary entries: the access checks (R425, Table 16.6), port configuration (R443, R444), the CAN
channels (R415), statistics (R440), and every write brought to the row it belongs to (DICT_WRITE). -/
namespace Sys2Proof.Machine
open Sys2Proof

/-! ## Entries with a row of their own in this file -/

/-- What refuses a write of a host port entry (Table 17.6, R444). -/
def portRefusal (s : State) (p sub v : Nat) : Option Nat :=
  let taken := (List.range 128).any (fun q => decide (q ≠ p) && decide (dget s (0x200000 + q * 256 + sub) = v))
  let need := fun (q : Qp) => mtuBytes q + ipBytes q.ipv6 + 32 + (if q.vlan.isSome then 18 else 14)
  let qps := (s.rc.own ++ s.rc.shadows).filter (fun q => decide (q.2.st = .serving) && decide (q.2.port = p))
  match sub with
  | 1 => if v > 1 then some 0x06040001 else none
  | 2 => if v = 1 || v = 2 then none else some 0x06040001
  | 3 => if v ≥ 2 ^ 64 then some 0x06030001 else if v ≥ 2 ^ 48 then some 0x06040002 else if bitOf v 40 then some 0x06040003 else none
  | 4 => if v ≥ 2 ^ 32 then some 0x06030001 else if decide (v ≠ 0) && taken then some 0x06040003 else none
  | 5 => if v ≥ 2 ^ 128 then some 0x06030001 else if decide (v ≠ 0) && taken then some 0x06040003 else none
  | 6 => if v < 1500 || v > 9216 then some 0x06040001 else if qps.any (fun q => decide (v < need q.2)) then some 0x06040003 else none
  | _ => if v ≥ 2 ^ 8 then some 0x06040002 else if countBits 8 v > 4 then some 0x06040003 else none
/-- R443, R444: a host port entry is written; it acts at the port group's next idle point, subindex 2 at the next reset. -/
def doPortConfigWrite (port : Fin 128) (sub value : Nat) (s : State) : State :=
  let idx := 0x2000 + port.val
  dictGuard idx sub false (fun b =>
    if sub > 8 then dictRefuse idx sub 0x06010002 b
    else if sub = 0 || sub = 8 then dictRefuse idx sub 0x06020001 b
    else dictGuard idx sub (decide (sub ≤ 5)) (fun a =>
      match portRefusal a port.val sub value with
      | some code => dictRefuse idx sub code a
      | none => dictDone idx sub (dset (dkey idx sub) value a)) b) s
/-- R415: a rate code is stored for the next system or power-on reset. Every data rate lies above every nominal rate. -/
def doCanRateWrite (channel : Fin 2) (data : Bool) (code : Nat) (s : State) : State :=
  let sub := 1 + 2 * channel.val + b2n data
  dictGuard 0x1080 sub true (fun a =>
    if code = 0 || code > (if data then 4 else 2) then dictRefuse 0x1080 sub 0x06040001 a
    else dictDone 0x1080 sub (dset (dkey 0x1080 sub) code a)) s
/-- R415: the channels enabled: one at least; a disabled channel leaves the bus. -/
def doCanChannelEnableWrite (value : Nat) (s : State) : State :=
  dictGuard 0x1080 7 true (fun a =>
    if value ≥ 4 then dictRefuse 0x1080 7 0x06040002 a
    else if value = 0 then dictRefuse 0x1080 7 0x06040003 a
    else
      let next := fun (n : Nat) (c : Can) =>
        if !bitOf value n then { c with st := .disabled }
        else if c.st = .disabled then { c with st := if c.dup || a.rst.node = 0 then .listenOnly else .active } else c
      setCan 1 (next 1) (setCan 0 (next 0) (dictDone 0x1080 7 (dset 0x108007 value a)))) s
/-- R440: 1 is written to 0x7000.01: every entry of 0x7000–0x7fff of level S reads 0. -/
def doClearStatistics (s : State) : State :=
  dictGuard 0x7000 1 true (fun a => dictDone 0x7000 1
    { a with dict := a.dict.filter (fun p => !(decide (0x700000 ≤ p.1) && decide (p.1 < 0x800000) && decide (levelOf p.1 = .s))) }) s

/-! ## Access checks (R425, Table 16.6) -/

/-- The entry at an index and subindex; subindex 0 of an index with subindices is their count (R12). -/
def lookupEntry (idx sub : Nat) : Option Entry :=
  match entryAt idx sub with
  | some e => some e
  | none => if sub = 0 && indexExists idx then some ⟨idx, 1, 0, .u8, .ro, .never, none⟩ else none
/-- Check 10 (R423, Table 16.5): OFFSET, LENGTH, alignment, size. -/
def sizeRefusal (s : State) (e : Entry) (idx sub off len : Nat) : Option Nat :=
  match e.type with
  | .str => if off ≠ 0 then some 0x06030002 else none
  | .domain size elem =>
    let bank := idx = 0x4020
    if len = 0 || off % elem ≠ 0 || len % elem ≠ 0 || off + len > size then some 0x06030002
    else if idx = 0x4002 && sub = 4 && (off ≠ 0 || (len ≠ 32 && len ≠ 64)) then some 0x06030002
    else if bank && off ≠ 0 && off ≠ (bankOf s (sub - 1)).written then some 0x06030002
    else if len > (if bank then 1048576 else 4096) then some 0x06030003 else none
  | t => if len ≠ t.bytes then some 0x06030001 else if off ≠ 0 then some 0x06030002 else none
/-- Checks 2 to 5 and 10 of a READ: the entry, or an abort code. -/
def readCheck (s : State) (idx sub off len : Nat) : Except Nat Entry :=
  if !indexExists idx then .error 0x06010001
  else match lookupEntry idx sub with
    | none => .error 0x06010002
    | some e =>
      if s.fieth.boot && !bootServes s idx then .error 0x06070001
      else if e.access = .wop then .error 0x06020002
      else match sizeRefusal s e idx sub off len with
        | some code => .error code
        | none => .ok e
/-- Entries that the manual lets be written only in Service. -/
def serviceEntry (idx sub : Nat) : Bool := (idx = 0x5200 && sub = 1) || (idx = 0x3240 && sub = 11)
/-- Checks 4 and 6 to 10 of a WRITE (Table 16.6). -/
def entryRefusal (s : State) (e : Entry) (idx sub off len : Nat) : Option Nat :=
  if s.fieth.boot && !bootServes s idx then some 0x06070001
  else if e.access = .ro then some 0x06020001
  else if e.access = .rof && !s.pres.broken && s.md.mode ≠ .service then some 0x06020001
  else if e.access = .rof && s.pres.broken then some 0x06020004
  else if serviceEntry idx sub && s.md.mode ≠ .service then some 0x06020005
  else if e.access ≠ .rw && !s.pres.windowOpen then some 0x06020003
  else sizeRefusal s e idx sub off len
/-- Checks 2 to 10 of a WRITE: the entry, or an abort code. -/
def writeCheck (s : State) (idx sub off len : Nat) : Except Nat Entry :=
  if !indexExists idx then .error 0x06010001
  else match lookupEntry idx sub with
    | none => .error 0x06010002
    | some e => match entryRefusal s e idx sub off len with
      | some code => .error code
      | none => .ok e
/-- The bytes that a READ returns. -/
def readBytes (s : State) (e : Entry) (idx sub off len : Nat) : Bytes :=
  if sub = 0 && (entryAt idx 0).isNone then leBytes 1 (highestSub idx) else rangeBytes s e idx sub off len

/-! ## Values -/

/-- Checks 12 and 14 of an entry that only stores its value: the stated range, way masks (R174), the pressure points
(Table 10.8). -/
def valueRefusal (s : State) (e : Entry) (idx sub v : Nat) : Option Nat :=
  if e.type = .bool && v > 1 then some 0x06040001
  else if e.range.any (fun r => decide (v < r.1) || decide (r.2 < v)) then some 0x06040001
  else if idx = 0x3101 && countBits 16 v < (if sub % 4 = 0 then 2 else if sub % 4 = 3 then 0 else 4) then some 0x06040003
  else if idx = 0x3400 && sub = 5 && v + 10 > dget s 0x340006 then some 0x06040001
  else if idx = 0x3400 && sub = 6 && v < dget s 0x340005 + 10 then some 0x06040001
  else none
/-- A value is stored in its entry. -/
def storeValue (e : Entry) (idx sub v : Nat) (s : State) : State :=
  match valueRefusal s e idx sub v with
  | some code => dictRefuse idx sub code s
  | none => dictDone idx sub (dset (dkey idx sub) v s)
/-- The numbers that elements of `elem` bytes spell. -/
def elements (elem : Nat) : Nat → Bytes → List Nat
  | 0, _ => []
  | n + 1, b => leNat (b.take elem) :: elements elem n (b.drop elem)
/-- Bytes of a value replaced from an offset on. -/
def patch (old : Bytes) (off : Nat) (b : Bytes) : Bytes := old.take off ++ b ++ old.drop (off + b.length)
/-- Word `i` of a block (R424). -/
def word (b : Bytes) (i : Nat) : Nat := leNat ((b.drop (4 * i)).take 4)

/-! ## Command blocks -/

/-- A region command block (Table 5.6) runs as its CODE says. -/
def writeRegionBlock (b : Bytes) (s : State) : State :=
  let w := word b
  let blk : RegionBlock := ⟨bits (w 0) 16 8 + w 4 / 128 + w 5 + w 6 + w 7, bits (w 0) 8 8, bits (w 0) 0 8, w 1, w 2, w 3, w 4 % 128⟩
  command (bits (w 0) 24 8) blk s
/-- A maintenance block (Table 7.2). -/
def writeMaintenance (b : Bytes) (s : State) : State :=
  let w := word b
  let slice := w 0 % 16
  let line := bits (w 2) 0 9 * 2 ^ 32 + w 3
  if bits (w 0) 4 20 ≠ 0 || w 1 ≠ 0 || w 2 ≥ 2 ^ 9 then dictRefuse 0x3102 1 0x06040002 s
  else
    let n : Fin 16 := Fin.ofNat 16 slice
    match bits (w 0) 24 8 with
    | 0x01 => doCleanAddr line s
    | 0x02 => doFlushAddr line s
    | 0x03 => doInvalidateAddr line s
    | 0x10 => doCleanSlice n s
    | 0x11 => doFlushSlice n s
    | 0x12 => doDisable n s
    | 0x13 => doInvalidateSlice n s
    | 0x14 => doEnable n s
    | code => unknownMaintenance code slice line s
/-- A State command block (Table 13.2). -/
def writeStateBlock (b : Bytes) (s : State) : State :=
  let w := word b
  let blk : StateBlock := ⟨bits (w 0) 17 7 + w 1 / 2 ^ 16 + w 4 / 128 + w 6 + w 7, bitOf (w 0) 16, bits (w 0) 8 8, bits (w 0) 0 8,
    w 1 % 2 ^ 16, w 2, w 3, w 4 % 128, w 5⟩
  stateCommand (bits (w 0) 24 8) blk s
/-- A key command block (Table 15.3). -/
def writeKeyBlock (b : Bytes) (s : State) : State :=
  let w := word b
  let slot := bits (w 0) 8 6
  let kind := bits (w 0) 0 4
  if bits (w 0) 14 10 ≠ 0 || bits (w 0) 4 4 ≠ 0 || w 1 ≠ 0 then dictRefuse 0x4002 1 0x06040002 s
  else match bits (w 0) 24 8 with
    | 1 => doKeyGenerate slot kind s
    | 2 => doKeyImport slot kind s
    | 3 => doKeyErase slot s
    | 4 => doKeyMigrate slot s
    | code => unknownKeyCommand code slot kind s
/-- An injection command block (Table 17.14). -/
def writeInjectionBlock (b : Bytes) (s : State) : State :=
  let w := word b
  let point := bits (w 0) 0 16
  let inst := bits (w 1) 0 16
  let variant := bits (w 2) 24 8
  if bits (w 0) 16 8 ≠ 0 || w 1 ≥ 2 ^ 16 || bits (w 2) 16 8 ≠ 0 then dictRefuse 0x5200 1 0x06040002 s
  else match bits (w 0) 24 8 with
    | 1 => doInjectOnce point inst variant s
    | 2 => doInjectRepeatedly point inst variant (bits (w 2) 0 16) (w 3) s
    | 3 => doDisarmPoint point inst variant s
    | 4 => doDisarmEveryPoint s
    | _ => unknownInjection (leNat b) s
/-- A mode request (Table 14.3). -/
def writeModeRequest (v : Nat) (s : State) : State :=
  match v with
  | 1 => doPlannedShutdown s
  | 2 => doEnterService s
  | 3 => doLeaveService s
  | 4 => doAcceptKeep s
  | 5 => doForceKeep s
  | 6 => doForceStandDown s
  | _ => unknownRequest v s
/-- The domain request entry: bytes of it are replaced, reserved bits 0 (R447). -/
def writeDomains (off : Nat) (b : Bytes) (s : State) : State :=
  let v := leNat (patch (leBytes 16 s.rst.offReq) off b)
  if v ≥ 2 ^ 112 then dictRefuse 0x5001 3 0x06040002 s
  else domainWrite ((List.range 112).map (fun k => (k, bitOf v k))) s
/-- A factory entry is written (R452). -/
def writeFactory (e : Entry) (sub off : Nat) (b : Bytes) (s : State) : State :=
  let k := dkey 0xf000 sub
  let size := match e.type with | .domain n _ => n | t => t.bytes
  dictDone 0xf000 sub (dset k (leNat (patch (leBytes size (entryValue s k)) off b)) s)
/-- A BOOL that starts something when 1 is written; 0 does nothing. -/
def writeStart (idx sub v : Nat) (run : State → State) (s : State) : State :=
  if v > 1 then dictRefuse idx sub 0x06040001 s else if v = 1 then run s else dictDone idx sub s

/-! ## The write -/

/-- A value that passed checks 2 to 10 is brought to its entry's own row, or stored. -/
def writeEntry (e : Entry) (idx sub off : Nat) (b : Bytes) (s : State) : State :=
  let v := leNat b
  let elem := elemSize idx
  if elem ≠ 0 then tableWrite idx (off / elem) (elements elem (b.length / elem) b) s
  else if 0x2000 ≤ idx && idx < 0x2080 then doPortConfigWrite (Fin.ofNat 128 (idx - 0x2000)) sub (if sub = 5 then beNat b else v) s
  else if 0x3200 ≤ idx && idx < 0x3220 then writeStart idx sub v (doRetrainRequest (Fin.ofNat 32 (idx - 0x3200))) s
  else if idx = 0x3601 then
    dictDone idx sub (each ((elements 4 (b.length / 4) b).zipIdx (off / 4)) (fun p a => dset (dkey 0x3601 p.2) p.1 a) s)
  else if idx = 0xf000 then writeFactory e sub off b s
  else match dkey idx sub with
    | 0x108001 => doCanRateWrite 0 false v s
    | 0x108002 => doCanRateWrite 0 true v s
    | 0x108003 => doCanRateWrite 1 false v s
    | 0x108004 => doCanRateWrite 1 true v s
    | 0x108007 => doCanChannelEnableWrite v s
    | 0x110002 => doProfileWrite v s
    | 0x110003 => writeModeRequest v s
    | 0x210002 => doReplayWindowWrite v s
    | 0x221001 => writeRegionBlock b s
    | 0x300008 => writeStart idx sub v doRehomeDisplaced s
    | 0x310201 => writeMaintenance b s
    | 0x340001 => doBudgetWrite 0 v s
    | 0x340101 => doBudgetWrite 1 v s
    | 0x340102 => doBudgetWrite 2 v s
    | 0x340103 => doBudgetWrite 3 v s
    | 0x340401 => doHoldupEnergyWrite v s
    | 0x350203 => writeStart idx sub v doTakeOwnership s
    | 0x371001 => writeStateBlock b s
    | 0x400001 => doWriteSlotWrite v s
    | 0x400201 => writeKeyBlock b s
    | 0x400204 => dictDone idx sub (updKeys (fun k => { k with material := some b }) s)
    | 0x402001 => doFirmwareBankWrite 0 off b s
    | 0x402002 => doFirmwareBankWrite 1 off b s
    | 0x402105 => doSvnCommit v s
    | 0x500001 => doResetCauseClear v s
    | 0x500002 =>
      if v = 1 then doCoreResetRequest s else if v = 2 then doSystemResetRequest s
      else if v = 0 then dictDone idx sub s else dictRefuse idx sub 0x06040003 s
    | 0x500103 => writeDomains off b s
    | 0x510001 => if v > 1 then dictRefuse idx sub 0x06040001 s else if v = 1 then dictRefuse idx sub 0x06040003 s else doPresenceCloseWrite s
    | 0x520001 => writeInjectionBlock b s
    | 0x700001 => writeStart idx sub v doClearStatistics s
    | _ => storeValue e idx sub v s
/-- Who answers a write of a table: its first element. -/
def answerSub (idx sub off : Nat) : Nat := if elemSize idx = 0 then sub else off / elemSize idx
/-- A write is checked and applied, or refused (R425). -/
def applyWrite (idx sub off : Nat) (value : Bytes) (s : State) : State :=
  match writeCheck s idx sub off value.length with
  | .error code => dictRefuse idx (answerSub idx sub off) code s
  | .ok e => writeEntry e idx sub off value s
/-- R425, R426: DICT_WRITE: a write of a dictionary entry; entries of reset level "never" last. -/
def doDictWrite (index sub off : Nat) (value : Bytes) (s : State) : State := if fiethSilent s then s else applyWrite index sub off value s

/-! ## The meanings: each completes -/

/-- DICT_WRITE (R425). -/
def execDictWrite (index : Nat) (sub : Nat) (off : Nat) (value : Bytes) (s : State) : Result := .next (doDictWrite index sub off value s)
/-- CAN_RATE_WRITE (R415). -/
def execCanRateWrite (channel : Fin 2) (data : Bool) (code : Nat) (s : State) : Result := .next (doCanRateWrite channel data code s)
/-- CAN_CHANNEL_ENABLE_WRITE (R415). -/
def execCanChannelEnableWrite (value : Nat) (s : State) : Result := .next (doCanChannelEnableWrite value s)
/-- CLEAR_STATISTICS (R440). -/
def execClearStatistics (s : State) : Result := .next (doClearStatistics s)
/-- PORT_CONFIG_WRITE (R444). -/
def execPortConfigWrite (port : Fin 128) (sub : Nat) (value : Nat) (s : State) : Result := .next (doPortConfigWrite port sub value s)

end Sys2Proof.Machine
end

