-- ==== Sys2Proof/Machine/Fieth.lean ====
section
/-! DEFINITION. The Fieth protocol (chapter 16): requests, duplicates and takeovers (R421, R428–R431), segmented transfers
(R422, R423), timeouts (R433), heartbeats (R434), channels (R413, R418, R432). -/
namespace Sys2Proof.Machine
open Sys2Proof

/-! ## Frames -/

/-- Requests of a channel are heard: the MCC serves both, the boot ROM channel A (R411, R436). -/
def fiethHears (s : State) (ch : Nat) : Bool := !fiethSilent s && (!s.fieth.boot || ch = 0) && canTalks (canOf s ch)
/-- The value travels in the frame. -/
def expedited (f : FiethFrame) : Bool := f.cmd = 2 && f.flags % 2 = 1
/-- A request as it is compared and kept: the 16 header bytes and the expedited value (R429). -/
def headOf (f : FiethFrame) : FHead := ⟨f.cmd, f.tag, f.idx, f.sub, f.flags, f.resv, f.off, f.len, if expedited f then f.value.take f.len else []⟩
/-- Check 1 of Table 16.6: reserved header fields 0, E on a WRITE only, and then with its value in the frame (R421). -/
def malformed (f : FiethFrame) : Bool :=
  decide (f.resv ≠ 0) || decide (f.flags > (if f.cmd = 2 then 1 else 0)) || (expedited f && (decide (f.len > 48) || decide (f.value.length < f.len)))
/-- A refusal that leaves no duplicate record (R429). -/
def reject (ch : Nat) (f : FiethFrame) (code : Nat) (s : State) : State := bump 0x701d01 (sendAbort ch f.tag f.idx f.sub code s)
def setXfer (ch : Nat) (t : Option Transfer) (s : State) : State := setCan ch (fun c => { c with xfer := t }) s
/-- A channel whose transfer, segmented or executing, is still open (R428). -/
def channelBusy (s : State) (ch : Nat) : Bool := (canOf s ch).xfer.isSome || s.fieth.dups.any (fun d => d.out.isNone && d.held.contains ch)
/-- The outcome of a request is kept for duplicates. -/
def keepRecord (h : FHead) (o : FOutcome) (s : State) : State :=
  updFieth (fun f => { f with dups := f.dups.filter (fun d => d.head ≠ h) ++ [⟨h, some o, []⟩] }) s
/-- ACK with NEXT_SEQ (R422). -/
def sendFiethAck (ch tag next : Nat) (s : State) : State := fiethSend ch (leBytes 1 4 ++ leBytes 1 tag ++ leBytes 2 next) s
/-- Segments of a transfer (R422). -/
def segments (len : Nat) : Nat := (len + 59) / 60

/-! ## READ -/

/-- A READ past the duplicate checks: answered at once, or a segmented transfer opened (R421, R423); its value is copied now. -/
def runRead (ch : Nat) (h : FHead) (s : State) : State :=
  match readCheck s h.idx h.sub h.off h.len with
  | .error code => keepRecord h (.abort code) (bump 0x701d01 (sendAbort ch h.tag h.idx h.sub code s))
  | .ok e =>
    let v := readBytes s e h.idx h.sub h.off h.len
    if v.length ≤ 48 then keepRecord h .done (bump 0x701d01 (fiethSend ch (respHead 8 h 1 v.length ++ v) (draw s)))
    else if channelBusy s ch then bump 0x701d01 (sendAbort ch h.tag h.idx h.sub 0x06050001 s)
    else bump 0x701d01 (fiethSend ch (respHead 8 h 0 v.length) (setXfer ch (some ⟨h, true, 0, 0, false, v⟩) (draw s)))

/-! ## WRITE -/

/-- A whole value is applied: the request waits as executing, at the front for an answer given at once, behind the others when
the twin's verdict is to come. -/
def runWrite (ch : Nat) (h : FHead) (value : Bytes) (s : State) : State :=
  let s1 := updFieth (fun f => { f with dups := ⟨h, none, [ch]⟩ :: f.dups }) s
  let s2 := applyWrite h.idx h.sub h.off value s1
  updFieth (fun f => { f with dups := f.dups.drop 1 ++ f.dups.take 1 }) s2
/-- A segmented write opens (R422); one of a firmware bank from offset 0 clears VALID (R423). -/
def openWrite (ch : Nat) (h : FHead) (s : State) : State :=
  match writeCheck s h.idx h.sub h.off h.len with
  | .error code => keepRecord h (.abort code) (bump 0x701d01 (sendAbort ch h.tag h.idx h.sub code s))
  | .ok _ =>
    let bank := decide (h.idx = 0x4020) && decide (h.off = 0) && decide (s.keys.running ≠ some (h.sub - 1))
    fiethSend ch (respHead 9 h 0 h.len) (setXfer ch (some ⟨h, false, 0, 0, false, []⟩)
      (when_ bank (setBank (h.sub - 1) (fun b => { b with image := [], written := 0, valid := false })) s))

/-! ## Requests (R428–R431) -/

/-- An open transfer answers its opening again, on its own channel or, moved, on the other one. -/
def answerOpening (ch : Nat) (moved : Bool) (t : Transfer) (s : State) : State :=
  let flags := if moved then 2 else 0
  if t.read then fiethSend ch (respHead 8 t.head flags t.data.length) (setXfer ch (some t) s)
  else sendFiethAck ch t.head.tag t.next (fiethSend ch (respHead 9 t.head flags t.head.len) (setXfer ch (some { t with acked := t.next, nacked := true }) s))
/-- A request past check 1: a duplicate of an opening, a takeover, a duplicate of a record, a busy channel, or a new one. -/
def takeRequest (ch : Nat) (f : FiethFrame) (s : State) : State :=
  let h := headOf f
  let run := fun (a : State) => if f.cmd = 1 then runRead ch h a else if expedited f then runWrite ch h h.value a else openWrite ch h a
  match (canOf s ch).xfer.filter (fun t => t.head = h) with
  | some t => answerOpening ch false t s
  | none =>
    match (canOf s (1 - ch)).xfer.filter (fun t => decide (t.head = h) && !channelBusy s ch) with
    | some t => answerOpening ch true t (bump32 0x701d04 (setXfer (1 - ch) none s))
    | none =>
      match s.fieth.dups.find? (fun d => d.head = h) with
      | some d =>
        match d.out with
        | none => updFieth (fun x => { x with dups := modFirst (fun y => y.head = h) (fun y => { y with held := y.held ++ [ch] }) x.dups }) s
        | some o => if f.cmd = 2 then bump 0x701d01 (bump 0x701d02 (sendOutcome ch h o s)) else runRead ch h (bump 0x701d02 s)
      | none => if channelBusy s ch then reject ch f 0x06050001 s else run s
/-- A request frame with the CMD of its row; any other CMD is unknown (R419). -/
def request (cmd : Nat) (channel : Fin 2) (f : FiethFrame) (s : State) : State :=
  if !fiethHears s channel.val then s
  else if f.cmd ≠ cmd then reject channel.val f 0x06060003 s
  else if malformed f then reject channel.val f 0x06060004 s
  else takeRequest channel.val f s
/-- R421: READ. -/
def doFiethRead (channel : Fin 2) (f : FiethFrame) (s : State) : State := request 1 channel f s
/-- R421: WRITE. -/
def doFiethWrite (channel : Fin 2) (f : FiethFrame) (s : State) : State := request 2 channel f s

/-! ## Segmented transfers (R422) -/

/-- A transfer ends early with an ABORT (R427). -/
def endTransfer (ch : Nat) (t : Transfer) (code : Nat) (s : State) : State := sendAbort ch t.head.tag t.head.idx t.head.sub code (setXfer ch none s)
/-- R422: SEGMENT. One shorter than its share is malformed. -/
def doSegment (channel : Fin 2) (tag seq : Nat) (data : Bytes) (s : State) : State :=
  let ch := channel.val
  if !fiethHears s ch then s
  else match (canOf s ch).xfer.filter (fun t => !t.read && t.head.tag = tag) with
    | none => sendAbort ch tag 0 0 0x06060005 s
    | some t =>
      let need := min 60 (t.head.len - t.data.length)
      let n := t.next + 1
      if seq = t.next then
        if data.length < need then endTransfer ch t 0x06060004 s
        else
          let got := t.data ++ data.take need
          if got.length ≥ t.head.len then runWrite ch t.head got (setXfer ch none s)
          else if n % 16 = 0 then sendFiethAck ch tag n (setXfer ch (some { t with data := got, next := n, acked := n, nacked := false }) s)
          else setXfer ch (some { t with data := got, next := n, nacked := false }) s
      else if seq ≥ t.acked + 16 then endTransfer ch t 0x06060001 s
      else if t.nacked then s
      else sendFiethAck ch tag t.next (setXfer ch (some { t with acked := t.next, nacked := true }) s)
/-- R422: ACK from the client: segments follow from NEXT_SEQ, up to 16; the ACK of the last one ends the read. -/
def doFiethAck (channel : Fin 2) (tag next : Nat) (s : State) : State :=
  let ch := channel.val
  if !fiethHears s ch then s
  else match (canOf s ch).xfer.filter (fun t => t.read && t.head.tag = tag) with
    | none => sendAbort ch tag 0 0 0x06060005 s
    | some t =>
      let total := segments t.data.length
      if next > t.next then s
      else if next ≥ total then keepRecord t.head .done (setXfer ch none s)
      else
        let top := min total (next + 16)
        let seg := fun i => leBytes 1 3 ++ leBytes 1 tag ++ leBytes 2 i ++ (t.data.drop (60 * i)).take 60
        each ((List.range (top - next)).map (next + ·)) (fun i a => fiethSend ch (seg i) a)
          (setXfer ch (some { t with next := max t.next top, acked := next }) s)
/-- R427: ABORT from the client, with any code. -/
def doFiethAbort (channel : Fin 2) (tag _code : Nat) (s : State) : State :=
  let ch := channel.val
  if fiethHears s ch && (canOf s ch).xfer.any (fun t => t.head.tag = tag) then setXfer ch none s else s
/-- R433: no frame of an open transfer for the idle timeout. -/
def doTransferIdleTimeout (channel : Fin 2) (s : State) : State :=
  let ch := channel.val
  match (canOf s ch).xfer with
  | some t => if fiethSilent s then s else endTransfer ch t 0x06060002 s
  | none => s
/-- R429: 1,000 ms have passed since the answer. -/
def doDupRecordExpire (f : FiethFrame) (s : State) : State :=
  updFieth (fun x => { x with dups := x.dups.filter (fun d => !(decide (d.head = headOf f) && d.out.isSome)) }) s

/-! ## Heartbeat (R434) -/

/-- The 8 bytes of a heartbeat (Table 16.9). -/
def heartbeatBytes (s : State) (ch : Nat) : Bytes :=
  let flags := b2n s.md.fault * 32 + b2n (decide (s.md.causes ≠ 0)) * 16 + b2n s.fieth.boot * 8 + b2n s.pres.broken * 4 + b2n s.pres.jumper * 2
    + b2n s.pres.windowOpen
  leBytes 1 (modeCode s.md.mode) ++ leBytes 1 flags ++ leBytes 1 (twinCode s.cp.twin) ++ leBytes 1 (dget s 0x110002)
    ++ leBytes 2 s.fieth.mccStarts ++ leBytes 2 (canOf s ch).hbSeq
def beat (ch : Nat) (s : State) : State :=
  if canTalks (canOf s ch) && (!s.fieth.boot || ch = 0) then
    setCan ch (fun c => { c with hbSeq := (c.hbSeq + 1) % 65536 }) (emit (.can ch (0x700 + s.rst.node) (heartbeatBytes s ch)) s)
  else s
/-- R434: the heartbeat period has passed. -/
def doFiethHeartbeat (s : State) : State := if fiethSilent s then s else beat 1 (beat 0 s)

/-! ## Channels (R413, R418, R432) -/

/-- R418: a frame with an identifier of this node that it did not send: the channel listens only until the next system reset. -/
def doDuplicateNode (channel : Fin 2) (ident : Nat) (s : State) : State :=
  let ch := channel.val
  let n := s.rst.node
  let st := (canOf s ch).st
  if n = 0 || st = .disabled || st = .busOff || s.rst.phase = .off || s.rst.phase = .powerOn then s
  else if ident = 0x480 + n || ident = 0x600 + n || ident = 0x700 + n then
    bump32 0x701d07 (post 0x0705 2 ch (leBytes 1 1) (setCan ch (fun c => { c with dup := true, st := .listenOnly }) s))
  else s
/-- R432: a channel enters bus-off; its transfers stay open. -/
def doCanBusOff (channel : Fin 2) (s : State) : State :=
  if canTalks (canOf s channel.val) then bump32 0x701d05 (setCan channel.val (fun c => { c with st := .busOff, tec := 255 }) s) else s
/-- R413: bus-off recovery, with both error counters 0. -/
def doCanBusOffRecovery (channel : Fin 2) (s : State) : State :=
  setCan channel.val (fun c => if c.st = .busOff then { c with st := .active, tec := 0, rec_ := 0 } else c) s

/-! ## The meanings: each completes -/

/-- FIETH_READ (R421). -/
def execFiethRead (channel : Fin 2) (f : FiethFrame) (s : State) : Result := .next (doFiethRead channel f s)
/-- FIETH_WRITE (R421). -/
def execFiethWrite (channel : Fin 2) (f : FiethFrame) (s : State) : Result := .next (doFiethWrite channel f s)
/-- SEGMENT (R422). -/
def execSegment (channel : Fin 2) (tag seq : Nat) (data : Bytes) (s : State) : Result := .next (doSegment channel tag seq data s)
/-- FIETH_ACK (R422). -/
def execFiethAck (channel : Fin 2) (tag next : Nat) (s : State) : Result := .next (doFiethAck channel tag next s)
/-- FIETH_ABORT (R427). -/
def execFiethAbort (channel : Fin 2) (tag : Nat) (code : Nat) (s : State) : Result := .next (doFiethAbort channel tag code s)
/-- DUP_RECORD_EXPIRE (R429). -/
def execDupRecordExpire (f : FiethFrame) (s : State) : Result := .next (doDupRecordExpire f s)
/-- TRANSFER_IDLE_TIMEOUT (R433). -/
def execTransferIdleTimeout (channel : Fin 2) (s : State) : Result := .next (doTransferIdleTimeout channel s)
/-- FIETH_HEARTBEAT (R434). -/
def execFiethHeartbeat (s : State) : Result := .next (doFiethHeartbeat s)
/-- DUPLICATE_NODE (R418). -/
def execDuplicateNode (channel : Fin 2) (ident : Nat) (s : State) : Result := .next (doDuplicateNode channel ident s)
/-- CAN_BUS_OFF (R432). -/
def execCanBusOff (channel : Fin 2) (s : State) : Result := .next (doCanBusOff channel s)
/-- CAN_BUS_OFF_RECOVERY (R413). -/
def execCanBusOffRecovery (channel : Fin 2) (s : State) : Result := .next (doCanBusOffRecovery channel s)

end Sys2Proof.Machine
end

