-- ==== Sys2Proof/Machine/Dispatch.lean ====
section
/-! DEFINITION. One arm per command of the table: the call of its meaning. -/
namespace Sys2Proof.Machine
open Sys2Proof

def exec (i : Instr) (s : State) : Host.Outcome State Fault Refusal :=
  match i with
  | .stippleRead d => Sys2Proof.Machine.execStippleRead d s
  | .stippleWrite d => Sys2Proof.Machine.execStippleWrite d s
  | .stippleAdd d => Sys2Proof.Machine.execStippleAdd d s
  | .stippleCas d => Sys2Proof.Machine.execStippleCas d s
  | .stippleFence d => Sys2Proof.Machine.execStippleFence d s
  | .stipplePlace d => Sys2Proof.Machine.execStipplePlace d s
  | .stippleDiscard d => Sys2Proof.Machine.execStippleDiscard d s
  | .readBatch d => Sys2Proof.Machine.execReadBatch d s
  | .homeSliceRequest slice => Sys2Proof.Machine.execHomeSliceRequest slice s
  | .fillReturn slice line => Sys2Proof.Machine.execFillReturn slice line s
  | .completionRelease op => Sys2Proof.Machine.execCompletionRelease op s
  | .replayEntryExpire host seq mirror => Sys2Proof.Machine.execReplayEntryExpire host seq mirror s
  | .fenceTimeout op => Sys2Proof.Machine.execFenceTimeout op s
  | .configApplyAtIdle unit => Sys2Proof.Machine.execConfigApplyAtIdle unit s
  | .rdmaWrite p => Sys2Proof.Machine.execRdmaWrite p s
  | .rdmaReadRequest p => Sys2Proof.Machine.execRdmaReadRequest p s
  | .compareSwap p => Sys2Proof.Machine.execCompareSwap p s
  | .fetchAdd p => Sys2Proof.Machine.execFetchAdd p s
  | .sprayWrite p => Sys2Proof.Machine.execSprayWrite p s
  | .keepalive p => Sys2Proof.Machine.execKeepalive p s
  | .release p => Sys2Proof.Machine.execRelease p s
  | .cnpReceive qpn => Sys2Proof.Machine.execCnpReceive qpn s
  | .contextFetchDone qpn => Sys2Proof.Machine.execContextFetchDone qpn s
  | .ackTimer qpn => Sys2Proof.Machine.execAckTimer qpn s
  | .sprayAckTimer qpn => Sys2Proof.Machine.execSprayAckTimer qpn s
  | .readResponseSend qpn => Sys2Proof.Machine.execReadResponseSend qpn s
  | .rateAlphaTick qpn => Sys2Proof.Machine.execRateAlphaTick qpn s
  | .rateIncreaseTick qpn => Sys2Proof.Machine.execRateIncreaseTick qpn s
  | .cmReq m => Sys2Proof.Machine.execCmReq m s
  | .cmRtu qpn => Sys2Proof.Machine.execCmRtu qpn s
  | .cmDreq qpn => Sys2Proof.Machine.execCmDreq qpn s
  | .cmDrep qpn => Sys2Proof.Machine.execCmDrep qpn s
  | .connectTimeout qpn => Sys2Proof.Machine.execConnectTimeout qpn s
  | .qpIdleTimeout qpn => Sys2Proof.Machine.execQpIdleTimeout qpn s
  | .drepTimeout qpn => Sys2Proof.Machine.execDrepTimeout qpn s
  | .create b => Sys2Proof.Machine.execCreate b s
  | .delete b => Sys2Proof.Machine.execDelete b s
  | .resize b => Sys2Proof.Machine.execResize b s
  | .issueKey b => Sys2Proof.Machine.execIssueKey b s
  | .revokeKey b => Sys2Proof.Machine.execRevokeKey b s
  | .revokeRegion b => Sys2Proof.Machine.execRevokeRegion b s
  | .setOwner b => Sys2Proof.Machine.execSetOwner b s
  | .fencePoint => Sys2Proof.Machine.execFencePoint s
  | .fenceDrainEnd => Sys2Proof.Machine.execFenceDrainEnd s
  | .fenceCancelDeadline => Sys2Proof.Machine.execFenceCancelDeadline s
  | .tenantTableWrite tenant value => Sys2Proof.Machine.execTenantTableWrite tenant value s
  | .quotaTableWrite tenant value => Sys2Proof.Machine.execQuotaTableWrite tenant value s
  | .hostTableWrite host value => Sys2Proof.Machine.execHostTableWrite host value s
  | .replayWindowWrite ms => Sys2Proof.Machine.execReplayWindowWrite ms s
  | .moveCopyDone tpn => Sys2Proof.Machine.execMoveCopyDone tpn s
  | .rehomeDisplaced => Sys2Proof.Machine.execRehomeDisplaced s
  | .cleanAddr line => Sys2Proof.Machine.execCleanAddr line s
  | .flushAddr line => Sys2Proof.Machine.execFlushAddr line s
  | .invalidateAddr line => Sys2Proof.Machine.execInvalidateAddr line s
  | .cleanSlice slice => Sys2Proof.Machine.execCleanSlice slice s
  | .flushSlice slice => Sys2Proof.Machine.execFlushSlice slice s
  | .disable slice => Sys2Proof.Machine.execDisable slice s
  | .invalidateSlice slice => Sys2Proof.Machine.execInvalidateSlice slice s
  | .enable slice => Sys2Proof.Machine.execEnable slice s
  | .sliceWalkDone slice => Sys2Proof.Machine.execSliceWalkDone slice s
  | .sliceSramError slice way uncorrectable lost => Sys2Proof.Machine.execSliceSramError slice way uncorrectable lost s
  | .sliceFail slice cause lost => Sys2Proof.Machine.execSliceFail slice cause lost s
  | .dramReadDone channel e => Sys2Proof.Machine.execDramReadDone channel e s
  | .refreshDue channel subrank => Sys2Proof.Machine.execRefreshDue channel subrank s
  | .refreshCatchup channel subrank => Sys2Proof.Machine.execRefreshCatchup channel subrank s
  | .panicRaise channel fixative => Sys2Proof.Machine.execPanicRaise channel fixative s
  | .panicClear channel fixative => Sys2Proof.Machine.execPanicClear channel fixative s
  | .rankIdleTimeout channel rank => Sys2Proof.Machine.execRankIdleTimeout channel rank s
  | .dramTrainingDone channel margin ok preserved => Sys2Proof.Machine.execDramTrainingDone channel margin ok preserved s
  | .trainingDeadline => Sys2Proof.Machine.execTrainingDeadline s
  | .zqCalibrationTick channel => Sys2Proof.Machine.execZqCalibrationTick channel s
  | .dqsOscillatorTick channel drift => Sys2Proof.Machine.execDqsOscillatorTick channel drift s
  | .retrainStart channel temp => Sys2Proof.Machine.execRetrainStart channel temp s
  | .retrainRequest channel => Sys2Proof.Machine.execRetrainRequest channel s
  | .retrainDone channel margin temp failing => Sys2Proof.Machine.execRetrainDone channel margin temp failing s
  | .reserveRebuildDone group => Sys2Proof.Machine.execReserveRebuildDone group s
  | .burnisherScrub channel e => Sys2Proof.Machine.execBurnisherScrub channel e s
  | .nandChannelReady channel ok present => Sys2Proof.Machine.execNandChannelReady channel ok present s
  | .nandReadDone lunit v => Sys2Proof.Machine.execNandReadDone lunit v s
  | .nandProgramDone channel die ok plane => Sys2Proof.Machine.execNandProgramDone channel die ok plane s
  | .nandEraseDone channel die group ok plane => Sys2Proof.Machine.execNandEraseDone channel die group ok plane s
  | .wordlineWaitTimeout channel die => Sys2Proof.Machine.execWordlineWaitTimeout channel die s
  | .mapLogDurable => Sys2Proof.Machine.execMapLogDurable s
  | .checkpointRoundStart => Sys2Proof.Machine.execCheckpointRoundStart s
  | .checkpointRoundDone => Sys2Proof.Machine.execCheckpointRoundDone s
  | .parityPadTimeout stripe => Sys2Proof.Machine.execParityPadTimeout stripe s
  | .tracerVerifyStart channel die group => Sys2Proof.Machine.execTracerVerifyStart channel die group s
  | .tracerVerifyDone channel die group worst failed plane => Sys2Proof.Machine.execTracerVerifyDone channel die group worst failed plane s
  | .tracerPatrol channel die group worst retried => Sys2Proof.Machine.execTracerPatrol channel die group worst retried s
  | .dieRetire channel die cause => Sys2Proof.Machine.execDieRetire channel die cause s
  | .gcStallTimeout => Sys2Proof.Machine.execGcStallTimeout s
  | .journalTick => Sys2Proof.Machine.execJournalTick s
  | .imageEligible tpn => Sys2Proof.Machine.execImageEligible tpn s
  | .journalImageDone tpn ok => Sys2Proof.Machine.execJournalImageDone tpn ok s
  | .budgetWrite profile gib => Sys2Proof.Machine.execBudgetWrite profile gib s
  | .pfailFall cycles => Sys2Proof.Machine.execPfailFall cycles s
  | .quiesceDeadline => Sys2Proof.Machine.execQuiesceDeadline s
  | .dumpSealed duration units => Sys2Proof.Machine.execDumpSealed duration units s
  | .pfailRise => Sys2Proof.Machine.execPfailRise s
  | .holdupEnergyWrite joules => Sys2Proof.Machine.execHoldupEnergyWrite joules s
  | .holdupReportTimeout => Sys2Proof.Machine.execHoldupReportTimeout s
  | .dataFrame h recs => Sys2Proof.Machine.execDataFrame h recs s
  | .ackFrame h => Sys2Proof.Machine.execAckFrame h s
  | .heartbeatFrame h b => Sys2Proof.Machine.execHeartbeatFrame h b s
  | .helloFrame h b => Sys2Proof.Machine.execHelloFrame h b s
  | .writeRecord half => Sys2Proof.Machine.execWriteRecord half s
  | .zeroRecord half => Sys2Proof.Machine.execZeroRecord half s
  | .atomicRecord half => Sys2Proof.Machine.execAtomicRecord half s
  | .copyRecord half => Sys2Proof.Machine.execCopyRecord half s
  | .fetchRecord half readable => Sys2Proof.Machine.execFetchRecord half readable s
  | .fetchDataRecord half => Sys2Proof.Machine.execFetchDataRecord half s
  | .fetchFailRecord half => Sys2Proof.Machine.execFetchFailRecord half s
  | .forwardRecord half => Sys2Proof.Machine.execForwardRecord half s
  | .forwardDoneRecord half => Sys2Proof.Machine.execForwardDoneRecord half s
  | .tableRecord half => Sys2Proof.Machine.execTableRecord half s
  | .tableVerdict half => Sys2Proof.Machine.execTableVerdict half s
  | .fenceMarkRecord half => Sys2Proof.Machine.execFenceMarkRecord half s
  | .fenceConfirmRecord half => Sys2Proof.Machine.execFenceConfirmRecord half s
  | .ownerHandover half => Sys2Proof.Machine.execOwnerHandover half s
  | .ownerConfirm half => Sys2Proof.Machine.execOwnerConfirm half s
  | .ownerRequest half => Sys2Proof.Machine.execOwnerRequest half s
  | .placeStartRecord half => Sys2Proof.Machine.execPlaceStartRecord half s
  | .placeDoneRecord half => Sys2Proof.Machine.execPlaceDoneRecord half s
  | .placeOutcomeRecord half => Sys2Proof.Machine.execPlaceOutcomeRecord half s
  | .qpShadowRecord half => Sys2Proof.Machine.execQpShadowRecord half s
  | .qpFreeRecord half => Sys2Proof.Machine.execQpFreeRecord half s
  | .qpHeldRecord half => Sys2Proof.Machine.execQpHeldRecord half s
  | .replayRecord half => Sys2Proof.Machine.execReplayRecord half s
  | .imageRequestRecord half => Sys2Proof.Machine.execImageRequestRecord half s
  | .imageDoneRecord half => Sys2Proof.Machine.execImageDoneRecord half s
  | .discardUnitRecord half => Sys2Proof.Machine.execDiscardUnitRecord half s
  | .stateBeginRecord half => Sys2Proof.Machine.execStateBeginRecord half s
  | .stateConfirmRecord half => Sys2Proof.Machine.execStateConfirmRecord half s
  | .statePointRecord half => Sys2Proof.Machine.execStatePointRecord half s
  | .claim half => Sys2Proof.Machine.execClaim half s
  | .claimGrant half => Sys2Proof.Machine.execClaimGrant half s
  | .claimRefuse half => Sys2Proof.Machine.execClaimRefuse half s
  | .claimRelease half => Sys2Proof.Machine.execClaimRelease half s
  | .resyncStart half => Sys2Proof.Machine.execResyncStart half s
  | .resyncMarks half => Sys2Proof.Machine.execResyncMarks half s
  | .tablesDone half => Sys2Proof.Machine.execTablesDone half s
  | .sync half => Sys2Proof.Machine.execSync half s
  | .syncAck half => Sys2Proof.Machine.execSyncAck half s
  | .resyncCopyBlock => Sys2Proof.Machine.execResyncCopyBlock s
  | .noticeDrain half => Sys2Proof.Machine.execNoticeDrain half s
  | .noticeKeep half => Sys2Proof.Machine.execNoticeKeep half s
  | .noticeBarred half => Sys2Proof.Machine.execNoticeBarred half s
  | .noticeFailover half => Sys2Proof.Machine.execNoticeFailover half s
  | .failoverReply half => Sys2Proof.Machine.execFailoverReply half s
  | .noticeLoss half => Sys2Proof.Machine.execNoticeLoss half s
  | .frameCloseTimer half => Sys2Proof.Machine.execFrameCloseTimer half s
  | .resendTimeout half => Sys2Proof.Machine.execResendTimeout half s
  | .heartbeatSendTimer half => Sys2Proof.Machine.execHeartbeatSendTimer half s
  | .linkLossTimeout => Sys2Proof.Machine.execLinkLossTimeout s
  | .halfFail half cause => Sys2Proof.Machine.execHalfFail half cause s
  | .halfRetrainTick half => Sys2Proof.Machine.execHalfRetrainTick half s
  | .laneTrainingDone half ok epochWritable => Sys2Proof.Machine.execLaneTrainingDone half ok epochWritable s
  | .noticeDeclareTimeout => Sys2Proof.Machine.execNoticeDeclareTimeout s
  | .twinAnswerTimeout => Sys2Proof.Machine.execTwinAnswerTimeout s
  | .twinPresentChange present => Sys2Proof.Machine.execTwinPresentChange present s
  | .settleTimeout => Sys2Proof.Machine.execSettleTimeout s
  | .budgetShareTick => Sys2Proof.Machine.execBudgetShareTick s
  | .counterLimit epochWritable => Sys2Proof.Machine.execCounterLimit epochWritable s
  | .takeOwnership => Sys2Proof.Machine.execTakeOwnership s
  | .servingInstant => Sys2Proof.Machine.execServingInstant s
  | .mapDirectoryLoaded rebuilt => Sys2Proof.Machine.execMapDirectoryLoaded rebuilt s
  | .dumpIndexed => Sys2Proof.Machine.execDumpIndexed s
  | .restoreOrdersRead => Sys2Proof.Machine.execRestoreOrdersRead s
  | .restorePageDone tpn readable => Sys2Proof.Machine.execRestorePageDone tpn readable s
  | .segmentLoadDone segment => Sys2Proof.Machine.execSegmentLoadDone segment s
  | .orphanReclaim channel die group => Sys2Proof.Machine.execOrphanReclaim channel die group s
  | .traceWindowEnd host => Sys2Proof.Machine.execTraceWindowEnd host s
  | .cut b => Sys2Proof.Machine.execCut b s
  | .stateDelete b => Sys2Proof.Machine.execStateDelete b s
  | .clone b => Sys2Proof.Machine.execClone b s
  | .setRetain b => Sys2Proof.Machine.execSetRetain b s
  | .cutMarksReported => Sys2Proof.Machine.execCutMarksReported s
  | .cutPointsReported ns => Sys2Proof.Machine.execCutPointsReported ns s
  | .stateCaptureDone number tpn ok => Sys2Proof.Machine.execStateCaptureDone number tpn ok s
  | .stateSettle number => Sys2Proof.Machine.execStateSettle number s
  | .stateRetentionExpire number => Sys2Proof.Machine.execStateRetentionExpire number s
  | .clonePageCopy readable => Sys2Proof.Machine.execClonePageCopy readable s
  | .plannedShutdown => Sys2Proof.Machine.execPlannedShutdown s
  | .enterService => Sys2Proof.Machine.execEnterService s
  | .leaveService => Sys2Proof.Machine.execLeaveService s
  | .acceptKeep => Sys2Proof.Machine.execAcceptKeep s
  | .forceKeep => Sys2Proof.Machine.execForceKeep s
  | .forceStandDown => Sys2Proof.Machine.execForceStandDown s
  | .profileWrite profile => Sys2Proof.Machine.execProfileWrite profile s
  | .tempThreshold celsius => Sys2Proof.Machine.execTempThreshold celsius s
  | .tempClearTimeout celsius => Sys2Proof.Machine.execTempClearTimeout celsius s
  | .portFailure port wholeGroup => Sys2Proof.Machine.execPortFailure port wholeGroup s
  | .proxyStopTimer port => Sys2Proof.Machine.execProxyStopTimer port s
  | .keyGenerate slot kind => Sys2Proof.Machine.execKeyGenerate slot kind s
  | .keyImport slot kind => Sys2Proof.Machine.execKeyImport slot kind s
  | .keyErase slot => Sys2Proof.Machine.execKeyErase slot s
  | .keyMigrate slot => Sys2Proof.Machine.execKeyMigrate slot s
  | .keySwap slot => Sys2Proof.Machine.execKeySwap slot s
  | .writeSlotWrite slot => Sys2Proof.Machine.execWriteSlotWrite slot s
  | .cipherMismatch engine second => Sys2Proof.Machine.execCipherMismatch engine second s
  | .ueLockClaim client => Sys2Proof.Machine.execUeLockClaim client s
  | .ueLockRelease client => Sys2Proof.Machine.execUeLockRelease client s
  | .ueLockTimeout => Sys2Proof.Machine.execUeLockTimeout s
  | .firmwareBankWrite bank off data => Sys2Proof.Machine.execFirmwareBankWrite bank off data s
  | .firmwareVerifyDone bank sigOk => Sys2Proof.Machine.execFirmwareVerifyDone bank sigOk s
  | .svnCommit value => Sys2Proof.Machine.execSvnCommit value s
  | .fiethRead channel f => Sys2Proof.Machine.execFiethRead channel f s
  | .fiethWrite channel f => Sys2Proof.Machine.execFiethWrite channel f s
  | .segment channel tag seq data => Sys2Proof.Machine.execSegment channel tag seq data s
  | .fiethAck channel tag next => Sys2Proof.Machine.execFiethAck channel tag next s
  | .fiethAbort channel tag code => Sys2Proof.Machine.execFiethAbort channel tag code s
  | .dictWrite index sub off value => Sys2Proof.Machine.execDictWrite index sub off value s
  | .dupRecordExpire f => Sys2Proof.Machine.execDupRecordExpire f s
  | .transferIdleTimeout channel => Sys2Proof.Machine.execTransferIdleTimeout channel s
  | .fiethHeartbeat => Sys2Proof.Machine.execFiethHeartbeat s
  | .duplicateNode channel ident => Sys2Proof.Machine.execDuplicateNode channel ident s
  | .canBusOff channel => Sys2Proof.Machine.execCanBusOff channel s
  | .canBusOffRecovery channel => Sys2Proof.Machine.execCanBusOffRecovery channel s
  | .canRateWrite channel data code => Sys2Proof.Machine.execCanRateWrite channel data code s
  | .canChannelEnableWrite value => Sys2Proof.Machine.execCanChannelEnableWrite value s
  | .clearStatistics => Sys2Proof.Machine.execClearStatistics s
  | .portConfigWrite port sub value => Sys2Proof.Machine.execPortConfigWrite port sub value s
  | .resetCauseClear mask => Sys2Proof.Machine.execResetCauseClear mask s
  | .coreResetRequest => Sys2Proof.Machine.execCoreResetRequest s
  | .systemResetRequest => Sys2Proof.Machine.execSystemResetRequest s
  | .domainOffRequest domain => Sys2Proof.Machine.execDomainOffRequest domain s
  | .domainOnRequest domain => Sys2Proof.Machine.execDomainOnRequest domain s
  | .presenceCloseWrite => Sys2Proof.Machine.execPresenceCloseWrite s
  | .injectOnce point inst variant => Sys2Proof.Machine.execInjectOnce point inst variant s
  | .injectRepeatedly point inst variant count interval => Sys2Proof.Machine.execInjectRepeatedly point inst variant count interval s
  | .disarmPoint point inst variant => Sys2Proof.Machine.execDisarmPoint point inst variant s
  | .disarmEveryPoint => Sys2Proof.Machine.execDisarmEveryPoint s
  | .injectionInterval point inst variant => Sys2Proof.Machine.execInjectionInterval point inst variant s
  | .presenceOpen => Sys2Proof.Machine.execPresenceOpen s
  | .buttonStuck => Sys2Proof.Machine.execButtonStuck s
  | .buttonReleaseTimeout => Sys2Proof.Machine.execButtonReleaseTimeout s
  | .presenceWindowExpire => Sys2Proof.Machine.execPresenceWindowExpire s
  | .sealLoopOpen loopB => Sys2Proof.Machine.execSealLoopOpen loopB s
  | .svcJmpRemoved => Sys2Proof.Machine.execSvcJmpRemoved s
  | .jtagDebugInstruction code => Sys2Proof.Machine.execJtagDebugInstruction code s
  | .jtagResetRequest => Sys2Proof.Machine.execJtagResetRequest s
  | .jtagBoundaryScan code => Sys2Proof.Machine.execJtagBoundaryScan code s
  | .recordAccept => Sys2Proof.Machine.execRecordAccept s
  | .recorderFlushTick ok => Sys2Proof.Machine.execRecorderFlushTick ok s
  | .recorderLockTimeout => Sys2Proof.Machine.execRecorderLockTimeout s
  | .recorderSealCheck failing => Sys2Proof.Machine.execRecorderSealCheck failing s
  | .pwrgdAssert => Sys2Proof.Machine.execPwrgdAssert s
  | .pwrgdDeassert => Sys2Proof.Machine.execPwrgdDeassert s
  | .porstAssert => Sys2Proof.Machine.execPorstAssert s
  | .powerOnResetEnd node => Sys2Proof.Machine.execPowerOnResetEnd node s
  | .vddAonLow => Sys2Proof.Machine.execVddAonLow s
  | .sysrstAssert => Sys2Proof.Machine.execSysrstAssert s
  | .systemResetWindowEnd => Sys2Proof.Machine.execSystemResetWindowEnd s
  | .systemResetRelease => Sys2Proof.Machine.execSystemResetRelease s
  | .coreResetDrainEnd => Sys2Proof.Machine.execCoreResetDrainEnd s
  | .mccResetRelease bankAok bankBok => Sys2Proof.Machine.execMccResetRelease bankAok bankBok s
  | .mccWatchdogExpiry => Sys2Proof.Machine.execMccWatchdogExpiry s
  | .mccClockLoss => Sys2Proof.Machine.execMccClockLoss s
  | .mccClockReturn => Sys2Proof.Machine.execMccClockReturn s
  | .blockIdleReport block => Sys2Proof.Machine.execBlockIdleReport block s
  | .blockIdleTimeout block => Sys2Proof.Machine.execBlockIdleTimeout block s
  | .blockWatchdogExpiry block => Sys2Proof.Machine.execBlockWatchdogExpiry block s
  | .portGroupRepower group => Sys2Proof.Machine.execPortGroupRepower group s
  | .optionLoadDone o valid lost => Sys2Proof.Machine.execOptionLoadDone o valid lost s
  | .pllLockLost pll => Sys2Proof.Machine.execPllLockLost pll s
  | .clockMonitorWindow status => Sys2Proof.Machine.execClockMonitorWindow status s
  | .railMonitorEvent rail millivolts => Sys2Proof.Machine.execRailMonitorEvent rail millivolts s
  | .portLinkUp port => Sys2Proof.Machine.execPortLinkUp port s
  | .sysrstDeassert => Sys2Proof.Machine.execSysrstDeassert s
  | .hpprProgrammingDone => Sys2Proof.Machine.execHpprProgrammingDone s
  | .firstFormatDone => Sys2Proof.Machine.execFirstFormatDone s
  | .dramWriteDone slice line => Sys2Proof.Machine.execDramWriteDone slice line s
  | .pfcPauseFrame port priorities pause => Sys2Proof.Machine.execPfcPauseFrame port priorities pause s
  | .coreFabricError => Sys2Proof.Machine.execCoreFabricError s
  | .pdMainWatchdogExpiry => Sys2Proof.Machine.execPdMainWatchdogExpiry s

end Sys2Proof.Machine
end

