-- ==== Sys2Proof/Machine/Tick.lean ====
section
/-! DEFINITION. What a millisecond brings when no command waits (R445, R241, 0x701b.06). -/
namespace Sys2Proof.Machine
open Sys2Proof

/-- The time spent in Keep, in whole seconds (0x701b.06). -/
def keepTime (s : State) : State :=
  if s.md.mode ≠ .keep then s
  else if s.md.keepMs + 1 < 1000 then updMode (fun x => { x with keepMs := x.keepMs + 1 }) s
  else bump32 0x701b06 (updMode (fun x => { x with keepMs := 0 }) s)
/-- DESIGN CHOICE: an idle step is one millisecond: the real-time counter counts, a pause that was injected ends, and what the
map log has gathered begins to be written. -/
def tick (s : State) : State :=
  let s1 := { s with rtc := (s.rtc + 1) % 2 ^ 32, ports := s.ports.map (fun p => (p.1, { p.2 with pausing := 0 })) }
  startLogWrite (keepTime s1)

end Sys2Proof.Machine
end

