-- ==== Sys2Proof/Machine/Step.lean ====
section
/-! DEFINITION. The step: the command in front of the queue, or the passing of a millisecond when none waits. -/
namespace Sys2Proof.Machine
open Sys2Proof

/-- Take the command in front and run it with the rest of the queue; with none waiting, time passes. -/
def step (s : State) : Host.Outcome State Fault Refusal :=
  match s.pending with
  | [] => .next (tick s)
  | c :: rest => exec c { s with pending := rest }

/-- The state with the command that a word spells in front of its queue; no word spells one. -/
def State.withFetchWord (s : State) (nbits w : Nat) : State :=
  match decodeTableWord nbits w with
  | some c => { s with pending := c :: s.pending }
  | none => s

end Sys2Proof.Machine
end

