-- ==== Sys2Proof/Machine/Parts.lean ====
section
/-! DEFINITION. Parts of the state, by which the statements say what a command leaves unchanged. -/
namespace Sys2Proof.Machine
open Sys2Proof

/-- A stored entry that configures: only its own write, the loading of factory settings and a reset change it. The other stored entries
count, tell a status or keep a command block. -/
def isConfig (k : Nat) : Bool :=
  (decide (0x108001 ≤ k) && decide (k ≤ 0x108008)) || k = 0x110002 || k = 0x110007 || (decide (0x200000 ≤ k) && decide (k ≤ 0x210003))
    || (decide (0x210201 ≤ k) && decide (k ≤ 0x21020c)) || k = 0x300005 || k = 0x310003 || k = 0x310004
    || (decide (0x310101 ≤ k) && decide (k ≤ 0x31010c)) || k = 0x324004 || k = 0x324005 || k = 0x324007 || k = 0x324008
    || (decide (0x334201 ≤ k) && decide (k ≤ 0x334204)) || k = 0x335001 || k = 0x335003 || k = 0x335004 || k = 0x335005
    || k = 0x340005 || k = 0x340006 || k = 0x34000a || k = 0x340101 || k = 0x340102 || k = 0x340103 || k = 0x340401
    || k = 0x350101 || k = 0x350103 || k = 0x360004 || k = 0x360008 || (decide (0x360100 ≤ k) && decide (k ≤ 0x3601ff))
    || k = 0x370004 || k = 0x400001 || k = 0x510002
/-- A set of parts of the state: its fields, and some of their fields on their own. A set that names such a field names the field of
the state that holds it too. -/
structure Parts where
  /-- The remote-access engine's host side (chapter 3). -/
  host : Bool := false
  /-- Queue pairs (chapter 4). -/
  rc : Bool := false
  /-- The tables, live and durable (R241); its parts below name the live ones. -/
  per : Bool := false
  /-- The region command engine (R137). -/
  eng : Bool := false
  /-- Moves and PLACEs (chapter 6). -/
  tier : Bool := false
  /-- The cache slices (chapter 7). -/
  cs : Bool := false
  /-- The DRAM subsystem (chapter 8). -/
  dram : Bool := false
  /-- The NAND subsystem (chapter 9). -/
  nand : Bool := false
  /-- The Fixative (chapter 10). -/
  fix : Bool := false
  /-- Counterproof (chapter 11). -/
  cp : Bool := false
  /-- Recall (chapter 12). -/
  rec_ : Bool := false
  /-- The State coordinator (chapter 13). -/
  snap : Bool := false
  /-- Modes and faults (chapter 14). -/
  md : Bool := false
  /-- Cipher engines, keys, firmware (chapter 15). -/
  keys : Bool := false
  /-- Fieth (chapter 16). -/
  fieth : Bool := false
  /-- Host ports. -/
  ports : Bool := false
  /-- Presence, seal, injection (chapter 18). -/
  pres : Bool := false
  /-- The recorder (chapter 19). -/
  rmq : Bool := false
  /-- Reset, power, clocks (chapter 20). -/
  rst : Bool := false
  /-- Stored dictionary entries and counters. -/
  dict : Bool := false
  /-- Posted configuration in force (R28). -/
  force : Bool := false
  /-- The real-time counter. -/
  rtc : Bool := false
  /-- How many free values have been drawn. -/
  freeCtr : Bool := false
  /-- What has been sent. -/
  outbox : Bool := false
  /-- The commands waiting. -/
  pending : Bool := false
  /-- Host slots (R75). In `host`. -/
  slots : Bool := false
  /-- The replay table (R78). In `host`. -/
  replay : Bool := false
  /-- The tenant table. In `per`. -/
  tenants : Bool := false
  /-- The host table. In `per`. -/
  hosts : Bool := false
  /-- The region table. In `per`. -/
  regions : Bool := false
  /-- The key table. In `per`. -/
  keyTable : Bool := false
  /-- The quota table. In `per`. -/
  quotas : Bool := false
  /-- The tier directory. In `per`. -/
  dir : Bool := false
  /-- The flash map. In `per`. -/
  fmap : Bool := false
  /-- The block group table. In `per`. -/
  groups : Bool := false
  /-- The journal image index. In `per`. -/
  images : Bool := false
  /-- The States. In `per`. -/
  snaps : Bool := false
  /-- The standing (R317). In `per`. -/
  standing : Bool := false
  /-- What the DRAM frames hold. In `dram`. -/
  mem : Bool := false
  /-- What the NAND units hold. In `nand`. -/
  media : Bool := false
  /-- The dump plates. In `fix`. -/
  plates : Bool := false
  /-- The twin state. In `cp`. -/
  twin : Bool := false
  /-- The epoch fuses burned (R324). In `cp`. -/
  epochFuses : Bool := false
  /-- The incarnation fuses burned (R73). In `cp`. -/
  incFuses : Bool := false
  /-- The operating mode. In `md`. -/
  mode : Bool := false
  /-- The key slots. In `keys`. -/
  keySlots : Bool := false
  /-- The fused security version. In `keys`. -/
  svn : Bool := false
  /-- Whether the presence window is open. In `pres`. -/
  window : Bool := false
  /-- Whether the seal is broken. In `pres`. -/
  sealBroken : Bool := false
  /-- Whether the fuse of the seal is burned. In `pres`. -/
  sealFuse : Bool := false
  /-- The recorder buffer. In `rmq`. -/
  ring : Bool := false
  /-- The node number. In `rst`. -/
  node : Bool := false
  /-- The option table in use. In `rst`. -/
  options : Bool := false
  /-- Where the reset controller stands. In `rst`. -/
  phase : Bool := false
  /-- The stored entries that configure (`isConfig`). In `dict`. -/
  config : Bool := false
  deriving DecidableEq, Repr

/-- Two states agree on every part that a set does not name. -/
structure SameBut (m : Parts) (s t : State) : Prop where
  host : m.host = false → t.host = s.host
  rc : m.rc = false → t.rc = s.rc
  per : m.per = false → t.per = s.per
  eng : m.eng = false → t.eng = s.eng
  tier : m.tier = false → t.tier = s.tier
  cs : m.cs = false → t.cs = s.cs
  dram : m.dram = false → t.dram = s.dram
  nand : m.nand = false → t.nand = s.nand
  fix : m.fix = false → t.fix = s.fix
  cp : m.cp = false → t.cp = s.cp
  rec_ : m.rec_ = false → t.rec_ = s.rec_
  snap : m.snap = false → t.snap = s.snap
  md : m.md = false → t.md = s.md
  keys : m.keys = false → t.keys = s.keys
  fieth : m.fieth = false → t.fieth = s.fieth
  ports : m.ports = false → t.ports = s.ports
  pres : m.pres = false → t.pres = s.pres
  rmq : m.rmq = false → t.rmq = s.rmq
  rst : m.rst = false → t.rst = s.rst
  dict : m.dict = false → t.dict = s.dict
  force : m.force = false → t.force = s.force
  rtc : m.rtc = false → t.rtc = s.rtc
  freeCtr : m.freeCtr = false → t.freeCtr = s.freeCtr
  outbox : m.outbox = false → t.outbox = s.outbox
  pending : m.pending = false → t.pending = s.pending
  slots : m.slots = false → t.host.slots = s.host.slots
  replay : m.replay = false → t.host.replay = s.host.replay
  tenants : m.tenants = false → t.per.live.tenants = s.per.live.tenants
  hosts : m.hosts = false → t.per.live.hosts = s.per.live.hosts
  regions : m.regions = false → t.per.live.regions = s.per.live.regions
  keyTable : m.keyTable = false → t.per.live.keys = s.per.live.keys
  quotas : m.quotas = false → t.per.live.quotas = s.per.live.quotas
  dir : m.dir = false → t.per.live.dir = s.per.live.dir
  fmap : m.fmap = false → t.per.live.fmap = s.per.live.fmap
  groups : m.groups = false → t.per.live.groups = s.per.live.groups
  images : m.images = false → t.per.live.images = s.per.live.images
  snaps : m.snaps = false → t.per.live.snaps = s.per.live.snaps
  standing : m.standing = false → t.per.live.standing = s.per.live.standing
  mem : m.mem = false → t.dram.mem = s.dram.mem
  media : m.media = false → t.nand.mem = s.nand.mem
  plates : m.plates = false → t.fix.plates = s.fix.plates
  twin : m.twin = false → t.cp.twin = s.cp.twin
  epochFuses : m.epochFuses = false → t.cp.burned = s.cp.burned
  incFuses : m.incFuses = false → t.cp.burnedInc = s.cp.burnedInc
  mode : m.mode = false → t.md.mode = s.md.mode
  keySlots : m.keySlots = false → t.keys.slots = s.keys.slots
  svn : m.svn = false → t.keys.fusedSvn = s.keys.fusedSvn
  window : m.window = false → t.pres.windowOpen = s.pres.windowOpen
  sealBroken : m.sealBroken = false → t.pres.broken = s.pres.broken
  sealFuse : m.sealFuse = false → t.pres.fuse = s.pres.fuse
  ring : m.ring = false → t.rmq.ring = s.rmq.ring
  node : m.node = false → t.rst.node = s.rst.node
  options : m.options = false → t.rst.options = s.rst.options
  phase : m.phase = false → t.rst.phase = s.rst.phase
  config : m.config = false → ∀ k, isConfig k = true → dget t k = dget s k

end Sys2Proof.Machine
end

