-- ==== Sys2Proof/Safety.lean ====
section
/-! DEFINITION. What counts as a safe run, in the terms the statements use: completion of a command, the frame of every command, the
rules of the whole machine that every step keeps. -/
namespace Sys2Proof.Machine
open Sys2Proof

/-- A command completes: it answers a next state, of which `post` holds. -/
def Completes (c : Instr) (s : State) (post : State → Prop) : Prop := ∃ t, exec c s = .next t ∧ post t

/-- The parts of the state that a command may change: its frame. A part not named is never changed by it. -/
def touches : Instr → Parts
  | .stippleRead .. | .stippleWrite .. | .stippleAdd .. | .stippleCas .. | .stippleFence .. | .stipplePlace .. |
    .stippleDiscard .. | .readBatch .. =>
      { host := true, per := true, tier := true, cs := true, nand := true, cp := true, rec_ := true, snap := true,
        pres := true, rmq := true, dict := true, freeCtr := true, outbox := true, slots := true, replay := true,
        quotas := true, dir := true }
  | .homeSliceRequest .. =>
      { host := true, per := true, cs := true, dram := true, nand := true, fix := true, cp := true, rec_ := true, snap := true,
        pres := true, rmq := true, rst := true, dict := true, freeCtr := true, quotas := true, dir := true, fmap := true,
        snaps := true, mem := true }
  | .fillReturn .. =>
      { host := true, per := true, cs := true, dram := true, nand := true, fix := true, cp := true, rec_ := true, snap := true,
        rmq := true, dict := true, quotas := true, dir := true, fmap := true, snaps := true, mem := true }
  | .completionRelease .. =>
      { host := true, rc := true, per := true, tier := true, cs := true, nand := true, cp := true, rec_ := true, snap := true,
        ports := true, dict := true, freeCtr := true, outbox := true, slots := true, replay := true, quotas := true, dir := true }
  | .replayEntryExpire .. =>
      { host := true, slots := true, replay := true }
  | .fenceTimeout .. =>
      { host := true, tier := true, cp := true, snap := true, dict := true, freeCtr := true, outbox := true, slots := true,
        replay := true }
  | .configApplyAtIdle .. =>
      { cs := true, dram := true, ports := true, force := true }
  | .rdmaWrite .. | .rdmaReadRequest .. | .compareSwap .. | .fetchAdd .. | .sprayWrite .. | .keepalive .. | .release .. |
    .contextFetchDone .. =>
      { host := true, rc := true, per := true, tier := true, cs := true, nand := true, cp := true, rec_ := true, snap := true,
        ports := true, dict := true, freeCtr := true, outbox := true, quotas := true, dir := true }
  | .cnpReceive .. | .cmRtu .. =>
      { rc := true, dict := true, freeCtr := true }
  | .ackTimer .. | .sprayAckTimer .. | .readResponseSend .. | .cmDreq .. =>
      { rc := true, cp := true, snap := true, dict := true, freeCtr := true, outbox := true }
  | .rateAlphaTick .. | .rateIncreaseTick .. =>
      { rc := true }
  | .cmReq .. | .qpHeldRecord .. =>
      { rc := true, cp := true, dict := true, freeCtr := true, outbox := true }
  | .cmDrep .. =>
      { rc := true, cp := true, dict := true, freeCtr := true }
  | .connectTimeout .. | .drepTimeout .. =>
      { rc := true, cp := true, dict := true }
  | .qpIdleTimeout .. =>
      { rc := true, dict := true, freeCtr := true, outbox := true }
  | .create .. | .delete .. | .resize .. | .issueKey .. | .revokeKey .. | .revokeRegion .. | .setOwner .. |
    .tenantTableWrite .. | .quotaTableWrite .. | .hostTableWrite .. | .tableVerdict .. | .cut .. | .stateDelete .. |
    .clone .. | .setRetain .. =>
      { rc := true, per := true, eng := true, tier := true, cs := true, nand := true, fix := true, cp := true, rec_ := true,
        snap := true, fieth := true, rmq := true, dict := true, freeCtr := true, outbox := true, tenants := true,
        hosts := true, regions := true, keyTable := true, quotas := true, dir := true, fmap := true, images := true,
        snaps := true, config := true }
  | .fencePoint =>
      { host := true, per := true, eng := true, tier := true, cp := true, dict := true, keyTable := true, quotas := true,
        dir := true }
  | .fenceDrainEnd =>
      { per := true, eng := true, tier := true, cs := true, nand := true, fix := true, cp := true, rec_ := true, snap := true,
        rmq := true, dict := true, freeCtr := true, regions := true, keyTable := true, quotas := true, dir := true,
        fmap := true, images := true, snaps := true }
  | .fenceCancelDeadline =>
      { host := true, eng := true, dict := true }
  | .replayWindowWrite .. =>
      { cp := true, fieth := true, dict := true, outbox := true, config := true }
  | .moveCopyDone .. =>
      { per := true, tier := true, cs := true, dram := true, nand := true, fix := true, cp := true, rec_ := true, snap := true,
        rmq := true, dict := true, freeCtr := true, quotas := true, dir := true, fmap := true, groups := true, images := true,
        snaps := true, mem := true, media := true }
  | .rehomeDisplaced =>
      { per := true, tier := true, cs := true, nand := true, cp := true, rec_ := true, snap := true, fieth := true,
        dict := true, freeCtr := true, outbox := true, quotas := true, dir := true }
  | .cleanAddr .. | .flushAddr .. | .invalidateAddr .. =>
      { cs := true, nand := true, fieth := true, dict := true, outbox := true }
  | .cleanSlice .. | .flushSlice .. | .disable .. | .invalidateSlice .. | .enable .. =>
      { cs := true, fieth := true, dict := true, outbox := true }
  | .sliceWalkDone .. =>
      { cs := true, nand := true, dict := true }
  | .sliceSramError .. | .sliceFail .. =>
      { per := true, cs := true, nand := true, cp := true, pres := true, rmq := true, rst := true, dict := true,
        freeCtr := true, dir := true }
  | .dramReadDone .. | .burnisherScrub .. =>
      { per := true, tier := true, cs := true, dram := true, nand := true, cp := true, rec_ := true, snap := true,
        pres := true, rmq := true, dict := true, freeCtr := true, quotas := true, dir := true, mem := true }
  | .refreshDue .. | .panicRaise .. | .retrainStart .. | .hpprProgrammingDone =>
      { dram := true, dict := true }
  | .refreshCatchup .. | .panicClear .. | .rankIdleTimeout .. | .zqCalibrationTick .. | .dqsOscillatorTick .. |
    .reserveRebuildDone .. =>
      { dram := true }
  | .dramTrainingDone .. =>
      { dram := true, rec_ := true }
  | .trainingDeadline | .retrainDone .. =>
      { per := true, tier := true, cs := true, dram := true, nand := true, cp := true, rec_ := true, snap := true, md := true,
        pres := true, rmq := true, rst := true, dict := true, freeCtr := true, quotas := true, dir := true }
  | .retrainRequest .. =>
      { dram := true, fieth := true, dict := true, outbox := true }
  | .nandChannelReady .. =>
      { per := true, tier := true, cs := true, nand := true, cp := true, rec_ := true, snap := true, md := true, pres := true,
        rmq := true, rst := true, dict := true, freeCtr := true, quotas := true, dir := true, fmap := true, groups := true,
        media := true, twin := true, mode := true }
  | .nandReadDone .. =>
      { host := true, per := true, tier := true, cs := true, nand := true, fix := true, cp := true, snap := true, md := true,
        keys := true, pres := true, rmq := true, rst := true, dict := true, freeCtr := true, outbox := true, quotas := true,
        dir := true, fmap := true, groups := true, images := true, snaps := true, media := true, mode := true, phase := true }
  | .nandProgramDone .. =>
      { per := true, tier := true, cs := true, nand := true, fix := true, cp := true, rec_ := true, snap := true, md := true,
        keys := true, pres := true, rmq := true, rst := true, dict := true, freeCtr := true, outbox := true, quotas := true,
        dir := true, fmap := true, groups := true, images := true, snaps := true, media := true, twin := true, mode := true,
        phase := true }
  | .nandEraseDone .. | .tracerVerifyDone .. =>
      { per := true, tier := true, cs := true, nand := true, fix := true, cp := true, rec_ := true, snap := true, md := true,
        pres := true, rmq := true, dict := true, freeCtr := true, quotas := true, dir := true, fmap := true, groups := true,
        images := true, snaps := true, media := true, plates := true, twin := true, mode := true }
  | .wordlineWaitTimeout .. | .tracerVerifyStart .. =>
      { nand := true }
  | .mapLogDurable =>
      { per := true, nand := true, cp := true, md := true, keys := true, pres := true, rmq := true, dict := true,
        freeCtr := true, fmap := true, groups := true, images := true, snaps := true, media := true, twin := true, mode := true }
  | .checkpointRoundStart =>
      { per := true }
  | .checkpointRoundDone =>
      { per := true, dict := true }
  | .parityPadTimeout .. =>
      { per := true, nand := true, dict := true, freeCtr := true, fmap := true, groups := true, media := true }
  | .tracerPatrol .. =>
      { per := true, nand := true, dict := true, freeCtr := true, fmap := true, groups := true, images := true, snaps := true,
        media := true }
  | .dieRetire .. =>
      { per := true, tier := true, cs := true, nand := true, cp := true, rec_ := true, snap := true, md := true, pres := true,
        rmq := true, dict := true, freeCtr := true, quotas := true, dir := true, fmap := true, groups := true, media := true,
        twin := true, mode := true }
  | .gcStallTimeout =>
      { md := true }
  | .journalTick | .journalImageDone .. =>
      { per := true, tier := true, cs := true, nand := true, fix := true, cp := true, rec_ := true, snap := true, md := true,
        pres := true, rmq := true, dict := true, freeCtr := true, quotas := true, dir := true, fmap := true, groups := true,
        images := true, snaps := true, media := true, plates := true, mode := true }
  | .imageEligible .. | .stateSettle .. =>
      { fix := true, rec_ := true, snap := true }
  | .budgetWrite .. | .profileWrite .. =>
      { per := true, nand := true, cp := true, md := true, fieth := true, pres := true, rmq := true, dict := true,
        freeCtr := true, outbox := true, fmap := true, groups := true, media := true, twin := true, mode := true, config := true }
  | .pfailFall .. =>
      { per := true, tier := true, nand := true, fix := true, cp := true, snap := true, md := true, pres := true, rmq := true,
        rst := true, dict := true, freeCtr := true, quotas := true, dir := true, fmap := true, groups := true, snaps := true,
        media := true, mode := true, phase := true }
  | .quiesceDeadline =>
      { host := true, per := true, tier := true, cs := true, nand := true, fix := true, cp := true, rec_ := true, md := true,
        pres := true, rmq := true, dict := true, freeCtr := true, dir := true, fmap := true, groups := true, standing := true,
        media := true, mode := true }
  | .dumpSealed .. =>
      { per := true, fix := true, rec_ := true, rmq := true, rst := true, dict := true, plates := true, phase := true }
  | .pfailRise | .jtagResetRequest | .sysrstAssert =>
      { rec_ := true, rst := true, phase := true }
  | .holdupEnergyWrite .. =>
      { per := true, nand := true, fix := true, cp := true, md := true, fieth := true, pres := true, rmq := true, dict := true,
        freeCtr := true, outbox := true, fmap := true, groups := true, media := true, twin := true, mode := true, config := true }
  | .holdupReportTimeout =>
      { per := true, nand := true, fix := true, cp := true, md := true, pres := true, rmq := true, dict := true,
        freeCtr := true, fmap := true, groups := true, media := true, twin := true, mode := true }
  | .dataFrame .. | .frameCloseTimer .. =>
      { host := true, rc := true, per := true, eng := true, tier := true, cs := true, dram := true, nand := true, fix := true,
        cp := true, rec_ := true, snap := true, md := true, keys := true, fieth := true, pres := true, rmq := true,
        rst := true, dict := true, freeCtr := true, outbox := true, tenants := true, hosts := true, regions := true,
        keyTable := true, quotas := true, dir := true, fmap := true, groups := true, images := true, snaps := true,
        standing := true, mem := true, media := true, plates := true, twin := true, mode := true, phase := true, config := true }
  | .ackFrame .. | .heartbeatFrame .. | .fetchRecord .. | .resyncStart .. | .tablesDone .. | .failoverReply .. |
    .resendTimeout .. =>
      { cp := true, dict := true, outbox := true }
  | .helloFrame .. =>
      { host := true, per := true, eng := true, tier := true, cs := true, nand := true, fix := true, cp := true, rec_ := true,
        snap := true, md := true, fieth := true, pres := true, rmq := true, rst := true, dict := true, freeCtr := true,
        outbox := true, tenants := true, hosts := true, regions := true, keyTable := true, quotas := true, dir := true,
        fmap := true, groups := true, images := true, snaps := true, standing := true, media := true, twin := true,
        mode := true, phase := true }
  | .writeRecord .. =>
      { rc := true, per := true, cs := true, dram := true, nand := true, fix := true, cp := true, rec_ := true, snap := true,
        rmq := true, dict := true, outbox := true, quotas := true, dir := true, snaps := true, mem := true }
  | .zeroRecord .. | .copyRecord .. =>
      { per := true, cs := true, dram := true, nand := true, fix := true, cp := true, rec_ := true, snap := true, rmq := true,
        dict := true, outbox := true, quotas := true, dir := true, snaps := true, mem := true }
  | .atomicRecord .. =>
      { host := true, rc := true, per := true, cs := true, dram := true, nand := true, fix := true, cp := true, rec_ := true,
        snap := true, rmq := true, dict := true, outbox := true, replay := true, quotas := true, dir := true, snaps := true,
        mem := true }
  | .fetchDataRecord .. =>
      { per := true, tier := true, cs := true, dram := true, nand := true, fix := true, cp := true, rec_ := true, snap := true,
        md := true, pres := true, rmq := true, dict := true, freeCtr := true, outbox := true, quotas := true, dir := true,
        fmap := true, groups := true, images := true, snaps := true, mem := true, media := true, plates := true, mode := true }
  | .fetchFailRecord .. =>
      { host := true, per := true, tier := true, cs := true, dram := true, nand := true, fix := true, cp := true, rec_ := true,
        snap := true, md := true, pres := true, rmq := true, dict := true, freeCtr := true, outbox := true, quotas := true,
        dir := true, fmap := true, groups := true, mem := true, media := true, plates := true, mode := true }
  | .forwardRecord .. =>
      { host := true, per := true, tier := true, cs := true, nand := true, cp := true, rec_ := true, snap := true,
        dict := true, freeCtr := true, outbox := true, replay := true, quotas := true, dir := true }
  | .forwardDoneRecord .. =>
      { host := true, cp := true, dict := true, outbox := true }
  | .tableRecord .. =>
      { rc := true, per := true, tier := true, cs := true, nand := true, fix := true, cp := true, rec_ := true, snap := true,
        rmq := true, dict := true, freeCtr := true, outbox := true, tenants := true, hosts := true, regions := true,
        keyTable := true, quotas := true, dir := true, fmap := true, images := true, snaps := true, config := true }
  | .fenceMarkRecord .. =>
      { per := true, eng := true, cp := true, dict := true, outbox := true, regions := true, keyTable := true }
  | .fenceConfirmRecord .. =>
      { per := true, eng := true, tier := true, cs := true, nand := true, fix := true, cp := true, rec_ := true, snap := true,
        rmq := true, dict := true, freeCtr := true, outbox := true, regions := true, keyTable := true, quotas := true,
        dir := true, fmap := true, images := true, snaps := true }
  | .ownerHandover .. =>
      { per := true, eng := true, cp := true, dict := true, outbox := true, regions := true }
  | .ownerConfirm .. =>
      { host := true, per := true, eng := true, tier := true, cs := true, nand := true, cp := true, rec_ := true, snap := true,
        dict := true, freeCtr := true, outbox := true, regions := true, quotas := true, dir := true }
  | .ownerRequest .. | .claim .. =>
      { eng := true, cp := true, dict := true, outbox := true }
  | .placeStartRecord .. =>
      { per := true, tier := true, cs := true, nand := true, cp := true, rec_ := true, snap := true, dict := true,
        freeCtr := true, outbox := true, quotas := true, dir := true }
  | .placeDoneRecord .. =>
      { per := true, tier := true, cp := true, dict := true, outbox := true, quotas := true, dir := true }
  | .placeOutcomeRecord .. =>
      { host := true, per := true, tier := true, cp := true, dict := true, outbox := true, replay := true, quotas := true,
        dir := true }
  | .qpShadowRecord .. | .qpFreeRecord .. =>
      { rc := true, cp := true, dict := true, outbox := true }
  | .replayRecord .. =>
      { host := true, cp := true, dict := true, outbox := true, replay := true }
  | .imageRequestRecord .. =>
      { fix := true, cp := true, rec_ := true, snap := true, dict := true, outbox := true }
  | .imageDoneRecord .. =>
      { per := true, tier := true, cs := true, nand := true, fix := true, cp := true, rec_ := true, snap := true, md := true,
        pres := true, rmq := true, dict := true, freeCtr := true, outbox := true, quotas := true, dir := true, fmap := true,
        groups := true, images := true, snaps := true, media := true, plates := true, mode := true }
  | .discardUnitRecord .. =>
      { per := true, nand := true, cp := true, dict := true, outbox := true, dir := true, fmap := true }
  | .stateBeginRecord .. =>
      { cp := true, snap := true, dict := true, outbox := true }
  | .stateConfirmRecord .. =>
      { per := true, eng := true, cp := true, snap := true, dict := true, freeCtr := true, outbox := true, dir := true,
        snaps := true }
  | .statePointRecord .. =>
      { per := true, cp := true, snap := true, dict := true, outbox := true, dir := true, snaps := true }
  | .claimGrant .. =>
      { rc := true, per := true, eng := true, tier := true, cs := true, nand := true, fix := true, cp := true, rec_ := true,
        snap := true, rmq := true, dict := true, freeCtr := true, outbox := true, tenants := true, hosts := true,
        regions := true, keyTable := true, quotas := true, dir := true, fmap := true, images := true, snaps := true,
        config := true }
  | .claimRefuse .. =>
      { eng := true, cp := true, snap := true, dict := true, outbox := true }
  | .claimRelease .. | .cutPointsReported .. =>
      { per := true, eng := true, cp := true, snap := true, dict := true, freeCtr := true, outbox := true, snaps := true }
  | .resyncMarks .. =>
      { per := true, tier := true, cs := true, nand := true, fix := true, cp := true, rec_ := true, snap := true, rmq := true,
        dict := true, outbox := true, quotas := true, dir := true, fmap := true, images := true, snaps := true }
  | .sync .. | .syncAck .. =>
      { per := true, nand := true, cp := true, md := true, pres := true, rmq := true, dict := true, freeCtr := true,
        outbox := true, fmap := true, groups := true, standing := true, media := true, twin := true, mode := true }
  | .resyncCopyBlock =>
      { cp := true, rec_ := true, snap := true, dict := true }
  | .noticeDrain .. | .noticeKeep .. | .noticeBarred .. | .noticeLoss .. | .linkLossTimeout | .halfFail .. |
    .noticeDeclareTimeout | .twinAnswerTimeout =>
      { host := true, rc := true, per := true, eng := true, tier := true, cs := true, dram := true, nand := true, fix := true,
        cp := true, rec_ := true, snap := true, md := true, fieth := true, pres := true, rmq := true, rst := true,
        dict := true, freeCtr := true, outbox := true, tenants := true, hosts := true, regions := true, keyTable := true,
        quotas := true, dir := true, fmap := true, groups := true, images := true, snaps := true, standing := true,
        mem := true, media := true, plates := true, twin := true, mode := true, phase := true, config := true }
  | .noticeFailover .. =>
      { cp := true, pres := true, rmq := true, rst := true, dict := true, outbox := true }
  | .heartbeatSendTimer .. =>
      { cp := true, outbox := true }
  | .halfRetrainTick .. =>
      { cp := true, rst := true }
  | .laneTrainingDone .. =>
      { cp := true, pres := true, rmq := true, rst := true, dict := true, freeCtr := true, outbox := true, twin := true,
        epochFuses := true }
  | .twinPresentChange .. =>
      { host := true, rc := true, per := true, eng := true, tier := true, cs := true, dram := true, nand := true, fix := true,
        cp := true, rec_ := true, snap := true, md := true, fieth := true, pres := true, rmq := true, rst := true,
        dict := true, freeCtr := true, outbox := true, tenants := true, hosts := true, regions := true, keyTable := true,
        quotas := true, dir := true, fmap := true, groups := true, images := true, snaps := true, standing := true,
        mem := true, media := true, plates := true, twin := true, mode := true, config := true }
  | .settleTimeout =>
      { cp := true, rmq := true }
  | .budgetShareTick =>
      { cp := true, freeCtr := true }
  | .counterLimit .. =>
      { host := true, rc := true, per := true, eng := true, tier := true, cs := true, dram := true, nand := true, fix := true,
        cp := true, rec_ := true, snap := true, md := true, fieth := true, pres := true, rmq := true, rst := true,
        dict := true, freeCtr := true, outbox := true, tenants := true, hosts := true, regions := true, keyTable := true,
        quotas := true, dir := true, fmap := true, groups := true, images := true, snaps := true, standing := true,
        mem := true, media := true, plates := true, twin := true, epochFuses := true, mode := true, phase := true,
        config := true }
  | .takeOwnership | .servingInstant =>
      { host := true, rc := true, per := true, eng := true, tier := true, cs := true, dram := true, nand := true, fix := true,
        cp := true, rec_ := true, snap := true, md := true, fieth := true, pres := true, rmq := true, dict := true,
        freeCtr := true, outbox := true, tenants := true, hosts := true, regions := true, keyTable := true, quotas := true,
        dir := true, fmap := true, groups := true, images := true, snaps := true, standing := true, mem := true, media := true,
        plates := true, twin := true, mode := true, config := true }
  | .mapDirectoryLoaded .. =>
      { per := true, eng := true, tier := true, cs := true, nand := true, fix := true, cp := true, rec_ := true, snap := true,
        md := true, rmq := true, dict := true, freeCtr := true, tenants := true, hosts := true, regions := true,
        keyTable := true, quotas := true, dir := true, fmap := true, groups := true, images := true, snaps := true,
        standing := true }
  | .dumpIndexed =>
      { per := true, cs := true, dram := true, nand := true, fix := true, rec_ := true, md := true, pres := true, rmq := true,
        dict := true, freeCtr := true, dir := true, fmap := true, groups := true, mem := true, media := true, plates := true,
        mode := true, ring := true }
  | .restoreOrdersRead =>
      { host := true, per := true, tier := true, cs := true, dram := true, nand := true, fix := true, cp := true, rec_ := true,
        snap := true, md := true, pres := true, rmq := true, dict := true, freeCtr := true, quotas := true, dir := true,
        fmap := true, groups := true, mem := true, media := true, plates := true, mode := true }
  | .restorePageDone .. =>
      { per := true, tier := true, cs := true, dram := true, nand := true, fix := true, cp := true, rec_ := true, snap := true,
        md := true, pres := true, rmq := true, dict := true, freeCtr := true, quotas := true, dir := true, fmap := true,
        groups := true, images := true, snaps := true, mem := true, media := true, plates := true, mode := true }
  | .segmentLoadDone .. =>
      { rec_ := true, dict := true }
  | .orphanReclaim .. =>
      { per := true, nand := true, cp := true, rec_ := true, md := true, pres := true, rmq := true, dict := true,
        freeCtr := true, fmap := true, groups := true, media := true, twin := true, mode := true }
  | .traceWindowEnd .. =>
      { host := true, per := true, tier := true, cs := true, nand := true, cp := true, rec_ := true, snap := true,
        dict := true, freeCtr := true, quotas := true, dir := true }
  | .cutMarksReported =>
      { per := true, cp := true, snap := true, dict := true, dir := true, snaps := true }
  | .stateCaptureDone .. =>
      { per := true, nand := true, fix := true, cp := true, snap := true, dict := true, freeCtr := true, quotas := true,
        fmap := true, groups := true, images := true, snaps := true, media := true }
  | .stateRetentionExpire .. =>
      { per := true, snap := true, quotas := true, dir := true, snaps := true }
  | .clonePageCopy .. =>
      { per := true, dram := true, nand := true, fix := true, cp := true, snap := true, rmq := true, dict := true,
        quotas := true, dir := true, snaps := true, mem := true }
  | .plannedShutdown =>
      { per := true, tier := true, nand := true, fix := true, cp := true, snap := true, md := true, fieth := true,
        pres := true, rmq := true, rst := true, dict := true, freeCtr := true, outbox := true, quotas := true, dir := true,
        fmap := true, groups := true, snaps := true, media := true, mode := true, phase := true }
  | .enterService | .leaveService =>
      { per := true, nand := true, md := true, fieth := true, pres := true, rmq := true, dict := true, freeCtr := true,
        outbox := true, fmap := true, groups := true, media := true, mode := true }
  | .acceptKeep =>
      { per := true, nand := true, cp := true, md := true, fieth := true, pres := true, rmq := true, dict := true,
        freeCtr := true, outbox := true, fmap := true, groups := true, media := true, twin := true, mode := true }
  | .forceKeep =>
      { md := true, fieth := true, dict := true, outbox := true }
  | .forceStandDown =>
      { host := true, per := true, eng := true, tier := true, nand := true, fix := true, cp := true, snap := true, md := true,
        fieth := true, pres := true, rmq := true, rst := true, dict := true, freeCtr := true, outbox := true, quotas := true,
        dir := true, fmap := true, groups := true, snaps := true, standing := true, media := true, twin := true, mode := true,
        phase := true }
  | .tempThreshold .. | .coreFabricError | .pdMainWatchdogExpiry =>
      { per := true, tier := true, nand := true, fix := true, cp := true, snap := true, md := true, pres := true, rmq := true,
        rst := true, dict := true, freeCtr := true, outbox := true, quotas := true, dir := true, fmap := true, groups := true,
        snaps := true, media := true, mode := true, phase := true }
  | .tempClearTimeout .. | .svcJmpRemoved =>
      { per := true, nand := true, cp := true, md := true, pres := true, rmq := true, dict := true, freeCtr := true,
        fmap := true, groups := true, media := true, twin := true, mode := true }
  | .portFailure .. =>
      { host := true, rc := true, md := true, ports := true, pres := true, rmq := true, rst := true, dict := true,
        freeCtr := true }
  | .proxyStopTimer .. =>
      { md := true, ports := true }
  | .keyGenerate .. =>
      { keys := true, fieth := true, dict := true, freeCtr := true, outbox := true }
  | .keyImport .. | .firmwareBankWrite .. =>
      { keys := true, fieth := true, dict := true, outbox := true }
  | .keyErase .. =>
      { keys := true, fieth := true, dict := true, outbox := true, keySlots := true }
  | .keyMigrate .. =>
      { per := true, nand := true, cp := true, md := true, keys := true, fieth := true, pres := true, rmq := true,
        dict := true, freeCtr := true, outbox := true, fmap := true, groups := true, images := true, snaps := true,
        media := true, twin := true, mode := true }
  | .keySwap .. =>
      { keys := true, dict := true, keySlots := true }
  | .writeSlotWrite .. | .canRateWrite .. | .canChannelEnableWrite .. | .clearStatistics | .portConfigWrite .. =>
      { fieth := true, dict := true, outbox := true, config := true }
  | .cipherMismatch .. =>
      { host := true, rc := true, per := true, eng := true, tier := true, cs := true, dram := true, nand := true, fix := true,
        cp := true, rec_ := true, snap := true, md := true, keys := true, fieth := true, pres := true, rmq := true,
        rst := true, dict := true, freeCtr := true, outbox := true, tenants := true, hosts := true, regions := true,
        keyTable := true, quotas := true, dir := true, fmap := true, groups := true, images := true, snaps := true,
        standing := true, mem := true, media := true, plates := true, twin := true, mode := true, ring := true, phase := true,
        config := true }
  | .ueLockClaim .. =>
      { keys := true }
  | .ueLockRelease .. =>
      { keys := true, fieth := true, pres := true, rmq := true, dict := true, freeCtr := true, outbox := true,
        keySlots := true, ring := true }
  | .ueLockTimeout | .recordAccept | .recorderLockTimeout =>
      { keys := true, fieth := true, rmq := true, dict := true, freeCtr := true, outbox := true, ring := true }
  | .firmwareVerifyDone .. =>
      { keys := true, rmq := true }
  | .svnCommit .. =>
      { keys := true, fieth := true, dict := true, outbox := true, svn := true }
  | .fiethRead .. | .fiethWrite .. | .segment .. | .dictWrite .. =>
      { host := true, rc := true, per := true, eng := true, tier := true, cs := true, dram := true, nand := true, fix := true,
        cp := true, rec_ := true, snap := true, md := true, keys := true, fieth := true, ports := true, pres := true,
        rmq := true, rst := true, dict := true, force := true, freeCtr := true, outbox := true, tenants := true, hosts := true,
        regions := true, keyTable := true, quotas := true, dir := true, fmap := true, groups := true, images := true,
        snaps := true, standing := true, mem := true, media := true, plates := true, twin := true, mode := true,
        keySlots := true, svn := true, window := true, phase := true, config := true }
  | .fiethAck .. | .transferIdleTimeout .. =>
      { fieth := true, dict := true, outbox := true }
  | .fiethAbort .. | .dupRecordExpire .. | .canBusOffRecovery .. =>
      { fieth := true }
  | .fiethHeartbeat =>
      { fieth := true, outbox := true }
  | .duplicateNode .. =>
      { fieth := true, rmq := true, dict := true }
  | .canBusOff .. =>
      { fieth := true, dict := true }
  | .resetCauseClear .. | .coreResetRequest =>
      { fieth := true, rst := true, dict := true, outbox := true }
  | .systemResetRequest =>
      { rec_ := true, fieth := true, rst := true, dict := true, outbox := true, phase := true }
  | .domainOffRequest .. | .domainOnRequest .. =>
      { host := true, rc := true, per := true, eng := true, tier := true, cs := true, dram := true, nand := true, fix := true,
        cp := true, rec_ := true, snap := true, md := true, fieth := true, ports := true, pres := true, rmq := true,
        rst := true, dict := true, force := true, freeCtr := true, outbox := true, tenants := true, hosts := true,
        regions := true, keyTable := true, quotas := true, dir := true, fmap := true, groups := true, images := true,
        snaps := true, standing := true, mem := true, media := true, plates := true, twin := true, mode := true, phase := true,
        config := true }
  | .presenceCloseWrite =>
      { fieth := true, pres := true, rmq := true, dict := true, outbox := true, window := true }
  | .injectOnce .. | .injectRepeatedly .. | .injectionInterval .. | .pllLockLost .. | .clockMonitorWindow .. =>
      { host := true, rc := true, per := true, eng := true, tier := true, cs := true, dram := true, nand := true, fix := true,
        cp := true, rec_ := true, snap := true, md := true, fieth := true, ports := true, pres := true, rmq := true,
        rst := true, dict := true, freeCtr := true, outbox := true, tenants := true, hosts := true, regions := true,
        keyTable := true, quotas := true, dir := true, fmap := true, groups := true, images := true, snaps := true,
        standing := true, mem := true, media := true, plates := true, twin := true, mode := true, phase := true, config := true }
  | .disarmPoint .. | .disarmEveryPoint =>
      { fieth := true, pres := true, rmq := true, dict := true, outbox := true }
  | .presenceOpen =>
      { pres := true, rmq := true, dict := true, window := true }
  | .buttonStuck =>
      { pres := true, rmq := true }
  | .buttonReleaseTimeout | .jtagDebugInstruction .. | .jtagBoundaryScan .. =>
      { pres := true }
  | .presenceWindowExpire =>
      { pres := true, rmq := true, window := true }
  | .sealLoopOpen .. =>
      { pres := true, rmq := true, dict := true, freeCtr := true, sealBroken := true, sealFuse := true }
  | .recorderFlushTick .. =>
      { md := true, keys := true, fieth := true, rmq := true, dict := true, freeCtr := true, outbox := true, ring := true }
  | .recorderSealCheck .. =>
      { rmq := true, dict := true }
  | .pwrgdAssert =>
      { rst := true, phase := true }
  | .pwrgdDeassert | .porstAssert =>
      { host := true, rc := true, per := true, eng := true, tier := true, cs := true, dram := true, nand := true, fix := true,
        cp := true, rec_ := true, snap := true, md := true, keys := true, fieth := true, ports := true, pres := true,
        rmq := true, rst := true, dict := true, force := true, outbox := true, slots := true, replay := true, tenants := true,
        hosts := true, regions := true, keyTable := true, quotas := true, dir := true, fmap := true, groups := true,
        images := true, snaps := true, standing := true, mem := true, twin := true, keySlots := true, window := true,
        ring := true, phase := true, config := true }
  | .powerOnResetEnd .. =>
      { per := true, dram := true, nand := true, cp := true, md := true, fieth := true, pres := true, rmq := true, rst := true,
        dict := true, freeCtr := true, fmap := true, groups := true, media := true, incFuses := true, mode := true,
        sealBroken := true, sealFuse := true, node := true, phase := true }
  | .vddAonLow =>
      { host := true, rc := true, per := true, eng := true, tier := true, cs := true, dram := true, nand := true, fix := true,
        cp := true, rec_ := true, snap := true, md := true, keys := true, fieth := true, ports := true, pres := true,
        rmq := true, rst := true, dict := true, force := true, rtc := true, outbox := true, slots := true, replay := true,
        tenants := true, hosts := true, regions := true, keyTable := true, quotas := true, dir := true, fmap := true,
        groups := true, images := true, snaps := true, standing := true, mem := true, twin := true, keySlots := true,
        window := true, ring := true, phase := true, config := true }
  | .systemResetWindowEnd =>
      { host := true, rc := true, per := true, eng := true, tier := true, cs := true, dram := true, nand := true, fix := true,
        cp := true, rec_ := true, snap := true, md := true, keys := true, fieth := true, ports := true, pres := true,
        rmq := true, rst := true, dict := true, force := true, outbox := true, slots := true, replay := true, dir := true,
        mem := true, twin := true, keySlots := true, ring := true, phase := true, config := true }
  | .systemResetRelease | .sysrstDeassert =>
      { per := true, nand := true, cp := true, md := true, pres := true, rmq := true, rst := true, dict := true,
        freeCtr := true, fmap := true, groups := true, media := true, incFuses := true, mode := true, phase := true }
  | .coreResetDrainEnd =>
      { cs := true, keys := true, fieth := true, rst := true, dict := true, config := true }
  | .mccResetRelease .. =>
      { keys := true, fieth := true, rmq := true }
  | .mccWatchdogExpiry | .mccClockReturn =>
      { rst := true }
  | .mccClockLoss =>
      { fieth := true, rst := true }
  | .blockIdleReport .. =>
      { per := true, cs := true, dram := true, nand := true, rec_ := true, rst := true, dir := true, mem := true }
  | .blockIdleTimeout .. =>
      { rc := true, dram := true, rec_ := true, rst := true }
  | .blockWatchdogExpiry .. =>
      { host := true, rc := true, per := true, tier := true, cs := true, dram := true, nand := true, cp := true, rec_ := true,
        snap := true, md := true, ports := true, pres := true, rmq := true, rst := true, dict := true, freeCtr := true,
        quotas := true, dir := true }
  | .portGroupRepower .. =>
      { ports := true, rst := true }
  | .optionLoadDone .. =>
      { per := true, cs := true, dram := true, nand := true, cp := true, md := true, keys := true, fieth := true,
        ports := true, pres := true, rmq := true, rst := true, dict := true, force := true, freeCtr := true, outbox := true,
        fmap := true, groups := true, media := true, twin := true, mode := true, keySlots := true, sealFuse := true,
        options := true, phase := true, config := true }
  | .railMonitorEvent .. =>
      { host := true, rc := true, per := true, eng := true, tier := true, cs := true, dram := true, nand := true, fix := true,
        cp := true, rec_ := true, snap := true, md := true, keys := true, fieth := true, ports := true, pres := true,
        rmq := true, rst := true, dict := true, force := true, rtc := true, freeCtr := true, outbox := true, slots := true,
        replay := true, tenants := true, hosts := true, regions := true, keyTable := true, quotas := true, dir := true,
        fmap := true, groups := true, images := true, snaps := true, standing := true, mem := true, media := true,
        twin := true, mode := true, keySlots := true, window := true, ring := true, phase := true, config := true }
  | .portLinkUp .. =>
      { ports := true }
  | .firstFormatDone =>
      { host := true, rc := true, per := true, eng := true, tier := true, cs := true, dram := true, nand := true, fix := true,
        cp := true, rec_ := true, snap := true, md := true, keys := true, fieth := true, pres := true, rmq := true,
        dict := true, freeCtr := true, outbox := true, tenants := true, hosts := true, regions := true, keyTable := true,
        quotas := true, dir := true, fmap := true, groups := true, images := true, snaps := true, standing := true,
        mem := true, media := true, plates := true, twin := true, mode := true, keySlots := true, config := true }
  | .dramWriteDone .. =>
      { per := true, cs := true, dram := true, nand := true, dict := true, dir := true, mem := true }
  | .pfcPauseFrame .. =>
      { ports := true, dict := true }

/-! ## Words of the statements -/

/-- Writers of the dictionary are answered: the MCC runs its firmware (R411, R436, R466). -/
abbrev Serves (s : State) : Prop := fiethSilent s = false ∧ s.fieth.boot = false
/-- The dictionary is answered in Service. -/
abbrev ServesInService (s : State) : Prop := Serves s ∧ s.md.mode = .service
/-- The dictionary is answered in Service, with the presence window open. -/
abbrev ServesPresent (s : State) : Prop := ServesInService s ∧ s.pres.windowOpen = true
/-- The source of a record has credit left (R472): fewer than four of its records wait. -/
abbrev HasCredit (s : State) (type inst : Nat) : Prop := (s.rmq.waiting.filter (fun d => d.source = type * 65536 + inst)).length < 4
/-- From `s` to `t` a record was posted, unless its source had no credit left (R472). -/
def Posted (s t : State) (type sev inst : Nat) (detail : Bytes) : Prop :=
  HasCredit s type inst → ∃ d ∈ t.rmq.waiting, d.type = type ∧ d.sev = sev ∧ d.inst = inst ∧ d.detail = detail ∧ d.time = s.rtc
/-- A key command is taken (R402, Table 15.5): the dictionary answers, the presence window is open, no command runs, and the mode is
none of Recall before serving, Drain and Keep. -/
abbrev TakesKeys (s : State) : Prop :=
  Serves s ∧ s.pres.windowOpen = true ∧ dget s 0x400202 ≠ 255 ∧ (s.md.mode = .recall → s.rec_.serving = true) ∧ s.md.mode ≠ .drain ∧ s.md.mode ≠ .keep
/-- A channel of Fieth is heard: the MCC or the boot ROM serves it and the channel takes part in the traffic (R411, R413, R436). -/
abbrev Hears (s : State) (ch : Nat) : Prop := fiethHears s ch = true ∧ ch < s.fieth.chans.length
/-- No transfer is open on a channel and no record of a request is kept (R422, R429). -/
abbrev NoTransfer (s : State) : Prop := (canOf s 0).xfer = none ∧ (canOf s 1).xfer = none ∧ s.fieth.dups = []
/-- The MCC's answer `b` leaves on a channel (R419, Table 16.1). -/
def Answered (s t : State) (ch : Nat) (b : Bytes) : Prop := t.outbox = s.outbox ++ [.can ch (0x480 + s.rst.node) (canPad b)]
/-- The bytes of an ABORT (Table 16.4). -/
def abortBytes (tag idx sub code : Nat) : Bytes := leBytes 1 7 ++ leBytes 1 tag ++ leBytes 2 idx ++ leBytes 1 sub ++ [0, 0, 0] ++ leBytes 4 code ++ [0, 0, 0, 0]
/-- A Stipple datagram passes the steps of the admission order before step 14 (R84, Table 3.7): its port takes frames, no point is armed,
it is addressed to the port and well framed, its header is in form, its host is enabled, the Steoc serves, its token is new, there is
room for it, and its access check passes. -/
abbrev Admits (op : Nat) (d : Datagram) (s : State) : Prop :=
  s.pres.armed = [] ∧ portOpen s d.port.val = true ∧ addressed s d = true ∧ frameOk d = true ∧ (parse d.payload).opcode = op
    ∧ formCheck s d (parse d.payload) = none ∧ hostEnabled s (parse d.payload).host = true ∧ serving s = true
    ∧ checkToken s (kindOf op) (parse d.payload) = .pass ∧ checkRoom s d.port.val (kindOf op) (parse d.payload) = .pass
    ∧ (checkRegion s (kindOf op) (parse d.payload)).isOk = true
/-- The request entered the in-flight table as the next operation (step 14 of Table 3.7). -/
def Entered (k : OpKind) (r : Request) (s t : State) : Prop :=
  t.host.nextOp = s.host.nextOp + 1 ∧ ∃ o ∈ t.host.ops, o.id = s.host.nextOp ∧ o.kind = k ∧ o.host = r.host ∧ o.seq = r.seq
    ∧ o.region = r.region ∧ o.key = r.key ∧ o.off = r.off
/-- A pending replay entry holds the token of the request (R78, R80). -/
def ReplayPending (r : Request) (t : State) : Prop := ∃ e ∈ t.host.replay, e.token = ⟨r.host, r.seq⟩ ∧ e.pending = true
/-- A cache maintenance operation is taken (R181): the dictionary answers, the presence window is open and no operation runs. -/
abbrev TakesMaintenance (s : State) : Prop := Serves s ∧ s.pres.windowOpen = true ∧ dget s 0x310202 ≠ 255
/-- A RoCEv2 packet reaches a cached context in service, comes in order and passes the checks of its admission (R95–R99, R106, R110). -/
abbrev TakesPacket (p : RcPacket) (q : Qp) (r : Option Region) (s : State) : Prop :=
  portOpen s p.port.val = true ∧ p.ce = false ∧ p.pkey = 0xffff ∧ p.icrcOk = true ∧ p.version = 0 ∧ heldQp s p.qpn = some q ∧ q.st = .serving
    ∧ q.adopted = false ∧ q.lossless = false ∧ s.rc.cache.contains p.qpn = true ∧ s.rc.held = [] ∧ p.psn = q.epsn ∧ rcCheck s q p = .pass r
/-- The packet became the next operation in flight, for its queue pair, its PSN and the address it names (R110). -/
def PacketEntered (k : OpKind) (p : RcPacket) (q : Qp) (s t : State) : Prop :=
  t.host.nextOp = s.host.nextOp + 1 ∧ ∃ o ∈ t.host.ops, o.id = s.host.nextOp ∧ o.kind = k ∧ o.host = p.qpn ∧ o.seq = p.psn
    ∧ o.off = (rcReach q p).2.1
/-- What the Steoc sends to hosts leaves at once: no port is quiesced and no cut holds it back (R49, R359). -/
abbrev SendsAtOnce (s : State) : Prop := s.fix.quiesced = false ∧ s.snap.cut = none
/-- No move waits and no PLACE runs (R157, R164). -/
abbrev TierIdle (s : State) : Prop := s.tier.waiting = [] ∧ s.tier.places = []
/-- A region command block is taken and runs at once (R137, R142): the dictionary answers, no command runs, the block draws no status
before the tables are read, and no claim of the pair is needed (R531). -/
abbrev TakesBlock (code : Nat) (b : RegionBlock) (s : State) : Prop :=
  Serves s ∧ b.reserved = 0 ∧ dget s 0x221002 ≠ 255 ∧ blockStatus s code b = none ∧ pairWorks s = false ∧ s.eng.claimed = []
/-- The command reports status 0 and its result (R137). -/
abbrev Reported (t : State) (result : Nat) : Prop := dget t 0x221002 = 0 ∧ dget t 0x221003 = result
/-- The element of a table is taken (R143): the dictionary answers with the presence window open, the element passes its checks, and
no working pair has to confirm it. -/
abbrev TakesElement (idx i value : Nat) (s : State) : Prop :=
  Serves s ∧ s.pres.windowOpen = true ∧ elemRefusal s idx i value = none ∧ pairWorks s = false
/-- A State command block is taken and runs at once (R371, R373): the dictionary answers with the presence window open, no command
runs, the block draws no status before the tables are read, and no claim of the pair is needed (R531). -/
abbrev TakesState (code : Nat) (b : StateBlock) (s : State) : Prop :=
  Serves s ∧ s.pres.windowOpen = true ∧ b.reserved = 0 ∧ dget s 0x371002 ≠ 255 ∧ stateStatus s code b = none ∧ pairWorks s = false
    ∧ s.eng.claimed = []
/-- The State command reports status 0 and its result (Table 13.4). -/
abbrev StateReported (t : State) (result : Nat) : Prop := dget t 0x371002 = 0 ∧ dget t 0x371003 = result
/-- The oldest record of a half that is not yet applied is `r` (R297). -/
def Brings (half : Fin 2) (r : CpRec) (s : State) : Prop := ((halfOf s half.val).rx.map (·.rcd)).head? = some r
/-- A record of the twin's may be applied: it is the oldest of its half, and the Steoc applies what its twin sends (R297, R304). -/
abbrev Takes (half : Fin 2) (r : CpRec) (s : State) : Prop := Brings half r s ∧ applies s = true
/-- A record stands in the open frame of a half, to be sent (R296). -/
def Sending (t : State) (r : CpRec) : Prop := ∃ h, ∃ x ∈ (halfOf t h).open_, x.rcd = r
/-- A line record of the twin's lands: it is the oldest of its half and may be applied, nothing makes it wait or discards it, its page
has a home, and its line lies in a slice that is enabled (R297, R305, R308, R319). -/
abbrev Lands (half : Fin 2) (r : CpRec) (line : Nat) (whole : Bool) (s : State) : Prop :=
  Takes half r s ∧ lineWaits s half line whole = false ∧ refusedInResync s (lineTpn line) = false ∧ fetchCovers s line = false
    ∧ (dirOf s (lineTpn line)).home ≠ .none ∧ (sliceOf s (homeSlice line)).st = .enabled
    ∧ (cached (sliceOf s (homeSlice line)) line).isSome = true
/-- The twin is in sync, and a loss of it is acted on: the Steoc is neither in Drain nor YIELDED (R311). -/
abbrev InPair (s : State) : Prop := s.cp.twin = .inSync ∧ s.md.mode ≠ .drain ∧ (live s).standing ≠ .yielded
/-- From `s` to `t` the Steoc declared its twin lost (R312): it owns every region alone, in Solo where it ran in Duplex. -/
abbrev Declared (s t : State) : Prop :=
  t.cp.twin = .lost ∧ (live t).standing = .alone ∧ (s.cp.fetches = [] → s.md.mode = .duplex → t.md.mode = .solo)
/-- The Steoc stood down (R314): YIELDED, and in Drain. -/
abbrev StoodDown (t : State) : Prop := t.cp.twin = .stoodDown ∧ (live t).standing = .yielded ∧ t.md.mode = .drain
/-- The words and bounds that hold after every step: the real-time counter is a U32 (R445), the node number a strap value (R292), the
fused version at most 63 (R410), the seal fuse burns only after an opening (R461), and no more fuses burn than there are (R73, R324). -/
structure Inv (s : State) : Prop where
  rtc : s.rtc < 2 ^ 32
  node : s.rst.node < 128
  svn : s.keys.fusedSvn ≤ 63
  sealed : s.pres.fuse = true → s.pres.broken = true
  epochs : s.cp.burned ≤ 255
  incarnations : s.cp.burnedInc ≤ 255
/-- The requests that hosts send over the network (chapters 3 and 4). -/
def fromHosts : Instr → Bool
  | .stippleRead .. | .stippleWrite .. | .stippleAdd .. | .stippleCas .. | .stippleFence .. | .stipplePlace .. | .stippleDiscard ..
  | .readBatch .. | .rdmaWrite .. | .rdmaReadRequest .. | .compareSwap .. | .fetchAdd .. | .sprayWrite .. | .keepalive .. | .release ..
  | .cnpReceive .. | .cmReq .. | .cmRtu .. | .cmDreq .. | .cmDrep .. => true
  | _ => false
/-- What a command's frame names (Parts.lean): from `s` to `t` nothing else changed. -/
abbrev Framed (c : Instr) (s t : State) : Prop := SameBut (touches c) s t

end Sys2Proof.Machine
end

