-- ==== Sys2Proof/Certificates/Slice0/Obligations.lean ====
section
/-! DEFINITION. The statements. The clauses of a statement that a command completes give, each for one form of a command, the state and
operands it takes, and what holds of the next state. What a command leaves alone is said once for all, in
`EveryCommandKeepsItsFrame`. -/
open Sys2Proof Sys2Proof.Machine

/-- A step runs the command in front of the queue. For every command c and state s, step of s with c in front of its queue is exec of c
at s with the queue's rest. (spec/01_architecture.md) -/
def Obligations.StepRunsFront : Prop :=
  ∀ (c : Instr) (s : State), step { s with pending := c :: s.pending } = exec c s

/-- An idle step is a millisecond (the model's choice, log entry 2). With no command waiting, a step answers a state whose real-time
counter has counted one (modulo 2^32), whose queue is still empty, and which differs from the one before only in the counter, the
tables' log write under way, what the ports pause, the time in Keep and the stored counts. (spec/17_dictionary_catalogue.md) -/
def Obligations.IdleStepCountsAMillisecond : Prop :=
  ∀ (s : State), s.pending = [] → ∃ t, step s = .next t ∧ t.rtc = (s.rtc + 1) % 2 ^ 32 ∧ t.pending = []
  ∧ SameBut { per := true, md := true, ports := true, dict := true, rtc := true } s t

/-- What a command does not name it leaves alone. For every command, when exec answers a next state, every part of the state that the
command's frame (touches, in Safety.lean) does not name is as it was: registers, tables, memory, media, entries that configure, the
queue. (spec/95_what_each_step_holds.md) -/
def Obligations.EveryCommandKeepsItsFrame : Prop :=
  ∀ (c : Instr) (s t : State), exec c s = .next t → Framed c s t

/-- No command changes the queue. For every command and state, the state that exec answers holds the same queue of waiting commands.
(spec/01_architecture.md) -/
def Obligations.ExecLeavesTheQueue : Prop :=
  ∀ (c : Instr) (s t : State), exec c s = .next t → t.pending = s.pending

/-- Every command is executed, but a stress beyond the absolute maximum. No command is refused in any state; and a command faults
exactly where it is a rail reading beyond the absolute maximum of its rail in Table 21.5, where R517 defines no behaviour.
(spec/21_signals_electrical_package.md) -/
def Obligations.OnlyAStressBeyondMaximumStops : Prop :=
  ∀ (c : Instr) (s : State), (∀ r, exec c s ≠ .refused r)
  ∧ ((∃ f, exec c s = .fault f) ↔ ∃ (rail : Fin 10) (mv : Nat), c = .railMonitorEvent rail mv ∧ (railMax[rail.val]?).getD 0 < mv)

/-- A broken seal and a burnt fuse stay so. Whatever command is executed, a seal that is broken stays broken and a seal fuse that is
burnt stays burnt. (spec/18_presence_service_injection.md) -/
def Obligations.SealNeverMends : Prop :=
  ∀ (c : Instr) (s t : State), exec c s = .next t → (s.pres.broken = true → t.pres.broken = true) ∧ (s.pres.fuse = true →
    t.pres.fuse = true)

/-- The fused security version never falls. Whatever command is executed, the security version in the fuses does not fall, and it stays
within 63. (spec/15_cipher_and_keys.md) -/
def Obligations.FusedVersionNeverFalls : Prop :=
  ∀ (c : Instr) (s t : State), exec c s = .next t → s.keys.fusedSvn ≤ t.keys.fusedSvn ∧ (s.keys.fusedSvn ≤ 63 → t.keys.fusedSvn ≤
    63)

/-- The fuses of epochs and incarnations only burn. Whatever command is executed, the fuses burned for link epochs and for incarnations
do not become fewer, and their 255 are not exceeded. (spec/11_counterproof_mirroring.md; spec/03_stipple_transport.md) -/
def Obligations.CounterFusesOnlyBurn : Prop :=
  ∀ (c : Instr) (s t : State), exec c s = .next t → s.cp.burned ≤ t.cp.burned ∧ s.cp.burnedInc ≤ t.cp.burnedInc
  ∧ (s.cp.burned ≤ 255 → t.cp.burned ≤ 255) ∧ (s.cp.burnedInc ≤ 255 → t.cp.burnedInc ≤ 255)

/-- The node number is taken at the end of a power-on reset only. A command other than POWER_ON_RESET_END leaves the node number as it
is. (spec/20_reset_power_clocks.md) -/
def Obligations.NodeIsTakenAtPowerOnOnly : Prop :=
  ∀ (c : Instr) (s t : State), exec c s = .next t → (∀ n, c ≠ .powerOnResetEnd n) → t.rst.node = s.rst.node

/-- No command moves the real-time counter, but the loss of VDD_AON. Every command leaves the real-time counter as it is, except
VDD_AON_LOW and a rail reading, which may find VDD_AON lost. (spec/17_dictionary_catalogue.md; spec/21_signals_electrical_package.md) -/
def Obligations.ClockRunsOnlyWithTime : Prop :=
  ∀ (c : Instr) (s t : State), exec c s = .next t → c ≠ .vddAonLow → (∀ r v, c ≠ .railMonitorEvent r v) → t.rtc = s.rtc

/-- Nothing a host sends changes the tables, the keys, the mode or the configuration. Whatever packet a host sends over Stipple or
RoCEv2, the tables of tenants, hosts, regions and keys, the States, the cipher keys, the mode, the presence state and every entry that
configures stay as they are. (spec/03_stipple_transport.md; spec/04_queue_pair_transport.md; spec/05_regions_tenants_keys.md) -/
def Obligations.HostsChangeNoAdministration : Prop :=
  ∀ (c : Instr) (s t : State), fromHosts c = true → exec c s = .next t →
  t.per.live.tenants = s.per.live.tenants ∧ t.per.live.hosts = s.per.live.hosts ∧ t.per.live.regions = s.per.live.regions
  ∧ t.per.live.keys = s.per.live.keys ∧ t.per.live.snaps = s.per.live.snaps ∧ t.keys = s.keys ∧ t.md.mode = s.md.mode
  ∧ t.pres.windowOpen = s.pres.windowOpen ∧ t.pres.broken = s.pres.broken ∧ (∀ k, isConfig k = true → dget t k = dget s k)

/-- The state after reset meets the invariant. At State.reset the real-time counter is a U32, the node a strap value, the fused version
at most 63, a burnt seal fuse goes with a broken seal, and no more fuses are burnt than there are. (spec/20_reset_power_clocks.md) -/
def Obligations.ResetMeetsTheInvariant : Prop :=
  Inv State.reset

/-- Every step keeps the invariant. From every state that meets the invariant, whatever command waits in front, and with none waiting,
the state a step answers meets it: the real-time counter stays a U32, the node number a strap value, the fused version within 63, the
seal fuse burns only with the seal broken, and the fuses of epochs and incarnations stay within 255.
(spec/11_counterproof_mirroring.md; spec/15_cipher_and_keys.md; spec/17_dictionary_catalogue.md; spec/18_presence_service_injection.md;
spec/20_reset_power_clocks.md) -/
def Obligations.EveryStepKeepsTheInvariant : Prop :=
  ∀ (s t : State), Inv s → step s = .next t → Inv t

/-- The seal-broken event changes nothing else. When a seal loop opens, the keys, the whole data path (remote access, queue pairs,
tables, tiers, slices, DRAM, NAND, Fixative, Counterproof), the mode with Service mode, the presence window and the entries that
configure stay as they are. (R463) -/
def Obligations.SealBrokenEventChangesNothingElse : Prop :=
  ∀ (loop : Bool) (s : State), Completes (.sealLoopOpen loop) s (fun t =>
  SameBut { pres := true, rmq := true, dict := true, freeCtr := true, sealBroken := true, sealFuse := true } s t
  ∧ t.keys = s.keys ∧ t.host = s.host ∧ t.rc = s.rc ∧ t.per = s.per ∧ t.tier = s.tier ∧ t.cs = s.cs ∧ t.dram = s.dram ∧ t.nand =
    s.nand
  ∧ t.fix = s.fix ∧ t.cp = s.cp ∧ t.md = s.md ∧ t.pres.windowOpen = s.pres.windowOpen)

/-- The counter limit announces the next epoch, and an acknowledgement switches to it (R325, with the model's reading of which
acknowledgement: log entry 61). At the counter limit, with an epoch left to go to, the next epoch is kept and a HELLO goes out under
the old epoch, which stays in force; when the twin acknowledges, the epoch in force is that next one.
(spec/11_counterproof_mirroring.md) -/
def Obligations.NextEpochAtTheLimit : Prop :=
  (∀ (p : Nat × Bool) (s : State), s.cp.sessionUp = true → s.cp.nextEpoch = none → ueFenced s = false → nextEpochOf s true = some p
    → Completes (.counterLimit true) s (fun t => t.cp.nextEpoch = some p.1 ∧ t.cp.epoch = s.cp.epoch ∧ ∃ b, Out.status 4 (ctlHalf s)
    s.cp.epoch b ∈ t.outbox)) ∧
  (∀ (h : FrameHead) (e : Nat) (s : State), authentic s h = true → s.cp.nextEpoch = some e → Completes (.ackFrame h) s (fun t =>
    t.cp.epoch = e ∧ t.cp.nextEpoch = none))

/-- Sequences are compared serially. For two sequences below 2^48, a precedes b exactly when (b − a) modulo 2^48 lies between 1 and
2^47 − 1. (R72) -/
def Obligations.SequencesPrecedeSerially : Prop :=
  ∀ (a b : Nat), a < 2 ^ 48 → b < 2 ^ 48 → (precedes a b = true ↔ 1 ≤ ((b : Int) - a) % 2 ^ 48 ∧ ((b : Int) - a) % 2 ^ 48 ≤ 2 ^ 47 -
    1)

/-- A line written back to DRAM stores its 128 bytes and no other. When the write of a line waiting in a slice's write-back buffer
completes at its DRAM-tier frame, each of the line's 128 bytes there reads as the line's byte, and every other byte of the DRAM reads
as before. (spec/07_cache_slices.md; spec/06_tiers_and_placement.md) -/
def Obligations.WriteBackStoresItsLine : Prop :=
  ∀ (slice : Fin 14) (w : WriteBack) (f : Nat) (s : State), (sliceOf s slice).wbs = [w] → (dirOf s (lineTpn w.line)).home = .dram f
    → (dirOf s (lineTpn w.line)).zero = false → Memory.wf s.dram.mem = true → Memory.wf w.data = true → Completes (.dramWriteDone
    slice w.line) s (fun t => ∀ a, mget t.dram.mem a = if frameAddr f + lineIdx w.line * 128 ≤ a ∧ a < frameAddr f + lineIdx w.line
    * 128 + 128
  then mget w.data (a - (frameAddr f + lineIdx w.line * 128)) else mget s.dram.mem a)

/-- The loss of VDD_AON is a power-on reset without a dump. When VDD_AON falls while other rails are up, the Steoc performs a power-on
reset: but for the reset's own state and the real-time counter it is left as a deassertion of PWRGD would leave it, and the plates of
the dump are as before. (R520) -/
def Obligations.LossOfVddAonIsAPowerOnReset : Prop :=
  ∀ (s : State), s.rst.phase ≠ .off → Completes (.vddAonLow) s (fun t => t.rst.phase = .powerOn ∧ t.fix.plates = s.fix.plates
  ∧ Completes .pwrgdDeassert s (fun u => SameBut { rst := true, rtc := true, phase := true } u t))

/-- The presence window opens, closes and is ignored when the button is stuck. For every state that meets the hypotheses: a 2 s press
opens the window for 0x5100.02 minutes from now and posts PRESENCE_OPEN, counted in 0x701e.01; a 30 s press posts BUTTON_STUCK and
marks the button; 1 s of release ends that; the end of the window's length, and a write of 0x5100.01, close it and disarm every point.
(spec/18_presence_service_injection.md) -/
def Obligations.PresenceWindowCommands : Prop :=
  (∀ (s : State), s.pres.stuck = false → s.rst.phase ≠ .off → s.rst.phase ≠ .powerOn → Completes (.presenceOpen) s (fun t =>
    t.pres.windowOpen = true ∧ t.pres.closesAt = (s.rtc + dget s 0x510002 * 60000) % 2 ^ 32 ∧ dget t 0x701e01 = min (dget s 0x701e01
    + 1) (2 ^ 32 - 1) ∧ Posted s t 0x0701 0 0 (leBytes 1 (dget s 0x510002) ++ leBytes 1 (b2n s.pres.windowOpen)))) ∧
  (∀ (s : State), s.pres.stuck = false → Completes (.buttonStuck) s (fun t => t.pres.stuck = true ∧ Posted s t 0x0702 1 0 [])) ∧
  (∀ (s : State), Completes (.buttonReleaseTimeout) s (fun t => t =
    { s with pres := { s.pres with stuck := false, pressed := false } })) ∧
  (∀ (s : State), s.pres.windowOpen = true → Completes (.presenceWindowExpire) s (fun t => t.pres.windowOpen = false ∧ t.pres.armed
    = [])) ∧
  (∀ (s : State), Serves s → s.pres.windowOpen = true → Completes (.presenceCloseWrite) s (fun t => t.pres.windowOpen = false ∧
    t.pres.armed = []))

/-- Seal loops, the Service jumper and JTAG. A loop that reads open on a sealed Steoc breaks the seal for good and is counted; on one
whose seal is broken it is counted and recorded. Removing the jumper clears the pin and boundary scan, and ends Service. In Service a
debug instruction halts or resumes the MCC and a debug reset request opens a system reset with cause bit 8; a scan instruction takes
the pins under SYSRST_N with the jumper fitted. (spec/18_presence_service_injection.md; spec/20_reset_power_clocks.md) -/
def Obligations.SealJumperJtagCommands : Prop :=
  (∀ (loopB : Bool) (s : State), s.pres.broken = false → s.rst.phase ≠ .off → s.rst.phase ≠ .powerOn → Completes (.sealLoopOpen
    loopB) s (fun t => t.pres.broken = true ∧ t.pres.fuse = true ∧ t.pres.brokenAt = s.rtc ∧ t.pres.brokenLoop = b2n loopB ∧ (if
    loopB then t.pres.loopB else t.pres.loopA) = false ∧ dget t 0x701e03 = min (dget s 0x701e03 + 1) (2 ^ 32 - 1))) ∧
  (∀ (loopB : Bool) (s : State), s.pres.broken = true → Completes (.sealLoopOpen loopB) s (fun t => t.pres.broken = true ∧ dget t
    0x701e03 = min (dget s 0x701e03 + 1) (2 ^ 32 - 1) ∧ Posted s t 0x0703 1 (b2n loopB) ([0, 0, 0, 0] ++ leBytes 4 s.rtc))) ∧
  (∀ (s : State), s.md.mode = .service → s.md.entering = false → s.md.causes = 0 → Completes (.svcJmpRemoved) s (fun t =>
    t.pres.jumper = false ∧ t.pres.scan = none ∧ t.md.mode = if s.cp.twin = .inSync then .duplex else .solo)) ∧
  (∀ (s : State), s.md.mode ≠ .service → s.md.causes = 0 → Completes (.svcJmpRemoved) s (fun t => t.pres.jumper = false ∧
    t.pres.scan = none ∧ t.md = s.md)) ∧
  (∀ (code : Nat) (s : State), s.md.mode = .service → Completes (.jtagDebugInstruction code) s (fun t => t.pres.halted = (if code =
    0 then true else if code = 1 then false else s.pres.halted))) ∧
  (∀ (s : State), s.md.mode = .service → s.rst.phase = .running → s.rst.loadDone = true → s.fix.phase ≠ .sealed → s.fix.dumpDead =
    false → Completes (.jtagResetRequest) s (fun t => t.rst.phase = .window ∧ t.rst.cause = setBit s.rst.cause 8 ∧ t.rst.short =
    false ∧ t.rst.idle = bitList 112 s.rst.powered ++ [112])) ∧
  (∀ (code : Nat) (s : State), s.rst.sysrst = true → s.pres.jumper = true → code < 3 → Completes (.jtagBoundaryScan code) s (fun t
    => t.pres.scan = some code))

/-- Arming, firing again and disarming injection points. In Service with the presence window open: an arming command of a point that
exists, on an instance in use, leaves exactly that point armed as commanded beside the others and status 0; code 3 disarms the point
and code 4 disarms every point; when INTERVAL has passed a repeated point that waits becomes ready. The points are detector points,
which wait for their event. (spec/18_presence_service_injection.md; spec/17_dictionary_catalogue.md) -/
def Obligations.InjectionCommands : Prop :=
  (∀ (point inst variant : Nat) (s : State), ServesPresent s → armStatus ⟨false, point, inst, variant, 0, 0, 0, true⟩ true s = 0 →
    firesAtArming point = false → Completes (.injectOnce point inst variant) s (fun t => t.pres.armed = s.pres.armed.filter (fun b
    => !samePoint ⟨false, point, inst, variant, 0, 0, 0, true⟩ b) ++ [⟨false, point, inst, variant, 0, 0, 0, true⟩] ∧ dget t
    0x520002 = 0)) ∧
  (∀ (point inst variant count interval : Nat) (s : State), ServesPresent s → 1 ≤ interval → interval ≤ 10000000 → armStatus ⟨true,
    point, inst, variant, count, interval, 0, true⟩ true s = 0 → firesAtArming point = false → Completes (.injectRepeatedly point
    inst variant count interval) s (fun t => t.pres.armed = s.pres.armed.filter (fun b => !samePoint ⟨true, point, inst, variant,
    count, interval, 0, true⟩ b) ++ [⟨true, point, inst, variant, count, interval, 0, true⟩] ∧ dget t 0x520002 = 0)) ∧
  (∀ (point inst variant : Nat) (s : State), ServesPresent s → s.pres.armed.any (samePoint ⟨false, point, inst, variant, 0, 0, 0,
    true⟩) = true → 1 ≤ variant → variant ≤ variantsOf point → Completes (.disarmPoint point inst variant) s (fun t => t.pres.armed
    = s.pres.armed.filter (fun b => !samePoint ⟨false, point, inst, variant, 0, 0, 0, true⟩ b) ∧ dget t 0x520002 = 0)) ∧
  (∀ (s : State), ServesPresent s → Completes (.disarmEveryPoint) s (fun t => t.pres.armed = [] ∧ dget t 0x520002 = 0)) ∧
  (∀ (point inst variant : Nat) (s : State), s.pres.armed.any (fun b => samePoint ⟨true, point, inst, variant, 0, 0, 0, true⟩ b &&
    b.repeated && !b.ready) = true → firesAtArming point = false → Completes (.injectionInterval point inst variant) s (fun t =>
    t.pres.armed = s.pres.armed.map (fun b => if samePoint ⟨true, point, inst, variant, 0, 0, 0, true⟩ b then
    { b with ready := true } else b)))

/-- The recorder accepts, flushes and checks its records. The recorder accepts the record posted first: it gets the next SEQ and its
place in the ring. A record of severity 2 or 3, and the flush tick, program every unflushed record when the utility engine is free; a
flush whose copies both failed raises LOG_SYSTEM; a flush whose lock was not granted goes on unsealed; the seal check sets 0x6000.08
and posts SEAL_CHECK with how many pages failed. (spec/19_remarque_recorder.md) -/
def Obligations.RecorderCommands : Prop :=
  (∀ (d : Draft) (rest : List Draft) (s : State), s.rmq.waiting = d :: rest → seqKnown s = true → s.rst.phase ≠ .off → s.rst.phase ≠
    .powerOn → d.sev < 2 → (dropSet s.rmq.unflushed (s.rmq.next % 32768)).length + 1 < 16384 → Completes (.recordAccept) s (fun t =>
    t.rmq.waiting = rest ∧ t.rmq.next = (s.rmq.next + 1) % 2 ^ 64 ∧ tget none (t.rmq.ring.map (fun p => (p.1, some p.2)))
    (s.rmq.next % 32768) = some ⟨s.rmq.next, s.rst.node, d⟩ ∧ dget t 0x701f01 = (dget s 0x701f01 + 1) % 2 ^ 64)) ∧
  (∀ (d : Draft) (rest : List Draft) (s : State), s.rmq.waiting = d :: rest → s.md.mode ≠ .drain → s.rec_.dirLoaded = true →
    s.rst.phase ≠ .off → s.rst.phase ≠ .powerOn → 2 ≤ d.sev → s.rmq.lockWait = false → bitOf s.md.causes 4 = false → s.keys.fenced =
    [] → s.keys.ueOwner = 0 → Completes (.recordAccept) s (fun t => t.rmq.waiting = rest ∧ t.rmq.unflushed = [] ∧ t.rmq.lastFlush =
    s.rtc)) ∧
  (∀ (s : State), s.md.mode ≠ .drain → s.rec_.dirLoaded = true → s.rmq.unflushed.isEmpty = false → s.rmq.lockWait = false → bitOf
    s.md.causes 4 = false → s.keys.fenced = [] → s.keys.ueOwner = 0 → Completes (.recorderFlushTick true) s (fun t =>
    t.rmq.unflushed = [] ∧ t.rmq.overwritten = 0 ∧ t.rmq.lastFlush = s.rtc ∧ dget t 0x701f02 = (dget s 0x701f02 + 1) % 2 ^ 64)) ∧
  (∀ (s : State), s.md.mode = .solo → s.rec_.dirLoaded = true → s.rmq.unflushed.isEmpty = false → bitOf s.md.causes 4 = false →
    Completes (.recorderFlushTick false) s (fun t => t.md.causes = s.md.causes + 2 ^ 4 ∧ t.md.entering = true ∧ t.rmq.unflushed =
    s.rmq.unflushed)) ∧
  (∀ (s : State), s.rmq.lockWait = true → s.keys.ueOwner ≠ 4 → s.md.mode ≠ .drain → s.rmq.unflushed.isEmpty = false → Completes
    (.recorderLockTimeout) s (fun t => t.rmq.unflushed = [] ∧ t.rmq.lockWait = false ∧ t.rmq.lastFlush = s.rtc ∧ t.keys.ueWait =
    dropSet s.keys.ueWait 4)) ∧
  (∀ (failing : Nat) (s : State), s.rec_.phase ≠ .none → Completes (.recorderSealCheck failing) s (fun t => dget t 0x600008 = min
    failing (2 ^ 32 - 1) ∧ (failing ≠ 0 → Posted s t 0x0707 2 0 (leBytes 4 failing)) ∧ (failing = 0 → t.rmq = s.rmq)))

/-- Mode requests take the Steoc from mode to mode. With the presence window open and no request executing: planned shutdown enters
Drain with seal CAUSE 3; Service is entered from Duplex or Solo with the jumper fitted and left for Duplex or Solo by the twin state;
accepting Keep clears UNSEALED and FORCED and leaves Keep with the last cause; force Keep raises FORCED; force stand-down makes the
standing YIELDED and the twin state stood down. (spec/14_modes_faults_availability.md) -/
def Obligations.ModeRequestCommands : Prop :=
  (∀ (s : State), Serves s → s.pres.windowOpen = true → dget s 0x110004 ≠ 255 → s.md.mode = .duplex ∨ s.md.mode = .solo ∨ s.md.mode
    = .service ∨ s.md.mode = .keep → Completes (.plannedShutdown) s (fun t => t.md.mode = .drain ∧ t.fix.phase = .draining ∧
    t.fix.cause = 3)) ∧
  (∀ (s : State), Serves s → s.pres.windowOpen = true → dget s 0x110004 ≠ 255 → s.md.mode = .duplex ∨ s.md.mode = .solo →
    s.md.entering = false → s.pres.jumper = true → Completes (.enterService) s (fun t => t.md.mode = .service ∧ t.md.since = s.rtc)) ∧
  (∀ (s : State), Serves s → s.pres.windowOpen = true → dget s 0x110004 ≠ 255 → s.md.mode = .service → s.md.entering = false →
    Completes (.leaveService) s (fun t => t.md.mode = (if s.cp.twin = .inSync then .duplex else .solo) ∧ t.pres.halted = false ∧
    t.pres.armed = [])) ∧
  (∀ (s : State), Serves s → s.pres.windowOpen = true → dget s 0x110004 ≠ 255 → s.md.mode = .keep → clrBit (clrBit s.md.causes 9) 12
    ≠ 0 → Completes (.acceptKeep) s (fun t => t.md.mode = .keep ∧ t.md.causes = clrBit (clrBit s.md.causes 9) 12)) ∧
  (∀ (s : State), Serves s → s.pres.windowOpen = true → dget s 0x110004 ≠ 255 → s.md.mode = .keep → clrBit (clrBit s.md.causes 9) 12
    = 0 → s.rec_.phase = .none → s.per.live.standing = .alone → Completes (.acceptKeep) s (fun t => t.md.mode = .solo ∧ t.md.causes
    = 0)) ∧
  (∀ (s : State), Serves s → s.pres.windowOpen = true → dget s 0x110004 ≠ 255 → s.md.mode = .service → s.md.entering = false →
    Completes (.forceKeep) s (fun t => t.md.causes = setBit s.md.causes 12 ∧ t.md.entering = true ∧ t.md.left = .service)) ∧
  (∀ (s : State), Serves s → s.pres.windowOpen = true → dget s 0x110004 ≠ 255 → s.md.mode = .service → s.md.entering = false →
    s.cp.twin = .inSync → Completes (.forceStandDown) s (fun t => t.per.live.standing = .yielded ∧ t.cp.twin = .stoodDown ∧
    t.md.mode = .drain ∧ t.rst.dumpReset = true))

/-- The profile, the temperature limits, failing ports and posted configuration. A profile whose budget fits is in force; a junction
above 115 °C drains with seal CAUSE 2 and the cause FATAL pending; one above the critical limit raises TEMP_CRITICAL, which clears 5 °C
below it; a failing port is answered for by its sibling until its link has been up again for a second; a unit at its idle point applies
what was posted. (spec/14_modes_faults_availability.md; spec/01_architecture.md) -/
def Obligations.ProfileTemperaturePorts : Prop :=
  (∀ (profile : Nat) (s : State), Serves s → 1 ≤ profile → profile ≤ 3 → budgetFits s (budgetOf s profile) = true → Completes
    (.profileWrite profile) s (fun t => dget t 0x110002 = profile)) ∧
  (∀ (celsius : Int) (s : State), celsius > 115 → s.md.mode ≠ .drain → Completes (.tempThreshold celsius) s (fun t => t.md.mode =
    .drain ∧ t.md.hot = celsius ∧ t.fix.cause = 2 ∧ t.rst.cause = setBit s.rst.cause 9)) ∧
  (∀ (celsius : Int) (s : State), celsius ≤ 115 → (dget s 0x110007 : Int) < celsius → bitOf s.md.causes 1 = false → s.md.mode =
    .duplex ∨ s.md.mode = .solo ∨ s.md.mode = .service → Completes (.tempThreshold celsius) s (fun t => t.md.causes = s.md.causes +
    2 ∧ t.md.entering = true ∧ t.md.hot = celsius)) ∧
  (∀ (celsius : Int) (s : State), bitOf s.md.causes 1 = true → celsius + 5 ≤ (dget s 0x110007 : Int) → s.md.mode ≠ .keep → Completes
    (.tempClearTimeout celsius) s (fun t => t.md.causes = s.md.causes - 2 ∧ t.md.hot = celsius)) ∧
  (∀ (port : Fin 128) (s : State), (portOf s port.val).st ≠ .failed → (portOf s (port.val ^^^ 8)).st ≠ .failed → (portOf s (port.val
    ^^^ 8)).st ≠ .disabled → s.pres.armed = [] → Completes (.portFailure port false) s (fun t => (portOf t port.val).st = .failed ∧
    (portOf t port.val).proxied = true ∧ (portOf t (port.val ^^^ 8)).answering = true)) ∧
  (∀ (port : Fin 128) (s : State), (portOf s port.val).st = .up → (portOf s port.val).proxied = true → Completes (.proxyStopTimer
    port) s (fun t => (portOf t port.val).proxied = false ∧ t.md.failedPorts = dropSet s.md.failedPorts port.val)) ∧
  (∀ (s : State), Completes (.configApplyAtIdle 16) s (fun t => t.cs.depth = depthOf s (settings s))) ∧
  (∀ (unit : Nat) (s : State), unit < 16 → Completes (.configApplyAtIdle unit) s (fun t => (sliceOf t unit).masks = masksOf s
    (settings s))) ∧
  (∀ (unit : Nat) (s : State), 33 ≤ unit → unit < 65 → Completes (.configApplyAtIdle unit) s (fun t => (chanOf t (unit - 33)).policy
    = settings s)) ∧
  (∀ (group port : Nat) (s : State), group < 16 → 8 * group ≤ port → port < 8 * group + 8 → dget s (0x200001 + port * 256) = 0 →
    Completes (.configApplyAtIdle (17 + group)) s (fun t => (portOf t port).st = .disabled ∧ fget t 0x210001 group = dget s
    0x210001))

/-- Key commands and key slots. GENERATE and IMPORT claim the utility engine with a key for the slot and status 0xff; ERASE of an
unprotected slot that nothing uses empties it with status 0; MIGRATE of a slot without units ends at once with status 0 and no
migration left; a slot whose present key is no longer in use takes its shadow key; a write of the write slot that names a slot with an
XTS key takes effect. (spec/15_cipher_and_keys.md) -/
def Obligations.KeyCommands : Prop :=
  (∀ (slot kind : Nat) (s : State), TakesKeys s → kind = 1 ∨ kind = 2 → slotProtected s (slot % 64) = false → s.keys.fenced = [] →
    Completes (.keyGenerate slot kind) s (fun t => (∃ v, t.keys.job = some ⟨slot % 64, kind, 1, v⟩) ∧ dget t 0x400202 = 255 ∧
    (s.keys.ueOwner = 0 → t.keys.ueOwner = 3))) ∧
  (∀ (slot : Nat) (m : Bytes) (s : State), TakesKeys s → s.keys.material = some m → m.length = 64 → m.take 32 ≠ m.drop 32 →
    slotProtected s (slot % 64) = false → s.keys.fenced = [] → Completes (.keyImport slot 1) s (fun t => t.keys.job = some ⟨slot %
    64, 1, 2, beNat m⟩ ∧ dget t 0x400202 = 255 ∧ t.keys.material = none ∧ (s.keys.ueOwner = 0 → t.keys.ueOwner = 3))) ∧
  (∀ (slot : Nat) (s : State), TakesKeys s → slotProtected s (slot % 64) = false → dget s 0x350104 ≠ slot % 64 → inUse s (slot % 64)
    = 0 → Completes (.keyErase slot) s (fun t => keySlotOf t (slot % 64) = {} ∧ dget t 0x400202 = 0)) ∧
  (∀ (slot : Nat) (s : State), TakesKeys s → s.keys.fenced = [] → writeSlot s ≠ slot % 64 → (keySlotOf s (slot % 64)).st ≠ .empty →
    slotUnits s (slot % 64) = 0 → s.per.live.groups = [] → s.per.live.images = [] → bitOf s.md.causes 6 = false → Completes
    (.keyMigrate slot) s (fun t => t.keys.migrate = none ∧ dget t 0x400202 = 0)) ∧
  (∀ (slot : Fin 64) (key : Nat) (s : State), (keySlotOf s slot.val).st = .shadow → (keySlotOf s slot.val).next = some key → inUse s
    slot.val = 0 → Completes (.keySwap slot) s (fun t => (keySlotOf t slot.val).st = .loaded ∧ (keySlotOf t slot.val).value = key ∧
    (keySlotOf t slot.val).kind = (keySlotOf s slot.val).nextKind ∧ dget t 0x400202 = 0)) ∧
  (∀ (slot : Nat) (s : State), Serves s → s.pres.windowOpen = true → slot ≤ 63 → (keySlotOf s slot).st = .loaded → (keySlotOf s
    slot).kind = 1 → Completes (.writeSlotWrite slot) s (fun t => dget t 0x400001 = slot))

/-- The utility engine, engine mismatches and the firmware banks. A free utility engine is granted to a claim, a held one queues it; a
release and a timeout free it, and the release of a key command loads its key; a first mismatch of an engine is counted and a second
fences it; the first part of a bank image is stored; a verified image is valid unless its SVN lies below the fused one; a SVN commit
within the running image's SVN raises the fused SVN and invalidates older images. (spec/15_cipher_and_keys.md) -/
def Obligations.EngineAndFirmwareCommands : Prop :=
  (∀ (client : Nat) (s : State), s.keys.fenced = [] → 1 ≤ client → client ≤ 5 → s.keys.ueOwner = 0 → Completes (.ueLockClaim client)
    s (fun t => t.keys.ueOwner = client)) ∧
  (∀ (client : Nat) (s : State), s.keys.fenced = [] → 1 ≤ client → client ≤ 5 → s.keys.ueOwner ≠ 0 → s.keys.ueOwner ≠ client →
    Completes (.ueLockClaim client) s (fun t => t.keys.ueOwner = s.keys.ueOwner ∧ t.keys.ueWait = insertSet s.keys.ueWait client)) ∧
  (∀ (client : Nat) (s : State), s.keys.ueOwner = client → client = 1 ∨ client = 2 ∨ client = 5 → s.keys.ueWait = [] → s.pres.armed
    = [] → Completes (.ueLockRelease client) s (fun t => t.keys.ueOwner = 0)) ∧
  (∀ (j : KeyJob) (s : State), s.keys.ueOwner = 3 → s.keys.job = some j → s.keys.ueWait = [] → s.pres.armed = [] → (keySlotOf s
    j.slot).st = .empty → Completes (.ueLockRelease 3) s (fun t => t.keys.ueOwner = 0 ∧ t.keys.job = none ∧ (keySlotOf t j.slot).st
    = .loaded ∧ (keySlotOf t j.slot).value = j.value ∧ dget t 0x400202 = 0)) ∧
  (∀ (s : State), s.keys.ueOwner ≠ 0 → s.keys.ueOwner ≠ 4 → s.keys.ueWait = [] → Completes (.ueLockTimeout) s (fun t =>
    t.keys.ueOwner = 0 ∧ dget t 0x401002 = min (dget s 0x401002 + 1) (2 ^ 32 - 1))) ∧
  (∀ (engine : Fin 7) (s : State), s.keys.fenced = [] → (engine.val = 6 → s.keys.ueOwner ≠ 0) → Completes (.cipherMismatch engine
    false) s (fun t => dget t 0x701c01 = (dget s 0x701c01 + 1) % 2 ^ 64 ∧ t.keys.fenced = [])) ∧
  (∀ (engine : Fin 7) (s : State), s.keys.fenced = [] → engine.val = 4 ∨ engine.val = 5 → Completes (.cipherMismatch engine true) s
    (fun t => engine.val ∈ t.keys.fenced)) ∧
  (∀ (bank : Fin 2) (data : Bytes) (s : State), fiethSilent s = false → s.fieth.boot = false → s.pres.windowOpen = true → data ≠ []
    → data.length < 128 → s.keys.running ≠ some bank.val → s.keys.banks.length = 2 → (bankOf s bank.val).verifying = false →
    Completes (.firmwareBankWrite bank 0 data) s (fun t => (bankOf t bank.val).image = mput [] 0 data ∧ (bankOf t bank.val).written
    = data.length ∧ (bankOf t bank.val).valid = false)) ∧
  (∀ (bank : Fin 2) (s : State), s.keys.ueOwner = 5 → s.keys.ueWait = [] → s.keys.banks.length = 2 → (bankOf s bank.val).verifying =
    true → headerOk (bankOf s bank.val).image = true → Completes (.firmwareVerifyDone bank true) s (fun t => (bankOf t
    bank.val).verifying = false ∧ (bankOf t bank.val).valid = decide (s.keys.fusedSvn ≤ headerField (bankOf s bank.val).image 8 1) ∧
    (bankOf t bank.val).svn = headerField (bankOf s bank.val).image 8 1 ∧ t.keys.ueOwner = 0)) ∧
  (∀ (value n : Nat) (s : State), Serves s → s.pres.windowOpen = true → value ≤ 63 → s.keys.fusedSvn < value → s.keys.running = some
    n → value ≤ (bankOf s n).svn → Completes (.svnCommit value) s (fun t => t.keys.fusedSvn = value ∧ t.keys.banks =
    s.keys.banks.map (fun b => { b with valid := b.valid && decide (value ≤ b.svn) })))

/-- Requests of Fieth: reads and writes of the dictionary. A well-formed READ of an entry that passes its checks is answered with the
value in one RESPONSE when it has at most 48 bytes and opens a segmented read when it is longer; one that fails a check is answered by
ABORT with the code of the check. A WRITE with E whose entry fails a check is answered by ABORT; one without E opens a segmented write.
A reserved header field or a CMD that no client sends is refused. (spec/16_fieth_dictionary_protocol.md) -/
def Obligations.FiethRequestCommands : Prop :=
  (∀ (channel : Fin 2) (f : FiethFrame) (e : Entry) (s : State), Hears s channel → NoTransfer s → f.cmd = 1 → malformed f = false →
    readCheck s f.idx f.sub f.off f.len = .ok e → (readBytes s e f.idx f.sub f.off f.len).length ≤ 48 → Completes (.fiethRead
    channel f) s (fun t => Answered s t channel (respHead 8 (headOf f) 1 (readBytes s e f.idx f.sub f.off f.len).length ++ readBytes
    s e f.idx f.sub f.off f.len) ∧ dget t 0x701d01 = (dget s 0x701d01 + 1) % 2 ^ 64)) ∧
  (∀ (channel : Fin 2) (f : FiethFrame) (code : Nat) (s : State), Hears s channel → NoTransfer s → f.cmd = 1 → malformed f = false →
    readCheck s f.idx f.sub f.off f.len = .error code → Completes (.fiethRead channel f) s (fun t => Answered s t channel
    (abortBytes f.tag f.idx f.sub code))) ∧
  (∀ (channel : Fin 2) (f : FiethFrame) (e : Entry) (s : State), Hears s channel → NoTransfer s → f.cmd = 1 → malformed f = false →
    readCheck s f.idx f.sub f.off f.len = .ok e → (readBytes s e f.idx f.sub f.off f.len).length > 48 → Completes (.fiethRead
    channel f) s (fun t => (canOf t channel).xfer = some ⟨headOf f, true, 0, 0, false, readBytes s e f.idx f.sub f.off f.len⟩ ∧
    Answered s t channel (respHead 8 (headOf f) 0 (readBytes s e f.idx f.sub f.off f.len).length))) ∧
  (∀ (channel : Fin 2) (f : FiethFrame) (code : Nat) (s : State), Hears s channel → NoTransfer s → f.cmd = 2 → malformed f = false →
    expedited f = true → writeCheck s f.idx f.sub f.off f.len = .error code → Completes (.fiethWrite channel f) s (fun t => Answered
    s t channel (abortBytes f.tag f.idx f.sub code))) ∧
  (∀ (channel : Fin 2) (f : FiethFrame) (s : State), Hears s channel → NoTransfer s → s.fieth.boot = false → f.cmd = 2 → malformed f
    = false → expedited f = true → f.idx = 0x1080 ∧ f.sub = 8 ∧ f.off = 0 ∧ f.len = 1 ∧ f.value = [1] → Completes (.fiethWrite
    channel f) s (fun t => dget t 0x108008 = 1 ∧ Answered s t channel (respHead 9 (headOf f) 4 1))) ∧
  (∀ (channel : Fin 2) (f : FiethFrame) (e : Entry) (s : State), Hears s channel → NoTransfer s → f.cmd = 2 → malformed f = false →
    expedited f = false → writeCheck s f.idx f.sub f.off f.len = .ok e → Completes (.fiethWrite channel f) s (fun t => (canOf t
    channel).xfer = some ⟨headOf f, false, 0, 0, false, []⟩ ∧ Answered s t channel (respHead 9 (headOf f) 0 f.len))) ∧
  (∀ (channel : Fin 2) (f : FiethFrame) (s : State), Hears s channel → f.cmd = 1 → malformed f = true → Completes (.fiethRead
    channel f) s (fun t => Answered s t channel (abortBytes f.tag f.idx f.sub 0x06060004) ∧ t.fieth = s.fieth)) ∧
  (∀ (channel : Fin 2) (f : FiethFrame) (s : State), Hears s channel → f.cmd ≠ 2 → Completes (.fiethWrite channel f) s (fun t =>
    Answered s t channel (abortBytes f.tag f.idx f.sub 0x06060003) ∧ t.fieth = s.fieth))

/-- Segmented transfers, records of requests and heartbeats. A SEGMENT in sequence is stored, the last one of sixteen acknowledged; one
without a transfer is answered by ABORT 0x06060005. An ACK of the last segment ends a read. An ABORT of the client and an idle timeout
end a transfer, the timeout with ABORT 0x06060002. A record of a request expires. Each channel that takes part sends a heartbeat.
(spec/16_fieth_dictionary_protocol.md) -/
def Obligations.FiethTransferCommands : Prop :=
  (∀ (channel : Fin 2) (x : Transfer) (data : Bytes) (s : State), Hears s channel → (canOf s channel).xfer = some x → x.read = false
    → min 60 (x.head.len - x.data.length) ≤ data.length → x.data.length + 60 < x.head.len → (x.next + 1) % 16 ≠ 0 → Completes
    (.segment channel x.head.tag x.next data) s (fun t => (canOf t channel).xfer = some
    { x with data := x.data ++ data.take 60, next := x.next + 1, nacked := false } ∧ t.outbox = s.outbox)) ∧
  (∀ (channel : Fin 2) (x : Transfer) (data : Bytes) (s : State), Hears s channel → (canOf s channel).xfer = some x → x.read = false
    → min 60 (x.head.len - x.data.length) ≤ data.length → x.data.length + 60 < x.head.len → (x.next + 1) % 16 = 0 → Completes
    (.segment channel x.head.tag x.next data) s (fun t => (canOf t channel).xfer = some
    { x with data := x.data ++ data.take 60, next := x.next + 1, acked := x.next + 1, nacked := false } ∧ Answered s t channel
    (leBytes 1 4 ++ leBytes 1 x.head.tag ++ leBytes 2 (x.next + 1)))) ∧
  (∀ (channel : Fin 2) (tag seq : Nat) (data : Bytes) (s : State), Hears s channel → (canOf s channel).xfer = none → Completes
    (.segment channel tag seq data) s (fun t => Answered s t channel (abortBytes tag 0 0 0x06060005))) ∧
  (∀ (channel : Fin 2) (x : Transfer) (next : Nat) (s : State), Hears s channel → (canOf s channel).xfer = some x → x.read = true →
    segments x.data.length ≤ next → next ≤ x.next → Completes (.fiethAck channel x.head.tag next) s (fun t => (canOf t channel).xfer
    = none ∧ t.outbox = s.outbox)) ∧
  (∀ (channel : Fin 2) (x : Transfer) (next : Nat) (s : State), Hears s channel → (canOf s channel).xfer = some x → x.read = true →
    next < segments x.data.length → next ≤ x.next → Completes (.fiethAck channel x.head.tag next) s (fun t => (canOf t channel).xfer
    = some { x with next := max x.next (min (segments x.data.length) (next + 16)), acked := next })) ∧
  (∀ (channel : Fin 2) (x : Transfer) (code : Nat) (s : State), Hears s channel → (canOf s channel).xfer = some x → Completes
    (.fiethAbort channel x.head.tag code) s (fun t => (canOf t channel).xfer = none)) ∧
  (∀ (channel : Fin 2) (x : Transfer) (s : State), Hears s channel → (canOf s channel).xfer = some x → Completes
    (.transferIdleTimeout channel) s (fun t => (canOf t channel).xfer = none ∧ Answered s t channel (abortBytes x.head.tag
    x.head.idx x.head.sub 0x06060002))) ∧
  (∀ (f : FiethFrame) (s : State), Completes (.dupRecordExpire f) s (fun t => ∀ d ∈ s.fieth.dups, (d ∈ t.fieth.dups ↔ ¬ (d.head =
    headOf f ∧ d.out.isSome = true)))) ∧
  (∀ (s : State), Serves s → canTalks (canOf s 0) = true → canTalks (canOf s 1) = true → Completes (.fiethHeartbeat) s (fun t =>
    t.outbox = s.outbox ++ [.can 0 (0x700 + s.rst.node) (heartbeatBytes s 0), .can 1 (0x700 + s.rst.node) (heartbeatBytes s 1)]))

/-- The CAN channels and the entries written through them. A frame with an identifier of this node makes the channel listen only;
bus-off stops it and recovery makes it active with both error counters 0; the rate entries, the enabled channels, a host port entry and
an entry without a row of its own take a value that passes their checks; clearing the statistics leaves every entry of 0x7000 to 0x7fff
of level S at 0. (spec/16_fieth_dictionary_protocol.md; spec/17_dictionary_catalogue.md) -/
def Obligations.CanChannelCommands : Prop :=
  (∀ (channel : Fin 2) (ident : Nat) (s : State), s.rst.node ≠ 0 → s.rst.phase = .running → channel.val < s.fieth.chans.length →
    canTalks (canOf s channel) = true → ident = 0x480 + s.rst.node ∨ ident = 0x600 + s.rst.node ∨ ident = 0x700 + s.rst.node →
    Completes (.duplicateNode channel ident) s (fun t => (canOf t channel).st = .listenOnly ∧ (canOf t channel).dup = true ∧ Posted
    s t 0x0705 2 channel (leBytes 1 1))) ∧
  (∀ (channel : Fin 2) (s : State), channel.val < s.fieth.chans.length → canTalks (canOf s channel) = true → Completes (.canBusOff
    channel) s (fun t => (canOf t channel).st = .busOff ∧ dget t 0x701d05 = min (dget s 0x701d05 + 1) (2 ^ 32 - 1) ∧ (canOf t
    channel).xfer = (canOf s channel).xfer)) ∧
  (∀ (channel : Fin 2) (s : State), channel.val < s.fieth.chans.length → (canOf s channel).st = .busOff → Completes
    (.canBusOffRecovery channel) s (fun t => (canOf t channel).st = .active ∧ (canOf t channel).tec = 0 ∧ (canOf t channel).rec_ =
    0)) ∧
  (∀ (channel : Fin 2) (data : Bool) (code : Nat) (s : State), Serves s → s.pres.windowOpen = true → 1 ≤ code → code ≤ (if data then
    4 else 2) → Completes (.canRateWrite channel data code) s (fun t => dget t (0x108001 + 2 * channel.val + b2n data) = code)) ∧
  (∀ (value : Nat) (s : State), Serves s → s.pres.windowOpen = true → 1 ≤ value → value ≤ 3 → s.fieth.chans.length = 2 → Completes
    (.canChannelEnableWrite value) s (fun t => dget t 0x108007 = value ∧ (bitOf value 0 = false → (canOf t 0).st = .disabled) ∧
    (bitOf value 1 = false → (canOf t 1).st = .disabled) ∧ (bitOf value 0 = true → (canOf s 0).st ≠ .disabled → (canOf t 0).st =
    (canOf s 0).st))) ∧
  (∀ (k : Nat) (s : State), Serves s → s.pres.windowOpen = true → 0x700000 ≤ k → k < 0x800000 → levelOf k = .s → k ≠ 0x701d01 ∧ k ≠
    0x701d02 ∧ k ≠ 0x701d03 → Completes (.clearStatistics) s (fun t => dget t k = dictDefault k)) ∧
  (∀ (port : Fin 128) (sub value : Nat) (s : State), Serves s → s.pres.windowOpen = true → 1 ≤ sub → sub ≤ 7 → portRefusal s
    port.val sub value = none → Completes (.portConfigWrite port sub value) s (fun t => dget t (0x200000 + 256 * port.val + sub) =
    value)) ∧
  (∀ (idx sub : Nat) (value : Bytes) (e : Entry) (s : State), Serves s → idx = 0x1080 ∧ sub = 8 ∨ idx = 0x3101 ∧ 1 ≤ sub ∧ sub ≤ 56
    → writeCheck s idx sub 0 value.length = .ok e → valueRefusal s e idx sub (leNat value) = none → Completes (.dictWrite idx sub 0
    value) s (fun t => dget t (dkey idx sub) = leNat value)) ∧
  (∀ (idx sub off code : Nat) (value : Bytes) (s : State), Serves s → writeCheck s idx sub off value.length = .error code →
    Completes (.dictWrite idx sub off value) s (fun t => ∀ k, isConfig k = true → dget t k = dget s k))

/-- Power-on reset: what it clears and where the machine goes. PWRGD asserted begins a power-on reset with POWER_ON the one cause;
deasserted, or VDD_AON low, it takes the machine down at once with no cause kept and with the window closed; PORST_N makes PORST the
one cause. The end latches the node and begins the option load and Recall, or waits in reset while SYSRST_N is low.
(spec/20_reset_power_clocks.md) -/
def Obligations.PowerOnResetCommands : Prop :=
  (∀ (s : State), s.rst.phase = .off → Completes (.pwrgdAssert) s (fun t => t.rst.phase = .powerOn ∧ t.rst.pwrgd = true ∧
    t.rst.causes = 1)) ∧
  (∀ (s : State), s.rst.phase ≠ .off → Completes (.pwrgdDeassert) s (fun t => t.rst.phase = .off ∧ t.rst.pwrgd = false ∧
    t.rst.causes = 0 ∧ t.rst.powered = 0 ∧ t.pres.windowOpen = false ∧ t.host = {} ∧ t.rc = {} ∧ t.per.live = t.per.durable)) ∧
  (∀ (s : State), s.rst.porst = false → s.rst.phase ≠ .off → Completes (.porstAssert) s (fun t => t.rst.phase = .powerOn ∧
    t.rst.porst = true ∧ t.rst.causes = 2 ∧ t.host = {} ∧ t.rtc = s.rtc)) ∧
  (∀ (node : Fin 128) (s : State), s.rst.phase = .powerOn → s.rst.pwrgd = true → Completes (.powerOnResetEnd node) s (fun t =>
    t.rst.node = node ∧ t.rst.porst = false ∧ (s.rst.sysrst = false → t.rst.phase = .load ∧ t.md.mode = .recall) ∧ (s.rst.sysrst =
    true → t.rst.phase = .asserted ∧ t.rst.due = true))) ∧
  (∀ (s : State), s.rst.phase ≠ .off → Completes (.vddAonLow) s (fun t => t.rst.phase = .powerOn ∧ t.rst.causes = 1 ∧ t.rtc = 0 ∧
    t.pres.windowOpen = false))

/-- System reset: its window, its assertion and its causes. SYSRST_N and a request open a window with their cause bit pending, of the
full form while the Steoc runs with no seal; the end of the window asserts the internal reset, makes the pending causes the latched
ones and clears the units; the release begins the option load and Recall; SYSRST_N deasserted releases a reset that waits for it.
Writing ones clears cause bits. A core reset is accepted with its cause bit. (spec/20_reset_power_clocks.md) -/
def Obligations.SystemResetCommands : Prop :=
  (∀ (s : State), s.rst.phase = .running → s.md.mode ≠ .drain → s.fix.phase ≠ .sealed → s.fix.dumpDead = false → s.rst.loadDone =
    true → Completes (.sysrstAssert) s (fun t => t.rst.phase = .window ∧ t.rst.cause = setBit s.rst.cause 2 ∧ t.rst.short = false ∧
    t.rst.idle = idleBlocks s ∧ t.rst.sysrst = true)) ∧
  (∀ (s : State), s.rst.phase = .window → Completes (.systemResetWindowEnd) s (fun t => t.rst.phase = .asserted ∧ t.rst.causes =
    (bitList 11 s.rst.cause).foldl setBit s.rst.causes ∧ t.rst.cause = 0 ∧ t.rst.loadDone = false ∧ t.host = {} ∧ t.rc = {})) ∧
  (∀ (s : State), s.rst.phase = .asserted → s.rst.sysrst = false → Completes (.systemResetRelease) s (fun t => t.rst.phase = .load ∧
    t.md.mode = .recall)) ∧
  (∀ (s : State), s.rst.phase = .asserted → s.rst.sysrst = true → Completes (.systemResetRelease) s (fun t => t.rst.phase =
    .asserted ∧ t.rst.due = true)) ∧
  (∀ (s : State), s.rst.phase = .asserted → s.rst.due = true → Completes (.sysrstDeassert) s (fun t => t.rst.sysrst = false ∧
    t.rst.phase = .load ∧ t.md.mode = .recall)) ∧
  (∀ (mask : Nat) (s : State), Serves s → mask < 2 ^ 11 → Completes (.resetCauseClear mask) s (fun t => t.rst.causes = (bitList 11
    mask).foldl clrBit s.rst.causes)) ∧
  (∀ (s : State), Serves s → s.pres.windowOpen = true → s.rst.phase = .running → s.md.mode ≠ .drain → s.rst.coreRun = false →
    s.fieth.mccHeld = false → Completes (.coreResetRequest) s (fun t => t.rst.causes = setBit s.rst.causes 4 ∧ t.rst.coreRun = true
    ∧ t.rst.phase = .running)) ∧
  (∀ (s : State), Serves s → s.pres.windowOpen = true → s.rst.phase = .running → s.md.mode ≠ .drain → s.fix.phase ≠ .sealed →
    s.fix.dumpDead = false → s.rst.loadDone = true → Completes (.systemResetRequest) s (fun t => t.rst.phase = .window ∧ t.rst.cause
    = setBit s.rst.cause 3 ∧ t.rst.idle = idleBlocks s))

/-- The core reset, the boot verifier and the management core's clock. The end of the posted writes holds the MCC in reset, counts the
reset and empties CS14 and CS15; the MCC starts the preferred bank when its image verifies, and with neither bank valid the boot ROM
answers; the MCC watchdog starts a core reset; a lost MCC clock holds the MCC, and its return is seen. (spec/20_reset_power_clocks.md;
spec/15_cipher_and_keys.md) -/
def Obligations.CoreResetCommands : Prop :=
  (∀ (s : State), s.rst.coreRun = true → Completes (.coreResetDrainEnd) s (fun t => t.rst.coreRun = false ∧ t.fieth.mccHeld = true ∧
    t.fieth.boot = false ∧ (sliceOf t 14).lines = [] ∧ (sliceOf t 15).lines = [])) ∧
  (∀ (bankBok : Bool) (s : State), s.fieth.mccHeld = true → s.rst.coreRun = false → s.rst.mccClock = true → s.rst.loadDone = true →
    s.rst.optFault = false → s.keys.fenced = [] → s.keys.banks.length = 2 → dget s 0x402103 = 0 → headerOk (bankOf s 0).image = true
    → s.keys.fusedSvn ≤ headerField (bankOf s 0).image 8 1 → Completes (.mccResetRelease true bankBok) s (fun t => t.fieth.mccHeld =
    false ∧ t.fieth.boot = false ∧ t.keys.running = some 0 ∧ t.fieth.mccStarts = (s.fieth.mccStarts + 1) % 65536 ∧ (bankOf t
    0).valid = true)) ∧
  (∀ (s : State), s.fieth.mccHeld = true → s.rst.coreRun = false → s.rst.mccClock = true → s.rst.loadDone = true → s.rst.optFault =
    false → s.keys.fenced = [] → s.keys.banks.length = 2 → Completes (.mccResetRelease false false) s (fun t => t.fieth.boot = true
    ∧ t.keys.running = none ∧ (bankOf t 0).valid = false ∧ (bankOf t 1).valid = false)) ∧
  (∀ (s : State), s.fieth.mccHeld = false → s.rst.phase = .running → s.rst.coreRun = false → Completes (.mccWatchdogExpiry) s (fun t
    => t.rst.causes = setBit s.rst.causes 5 ∧ t.rst.coreRun = true)) ∧
  (∀ (s : State), s.rst.mccClock = true → Completes (.mccClockLoss) s (fun t => t.rst.mccClock = false ∧ t.fieth.mccHeld = true ∧
    t.fieth.boot = false ∧ t.rst.causes = setBit s.rst.causes 10)) ∧
  (∀ (s : State), Completes (.mccClockReturn) s (fun t => t.rst.mccClock = true))

/-- Blocks going idle, block resets, watchdogs and the option load. A block that reports idle leaves the window's list, the last one
leaving a reserve seal; a port group's, DRAM channel's or half's block that reports idle or times out after a fault is switched off; a
watchdog takes its block out; a port group is re-powered and its failed ports train; an option table that fails leaves the boot ROM
answering, a valid one ends the load. (spec/20_reset_power_clocks.md) -/
def Obligations.BlockResetCommands : Prop :=
  (∀ (block : Nat) (s : State), s.rst.phase = .window → s.rst.idle.contains block = true → block < 48 ∨ 102 ≤ block ∧ block < 112 →
    Completes (.blockIdleReport block) s (fun t => t.rst.idle = dropSet s.rst.idle block ∧ (dropSet s.rst.idle block = [] →
    t.rec_.reserveSeal = some s.per.live.writeSeq))) ∧
  (∀ (block : Nat) (s : State), s.rst.phase ≠ .window → s.rst.blockReset.contains block = true → Completes (.blockIdleReport block)
    s (fun t => t.rst.powered = clrBit s.rst.powered block ∧ t.rst.offFault = setBit s.rst.offFault block ∧ t.rst.blockReset =
    dropSet s.rst.blockReset block)) ∧
  (∀ (block : Nat) (s : State), s.rst.phase ≠ .window → s.rst.blockReset.contains block = true → Completes (.blockIdleTimeout block)
    s (fun t => t.rst.powered = clrBit s.rst.powered block ∧ t.rst.offFault = setBit s.rst.offFault block ∧ t.rst.blockReset =
    dropSet s.rst.blockReset block)) ∧
  (∀ (block : Nat) (s : State), bitOf s.rst.powered block = true → block < 16 → Completes (.blockWatchdogExpiry block) s (fun t =>
    t.rst.blockReset = insertSet s.rst.blockReset block ∧ ∀ p ∈ groupPorts block, (portOf t p).st = .failed)) ∧
  (∀ (block : Nat) (s : State), bitOf s.rst.powered block = true → 88 ≤ block ∧ block < 104 → (sliceOf s (block - 88)).st = .enabled
    → Completes (.blockWatchdogExpiry block) s (fun t => (sliceOf t (block - 88)).st = .failed ∧ (sliceOf t (block - 88)).lines =
    [])) ∧
  (∀ (group : Fin 16) (s : State), s.rst.repower.contains group.val = true → Completes (.portGroupRepower group) s (fun t =>
    t.rst.powered = setBit s.rst.powered group ∧ t.rst.offFault = clrBit s.rst.offFault group ∧ t.rst.repower = dropSet
    s.rst.repower group ∧ ∀ p ∈ groupPorts group.val, (portOf t p).st ≠ .failed)) ∧
  (∀ (o : OptionFields) (lost : List Nat) (s : State), s.rst.phase = .load → Completes (.optionLoadDone o false lost) s (fun t =>
    t.rst.phase = .running ∧ t.rst.optFault = true ∧ t.rst.loadDone = s.rst.loadDone ∧ t.fieth.boot = true)) ∧
  (∀ (o : OptionFields) (lost : List Nat) (s : State), s.rst.phase = .load → optionsOk o = true → Completes (.optionLoadDone o true
    lost) s (fun t => t.rst.phase = .running ∧ t.rst.loadDone = true ∧ t.rst.options = loadedOptions o ∧ t.rst.optFault =
    s.rst.optFault))

/-- Clocks, rails, fatal faults, port links and domains. A fatal fault (CLK_CORE without lock, a fabric error, a watchdog of PD_MAIN)
enters Drain with its cause bit and asserts FAULT_N; a monitor window with every clock good is stored; a rail reading within its limits
is stored; a port's link comes up; a PFC frame pauses and resumes priorities; a domain that Table 20.9 lets go off is switched off and
on. (spec/20_reset_power_clocks.md; spec/17_dictionary_catalogue.md) -/
def Obligations.ClockAndRailCommands : Prop :=
  (∀ (s : State), s.rst.phase = .running → s.md.mode ≠ .drain → Completes (.pllLockLost 0) s (fun t => t.md.mode = .drain ∧
    t.md.fault = true ∧ t.fix.cause = 2 ∧ t.rst.cause = setBit s.rst.cause 9)) ∧
  (∀ (s : State), s.rst.phase = .running → s.md.mode ≠ .drain → Completes (.coreFabricError) s (fun t => t.md.mode = .drain ∧
    t.md.fault = true ∧ t.fix.cause = 2 ∧ t.rst.cause = setBit s.rst.cause 9)) ∧
  (∀ (s : State), s.rst.phase = .running → s.md.mode ≠ .drain → Completes (.pdMainWatchdogExpiry) s (fun t => t.md.mode = .drain ∧
    t.md.fault = true ∧ t.fix.cause = 2 ∧ t.rst.cause = setBit s.rst.cause 9)) ∧
  (∀ (status : Nat) (s : State), s.rst.phase = .running → (∀ b ∈ bitList 11 s.rst.clocks, bitOf status b = true) → Completes
    (.clockMonitorWindow status) s (fun t => t.rst.clocks = status % 2048)) ∧
  (∀ (rail : Fin 10) (millivolts : Nat) (s : State), millivolts ≤ (railMax[rail.val]?).getD 0 → (rail = 0 → 728 ≤ millivolts ∧
    millivolts ≤ 772) → (rail = 1 → 776 ≤ millivolts ∧ millivolts ≤ 824) → (rail = 9 → 760 ≤ millivolts) → Completes
    (.railMonitorEvent rail millivolts) s (fun t => t.rst.rails = s.rst.rails.set rail millivolts)) ∧
  (∀ (port : Fin 128) (s : State), s.rst.loadDone = true → bitOf s.rst.powered (port / 8) = true → (portOf s port).st = .training ∨
    (portOf s port).st = .down ∨ (portOf s port).st = .failed → Completes (.portLinkUp port) s (fun t => (portOf t port).st = .up ∧
    (portOf t port).fecLock = true)) ∧
  (∀ (port : Fin 128) (priorities : Nat) (pause : Bool) (s : State), portOpen s port = true → Completes (.pfcPauseFrame port
    priorities pause) s (fun t => (portOf t port).pausedBy = (if pause then (bitList 8 priorities).foldl setBit (portOf s
    port).pausedBy else (bitList 8 priorities).foldl clrBit (portOf s port).pausedBy) ∧ dget t (0x710008 + port * 256) = (dget s
    (0x710008 + port * 256) + 1) % 2 ^ 64)) ∧
  (∀ (domain : Fin 112) (s : State), Serves s → s.pres.windowOpen = true → s.md.mode ≠ .drain → s.rst.phase = .running → bitOf
    s.rst.offReq domain = false → domain.val < 16 ∨ 88 ≤ domain.val ∧ domain.val < 104 → offAllowed s domain = true → Completes
    (.domainOffRequest domain) s (fun t => t.rst.offReq = setBit s.rst.offReq domain ∧ t.rst.powered = clrBit s.rst.powered domain)) ∧
  (∀ (domain : Fin 112) (s : State), Serves s → s.pres.windowOpen = true → s.md.mode ≠ .drain → s.rst.phase = .running → bitOf
    s.rst.offReq domain = true → onAllowed s domain = true → Completes (.domainOnRequest domain) s (fun t => t.rst.offReq = clrBit
    s.rst.offReq domain))

/-- Stipple requests that pass the admission order are admitted. For each of the eight opcodes, a datagram that passes steps 1 to 13 of
the admission order enters the in-flight table as the next operation with its host, sequence, region, key and offset; ADD, CAS, FENCE
and PLACE also create a pending replay entry for their token. (spec/03_stipple_transport.md; spec/05_regions_tenants_keys.md) -/
def Obligations.StippleRequestCommands : Prop :=
  (∀ (d : Datagram) (s : State), Admits 1 d s → Completes (.stippleRead d) s (fun t => Entered .read (parse d.payload) s t)) ∧
  (∀ (d : Datagram) (s : State), Admits 2 d s → Completes (.stippleWrite d) s (fun t => Entered .write (parse d.payload) s t)) ∧
  (∀ (d : Datagram) (s : State), Admits 3 d s → Completes (.stippleAdd d) s (fun t => Entered .add (parse d.payload) s t ∧
    ReplayPending (parse d.payload) t)) ∧
  (∀ (d : Datagram) (s : State), Admits 4 d s → Completes (.stippleCas d) s (fun t => Entered .cas (parse d.payload) s t ∧
    ReplayPending (parse d.payload) t)) ∧
  (∀ (d : Datagram) (s : State), Admits 5 d s → Completes (.stippleFence d) s (fun t => Entered .fence (parse d.payload) s t ∧
    ReplayPending (parse d.payload) t)) ∧
  (∀ (d : Datagram) (s : State), Admits 6 d s → Completes (.stipplePlace d) s (fun t => Entered .place (parse d.payload) s t ∧
    ReplayPending (parse d.payload) t)) ∧
  (∀ (d : Datagram) (s : State), Admits 7 d s → Completes (.stippleDiscard d) s (fun t => Entered .discard (parse d.payload) s t)) ∧
  (∀ (d : Datagram) (s : State), Admits 8 d s → Completes (.readBatch d) s (fun t => Entered .batch (parse d.payload) s t))

/-- Replay entries expire and fences end with a gap. A complete entry expires, and its sequence becomes the slot's EXPIRED unless a
later one stands; a fence whose covered sequences are missing at its timeout ends with FENCE_GAP, the first missing sequence and their
count. (spec/03_stipple_transport.md) -/
def Obligations.ReplayAndFenceCommands : Prop :=
  (∀ (host seq : Nat) (e : ReplayEntry) (s : State), s.host.replay = [e] → e.token = ⟨host, seq⟩ → e.pending = false → (slotOf s
    host).nonEmpty = true → (slotOf s host).expiredValid = false → Completes (.replayEntryExpire host seq false) s (fun t =>
    t.host.replay = [] ∧ (slotOf t host).expired = seq ∧ (slotOf t host).expiredValid = true)) ∧
  (∀ (host seq : Nat) (e : ReplayEntry) (s : State), s.host.mirror = [e] → e.token = ⟨host, seq⟩ → e.pending = false → Completes
    (.replayEntryExpire host seq true) s (fun t => t.host.mirror = [] ∧ t.host.replay = s.host.replay)) ∧
  (∀ (o : Op) (r : ReplyTo) (q : Nat) (l : List Nat) (s : State), findOp s o.id = some o → o.kind = .fence → o.origin = .stipple r →
    missingSeqs s o = q :: l → s.fix.quiesced = false → s.snap.cut = none → (∀ e ∈ s.host.replay, e.token = ⟨o.host, o.seq⟩ → e.held
    = none) → Completes (.fenceTimeout o.id) s (fun t => t.outbox = s.outbox ++ [.stipple r true ⟨8, 1, q, l.length + 1, []⟩
    s.rst.node (incarnation s)] ∧ findOp t o.id = none))

/-- Line requests, fills and write-backs of the slices. A read at the head of a slice's queue that hits is served: its bytes go to its
operation and the request leaves the queue; a prefetched line that returns is installed in the way its class takes; a write-back of a
page in DRAM leaves the buffer; an uncorrectable SRAM error disables its way and a correctable one is noted; a failed slice holds no
lines and is switched off; the end of a walk ends the maintenance operation. (spec/07_cache_slices.md) -/
def Obligations.SliceRequestCommands : Prop :=
  (∀ (slice : Fin 14) (o : Op) (c : ReqClass) (line lo len dst : Nat) (p : Nat × CLine) (rest : List LineReq) (s : State), (sliceOf
    s slice).queue = ⟨o.id, c, line, .read lo len dst⟩ :: rest → s.pres.armed = [] → findOp s o.id = some o → o.nak = none →
    rcBlocked s o = false → (dirOf s (lineTpn line)).poison = false → (sliceOf s slice).st = .enabled → cached (sliceOf s slice)
    line = some p → Completes (.homeSliceRequest slice) s (fun t => (sliceOf t slice).queue = rest ∧ findOp t o.id = some
    { o with reads := mpaste o.reads dst len (mslice p.2.data lo len), waiting := o.waiting - 1 })) ∧
  (∀ (slice : Fin 14) (line w : Nat) (s : State), homeSlice line = slice → (sliceOf s slice).fills = [⟨line, .prefetch, false,
    false, []⟩] → fillBlocked s line = false → (sliceOf s slice).st = .enabled → victimWay (sliceOf s slice) (lineSet line)
    .prefetch = some w → tfind (sliceOf s slice).lines (lineSet line * 16 + w) = none → s.cs.maintLine = none → Completes
    (.fillReturn slice line) s (fun t => (sliceOf t slice).fills = [] ∧ (∃ x, tfind (sliceOf t slice).lines (lineSet line * 16 + w)
    = some x ∧ x.tag = lineTag line ∧ x.data = readLine s line ∧ x.dirty = false))) ∧
  (∀ (slice : Fin 14) (w : WriteBack) (s : State), (sliceOf s slice).wbs = [w] → inNand (dirOf s (lineTpn w.line)) = false →
    Completes (.dramWriteDone slice w.line) s (fun t => (sliceOf t slice).wbs = [] ∧ (w.kill = true → s.cs.maintLine = some w.line →
    dget t 0x310202 = 0 ∧ t.cs.maintLine = none))) ∧
  (∀ (slice way : Fin 16) (lost : List Nat) (s : State), bitOf (sliceOf s slice).wayOff way = false → countBits 16 (setBit (sliceOf
    s slice).wayOff way) < 5 → Completes (.sliceSramError slice way true lost) s (fun t => (sliceOf t slice).wayOff = setBit
    (sliceOf s slice).wayOff way ∧ (∀ p ∈ (sliceOf t slice).lines, p.1 % 16 ≠ way.val))) ∧
  (∀ (slice way : Fin 16) (lost : List Nat) (s : State), ((recentErrs s slice).filter (fun p => p.1 = way.val)).length < 7 →
    Completes (.sliceSramError slice way false lost) s (fun t => (sliceOf t slice).errs = recentErrs s slice ++ [(way.val, s.rtc)] ∧
    (sliceOf t slice).lines = (sliceOf s slice).lines ∧ dget t 0x701407 = (dget s 0x701407 + 1) % 2 ^ 64)) ∧
  (∀ (slice : Fin 16) (cause : Nat) (lost : List Nat) (s : State), (sliceOf s slice).st ≠ .failed → Completes (.sliceFail slice
    cause lost) s (fun t => (sliceOf t slice).st = .failed ∧ (sliceOf t slice).lines = [] ∧ bitOf t.rst.offFault (88 + slice) =
    true)) ∧
  (∀ (slice : Fin 16) (w : Walk) (s : State), (sliceOf s slice).walk = some w → Completes (.sliceWalkDone slice) s (fun t =>
    (sliceOf t slice).walk = none ∧ dget t 0x310202 = 0 ∧ (w = .disable → (sliceOf t slice).st = .stale) ∧ (∀ p ∈ (sliceOf t
    slice).lines, p.2.dirty = false ∨ p.2.pinned = true)))

/-- Cache maintenance by address and by slice. With no maintenance operation running: CLEAN_ADDR makes a cached line clean and keeps
it, FLUSH_ADDR drops it, INVALIDATE_ADDR drops a clean one and refuses a dirty one; CLEAN_SLICE, FLUSH_SLICE and DISABLE start the walk
of a data slice with status 0xff; INVALIDATE_SLICE empties a stale slice; ENABLE enables an invalidated one. (spec/07_cache_slices.md) -/
def Obligations.CacheMaintenanceCommands : Prop :=
  (∀ (line : Nat) (p : Nat × CLine) (s : State), TakesMaintenance s → regionOfTpn s (lineTpn line) ≠ none → (sliceOf s (homeSlice
    line)).st = .enabled → (sliceOf s (homeSlice line)).fills = [] → cached (sliceOf s (homeSlice line)) line = some p → Completes
    (.cleanAddr line) s (fun t => dget t 0x310202 = 0 ∧ (sliceOf t (homeSlice line)).lines = tput (sliceOf s (homeSlice line)).lines
    p.1 { p.2 with dirty := false })) ∧
  (∀ (line : Nat) (p : Nat × CLine) (s : State), TakesMaintenance s → regionOfTpn s (lineTpn line) ≠ none → (sliceOf s (homeSlice
    line)).st = .enabled → (sliceOf s (homeSlice line)).fills = [] → cached (sliceOf s (homeSlice line)) line = some p → Completes
    (.flushAddr line) s (fun t => dget t 0x310202 = 0 ∧ (sliceOf t (homeSlice line)).lines = tdel (sliceOf s (homeSlice line)).lines
    p.1)) ∧
  (∀ (line : Nat) (p : Nat × CLine) (s : State), TakesMaintenance s → regionOfTpn s (lineTpn line) ≠ none → (sliceOf s (homeSlice
    line)).st = .enabled → (sliceOf s (homeSlice line)).fills = [] → cached (sliceOf s (homeSlice line)) line = some p → Completes
    (.invalidateAddr line) s (fun t => dget t 0x310202 = b2n p.2.dirty ∧ (sliceOf t (homeSlice line)).lines = (if p.2.dirty then
    (sliceOf s (homeSlice line)).lines else tdel (sliceOf s (homeSlice line)).lines p.1))) ∧
  (∀ (slice : Fin 16) (s : State), TakesMaintenance s → slice.val < 14 → (sliceOf s slice).st = .enabled → Completes (.cleanSlice
    slice) s (fun t => dget t 0x310202 = 255 ∧ (sliceOf t slice).walk = some .clean ∧ (sliceOf t slice).st = .enabled)) ∧
  (∀ (slice : Fin 16) (s : State), TakesMaintenance s → slice.val < 14 → (sliceOf s slice).st = .enabled → Completes (.flushSlice
    slice) s (fun t => dget t 0x310202 = 255 ∧ (sliceOf t slice).walk = some .flush ∧ (sliceOf t slice).st = .enabled)) ∧
  (∀ (slice : Fin 16) (s : State), TakesMaintenance s → slice.val < 14 → (sliceOf s slice).st = .enabled → Completes (.disable
    slice) s (fun t => dget t 0x310202 = 255 ∧ (sliceOf t slice).walk = some .disable ∧ (sliceOf t slice).st = .disabling)) ∧
  (∀ (slice : Fin 16) (s : State), TakesMaintenance s → (sliceOf s slice).st = .stale → Completes (.invalidateSlice slice) s (fun t
    => dget t 0x310202 = 0 ∧ (sliceOf t slice).st = .invalidated ∧ (sliceOf t slice).lines = [])) ∧
  (∀ (slice : Fin 16) (s : State), TakesMaintenance s → (sliceOf s slice).st = .invalidated → Completes (.enable slice) s (fun t =>
    dget t 0x310202 = 0 ∧ (sliceOf t slice).st = .enabled))

/-- The switch of a page move and the return of displaced pages. When the copy of a page move ends, outside Drain, with the dirty
volume below its limit and no other page waiting to move, the directory names the destination as the home, MOVING is clear and the move
is gone; a write of 1 to 0x3000.08 with no page displaced ends at once and reads 0. (spec/06_tiers_and_placement.md) -/
def Obligations.TierCommands : Prop :=
  (∀ (tpn f : Nat) (c : MoveCause) (s : State), s.tier.moves = [⟨tpn, c, .dram f⟩] → TierIdle s → s.md.mode ≠ .drain → tpn ∉
    s.rec_.unrestored → countedDirty s < dirtyLimit s → (dirOf s tpn).held = false → Completes (.moveCopyDone tpn) s (fun t =>
    (dirOf t tpn).home = .dram f ∧ (dirOf t tpn).moving = false ∧ t.tier.moves = [])) ∧
  (∀ (s : State), Serves s → TierIdle s → (live s).dir.filter (fun p => p.2.displaced) = [] → Completes (.rehomeDisplaced) s (fun t
    => dget t 0x300008 = 0 ∧ t.tier.rehoming = []))

/-- Packets of queue pairs become operations in order. A packet that reaches a cached context in service in order, and passes the
checks of its admission, becomes the next operation in flight with its queue pair, PSN and address; on a go-back-N queue pair EPSN
moves past it, by the number of response packets for a READ; RELEASE also closes the queue pair. (spec/04_queue_pair_transport.md) -/
def Obligations.RcPacketCommands : Prop :=
  (∀ (p : RcPacket) (q : Qp) (r : Option Region) (s : State), TakesPacket p q r s → q.spray = false → 6 ≤ p.opcode ∧ p.opcode ≤ 11 →
    Completes (.rdmaWrite p) s (fun t => PacketEntered .write p q s t ∧ (heldQp t p.qpn).map (·.epsn) = some (psnAdd q.epsn 1))) ∧
  (∀ (p : RcPacket) (q : Qp) (r : Option Region) (s : State), TakesPacket p q r s → q.spray = false → p.opcode = 12 → Completes
    (.rdmaReadRequest p) s (fun t => PacketEntered .read p q s t ∧ (heldQp t p.qpn).map (·.epsn) = some (psnAdd q.epsn (rcPackets q
    p.dmaLen)))) ∧
  (∀ (p : RcPacket) (q : Qp) (r : Option Region) (s : State), TakesPacket p q r s → q.spray = false → p.opcode = 19 → Completes
    (.compareSwap p) s (fun t => PacketEntered .cas p q s t ∧ (heldQp t p.qpn).map (·.epsn) = some (psnAdd q.epsn 1))) ∧
  (∀ (p : RcPacket) (q : Qp) (r : Option Region) (s : State), TakesPacket p q r s → q.spray = false → p.opcode = 20 → Completes
    (.fetchAdd p) s (fun t => PacketEntered .add p q s t ∧ (heldQp t p.qpn).map (·.epsn) = some (psnAdd q.epsn 1))) ∧
  (∀ (p : RcPacket) (q : Qp) (r : Option Region) (s : State), TakesPacket p q r s → q.spray = true → q.bitmap = 0 → qpOps s p.qpn =
    [] → q.responses = [] → p.opcode = 192 → Completes (.sprayWrite p) s (fun t => PacketEntered .write p q s t ∧ (heldQp t
    p.qpn).map (·.epsn) = some q.epsn)) ∧
  (∀ (p : RcPacket) (q : Qp) (r : Option Region) (s : State), TakesPacket p q r s → q.spray = false → p.opcode = 4 → controlOf p =
    some 1 → Completes (.keepalive p) s (fun t => PacketEntered .write p q s t ∧ (heldQp t p.qpn).map (·.epsn) = some (psnAdd q.epsn
    1))) ∧
  (∀ (p : RcPacket) (q : Qp) (r : Option Region) (s : State), TakesPacket p q r s → q.spray = false → p.opcode = 4 → controlOf p =
    some 2 → Completes (.release p) s (fun t => PacketEntered .write p q s t ∧ (heldQp t p.qpn).map (·.epsn) = some (psnAdd q.epsn
    1) ∧ (heldQp t p.qpn).map (·.st) = some .closing))

/-- Completion, acknowledgement, read responses, congestion control and contexts. A Stipple READ that meets the completion rule is
answered with its bytes and leaves the in-flight table. On a queue pair: what is complete without a gap is acknowledged when the timer
runs out; a SPRAY ACK carries BASE and the bitmap and clears the mark; the next READ response leaves and its PSN completes; a CNP
lowers the rate and raises alpha; an alpha period lowers alpha; a rate increase period raises the rate; a context that arrives is
cached. (spec/02_persistence_contract.md; spec/04_queue_pair_transport.md) -/
def Obligations.RcAnswerCommands : Prop :=
  (∀ (o : Op) (r : ReplyTo) (s : State), findOp s o.id = some o → o.origin = .stipple r → o.kind = .read → o.nak = none → opEnded s
    o = true → SendsAtOnce s → s.rc.parked = [] → Completes (.completionRelease o.id) s (fun t => findOp t o.id = none ∧ t.outbox =
    s.outbox ++ [.stipple r false { okVal with data := mbytes o.reads 0 o.len } s.rst.node (incarnation s)])) ∧
  (∀ (qpn f : Nat) (q : Qp) (s : State), heldQp s qpn = some q → q.done = [(psnAdd q.ackPsn 1, f)] → q.st = .serving → f ≠ 3 →
    SendsAtOnce s → Completes (.ackTimer qpn) s (fun t => heldQp t qpn = some
    { q with ackPsn := psnAdd q.ackPsn 1, msn := psnAdd q.msn (b2n (endsMessage f)), done := [] } ∧ t.outbox = s.outbox ++ [.rc
    q.port qpn 0x1f (psnAdd q.ackPsn 1) (psnAdd q.msn (b2n (endsMessage f))) none])) ∧
  (∀ (qpn : Nat) (q : Qp) (s : State), heldQp s qpn = some q → q.st = .serving → q.spray = true → q.sprayDirty = true → q.sprayNak =
    none → SendsAtOnce s → Completes (.sprayAckTimer qpn) s (fun t => heldQp t qpn = some { q with sprayDirty := false } ∧ t.outbox
    = s.outbox ++ [.sprayAck q.port qpn q.epsn q.bitmap 0x1f q.epsn])) ∧
  (∀ (qpn : Nat) (q : Qp) (r : RespPkt) (rest : List RespPkt) (s : State), heldQp s qpn = some q → q.st = .serving → q.spray = false
    → q.done = [] → q.ackPsn < psnMod → q.responses = r :: rest → r.psn = psnAdd q.ackPsn 1 → r.key = 0 → SendsAtOnce s → Completes
    (.readResponseSend qpn) s (fun t => t.outbox = s.outbox ++ [.rcRead q.port qpn r.psn r.data] ∧ heldQp t qpn = some
    { q with responses := rest, done := [], ackPsn := r.psn, msn := psnAdd q.msn (b2n r.last) })) ∧
  (∀ (qpn : Nat) (q : Qp) (s : State), heldQp s qpn = some q → Completes (.cnpReceive qpn) s (fun t => heldQp t qpn = some
    { q with target := q.rate, rate := max (q.rate - q.rate * q.alpha / 2048) (dget s 0x21020b), alpha := (1024 - min 1024 (dget s 0x210207)) * q.alpha / 1024 + min 1024 (dget s 0x210207), stage := 0 })) ∧
  (∀ (qpn : Nat) (q : Qp) (s : State), heldQp s qpn = some q → Completes (.rateAlphaTick qpn) s (fun t => heldQp t qpn = some
    { q with alpha := (1024 - min 1024 (dget s 0x210207)) * q.alpha / 1024 })) ∧
  (∀ (qpn : Nat) (q : Qp) (s : State), heldQp s qpn = some q → Completes (.rateIncreaseTick qpn) s (fun t => heldQp t qpn = some (if
    q.stage < 5 then { q with stage := q.stage + 1, rate := (q.rate + q.target) / 2 } else
    { q with target := min (q.target + dget s 0x21020a) 100000, rate := (q.rate + min (q.target + dget s 0x21020a) 100000) / 2 }))) ∧
  (∀ (qpn : Nat) (s : State), s.rc.fetching.contains qpn = true → s.rc.cache.length < 4096 → s.rc.held = [] → Completes
    (.contextFetchDone qpn) s (fun t => t.rc.cache = s.rc.cache ++ [qpn] ∧ t.rc.fetching = dropSet s.rc.fetching qpn))

/-- Connection management of queue pairs. A REQ that is refused draws REJ with the code of Table 4.4; one that is accepted makes a
context in state connecting and, outside a working pair, draws REP; an RTU puts the context into service; a DREQ of the host closes it,
and with nothing left frees it and draws DREP; a DREP or a timeout frees a queue pair whose own DREQ was sent; a queue pair that never
gets its RTU is freed; an idle queue pair draws a DREQ. (spec/04_queue_pair_transport.md) -/
def Obligations.ConnectionCommands : Prop :=
  (∀ (m : CmReq) (c : Nat) (s : State), portOpen s m.port.val = true → reqRefusal s m = some c → Completes (.cmReq m) s (fun t =>
    t.outbox = s.outbox ++ [.cmRej m.port.val m.commId c] ∧ t.rc = s.rc)) ∧
  (∀ (m : CmReq) (s : State), portOpen s m.port.val = true → reqRefusal s m = none → pairWorks s = false → s.rst.node ≠ 0 → s.rc.own
    = [] → Completes (.cmReq m) s (fun t => ∃ i q, heldQp t (s.rst.node * 65536 + i) = some q ∧ q.st = .connecting ∧ q.host =
    m.hostId ∧ q.tenant = hostTenant s m.hostId ∧ q.epsn = m.startPsn ∧ q.remoteQpn = m.remoteQpn ∧ q.port = m.port.val ∧ t.outbox =
    s.outbox ++ [.cmRep q.port m.commId (s.rst.node * 65536 + i) (b2n q.spray) (incarnation s) s.cp.twinNode (Config.twinAddr
    q.port) q.respRes])) ∧
  (∀ (qpn : Nat) (q : Qp) (s : State), heldQp s qpn = some q → q.st = .connecting → Completes (.cmRtu qpn) s (fun t => heldQp t qpn
    = some { q with st := .serving, lastRx := s.rtc })) ∧
  (∀ (qpn : Nat) (q : Qp) (s : State), heldQp s qpn = some q → q.ownDreq = true → Completes (.cmDreq qpn) s (fun t => heldQp t qpn =
    none ∧ t.outbox = s.outbox ++ [.cmDrep q.port qpn])) ∧
  (∀ (qpn : Nat) (q : Qp) (s : State), heldQp s qpn = some q → q.ownDreq = false → q.done = [] → qpOps s qpn = [] → q.responses = []
    → Completes (.cmDreq qpn) s (fun t => heldQp t qpn = none ∧ t.outbox = s.outbox ++ [.cmDrep q.port qpn])) ∧
  (∀ (qpn : Nat) (q : Qp) (s : State), heldQp s qpn = some q → q.ownDreq = false → q.done = [] → qpOps s qpn ≠ [] → Completes
    (.cmDreq qpn) s (fun t => heldQp t qpn = some { q with st := .closing } ∧ t.outbox = s.outbox)) ∧
  (∀ (qpn : Nat) (q : Qp) (s : State), heldQp s qpn = some q → q.ownDreq = true → Completes (.cmDrep qpn) s (fun t => heldQp t qpn =
    none)) ∧
  (∀ (qpn : Nat) (q : Qp) (s : State), heldQp s qpn = some q → q.st = .connecting → s.rc.waitShadow = [] → Completes
    (.connectTimeout qpn) s (fun t => heldQp t qpn = none)) ∧
  (∀ (qpn : Nat) (q : Qp) (s : State), heldQp s qpn = some q → q.st = .serving → dget s 0x210203 ≠ 0 → (s.rtc + 2 ^ 32 - q.lastRx) %
    2 ^ 32 ≥ dget s 0x210203 * 1000 → Completes (.qpIdleTimeout qpn) s (fun t => heldQp t qpn = some
    { q with st := .closing, ownDreq := true } ∧ t.outbox = s.outbox ++ [.cmDreq q.port qpn])) ∧
  (∀ (qpn : Nat) (q : Qp) (s : State), heldQp s qpn = some q → q.ownDreq = true → Completes (.drepTimeout qpn) s (fun t => heldQp t
    qpn = none))

/-- Region and key commands outside a working pair. A command block that is taken and needs no claim: CREATE makes an active region of
the size, tenant and owner asked for and reports its base; DELETE removes a region without keys; RESIZE grows a region at once and
begins a fence to shrink it; ISSUE_KEY makes the next key of an entry valid for the region and reports it; REVOKE_KEY and REVOKE_REGION
set their keys fencing and begin one fence, the status staying 0xff; SET_OWNER to the present owner reports 0.
(spec/05_regions_tenants_keys.md) -/
def Obligations.RegionCommands : Prop :=
  (∀ (b : RegionBlock) (slot base : Nat) (s : State), TakesBlock 1 b s → findRegion s b.region = none → (tenantOf s b.tenant).enable
    = true → tenantRegions s b.tenant < (tenantOf s b.tenant).maxRegions → tierFits s b.tenant b.tier b.pages = true → findSlot s =
    some slot → findBase s b.pages = some base → Completes (.create b) s (fun t => findRegion t b.region = some (slot, ⟨b.region,
    .active, b.owner, b.tenant, b.pages, base⟩) ∧ Reported t base)) ∧
  (∀ (b : RegionBlock) (slot : Nat) (r : Region) (s : State), TakesBlock 2 b s → findRegion s b.region = some (slot, r) → regionKeys
    s r.id = 0 → Completes (.delete b) s (fun t => (live t).regions = tdel (live s).regions slot ∧ Reported t 0)) ∧
  (∀ (b : RegionBlock) (slot : Nat) (r : Region) (s : State), TakesBlock 3 b s → findRegion s b.region = some (slot, r) → r.st =
    .active → r.pages < b.pages → tierFits s r.tenant b.tier (b.pages - r.pages) = true → (live s).regions.all (fun p => p.2.base <
    r.base + r.pages || r.base + b.pages ≤ p.2.base) = true → r.base + b.pages ≤ 2 ^ 32 → Completes (.resize b) s (fun t =>
    (findRegion t b.region).map (·.2.pages) = some b.pages ∧ Reported t b.pages)) ∧
  (∀ (b : RegionBlock) (slot : Nat) (r : Region) (s : State), TakesBlock 3 b s → findRegion s b.region = some (slot, r) → b.pages <
    r.pages → Completes (.resize b) s (fun t => t.eng.fence = some ⟨r.id, [], some b.pages, false, false, false, false⟩ ∧ dget t
    0x221002 = 255 ∧ (findRegion t b.region).map (·.2.st) = some .fencing)) ∧
  (∀ (b : RegionBlock) (slot i : Nat) (r : Region) (s : State), TakesBlock 4 b s → findRegion s b.region = some (slot, r) →
    regionKeys s r.id < 16 → issuable s = some i → Completes (.issueKey b) s (fun t => (keyOf t i).st = .valid ∧ (keyOf t i).region
    = r.id ∧ (keyOf t i).gen = ((keyOf s i).gen + 1) % 16384 ∧ Reported t (i * 16384 + (keyOf s i).gen + 1))) ∧
  (∀ (b : RegionBlock) (slot i : Nat) (r : Region) (s : State), TakesBlock 5 b s → findRegion s b.region = some (slot, r) → i =
    b.key / 16384 → i ≠ 0 → (keyOf s i).region = r.id → (keyOf s i).gen = b.key % 16384 → (keyOf s i).st = .valid → Completes
    (.revokeKey b) s (fun t => t.eng.fence = some ⟨r.id, [i], none, false, false, false, false⟩ ∧ (keyOf t i).st = .fencing ∧ dget t
    0x221002 = 255)) ∧
  (∀ (b : RegionBlock) (slot : Nat) (r : Region) (keys : List Nat) (s : State), TakesBlock 6 b s → findRegion s b.region = some
    (slot, r) → keys = ((live s).keys.filter (fun p => p.2.st = .valid ∧ p.2.region = r.id)).map (·.1) → keys ≠ [] → Completes
    (.revokeRegion b) s (fun t => t.eng.fence = some ⟨r.id, keys, none, false, false, false, false⟩ ∧ dget t 0x221002 = 255 ∧ (∀ i ∈
    keys, (keyOf t i).st = .fencing))) ∧
  (∀ (b : RegionBlock) (slot : Nat) (r : Region) (s : State), TakesBlock 7 b s → findRegion s b.region = some (slot, r) → b.owner =
    r.owner → Completes (.setOwner b) s (fun t => Reported t 0 ∧ (live t).regions = (live s).regions))

/-- The fence of a revocation, and table writes. At its fence point a fence is logged and past; when everything admitted before it is
served, its keys are revoked and the command reports; at its deadline the requests still waiting end with its NAK. Outside a working
pair a tenant, quota or host element that passes its checks is in its table, and a replay window in range is set.
(spec/03_stipple_transport.md; spec/05_regions_tenants_keys.md; spec/06_tiers_and_placement.md) -/
def Obligations.FenceCommands : Prop :=
  (∀ (f : Fence) (s : State), s.eng.fence = some f → f.past = false → Completes (.fencePoint) s (fun t => t.eng.fence = some
    { f with past := true } ∧ (live t).fenceLog = some f)) ∧
  (∀ (f : Fence) (c : RunCmd) (s : State), s.eng.fence = some f → f.past = true → f.drained = false → f.forTwin = false → f.newPages
    = none → drained s = true → s.eng.run = some c → pairWorks s = false → s.eng.claimed = [] → Completes (.fenceDrainEnd) s (fun t
    => t.eng.fence = none ∧ t.eng.run = none ∧ Reported t c.result ∧ (∀ i ∈ f.keys, (keyOf t i).st = .revoked))) ∧
  (∀ (f : Fence) (o : Op) (s : State), s.eng.fence = some f → f.past = true → s.host.ops = [o] → o.fenced = true → 0 < o.waiting →
    o.kind ≠ .batch → o.nak = none → Completes (.fenceCancelDeadline) s (fun t => t.eng.fence = some { f with deadline := true } ∧
    (findOp t o.id).map (·.nak) = some (some (fenceNak f)))) ∧
  (∀ (tenant : Fin 256) (value : Nat) (s : State), TakesElement 0x2201 tenant value s → Completes (.tenantTableWrite tenant value) s
    (fun t => tenantOf t tenant = ⟨bitOf value 63, bits value 32 17⟩)) ∧
  (∀ (tenant : Fin 256) (value : Nat) (s : State), TakesElement 0x3001 tenant value s → quotaRefused (applyElem (.quota tenant
    value) s) tenant value = false → Completes (.quotaTableWrite tenant value) s (fun t => (quotaOf t tenant).dramQuota = bits value
    96 32 ∧ (quotaOf t tenant).nandQuota = bits value 32 32)) ∧
  (∀ (host : Fin 65536) (value : Nat) (s : State), TakesElement 0x2101 host value s → Completes (.hostTableWrite host value) s (fun
    t => tget 0 (live t).hosts host = value)) ∧
  (∀ (ms : Nat) (s : State), Serves s → ms ≠ 0 → ms ≤ 64 → Completes (.replayWindowWrite ms) s (fun t => dget t 0x210002 = ms))

/-- Words read from DRAM: a corrected error and the Burnisher. A corrected word of a serving channel that has no open entry, with room
in the log, is counted and logged with CNT 1 at STEP 0; outside a burst the Burnisher moves on by one word and a good word leaves the
log as it is. (spec/08_dram_subsystem.md) -/
def Obligations.DramErrorCommands : Prop :=
  (∀ (channel : Fin 32) (e : DramWord) (s : State), servingChan s channel = true → e.verdict = 1 → s.pres.injecting = false →
    openEntry (chanOf s channel) (wordKey e) = none → (chanOf s channel).log.length < 64 → Completes (.dramReadDone channel e) s
    (fun t => (chanOf t channel).log = (chanOf s channel).log ++ [⟨wordKey e, false, 0, 1, 1, s.rtc, e.device, e.col, rowOf e⟩] ∧
    dget t (chanKey channel 2) = (dget s (chanKey channel 2) + 1) % 2 ^ 64)) ∧
  (∀ (channel : Fin 32) (e : DramWord) (s : State), servingChan s channel = true → inBurst (chanOf s channel) = false → e.verdict =
    0 → s.pres.armed = [] → Completes (.burnisherScrub channel e) s (fun t => (chanOf t channel).patrol = (chanOf s channel).patrol
    + 1 ∧ (chanOf t channel).log = (chanOf s channel).log))

/-- Refresh, panic and power states of a DRAM channel. A refresh due in a burst is postponed while fewer than eight are owed, then
counted as forced; after the burst one owed refresh is issued; panic wakes every rank and marks its source, and clears again; an idle
rank goes to power-down, and from there to self-refresh under Endurance, where it owes no refresh. (spec/08_dram_subsystem.md) -/
def Obligations.DramRefreshCommands : Prop :=
  (∀ (channel : Fin 32) (subrank : Fin 4) (s : State), servingChan s channel = true → inBurst (chanOf s channel) = true → ((chanOf s
    channel).rankPower[subrank.val % 2]?).getD 0 ≠ 2 → ((chanOf s channel).post[subrank.val]?).getD 0 < 8 → Completes (.refreshDue
    channel subrank) s (fun t => (chanOf t channel).post = (chanOf s channel).post.set subrank (((chanOf s
    channel).post[subrank.val]?).getD 0 + 1) ∧ dget t 0x701503 = (dget s 0x701503 + 1) % 2 ^ 64)) ∧
  (∀ (channel : Fin 32) (subrank : Fin 4) (s : State), servingChan s channel = true → inBurst (chanOf s channel) = true → ((chanOf s
    channel).rankPower[subrank.val % 2]?).getD 0 ≠ 2 → 8 ≤ ((chanOf s channel).post[subrank.val]?).getD 0 → Completes (.refreshDue
    channel subrank) s (fun t => chanOf t channel = chanOf s channel ∧ dget t 0x701504 = (dget s 0x701504 + 1) % 2 ^ 64)) ∧
  (∀ (channel : Fin 32) (subrank : Fin 4) (s : State), inBurst (chanOf s channel) = false → Completes (.refreshCatchup channel
    subrank) s (fun t => (chanOf t channel).post = (chanOf s channel).post.set subrank (((chanOf s channel).post[subrank.val]?).getD
    0 - 1))) ∧
  (∀ (channel : Fin 32) (fixative : Bool) (s : State), servingChan s channel = true → Completes (.panicRaise channel fixative) s
    (fun t => inBurst (chanOf t channel) = true ∧ (chanOf t channel).rankPower = [0, 0] ∧ (if fixative then (chanOf t
    channel).panicFx else (chanOf t channel).panicCp) = true)) ∧
  (∀ (channel : Fin 32) (fixative : Bool) (s : State), Completes (.panicClear channel fixative) s (fun t => (if fixative then
    (chanOf t channel).panicFx else (chanOf t channel).panicCp) = false)) ∧
  (∀ (channel : Fin 32) (rank : Fin 2) (s : State), servingChan s channel = true → inBurst (chanOf s channel) = false → (chanOf s
    channel).policy ≠ 1 → ((chanOf s channel).rankPower[rank.val]?).getD 0 = 0 → Completes (.rankIdleTimeout channel rank) s (fun t
    => (chanOf t channel).rankPower = (chanOf s channel).rankPower.set rank 1 ∧ (chanOf t channel).post = (chanOf s channel).post)) ∧
  (∀ (channel : Fin 32) (rank : Fin 2) (s : State), servingChan s channel = true → inBurst (chanOf s channel) = false → (chanOf s
    channel).policy = 3 → ((chanOf s channel).rankPower[rank.val]?).getD 0 = 1 → Completes (.rankIdleTimeout channel rank) s (fun t
    => (chanOf t channel).rankPower = (chanOf s channel).rankPower.set rank 2 ∧ (chanOf t channel).post = ((chanOf s
    channel).post.set rank 0).set (rank + 2) 0))

/-- Training, calibration and retraining of DRAM channels. A channel that ends training serves with its margin; at the deadline a
channel still training is lost and its domain off; ZQ calibration wakes the ranks; a DQS drift saves new timing; a temperature change
of the stated size, or a request, begins a retraining, which ends with the new margin; a rebuilt reserve group is degraded no longer;
hPPR takes rows off the repair lists, clears its request and ends. (spec/08_dram_subsystem.md) -/
def Obligations.DramTrainingCommands : Prop :=
  (∀ (channel : Fin 32) (margin : Nat) (preserved : Bool) (s : State), (chanOf s channel).st = .training → Completes
    (.dramTrainingDone channel margin true preserved) s (fun t => (chanOf t channel).st = .serving ∧ (chanOf t channel).margin =
    margin ∧ (chanOf t channel).saved = true ∧ (preserved = false → t.rec_.reserveSeal = none))) ∧
  (∀ (n : Fin 32) (s : State), s.md.mode = .recall → s.dram.hpprRun = false → (List.range 32).filter (fun k => (chanOf s k).st =
    .training) = [n.val] → (live s).dir = [] → Completes (.trainingDeadline) s (fun t => (chanOf t n).st = .lost ∧ bitOf
    t.rst.offFault (16 + n) = true ∧ t.rec_.reserveSeal = none)) ∧
  (∀ (channel : Fin 32) (s : State), servingChan s channel = true → Completes (.zqCalibrationTick channel) s (fun t => chanOf t
    channel = { chanOf s channel with rankPower := [0, 0] })) ∧
  (∀ (channel : Fin 32) (s : State), servingChan s channel = true → Completes (.dqsOscillatorTick channel true) s (fun t => chanOf t
    channel = { chanOf s channel with rankPower := [0, 0], saved := true })) ∧
  (∀ (channel : Fin 32) (temp : Int) (s : State), (chanOf s channel).st = .serving → (temp - (chanOf s channel).trainTemp).natAbs ≥
    dget s 0x324007 → Completes (.retrainStart channel temp) s (fun t => (chanOf t channel).st = .retraining ∧ dget t (chanKey
    channel 8) = 1)) ∧
  (∀ (channel : Fin 32) (s : State), Serves s → (chanOf s channel).st = .serving → Completes (.retrainRequest channel) s (fun t =>
    (chanOf t channel).st = .retraining ∧ dget t (chanKey channel 8) = 1)) ∧
  (∀ (channel : Fin 32) (margin : Nat) (temp : Int) (s : State), (chanOf s channel).st = .retraining → Completes (.retrainDone
    channel margin temp none) s (fun t => (chanOf t channel).st = .serving ∧ (chanOf t channel).margin = margin ∧ (chanOf t
    channel).trainTemp = temp ∧ (chanOf t channel).corrections = [] ∧ dget t (chanKey channel 8) = 0)) ∧
  (∀ (group : Fin 4) (s : State), s.dram.doubleLost.contains group.val = false → Completes (.reserveRebuildDone group) s (fun t =>
    t.dram.degraded = dropSet s.dram.degraded group)) ∧
  (∀ (s : State), s.dram.hpprRun = true → Completes (.hpprProgrammingDone) s (fun t => t.dram.hpprRun = false ∧ dget t 0x32400b = 0
    ∧ (∀ n < 32, (chanOf t n).repairs = (chanOf s n).repairs.drop (min (chanOf s n).repairs.length (Config.hpprRows n)))))

/-- NAND channels, programs, erases and reads. A channel that trains serves at the rate of the options. A unit read that succeeds
leaves its die, and counts at its group, when no fault is armed, its key slot stands and its group stays within its read limit. In
Drain, where no garbage collection starts, a programmed write-back is mapped at the unit it took and leaves the merge buffer, and an
erase leaves its group ERASED with one more erase. A wordline that waited is filled to twelve units and programmed with class 4. A die
that is retired holds no operation and no wordline. (spec/09_nand_media_management.md) -/
def Obligations.NandChannelCommands : Prop :=
  (∀ (channel : Fin 40) (present : Nat) (s : State), (nchanOf s channel).st = .training → Completes (.nandChannelReady channel true
    present) s (fun t => nchanOf t channel =
    { nchanOf s channel with st := .serving, present := present % 65536, rate := s.rst.options.nandRate })) ∧
  (∀ (lunit : Nat) (e : MapEntry) (n : Nat) (s : State), e = tget {} (live s).fmap lunit → n = dieNo e.place.ch e.place.die → (dieOf
    s n).ops.any (fun o => o.act = .read lunit) = true → s.pres.armed = [] → s.pres.injecting = false → tfind s.nand.heads (punit
    e.place) = none → (groupOf s n e.place.group).reads < dget s 0x335004 → Completes (.nandReadDone lunit .hard) s (fun t => (dieOf
    t n).ops = dropFirst (fun o => o.act = .read lunit) (dieOf s n).ops ∧ (groupOf t n e.place.group).reads = (groupOf s n
    e.place.group).reads + 1)) ∧
  (∀ (channel : Fin 40) (die : Fin 16) (plane : Fin 4) (n g l : Nat) (u : ProgUnit) (m : Merge) (s : State), n = dieNo channel die →
    s.md.mode = .drain → s.pres.armed = [] → (dieOf s n).ops = [⟨4, 0, .program [u]⟩] → u.why = .writeBack l → s.nand.merge = [m] →
    m.lunit = l → u.data = lunitData s l → overlay u.data m.lines m.data = lunitData s l → (dieOf s n).openPool = some g → (groupOf
    s n g).st = .opened → (groupOf s n g).next < 6144 → s.nand.stripes = [] → Completes (.nandProgramDone channel die true plane) s
    (fun t => (tget {} (live t).fmap l).st = 1 ∧ (tget {} (live t).fmap l).place = ⟨n / 16, n % 16, g, (groupOf s n g).next⟩ ∧
    t.nand.merge = [] ∧ (dieOf t n).ops = [])) ∧
  (∀ (channel : Fin 40) (die : Fin 16) (group : Nat) (plane : Fin 4) (n : Nat) (s : State), n = dieNo channel die → s.md.mode =
    .drain → liveDie s n = true → (groupOf s n group).st = .free → plateOf s group = none → s.nand.stripes = [] → Completes
    (.nandEraseDone channel die group true plane) s (fun t => (groupOf t n group).st = .erased ∧ (groupOf t n group).erases =
    (groupOf s n group).erases + 1 ∧ (groupOf t n group).next = 0)) ∧
  (∀ (channel : Fin 40) (die : Fin 16) (n : Nat) (s : State), n = dieNo channel die → s.md.mode ≠ .drain → 0 < (dieOf s
    n).wordline.length → (dieOf s n).wordline.length ≤ 12 → (dieOf s n).ops.length < 8 → Completes (.wordlineWaitTimeout channel
    die) s (fun t => ∃ us : List ProgUnit, us.length = 12 ∧ (dieOf t n).ops = (dieOf s n).ops ++ [⟨4, 0, .program us⟩] ∧ (dieOf t
    n).wordline = [])) ∧
  (∀ (channel : Fin 40) (die : Fin 16) (cause n : Nat) (s : State), n = dieNo channel die → (dieOf s n).st = .service → s.md.mode ≠
    .keep → (live s).dir = [] → Completes (.dieRetire channel die cause) s (fun t => (dieOf t n).st = .retired ∧ (dieOf t n).ops =
    [] ∧ (dieOf t n).wordline = []))

/-- The map log, checkpoint rounds, parity, the Tracer and the stall of garbage collection. In Drain a log write that is programmed
makes its tables durable; a checkpoint round starts and ends, counted; a stripe that waited gets its parity unit in the open pSLC
parity group; the verify pass of a FULL group starts, and a good one within the refresh threshold makes the group VERIFIED; the patrol
counts a page; a stall of garbage collection while media-full raises its Keep cause. (spec/09_nand_media_management.md) -/
def Obligations.NandPassCommands : Prop :=
  (∀ (w : Tables) (s : State), s.per.writing = some w → s.md.mode = .drain → Completes (.mapLogDurable) s (fun t => t.per.durable =
    w)) ∧
  (∀ (s : State), s.per.rounding = false → s.md.mode ≠ .drain → Completes (.checkpointRoundStart) s (fun t => t.per.rounding = true
    ∧ t.per.sinceRound = 0)) ∧
  (∀ (s : State), s.per.rounding = true → Completes (.checkpointRoundDone) s (fun t => t.per.rounding = false ∧ dget t 0x334003 =
    min (dget s 0x334003 + 1) (2 ^ 32 - 1))) ∧
  (∀ (x : Stripe) (ch die g : Nat) (s : State), s.nand.stripes = [x] → x.parity = none → s.md.mode ≠ .drain → scheme s = 1 →
    parityDie x.pgroup x.unit = (ch, die) → (areaGroups s .parity).head? = some g → (groupOf s (dieNo ch die) g).st = .opened →
    (groupOf s (dieNo ch die) g).next < 2048 → Completes (.parityPadTimeout (stripeKey x)) s (fun t => t.nand.stripes =
    [{ x with parity := some ⟨ch, die, g, (groupOf s (dieNo ch die) g).next⟩, openBlock := true }])) ∧
  (∀ (channel : Fin 40) (die : Fin 16) (group n : Nat) (s : State), n = dieNo channel die → (groupOf s n group).st = .full →
    s.md.mode ≠ .drain → (n, group) ∉ s.nand.verifying → Completes (.tracerVerifyStart channel die group) s (fun t =>
    t.nand.verifying = s.nand.verifying ++ [(n, group)])) ∧
  (∀ (channel : Fin 40) (die : Fin 16) (group worst : Nat) (plane : Fin 4) (n : Nat) (s : State), n = dieNo channel die → (n, group)
    ∈ s.nand.verifying → worst < dget s 0x335005 → worst ≤ dget s 0x335003 → s.nand.stripes = [] → s.rec_.phase = .none → Completes
    (.tracerVerifyDone channel die group worst false plane) s (fun t => (groupOf t n group).st = .verified ∧ (n, group) ∉
    t.nand.verifying)) ∧
  (∀ (channel : Fin 40) (die : Fin 16) (group worst n : Nat) (s : State), n = dieNo channel die → s.md.mode ≠ .drain → liveDie s n =
    true → (groupOf s n group).next ≠ 0 → worst ≤ dget s 0x335003 → Completes (.tracerPatrol channel die group worst false) s (fun t
    => t.nand.patrol = s.nand.patrol + 1 ∧ dget t 0x701605 = (dget s 0x701605 + 1) % 2 ^ 64)) ∧
  (∀ (s : State), mediaFull s = true → bitOf s.md.causes 6 = false → Completes (.gcStallTimeout) s (fun t => bitOf t.md.causes 6 =
    true))

/-- Journal passes, budgets, hold-up energy, power failure and the dump. A journal interval tick begins a pass over a dirty page and
captures it, or waits for the running pass; a page that becomes eligible is captured; in Drain an image that is programmed enters the
journal index. A budget of another profile that fits is stored; the energy available is stored and is fresh, and its absence raises
HOLDUP. PFAIL_N low for 64 cycles enters Drain with seal CAUSE 1, the quiesce deadline of Drain starts the dump, the seal holds what
the dump took, and PFAIL_N rising after it starts a system reset with cause 6. (spec/10_fixative_journal_and_dump.md) -/
def Obligations.FixativeCommands : Prop :=
  (∀ (s : State), s.md.mode ≠ .drain → s.md.mode ≠ .recall → s.rst.phase ≠ .window → s.fix.passRunning = true → Completes
    (.journalTick) s (fun t => t.fix.tickWait = true ∧ t.fix.pass = s.fix.pass ∧ t.fix.dirty = s.fix.dirty)) ∧
  (∀ (d : Dirty) (s : State), s.md.mode ≠ .drain → s.md.mode ≠ .recall → s.rst.phase ≠ .window → s.fix.passRunning = false →
    s.fix.dirty = [d] → d.imaging = false → d.whole = false → ownDirty s d = true → eligible s d.tpn = true → pageAbsent s d.tpn =
    false → s.rec_.phase = .none → s.cp.twin ≠ .resync → Completes (.journalTick) s (fun t => t.fix.passRunning = true ∧ t.fix.pass
    = [d.tpn] ∧ t.fix.dirty = [{ d with imaging := true, changed := false, copy := readPage s d.tpn }])) ∧
  (∀ (d : Dirty) (s : State), s.fix.pass = [d.tpn] → s.fix.dirty = [d] → d.imaging = false → eligible s d.tpn = true → pageAbsent s
    d.tpn = false → Completes (.imageEligible d.tpn) s (fun t => t.fix.dirty =
    [{ d with imaging := true, changed := false, copy := readPage s d.tpn }] ∧ tfind t.fix.captured d.tpn = some s.rtc)) ∧
  (∀ (d : Dirty) (s : State), s.md.mode = .drain → s.fix.dirty = [d] → d.imaging = true → d.twinWait = false → d.pressure = false →
    (programImage d.tpn d.copy s).isSome = true → Completes (.journalImageDone d.tpn true) s (fun t => some (tget {} (live t).images
    d.tpn) = (programImage d.tpn d.copy s).map (·.1))) ∧
  (∀ (profile : Nat) (gib : Nat) (s : State), Serves s → profile = 1 ∨ profile = 2 ∨ profile = 3 → profile ≠ dget s 0x110002 → 0 <
    gib ∧ gib ≤ 64 → budgetFits s gib = true → Completes (.budgetWrite profile gib) s (fun t => dget t (0x340100 + profile) = gib)) ∧
  (∀ (s : State) (joules : Nat), Serves s → joules ≤ 65535 → Completes (.holdupEnergyWrite joules) s (fun t => dget t 0x340401 =
    joules ∧ t.fix.holdFresh = true)) ∧
  (∀ (s : State), dget s 0x340403 ≠ 0 → bitOf s.md.causes 0 = false → Completes (.holdupReportTimeout) s (fun t => t.fix.holdFresh =
    false ∧ bitOf t.md.causes 0 = true)) ∧
  (∀ (cycles : Nat) (s : State), 64 ≤ cycles → s.rst.phase = .running → s.md.mode ≠ .drain → Completes (.pfailFall cycles) s (fun t
    => t.md.mode = .drain ∧ t.fix.phase = .draining ∧ t.fix.cause = 1 ∧ t.rst.pfail = true)) ∧
  (∀ (s : State), s.md.mode = .drain → s.fix.phase = .draining → s.fix.dumpDead = false → Completes (.quiesceDeadline) s (fun t =>
    t.fix.quiesced = true ∧ t.fix.phase = .dumping ∧ t.fix.passRunning = false ∧ t.tier.waiting = [])) ∧
  (∀ (duration units : Nat) (s : State), s.fix.phase = .dumping → s.rst.dumpReset = false → s.fix.cause ≠ 1 → Completes (.dumpSealed
    duration units) s (fun t => t.fix.phase = .sealed ∧ t.fix.sealed = some (makeDump duration units s) ∧ dget t 0x340302 =
    s.fix.cause ∧ dget t 0x340303 = duration % 2 ^ 32 ∧ dget t 0x340304 = units % 2 ^ 32 ∧ dget t 0x340305 = 1)) ∧
  (∀ (s : State), s.rst.pfail = true → s.fix.phase = .sealed → s.fix.cause = 1 → s.rst.pwrgd = true → s.md.mode = .drain →
    s.rst.phase = .running → Completes (.pfailRise) s (fun t => t.rst.pfail = false ∧ t.rst.phase = .window ∧ t.rst.cause = setBit
    s.rst.cause 6 ∧ t.rst.short = true))

/-- The start of a Steoc, Recall and first format. Once the map directory is loaded the kind of the start is known, and the tables
stand unless the media are not formatted; a segment loaded no longer waits; the dump's pages become dirty once it is indexed; a page
restored no longer waits, whether or not its source was readable; restore orders of no region are read; the headers of an open group
are read and the group is closed; a trace that ends is written; at the serving instant admission opens, after first format on formatted
media. (spec/12_recall_restart.md) -/
def Obligations.RecallCommands : Prop :=
  (∀ (rebuilt : Nat) (s : State), s.md.mode = .recall → s.rec_.dirLoaded = false → s.rst.loadDone = true → (List.range 32).any (fun
    c => (chanOf s c).st = .training) = false → s.rec_.formatted = false → Completes (.mapDirectoryLoaded rebuilt) s (fun t =>
    t.rec_.kind = 4 ∧ t.rec_.phase = .preparing ∧ t.rec_.dirLoaded = false)) ∧
  (∀ (rebuilt : Nat) (s : State), s.md.mode = .recall → s.rec_.dirLoaded = false → s.rst.loadDone = true → (List.range 32).any (fun
    c => (chanOf s c).st = .training) = false → s.rec_.formatted = true → warmStart s = true → (live s).fenceLog = none → Completes
    (.mapDirectoryLoaded rebuilt) s (fun t => t.rec_.kind = 2 ∧ t.rec_.dirLoaded = true ∧ t.rec_.unrestored = [] ∧ t.rec_.dump =
    none)) ∧
  (∀ (segment : Nat) (s : State), s.rec_.dirLoaded = true → segment ∈ s.rec_.segLeft → Completes (.segmentLoadDone segment) s (fun t
    => segment ∉ t.rec_.segLeft ∧ segment ∉ t.rec_.segAsked)) ∧
  (∀ (d : Dump) (s : State), s.rec_.dump = some d → s.rec_.dirLoaded = true → s.rec_.indexed = false → d.lines = [] → d.merges = []
    → (∀ p ∈ d.pages, p.2.1 = false) → Completes (.dumpIndexed) s (fun t => t.rec_.indexed = true ∧ t.fix.dirty = d.pages.map (fun p
    => ⟨p.1, false, false, false, false, false, []⟩) ∧ t.rec_.unrestored = s.rec_.unrestored)) ∧
  (∀ (s : State), s.rec_.dirLoaded = true → s.rec_.ordersRead = false → s.rec_.dump = none → restoreSlots s = [] → s.rec_.writes =
    [] → Completes (.restoreOrdersRead) s (fun t => t.rec_.ordersRead = true ∧ t.rec_.orders = [] ∧ t.rec_.slots = [])) ∧
  (∀ (tpn : Nat) (readable : Bool) (s : State), s.rec_.dirLoaded = true → s.rec_.dump = none → tpn ∈ s.rec_.unrestored → tpn ∈
    s.rec_.demand → s.cp.fetches = [] → pairWorks s = false → s.cp.twin ≠ .resync → Completes (.restorePageDone tpn readable) s (fun
    t => tpn ∉ t.rec_.unrestored ∧ tpn ∉ t.rec_.demand)) ∧
  (∀ (channel : Fin 40) (die : Fin 16) (group n : Nat) (s : State), n = dieNo channel die → s.rec_.serving = true → (n, group) ∈
    s.rec_.opened → (groupOf s n group).st = .opened → validUnits s channel die group ≠ [] → s.md.mode ≠ .keep → Completes
    (.orphanReclaim channel die group) s (fun t => (n, group) ∉ t.rec_.opened ∧ (groupOf t n group).st = .full)) ∧
  (∀ (host region n : Nat) (x : Trace) (s : State), s.rec_.traces = [x] → x.host = host → x.extents ≠ [] → s.rec_.slots = [(host,
    region, n)] → s.md.entering = true → Completes (.traceWindowEnd host) s (fun t => t.rec_.traces =
    [{ x with ended := true, extents := [] }] ∧ t.rec_.writes.length = s.rec_.writes.length + 4 ∧ dget t 0x701906 = (dget s 0x701906
    + 1) % 2 ^ 64)) ∧
  (∀ (s : State), s.md.mode = .recall → s.rec_.serving = false → s.rec_.dirLoaded = true → s.rec_.dump = none → s.rec_.kind ≠ 2 →
    s.rec_.writes = [] → s.dram.hpprRun = false → (live s).snaps = [] → s.rst.twinPresent = true → s.md.causes = 0 → s.fix.dirty =
    [] → s.fix.passRunning = false → s.cp.twin ≠ .resync → Completes (.servingInstant) s (fun t => t.rec_.serving = true)) ∧
  (∀ (s : State), s.md.mode = .recall → s.rec_.formatted = false → s.rec_.kind = 4 → s.rst.loadDone = true → s.rec_.writes = [] →
    s.rst.twinPresent = true → s.md.causes = 0 → s.fix.dirty = [] → s.fix.passRunning = false → s.cp.twin ≠ .resync → Completes
    (.firstFormatDone) s (fun t => t.rec_.formatted = true ∧ t.rec_.serving = true ∧ t.rec_.unrestored = [] ∧ (keySlotOf t 1).st =
    .loaded))

/-- States: the cut, deletion, retention, clones and captures. Outside a working pair CUT begins a cut under the next number, DELETE
removes a State, SET_RETAIN sets when it expires, CLONE makes a region that reads as the State's and reports its base. The marks
reported let the slices take their points; the points reported end the cut, release its responses and report its number. A page pending
in a settling State is captured, a capture that is programmed leaves the coordinator, and a State whose retention has run out is
deleted. A page of a clone that holds nothing needs no copy. (spec/13_states_snapshots.md) -/
def Obligations.StateCommands : Prop :=
  (∀ (b : StateBlock) (s : State), TakesState 1 b s → s.snap.cut = none → (live s).snaps.length < 256 → mediaFull s = false →
    Completes (.cut b) s (fun t => t.snap.cut = some ⟨nextNumber s, 2, true, b.all, b.tenant, b.retain, true, []⟩ ∧ dget t 0x371002
    = 255)) ∧
  (∀ (b : StateBlock) (n : Snap) (s : State), TakesState 2 b s → (live s).snaps = [n] → n.number = b.stateNo → n.phase ≠ .cutting →
    Completes (.stateDelete b) s (fun t => (live t).snaps = [] ∧ StateReported t 0)) ∧
  (∀ (b : StateBlock) (n : Snap) (pages slot base rs : Nat) (r : Region) (s : State), TakesState 3 b s → (live s).snaps = [n] →
    n.number = b.stateNo → n.phase = .fixed → n.scope.find? (fun p => p.1 = b.region) = some (b.region, pages) → findRegion s
    b.newRegion = none → findRegion s b.region = some (rs, r) → (tenantOf s r.tenant).enable = true → tenantRegions s r.tenant <
    (tenantOf s r.tenant).maxRegions → tierFits s r.tenant b.tier pages = true → findSlot s = some slot → findBase s pages = some
    base → Completes (.clone b) s (fun t => findRegion t b.newRegion = some (slot, ⟨b.newRegion, .active, b.owner, r.tenant, pages,
    base⟩) ∧ t.snap.clone = some ⟨n.number, b.region, b.newRegion, span base 0 pages, []⟩ ∧ StateReported t base)) ∧
  (∀ (b : StateBlock) (n : Snap) (s : State), TakesState 4 b s → (live s).snaps = [n] → n.number = b.stateNo → n.phase ≠ .cutting →
    Completes (.setRetain b) s (fun t => (live t).snaps =
    [{ n with expires := if b.retain = 0 then 0 else (s.rtc + b.retain * 1000) % 2 ^ 32 }] ∧ StateReported t 0)) ∧
  (∀ (c : Cut) (s : State), s.snap.cut = some c → c.step = 2 → s.cp.twin ≠ .inSync → Completes (.cutMarksReported) s (fun t =>
    t.snap.cut = some { c with step := 3 } ∧ (live t).snaps.any (fun n => n.number = c.number) = true)) ∧
  (∀ (c : Cut) (ns : Nat) (s : State), s.snap.cut = some c → c.step = 3 → c.own = true → c.twinDone = true → s.eng.claimed = [] →
    Completes (.cutPointsReported ns) s (fun t => t.snap.cut = none ∧ t.snap.heldOut = [] ∧ (live t).lastState = c.number ∧
    StateReported t c.number ∧ dget t 0x370005 = ns % 2 ^ 32)) ∧
  (∀ (c : Cap) (s : State), s.snap.caps = [c] → (programImage c.tpn c.data s).isSome = true → Completes (.stateCaptureDone c.number
    c.tpn true) s (fun t => t.snap.caps = [])) ∧
  (∀ (n : Snap) (tpn region page : Nat) (s : State), (live s).snaps.find? (fun m => m.number = n.number) = some n → n.phase =
    .settling → nextPending s n = some (tpn, region, page) → pageAbsent s tpn = false → Completes (.stateSettle n.number) s (fun t
    => t.snap.caps = s.snap.caps ++ [⟨n.number, tpn, region, page, (dirOf s tpn).tenant, inDram (dirOf s tpn), false, readPage s
    tpn⟩])) ∧
  (∀ (n : Snap) (s : State), (live s).snaps = [n] → n.expires ≠ 0 → rtcReached s.rtc n.expires = true → n.phase ≠ .cutting →
    Completes (.stateRetentionExpire n.number) s (fun t => (live t).snaps = [])) ∧
  (∀ (c : CloneRun) (tpn slot : Nat) (r : Region) (s : State), s.snap.clone = some c → c.asked = [] → c.todo = [tpn] → findRegion s
    c.target = some (slot, r) → (stateContent s c.number c.source (tpn - r.base)).isEmpty = true → Completes (.clonePageCopy true) s
    (fun t => t.snap.clone = none ∧ dget t 0x701a05 = (dget s 0x701a05 + 1) % 2 ^ 64))

/-- Frames and their timers. A DATA frame that is authentic and in order brings its records behind those that wait, and moves the FSN
expected on by one; an ACK takes the frames it acknowledges out of the transmit store; a heartbeat tells of the twin; a HELLO of a new
epoch is followed, and where this Steoc is YIELDED and its twin is not it opens the session and a resynchronisation with this Steoc as
target; the open frame is closed, numbered and sent; a timeout sends every frame not acknowledged again; a quiet half sends a
heartbeat; a lost link ends the session, and the twin too where it is absent. (spec/11_counterproof_mirroring.md) -/
def Obligations.FrameCommands : Prop :=
  (∀ (h : FrameHead) (recs : List CpRec) (s : State), authentic s h = true → h.fsn = (halfOf s h.half.val).expect → s.pres.armed =
    [] → Completes (.dataFrame h recs) s (fun t => (halfOf t h.half.val).expect = h.fsn + 1 ∧ (halfOf t h.half.val).rx = (halfOf s
    h.half.val).rx ++ recs.map (fun r => ⟨h.fsn, r⟩))) ∧
  (∀ (h : FrameHead) (s : State), authentic s h = true → h.nak = false → Completes (.ackFrame h) s (fun t => (halfOf t
    h.half.val).sent = (halfOf s h.half.val).sent.filter (fun f => decide (f.fsn > h.ackFsn)))) ∧
  (∀ (h : FrameHead) (b : StatusBody) (s : State), authentic s h = true → Completes (.heartbeatFrame h b) s (fun t => t.cp.helloSeen
    = some b ∧ t.cp.twinNode = h.node ∧ t.cp.twinMode = h.mode ∧ t.cp.twinDirty = h.dirty)) ∧
  (∀ (h : FrameHead) (b : StatusBody) (s : State), (halfOf s h.half.val).st = .service → s.cp.twin ≠ .barred → s.md.mode ≠ .drain →
    h.tagOk = true → h.node ≠ s.rst.node → h.epoch > s.cp.rxEpoch → s.cp.sessionUp = true → Completes (.helloFrame h b) s (fun t =>
    t.cp.rxEpoch = h.epoch ∧ t.cp.rxPrev = s.cp.rxEpoch ∧ t.cp.helloSeen = some b)) ∧
  (∀ (h : FrameHead) (b : StatusBody) (s : State), (halfOf s h.half.val).st = .service → s.cp.twin = .linking → s.md.mode ≠ .drain →
    h.tagOk = true → h.node ≠ s.rst.node → h.epoch > s.cp.rxEpoch → s.cp.sessionUp = false → (live s).standing = .yielded →
    b.standing ≠ 2 → Completes (.helloFrame h b) s (fun t => t.cp.sessionUp = true ∧ t.cp.twin = .resync ∧ t.cp.resync.target = true
    ∧ t.cp.resync.source = false)) ∧
  (∀ (half : Fin 2) (s : State), halfLive s half.val = true → (halfOf s half.val).open_ ≠ [] → (halfOf s 0).sent.length + (halfOf s
    1).sent.length < 16384 → s.pres.armed = [] → Completes (.frameCloseTimer half) s (fun t => (halfOf t half.val).sent = (halfOf s
    half.val).sent ++ [⟨(halfOf s half.val).lastFsn + 1, (halfOf s half.val).open_⟩] ∧ (halfOf t half.val).open_ = []
  ∧ (halfOf t half.val).lastFsn = (halfOf s half.val).lastFsn + 1
  ∧ t.outbox = s.outbox ++ [.frame half.val 1 ((halfOf s half.val).lastFsn + 1) (heldFsn (halfOf s half.val)) false ((halfOf s
    half.val).open_.map (·.rcd))])) ∧
  (∀ (half : Fin 2) (s : State), halfLive s half.val = true → Completes (.resendTimeout half) s (fun t => t.outbox = s.outbox ++
    (halfOf s half.val).sent.map (fun f => .frame half.val 1 f.fsn (heldFsn (halfOf s half.val)) false (f.recs.map (·.rcd))))) ∧
  (∀ (half : Fin 2) (s : State), halfLive s half.val = true → Completes (.heartbeatSendTimer half) s (fun t => t.outbox = s.outbox
    ++ [.status 3 half.val s.cp.epoch (statusBody s)])) ∧
  (∀ (s : State), s.cp.sessionUp = true → Completes (.linkLossTimeout) s (fun t => t.cp.sessionUp = false ∧ ∀ p ∈ t.cp.halves,
    p.2.st ≠ .service)) ∧
  (∀ (s : State), s.cp.sessionUp = true → s.cp.twin = .inSync → s.rst.twinPresent = false → s.md.mode = .duplex → (live s).standing
    ≠ .yielded → s.cp.fetches = [] → Completes (.linkLossTimeout) s (fun t => t.cp.twin = .lost ∧ (live t).standing = .alone ∧
    t.md.mode = .solo))

/-- Line records of the twin. Where a record of the twin's for a line lands on a line cached in an enabled slice, the line afterwards
reads as the record says: a WRITE's bytes over what it held, zeros after a ZERO, an atomic's new value, a COPY's whole line; an atomic
of a host's also enters the mirror area with its result. A FETCH of a readable line is answered with the line, and of one that is not
with a failure; the reply ends the fetch: the line is put to its home under the mirror record that waited, or its page is poisoned
where no copy is left. (spec/11_counterproof_mirroring.md; spec/07_cache_slices.md) -/
def Obligations.LineRecords : Prop :=
  (∀ (half : Fin 2) (line off : Nat) (data : Bytes) (src : Option (Nat × Nat)) (s : State), Lands half (.write line off data src)
    line false s → Completes (.writeRecord half) s (fun t => readLine t line = mput (readLine s line) off data)) ∧
  (∀ (half : Fin 2) (line : Nat) (s : State), Lands half (.zero line) line false s → Completes (.zeroRecord half) s (fun t =>
    readLine t line = [])) ∧
  (∀ (half : Fin 2) (line off new prior : Nat) (rc : Bool) (idHost idSeq : Nat) (s : State), mirrorFull s = false → Lands half
    (.atomic line off new prior rc idHost idSeq) line false s → Completes (.atomicRecord half) s (fun t => readLine t line = mput
    (readLine s line) off (leBytes 8 new)
  ∧ (rc = false → s.host.replay.any (fun e => e.token = ⟨idHost, idSeq⟩) = false → ∃ e ∈ t.host.mirror, e.token = ⟨idHost, idSeq⟩ ∧
    e.pending = false ∧ e.resp.result = prior))) ∧
  (∀ (half : Fin 2) (line : Nat) (data : Bytes) (s : State), Lands half (.copy line data) line true s → Completes (.copyRecord half)
    s (fun t => readLine t line = memOf 0 data)) ∧
  (∀ (half : Fin 2) (line : Nat) (s : State), Brings half (.fetch line false) s → (dirOf s (lineTpn line)).poison = false → (dirOf s
    (lineTpn line)).home ≠ .none → pageAbsent s (lineTpn line) = false → Completes (.fetchRecord half true) s (fun t => Sending t
    (.fetchData line (mbytes (readLine s line) 0 128)))) ∧
  (∀ (half : Fin 2) (line : Nat) (page : Bool) (s : State), Brings half (.fetch line page) s → Completes (.fetchRecord half false) s
    (fun t => Sending t (.fetchFail line))) ∧
  (∀ (half : Fin 2) (line frame : Nat) (data : Bytes) (f : Fetch) (s : State), Brings half (.fetchData line data) s → fetchOf s line
    = some f → f.why = .mirror → (dirOf s (lineTpn line)).home = .dram frame → (dirOf s (lineTpn line)).zero = false → Completes
    (.fetchDataRecord half) s (fun t => t.cp.fetches = dropFirst (fun x => x = f) s.cp.fetches ∧ t.dram.mem = mpaste s.dram.mem
    (frameAddr frame + lineIdx line * 128) 128 (memOf 0 data))) ∧
  (∀ (half : Fin 2) (line : Nat) (f : Fetch) (s : State), Brings half (.fetchFail line) s → fetchOf s line = some f → f.why =
    .sliceLine → s.pres.injecting = false → Completes (.fetchFailRecord half) s (fun t => t.cp.fetches = dropFirst (fun x => x = f)
    s.cp.fetches ∧ (dirOf t (lineTpn f.line)).poison = true))

/-- Control records of forwarding, tables, fences and owners. A control record that is the oldest of its half and may be applied has
its effect: a FORWARD becomes an operation here; a FORWARD_DONE ends that part of the operation; a TABLE record is applied and its
verdict answered, and an accepting verdict applies the element written; a fence mark sets the keys it names fencing, a confirm ends the
fence that waited; an owner handover makes this Steoc the owner and is confirmed; a confirm and a request of the owner take effect.
(spec/11_counterproof_mirroring.md; spec/05_regions_tenants_keys.md) -/
def Obligations.ForwardAndTableRecords : Prop :=
  (∀ (half : Fin 2) (d : FwdDesc) (slot : Nat) (g : Region) (s : State), Takes half (.forward d) s → findRegion s d.region = some
    (slot, g) → ownsRegion s g = true → s.md.mode ≠ .keep → s.md.entering = false → nonIdem (kindOf d.opcode) = false → Completes
    (.forwardRecord half) s (fun t => t.host.nextOp = s.host.nextOp + 1 ∧ ∃ o ∈ t.host.ops, o.id = s.host.nextOp ∧ o.kind = kindOf
    d.opcode ∧ o.host = d.idHost ∧ o.seq = d.idSeq ∧ o.region = d.region ∧ o.off = d.off)) ∧
  (∀ (half : Fin 2) (id dst : Nat) (v : RespVal) (o : Op) (s : State), Takes half (.forwardDone id v) s → s.host.ops = [o] → o.fwds
    = [(id, dst)] → v.status = 0 → Completes (.forwardDoneRecord half) s (fun t => t.host.ops =
    [{ o with fwds := [], result := v.result, reads := if v.data.isEmpty then o.reads else mput o.reads dst v.data }])) ∧
  (∀ (half : Fin 2) (i v : Nat) (s : State), Takes half (.table (.tenant i v)) s → s.cp.twin = .inSync → Completes (.tableRecord
    half) s (fun t => tenantOf t i = ⟨bitOf v 63, bits v 32 17⟩ ∧ Sending t (.verdict true (.tenant i v)))) ∧
  (∀ (half : Fin 2) (i v : Nat) (w : PendingWrite) (s : State), Takes half (.verdict true (.tenant i v)) s → s.eng.writes = [w] →
    w.elems = [.tenant i v] → w.left = 1 → Completes (.tableVerdict half) s (fun t => tenantOf t i = ⟨bitOf v 63, bits v 32 17⟩ ∧
    t.eng.writes = [])) ∧
  (∀ (half : Fin 2) (region : Nat) (keys : List Nat) (pages : Option Nat) (s : State), Takes half (.fenceMark region keys pages) s →
    s.eng.fence = none → Completes (.fenceMarkRecord half) s (fun t => t.eng.fence = some ⟨region, keys, pages, true, false, false,
    false⟩ ∧ ∀ i ∈ keys, (keyOf t i).st = .fencing)) ∧
  (∀ (half : Fin 2) (region : Nat) (c : RunCmd) (f : Fence) (s : State), Takes half (.fenceConfirm region) s → s.eng.run = some c →
    c.phase = .fence → s.eng.fence = some f → f.drained = true → f.newPages = none → s.eng.claimed = [] → Completes
    (.fenceConfirmRecord half) s (fun t => t.eng.fence = none ∧ t.eng.run = none ∧ Reported t c.result ∧ ∀ i ∈ f.keys, (keyOf t
    i).st = .revoked)) ∧
  (∀ (half : Fin 2) (region node slot : Nat) (g : Region) (s : State), Takes half (.ownerHandover region node) s → findRegion s
    region = some (slot, g) → s.eng.run = none → Completes (.ownerHandover half) s (fun t => findRegion t region = some (slot,
    { g with owner := s.rst.node }) ∧ Sending t (.ownerConfirm region s.rst.node))) ∧
  (∀ (half : Fin 2) (region node slot : Nat) (g : Region) (s : State), Takes half (.ownerConfirm region node) s → findRegion s
    region = some (slot, g) → s.eng.heldRegion = some region → s.eng.run = none → s.host.ops = [] → Completes (.ownerConfirm half) s
    (fun t => findRegion t region = some (slot, { g with owner := node }) ∧ t.eng.heldRegion = none ∧ t.eng.handed = false)) ∧
  (∀ (half : Fin 2) (region node slot : Nat) (g : Region) (s : State), Takes half (.ownerRequest region node) s → findRegion s
    region = some (slot, g) → ownsRegion s g = true → s.eng.heldRegion = none → s.cp.twin = .inSync → Completes (.ownerRequest half)
    s (fun t => t.eng.heldRegion = some region))

/-- Control records of PLACE, queue pairs, replay entries and images. A control record that is the oldest of its half and may be
applied has its effect: a PLACE begins, ends at the twin, or leaves its outcome in the mirror area; a queue pair's shadow is held and
confirmed, freed, and its confirmation lets the REP go; a replay entry enters the mirror area; the image of a clean page is answered at
once, the owner's page becomes clean once its twin has imaged it, and a discarded unit of a NAND-tier page leaves the flash map.
(spec/11_counterproof_mirroring.md; spec/06_tiers_and_placement.md; spec/04_queue_pair_transport.md) -/
def Obligations.PlaceQpImageRecords : Prop :=
  (∀ (half : Fin 2) (k : Token) (region off len tier slot : Nat) (g : Region) (s : State), Takes half (.placeStart k region off len
    tier) s → findRegion s region = some (slot, g) → placeCheck s g.tenant tier (span (tpnOf g off) 0 (len / 65536)) false = none →
    s.tier.places = [] → s.md.mode = .drain → 0 < len / 65536 → Completes (.placeStartRecord half) s (fun t => ∃ p, t.tier.places =
    [p] ∧ p.token = k ∧ p.op = none ∧ p.first = tpnOf g off ∧ p.count = len / 65536 ∧ p.tier = tier ∧ p.todo = span (tpnOf g off) 0
    (len / 65536))) ∧
  (∀ (half : Fin 2) (k : Token) (status reason count : Nat) (p : PlaceRun) (s : State), Takes half (.placeDone k true status reason
    count) s → s.tier.places = [p] → p.token = k → Completes (.placeDoneRecord half) s (fun t => t.tier.places =
    [{ p with twinDone := true }])) ∧
  (∀ (half : Fin 2) (k : Token) (v : RespVal) (s : State), Takes half (.placeOutcome k v) s → mirrorFull s = false → s.tier.places =
    [] → s.host.replay.any (fun e => e.token = k) = false → Completes (.placeOutcomeRecord half) s (fun t => t.host.mirror =
    s.host.mirror.filter (fun e => e.token ≠ k) ++ [⟨k, false, v, dget s 0x210002, none⟩])) ∧
  (∀ (half : Fin 2) (q : QpShadow) (s : State), Takes half (.qpShadow q) s → Completes (.qpShadowRecord half) s (fun t => Sending t
    (.qpHeld q.qpn) ∧ ∃ x, tfind t.rc.shadows q.qpn = some x ∧ x.st = .shadow ∧ x.host = q.hostId ∧ x.tenant = q.tenant ∧ x.epsn =
    q.epsn ∧ x.remoteQpn = q.remoteQpn ∧ x.port = q.port)) ∧
  (∀ (half : Fin 2) (qpn : Nat) (s : State), Takes half (.qpFree qpn) s → Completes (.qpFreeRecord half) s (fun t => t.rc.shadows =
    s.rc.shadows.filter (fun p => !(decide (p.1 = qpn) && decide (p.2.st = .shadow))))) ∧
  (∀ (half : Fin 2) (qpn idx x : Nat) (q : Qp) (s : State), Takes half (.qpHeld qpn) s → s.rc.waitShadow = [(qpn, x)] → s.rc.own =
    [(idx, q)] → qpn = s.rst.node * 65536 + idx → idx < 65536 → q.st = .connecting → Completes (.qpHeldRecord half) s (fun t =>
    t.rc.waitShadow = [] ∧ Out.cmRep q.port q.commId qpn (b2n q.spray + 2 * b2n (pairWorks s)) (incarnation s) s.cp.twinNode
    (Config.twinAddr q.port) q.respRes ∈ t.outbox)) ∧
  (∀ (half : Fin 2) (k : Token) (v : RespVal) (s : State), Takes half (.replay k v) s → mirrorFull s = false → s.host.replay.any
    (fun e => e.token = k) = false → Completes (.replayRecord half) s (fun t => t.host.mirror = s.host.mirror.filter (fun e =>
    e.token ≠ k) ++ [⟨k, false, v, dget s 0x210002, none⟩])) ∧
  (∀ (half : Fin 2) (tpn f0 f1 : Nat) (s : State), Takes half (.imageRequest tpn f0 f1) s → s.cp.waitImages = [] → appliedUpTo s 0
    f0 = true → appliedUpTo s 1 f1 = true → s.fix.dirty = [] → Completes (.imageRequestRecord half) s (fun t => Sending t
    (.imageDone tpn) ∧ t.cp.waitImages = [])) ∧
  (∀ (half : Fin 2) (tpn : Nat) (d : Dirty) (s : State), Takes half (.imageDone tpn) s → s.fix.dirty = [d] → d.tpn = tpn →
    d.twinWait = true → d.changed = false → s.fix.passRunning = false → s.cp.twin = .inSync → Completes (.imageDoneRecord half) s
    (fun t => t.fix.dirty = [] ∧ t.cp.charged = dropSet s.cp.charged tpn)) ∧
  (∀ (half : Fin 2) (key f0 f1 set lpn : Nat) (s : State), Takes half (.discardUnit key f0 f1) s → appliedUpTo s 0 f0 = true →
    appliedUpTo s 1 f1 = true → (dirOf s (key / 4)).home = .nand set lpn → setBit (tget 0 s.cp.discarded (key / 4)) (key % 4) ≠ 15 →
    Completes (.discardUnitRecord half) s (fun t => (tget {} (live t).fmap (lpn * 4 + key % 4)).st = 2 ∧ tget 0 t.cp.discarded (key
    / 4) = setBit (tget 0 s.cp.discarded (key / 4)) (key % 4)))

/-- Control records of cuts and claims. A control record that is the oldest of its half and may be applied has its effect: a cut of the
twin's begins here, a confirmation and a slice's point are noted; a claim is granted where this Steoc neither holds nor asks for the
entry; a grant runs the State command that waited for it, which ends by releasing the claim; a refusal ends it with status 1; a release
frees the entry. (spec/13_states_snapshots.md; spec/05_regions_tenants_keys.md; spec/11_counterproof_mirroring.md) -/
def Obligations.StateClaimRecords : Prop :=
  (∀ (half : Fin 2) (n tenant retain : Nat) (all : Bool) (s : State), Takes half (.stateBegin n all tenant retain) s → s.snap.cut =
    none → Completes (.stateBeginRecord half) s (fun t => t.snap.cut = some ⟨n, 2, false, all, tenant, retain, true, []⟩)) ∧
  (∀ (half : Fin 2) (c : Cut) (s : State), Takes half (.stateConfirm c.number) s → s.snap.cut = some c → c.own = true → c.step < 4 →
    Completes (.stateConfirmRecord half) s (fun t => t.snap.cut = some { c with twinDone := true })) ∧
  (∀ (half : Fin 2) (c : Cut) (slice : Nat) (s : State), Takes half (.statePoint c.number slice) s → s.snap.cut = some c → c.own =
    false → (insertSet c.points slice).length < 14 → Completes (.statePointRecord half) s (fun t => t.snap.cut = some
    { c with points := insertSet c.points slice })) ∧
  (∀ (half : Fin 2) (e : Nat) (s : State), Takes half (.claim e) s → e ∉ s.eng.claimed → e ∉ s.eng.asked → Completes (.claim half) s
    (fun t => t.eng.twinClaims = insertSet s.eng.twinClaims e ∧ Sending t (.claimGrant e))) ∧
  (∀ (half : Fin 2) (b : StateBlock) (n : Snap) (s : State), Takes half (.claimGrant 0x3710) s → s.eng.asked = [0x3710] →
    s.eng.claimed = [] → s.snap.run = some (2, b) → (live s).snaps = [n] → n.number = b.stateNo → n.phase ≠ .cutting → Completes
    (.claimGrant half) s (fun t => (live t).snaps = [] ∧ StateReported t 0 ∧ Sending t (.claimRelease 0x3710) ∧ t.eng.claimed = [] ∧
    t.eng.asked = [])) ∧
  (∀ (half : Fin 2) (s : State), Takes half (.claimRefuse 0x3710) s → 0x3710 ∈ s.eng.asked → s.eng.claimed = [] → Completes
    (.claimRefuse half) s (fun t => 0x3710 ∉ t.eng.asked ∧ dget t 0x371002 = 1 ∧ t.snap.run = none)) ∧
  (∀ (half : Fin 2) (e : Nat) (s : State), Takes half (.claimRelease e) s → s.snap.cut = none → Completes (.claimRelease half) s
    (fun t => t.eng.twinClaims = dropSet s.eng.twinClaims e))

/-- Resynchronisation with the twin. START makes both sides take the greater incarnation and is answered with the marks; MARKS joins
both maps and moves on; TABLES_DONE of the twin lets the copying begin; SYNC on the last half that serves, or its acknowledgement at
the source, brings the pair in sync: standing PAIRED, the map empty, SYNC_GEN one above the greater, the mode Duplex. The source copies
the pages of its next block. (spec/11_counterproof_mirroring.md) -/
def Obligations.ResyncCommands : Prop :=
  (∀ (half : Fin 2) (inc : Nat) (s : State), Brings half (.resyncStart inc) s → s.cp.twin = .resync → Completes (.resyncStart half)
    s (fun t => incarnation t = max inc (incarnation s) ∧ Sending t (.resyncMarks (live s).divergence))) ∧
  (∀ (half : Fin 2) (blocks : List Nat) (s : State), Brings half (.resyncMarks blocks) s → s.cp.twin = .resync → s.cp.resync.phase =
    .started → s.cp.resync.tables = false → Completes (.resyncMarks half) s (fun t => t.cp.resync.phase = .marked ∧ (live
    t).divergence = blocks.foldl insertSet (live s).divergence ∧ Sending t (.table (.window (dget s 0x210002))))) ∧
  (∀ (half : Fin 2) (s : State), Brings half .tablesDone s → s.cp.twin = .resync → s.cp.resync.phase = .marked → s.cp.resync.target
    = false → Completes (.tablesDone half) s (fun t => t.cp.resync.twinDone = true ∧ t.cp.resync.phase = .copying)) ∧
  (∀ (half : Fin 2) (s : State), Brings half .sync s → s.cp.twin = .resync → s.cp.resync.target = true → s.cp.resync.source = false
    → (halfOf s (1 - half.val)).syncSeen = true ∨ (halfOf s (1 - half.val)).st ≠ .service → s.md.mode = .solo → s.md.entering =
    false → s.md.causes = 0 → Completes (.sync half) s (fun t => t.cp.twin = .inSync ∧ t.md.mode = .duplex ∧ (live t).standing =
    .paired ∧ (live t).divergence = [] ∧ (live t).syncGen = (s.cp.resync.gen + 1) % 2 ^ 32)) ∧
  (∀ (half : Fin 2) (s : State), Brings half .syncAck s → s.cp.twin = .resync → s.cp.resync.phase = .synced → s.cp.resync.target =
    false → s.md.mode = .solo → s.md.entering = false → s.md.causes = 0 → Completes (.syncAck half) s (fun t => t.cp.twin = .inSync
    ∧ t.md.mode = .duplex ∧ (live t).standing = .paired ∧ (live t).divergence = [] ∧ (live t).syncGen = (s.cp.resync.gen + 1) % 2 ^
    32)) ∧
  (∀ (b : Nat) (rest : List Nat) (s : State), s.cp.twin = .resync → s.cp.resync.source = true → s.cp.resync.target = false →
    s.cp.resync.phase = .copying → linkUp s = true → s.cp.resync.todo = b :: rest → rest ≠ [] → (∀ x ∈ span (b * 16) 0 16, (dirOf s
    x).home ≠ .none → pageAbsent s x = false) → countedDirty s + 16 ≤ dirtyLimit s → Completes (.resyncCopyBlock) s (fun t =>
    t.cp.resync.todo = rest ∧ ∀ x ∈ span (b * 16) 0 16, (dirOf s x).home ≠ .none → (dirOf s x).poison = false → Sending t (.table
    (.directory x (if inNand (dirOf s x) then 2 else 1) (dirOf s x).tenant (dirOf s x).zero))))

/-- Halves of the link and the frames counted. A half that fails while the other serves is switched off and failover begins on the
other; the twin's FAILOVER is answered with what is held of the failed half, and its reply puts the failed half's later records on the
live half; a failed half is retrained every second, and one that ends its training serves, or fails again; with no session up a fresh
epoch and a HELLO begin one. A counter near its limit announces the next epoch. (spec/11_counterproof_mirroring.md) -/
def Obligations.HalfCommands : Prop :=
  (∀ (half : Fin 2) (cause : Nat) (s : State), halfLive s half.val = true → halfLive s (1 - half.val) = true → Completes (.halfFail
    half cause) s (fun t => (halfOf t half.val).st = .failed ∧ t.cp.failover = some half.val ∧ Sending t (.notice 4 half.val))) ∧
  (∀ (half : Fin 2) (x : Nat) (s : State), Brings half (.notice 4 x) s → (halfOf s (1 - half.val)).st = .service → Completes
    (.noticeFailover half) s (fun t => (halfOf t (1 - half.val)).st = .failed ∧ Sending t (.notice 5 (heldFsn (halfOf s (1 -
    half.val)))))) ∧
  (∀ (half : Fin 2) (fsn failed : Nat) (s : State), Brings half (.notice 5 fsn) s → s.cp.failover = some failed → failed ≠ half.val
    → Completes (.failoverReply half) s (fun t => t.cp.failover = none ∧ (halfOf t failed).sent = [] ∧ (halfOf t half.val).open_
  = (halfOf s half.val).open_ ++ (((halfOf s failed).sent.filter (fun f => f.fsn > fsn)).flatMap (·.recs) ++ (halfOf s
    failed).open_))) ∧
  (∀ (half : Fin 2) (s : State), (halfOf s half.val).st = .failed → s.md.mode ≠ .drain → s.rst.loadDone = true → bitOf s.rst.offReq
    (108 + half.val) = false → Completes (.halfRetrainTick half) s (fun t => (halfOf t half.val).st = .training)) ∧
  (∀ (half : Fin 2) (w : Bool) (s : State), (halfOf s half.val).st = .training → Completes (.laneTrainingDone half false w) s (fun t
    => (halfOf t half.val).st = .failed)) ∧
  (∀ (half : Fin 2) (w : Bool) (s : State), (halfOf s half.val).st = .training → s.cp.sessionUp = true → Completes
    (.laneTrainingDone half true w) s (fun t => (halfOf t half.val).st = .service ∧ (halfOf t half.val).expect = 1 ∧ (halfOf t
    half.val).lastFsn = 0)) ∧
  (∀ (half : Fin 2) (s : State), (halfOf s half.val).st = .training → s.cp.sessionUp = false → s.cp.hello = false → s.keys.fenced =
    [] → s.cp.twin ≠ .barred → (linkKey s).isSome = true → s.cp.epochsOk = true → s.cp.epoch % 2 ^ 24 < 2 ^ 24 - 1 → Completes
    (.laneTrainingDone half true true) s (fun t => (halfOf t half.val).st = .service ∧ t.cp.epoch = s.cp.epoch + 1 ∧ t.cp.hello =
    true ∧ ∃ b, t.outbox = s.outbox ++ [.status 4 half.val (s.cp.epoch + 1) b])) ∧
  (∀ (s : State), s.cp.sessionUp = true → s.cp.nextEpoch = none → s.keys.fenced = [] → s.cp.epochsOk = true → s.cp.epoch % 2 ^ 24 <
    2 ^ 24 - 1 → Completes (.counterLimit true) s (fun t => t.cp.nextEpoch = some (s.cp.epoch + 1) ∧ ∃ b, t.outbox = s.outbox ++
    [.status 4 (ctlHalf s) s.cp.epoch b])) ∧
  (∀ (s : State), s.cp.sessionUp = true → s.cp.nextEpoch = none → InPair s → Completes (.counterLimit false) s (fun t => Declared s
    t))

/-- Losing the twin. The first NOTICE of Drain or Keep is noted; the second, or 10 µs, and an answer missing at 200 µs, end the pair
where the twin is in sync: it is declared lost, this Steoc's standing is ALONE and Duplex becomes Solo. NOTICE BARRED, and NOTICE LOSS
where this Steoc has not declared as the senior, make it stand down: YIELDED, in Drain. A Steoc that owns none declares when told to
take ownership. The twin's presence is followed, and with no HELLO in time the Steoc settles owning none; the share moves within its
bounds. (spec/11_counterproof_mirroring.md) -/
def Obligations.LossCommands : Prop :=
  (∀ (half : Fin 2) (x : Nat) (s : State), Brings half (.notice 1 x) s → s.cp.notices = [] → Completes (.noticeDrain half) s (fun t
    => t.cp.notices = [half.val])) ∧
  (∀ (half : Fin 2) (x : Nat) (s : State), Brings half (.notice 1 x) s → s.cp.notices = [1 - half.val] → InPair s → Completes
    (.noticeDrain half) s (fun t => Declared s t)) ∧
  (∀ (half : Fin 2) (x : Nat) (s : State), Brings half (.notice 2 x) s → s.cp.notices = [] → Completes (.noticeKeep half) s (fun t
    => t.cp.notices = [half.val])) ∧
  (∀ (half : Fin 2) (x : Nat) (s : State), Brings half (.notice 2 x) s → s.cp.notices = [1 - half.val] → InPair s → Completes
    (.noticeKeep half) s (fun t => Declared s t)) ∧
  (∀ (s : State), s.cp.notices ≠ [] → InPair s → Completes (.noticeDeclareTimeout) s (fun t => Declared s t)) ∧
  (∀ (s : State), awaiting s = true → InPair s → Completes (.twinAnswerTimeout) s (fun t => Declared s t)) ∧
  (∀ (half : Fin 2) (x : Nat) (s : State), Brings half (.notice 3 x) s → (live s).standing ≠ .yielded → s.md.mode = .duplex ∨
    s.md.mode = .solo ∨ s.md.mode = .service → Completes (.noticeBarred half) s (fun t => StoodDown t)) ∧
  (∀ (half : Fin 2) (x : Nat) (s : State), Brings half (.notice 6 x) s → s.cp.declared = false ∨ senior s = false → (live
    s).standing ≠ .yielded → s.md.mode = .duplex ∨ s.md.mode = .solo ∨ s.md.mode = .service → Completes (.noticeLoss half) s (fun t
    => StoodDown t)) ∧
  (∀ (s : State), Serves s → s.pres.windowOpen = true → s.cp.ownsNone = true ∨ (live s).standing = .yielded → Completes
    (.takeOwnership) s (fun t => t.cp.twin = .lost ∧ (live t).standing = .alone)) ∧
  (∀ (s : State), Completes (.twinPresentChange true) s (fun t => t.rst.twinPresent = true ∧ (s.cp.twin = .absent → t.cp.twin =
    .linking))) ∧
  (∀ (s : State), s.md.mode ≠ .recall → Completes (.twinPresentChange false) s (fun t => t.rst.twinPresent = false ∧ (s.cp.twin =
    .linking → t.cp.twin = .absent))) ∧
  (∀ (s : State), s.cp.settled = false → s.rst.twinPresent = true → Completes (.settleTimeout) s (fun t => t.cp.settled = true ∧
    t.cp.ownsNone = true ∧ Posted s t 0x0206 2 0 (leBytes 1 8))) ∧
  (∀ (s : State), pairWorks s = true → Completes (.budgetShareTick) s (fun t => t.cp.dirtied = [] ∧ (t.cp.share = s.cp.share ∨
    (ownsAny s = true ∧ min 1024 (pairBudget s / 2) ≤ t.cp.share ∧ t.cp.share ≤ pairBudget s) ∨ (ownsAny s = false ∧ t.cp.share =
    0))))
end

