-- ==== Sys2Proof/Laws/Outside.lean ====
section
/-! SUPPORT. What lies outside a set of parts. The files Keep<Name>.lean beside this one hold one lemma per operation of
Machine/<Name>.lean: under a set that names what the operation may change, everything outside the set stays. A frame of a command, or a
rule of the whole machine about one part, follows from them without unfolding an operation. -/
namespace Sys2Proof.Machine
open Sys2Proof

/-- A value, unless it is hidden. -/
def seen {α : Type} (hidden : Bool) (x : α) : Option α := if hidden then none else some x
theorem seen_congr {α : Type} {b : Bool} {x y : α} (h : b = true ∨ x = y) : seen b x = seen b y := by
  rcases h with h | h
  · simp [seen, h]
  · rw [h]
theorem eq_of_seen {α : Type} {b : Bool} {x y : α} (h : seen b x = seen b y) (hb : b = false) : x = y := by
  subst hb; exact Option.some.inj h

/-- What can be seen of a state past a set of parts. -/
structure Rest where
  host : Option (HostSide)
  rc : Option (RcSide)
  per : Option (Persist)
  eng : Option (Engine)
  tier : Option (TierSide)
  cs : Option (SliceSide)
  dram : Option (DramSide)
  nand : Option (NandSide)
  fix : Option (FixSide)
  cp : Option (CpSide)
  rec_ : Option (RecallSide)
  snap : Option (SnapSide)
  md : Option (ModeSide)
  keys : Option (KeySide)
  fieth : Option (FiethSide)
  ports : Option (Tbl Port)
  pres : Option (PresSide)
  rmq : Option (RecSide)
  rst : Option (ResetSide)
  dict : Option (Tbl Nat)
  force : Option (Tbl Nat)
  rtc : Option (Nat)
  freeCtr : Option (Nat)
  outbox : Option (List Out)
  pending : Option (List Instr)
  slots : Option (Tbl HostSlot)
  replay : Option (List ReplayEntry)
  tenants : Option (Tbl Tenant)
  hosts : Option (Tbl Nat)
  regions : Option (Tbl Region)
  keyTable : Option (Tbl KeyEntry)
  quotas : Option (Tbl Quota)
  dir : Option (Tbl DirEntry)
  fmap : Option (Tbl MapEntry)
  groups : Option (Tbl Group)
  images : Option (Tbl ImageEntry)
  snaps : Option (List Snap)
  standing : Option (Standing)
  mem : Option (Mem)
  media : Option (Mem)
  plates : Option (List Plate)
  twin : Option (Twin)
  epochFuses : Option (Nat)
  incFuses : Option (Nat)
  mode : Option (Mode)
  keySlots : Option (Tbl KeySlot)
  svn : Option (Nat)
  window : Option (Bool)
  sealBroken : Option (Bool)
  sealFuse : Option (Bool)
  ring : Option (Tbl Rcd)
  node : Option (Nat)
  options : Option (Options)
  phase : Option (ResetPhase)
  config : Option (Nat → Nat)

/-- The entries that configure. -/
def configOf (s : State) (k : Nat) : Nat := if isConfig k then dget s k else 0
/-- A state past a set of parts. -/
def outside (m : Parts) (s : State) : Rest where
  host := seen m.host s.host
  rc := seen m.rc s.rc
  per := seen m.per s.per
  eng := seen m.eng s.eng
  tier := seen m.tier s.tier
  cs := seen m.cs s.cs
  dram := seen m.dram s.dram
  nand := seen m.nand s.nand
  fix := seen m.fix s.fix
  cp := seen m.cp s.cp
  rec_ := seen m.rec_ s.rec_
  snap := seen m.snap s.snap
  md := seen m.md s.md
  keys := seen m.keys s.keys
  fieth := seen m.fieth s.fieth
  ports := seen m.ports s.ports
  pres := seen m.pres s.pres
  rmq := seen m.rmq s.rmq
  rst := seen m.rst s.rst
  dict := seen m.dict s.dict
  force := seen m.force s.force
  rtc := seen m.rtc s.rtc
  freeCtr := seen m.freeCtr s.freeCtr
  outbox := seen m.outbox s.outbox
  pending := seen m.pending s.pending
  slots := seen m.slots s.host.slots
  replay := seen m.replay s.host.replay
  tenants := seen m.tenants s.per.live.tenants
  hosts := seen m.hosts s.per.live.hosts
  regions := seen m.regions s.per.live.regions
  keyTable := seen m.keyTable s.per.live.keys
  quotas := seen m.quotas s.per.live.quotas
  dir := seen m.dir s.per.live.dir
  fmap := seen m.fmap s.per.live.fmap
  groups := seen m.groups s.per.live.groups
  images := seen m.images s.per.live.images
  snaps := seen m.snaps s.per.live.snaps
  standing := seen m.standing s.per.live.standing
  mem := seen m.mem s.dram.mem
  media := seen m.media s.nand.mem
  plates := seen m.plates s.fix.plates
  twin := seen m.twin s.cp.twin
  epochFuses := seen m.epochFuses s.cp.burned
  incFuses := seen m.incFuses s.cp.burnedInc
  mode := seen m.mode s.md.mode
  keySlots := seen m.keySlots s.keys.slots
  svn := seen m.svn s.keys.fusedSvn
  window := seen m.window s.pres.windowOpen
  sealBroken := seen m.sealBroken s.pres.broken
  sealFuse := seen m.sealFuse s.pres.fuse
  ring := seen m.ring s.rmq.ring
  node := seen m.node s.rst.node
  options := seen m.options s.rst.options
  phase := seen m.phase s.rst.phase
  config := seen m.config (configOf s)

@[simp] theorem outside_updHost (m : Parts) (f : HostSide → HostSide) (s : State) (h : m.host = true) (h_slots : m.slots = true ∨ (f s.host).slots = s.host.slots) (h_replay : m.replay = true ∨ (f s.host).replay = s.host.replay) :
    outside m (updHost f s) = outside m s := by
  unfold outside
  congr 1
  all_goals first | exact seen_congr (.inl h) | exact seen_congr h_slots | exact seen_congr h_replay
@[simp] theorem outside_updRc (m : Parts) (f : RcSide → RcSide) (s : State) (h : m.rc = true) :
    outside m (updRc f s) = outside m s := by
  unfold outside
  congr 1
  all_goals first | exact seen_congr (.inl h)
@[simp] theorem outside_updLive (m : Parts) (f : Tables → Tables) (s : State) (h : m.per = true) (h_tenants : m.tenants = true ∨ (f s.per.live).tenants = s.per.live.tenants) (h_hosts : m.hosts = true ∨ (f s.per.live).hosts = s.per.live.hosts) (h_regions : m.regions = true ∨ (f s.per.live).regions = s.per.live.regions) (h_keyTable : m.keyTable = true ∨ (f s.per.live).keys = s.per.live.keys) (h_quotas : m.quotas = true ∨ (f s.per.live).quotas = s.per.live.quotas) (h_dir : m.dir = true ∨ (f s.per.live).dir = s.per.live.dir) (h_fmap : m.fmap = true ∨ (f s.per.live).fmap = s.per.live.fmap) (h_groups : m.groups = true ∨ (f s.per.live).groups = s.per.live.groups) (h_images : m.images = true ∨ (f s.per.live).images = s.per.live.images) (h_snaps : m.snaps = true ∨ (f s.per.live).snaps = s.per.live.snaps) (h_standing : m.standing = true ∨ (f s.per.live).standing = s.per.live.standing) :
    outside m (updLive f s) = outside m s := by
  unfold outside
  congr 1
  all_goals first | exact seen_congr (.inl h) | exact seen_congr h_tenants | exact seen_congr h_hosts | exact seen_congr h_regions | exact seen_congr h_keyTable | exact seen_congr h_quotas | exact seen_congr h_dir | exact seen_congr h_fmap | exact seen_congr h_groups | exact seen_congr h_images | exact seen_congr h_snaps | exact seen_congr h_standing
@[simp] theorem outside_updEng (m : Parts) (f : Engine → Engine) (s : State) (h : m.eng = true) :
    outside m (updEng f s) = outside m s := by
  unfold outside
  congr 1
  all_goals first | exact seen_congr (.inl h)
@[simp] theorem outside_updTier (m : Parts) (f : TierSide → TierSide) (s : State) (h : m.tier = true) :
    outside m (updTier f s) = outside m s := by
  unfold outside
  congr 1
  all_goals first | exact seen_congr (.inl h)
@[simp] theorem outside_updCs (m : Parts) (f : SliceSide → SliceSide) (s : State) (h : m.cs = true) :
    outside m (updCs f s) = outside m s := by
  unfold outside
  congr 1
  all_goals first | exact seen_congr (.inl h)
@[simp] theorem outside_updDram (m : Parts) (f : DramSide → DramSide) (s : State) (h : m.dram = true) (h_mem : m.mem = true ∨ (f s.dram).mem = s.dram.mem) :
    outside m (updDram f s) = outside m s := by
  unfold outside
  congr 1
  all_goals first | exact seen_congr (.inl h) | exact seen_congr h_mem
@[simp] theorem outside_updNand (m : Parts) (f : NandSide → NandSide) (s : State) (h : m.nand = true) (h_media : m.media = true ∨ (f s.nand).mem = s.nand.mem) :
    outside m (updNand f s) = outside m s := by
  unfold outside
  congr 1
  all_goals first | exact seen_congr (.inl h) | exact seen_congr h_media
@[simp] theorem outside_updFix (m : Parts) (f : FixSide → FixSide) (s : State) (h : m.fix = true) (h_plates : m.plates = true ∨ (f s.fix).plates = s.fix.plates) :
    outside m (updFix f s) = outside m s := by
  unfold outside
  congr 1
  all_goals first | exact seen_congr (.inl h) | exact seen_congr h_plates
@[simp] theorem outside_updCp (m : Parts) (f : CpSide → CpSide) (s : State) (h : m.cp = true) (h_twin : m.twin = true ∨ (f s.cp).twin = s.cp.twin) (h_epochFuses : m.epochFuses = true ∨ (f s.cp).burned = s.cp.burned) (h_incFuses : m.incFuses = true ∨ (f s.cp).burnedInc = s.cp.burnedInc) :
    outside m (updCp f s) = outside m s := by
  unfold outside
  congr 1
  all_goals first | exact seen_congr (.inl h) | exact seen_congr h_twin | exact seen_congr h_epochFuses | exact seen_congr h_incFuses
@[simp] theorem outside_updRecall (m : Parts) (f : RecallSide → RecallSide) (s : State) (h : m.rec_ = true) :
    outside m (updRecall f s) = outside m s := by
  unfold outside
  congr 1
  all_goals first | exact seen_congr (.inl h)
@[simp] theorem outside_updSnap (m : Parts) (f : SnapSide → SnapSide) (s : State) (h : m.snap = true) :
    outside m (updSnap f s) = outside m s := by
  unfold outside
  congr 1
  all_goals first | exact seen_congr (.inl h)
@[simp] theorem outside_updMode (m : Parts) (f : ModeSide → ModeSide) (s : State) (h : m.md = true) (h_mode : m.mode = true ∨ (f s.md).mode = s.md.mode) :
    outside m (updMode f s) = outside m s := by
  unfold outside
  congr 1
  all_goals first | exact seen_congr (.inl h) | exact seen_congr h_mode
@[simp] theorem outside_updKeys (m : Parts) (f : KeySide → KeySide) (s : State) (h : m.keys = true) (h_keySlots : m.keySlots = true ∨ (f s.keys).slots = s.keys.slots) (h_svn : m.svn = true ∨ (f s.keys).fusedSvn = s.keys.fusedSvn) :
    outside m (updKeys f s) = outside m s := by
  unfold outside
  congr 1
  all_goals first | exact seen_congr (.inl h) | exact seen_congr h_keySlots | exact seen_congr h_svn
@[simp] theorem outside_updFieth (m : Parts) (f : FiethSide → FiethSide) (s : State) (h : m.fieth = true) :
    outside m (updFieth f s) = outside m s := by
  unfold outside
  congr 1
  all_goals first | exact seen_congr (.inl h)
@[simp] theorem outside_updPres (m : Parts) (f : PresSide → PresSide) (s : State) (h : m.pres = true) (h_window : m.window = true ∨ (f s.pres).windowOpen = s.pres.windowOpen) (h_sealBroken : m.sealBroken = true ∨ (f s.pres).broken = s.pres.broken) (h_sealFuse : m.sealFuse = true ∨ (f s.pres).fuse = s.pres.fuse) :
    outside m (updPres f s) = outside m s := by
  unfold outside
  congr 1
  all_goals first | exact seen_congr (.inl h) | exact seen_congr h_window | exact seen_congr h_sealBroken | exact seen_congr h_sealFuse
@[simp] theorem outside_updRmq (m : Parts) (f : RecSide → RecSide) (s : State) (h : m.rmq = true) (h_ring : m.ring = true ∨ (f s.rmq).ring = s.rmq.ring) :
    outside m (updRmq f s) = outside m s := by
  unfold outside
  congr 1
  all_goals first | exact seen_congr (.inl h) | exact seen_congr h_ring
@[simp] theorem outside_updRst (m : Parts) (f : ResetSide → ResetSide) (s : State) (h : m.rst = true) (h_node : m.node = true ∨ (f s.rst).node = s.rst.node) (h_options : m.options = true ∨ (f s.rst).options = s.rst.options) (h_phase : m.phase = true ∨ (f s.rst).phase = s.rst.phase) :
    outside m (updRst f s) = outside m s := by
  unfold outside
  congr 1
  all_goals first | exact seen_congr (.inl h) | exact seen_congr h_node | exact seen_congr h_options | exact seen_congr h_phase
@[simp] theorem outside_per (m : Parts) (x : Persist) (s : State) (h : m.per = true) (h_tenants : m.tenants = true ∨ x.live.tenants = s.per.live.tenants) (h_hosts : m.hosts = true ∨ x.live.hosts = s.per.live.hosts) (h_regions : m.regions = true ∨ x.live.regions = s.per.live.regions) (h_keyTable : m.keyTable = true ∨ x.live.keys = s.per.live.keys) (h_quotas : m.quotas = true ∨ x.live.quotas = s.per.live.quotas) (h_dir : m.dir = true ∨ x.live.dir = s.per.live.dir) (h_fmap : m.fmap = true ∨ x.live.fmap = s.per.live.fmap) (h_groups : m.groups = true ∨ x.live.groups = s.per.live.groups) (h_images : m.images = true ∨ x.live.images = s.per.live.images) (h_snaps : m.snaps = true ∨ x.live.snaps = s.per.live.snaps) (h_standing : m.standing = true ∨ x.live.standing = s.per.live.standing) :
    outside m { s with per := x } = outside m s := by
  unfold outside
  congr 1
  all_goals first | exact seen_congr (.inl h) | exact seen_congr h_tenants | exact seen_congr h_hosts | exact seen_congr h_regions | exact seen_congr h_keyTable | exact seen_congr h_quotas | exact seen_congr h_dir | exact seen_congr h_fmap | exact seen_congr h_groups | exact seen_congr h_images | exact seen_congr h_snaps | exact seen_congr h_standing
theorem outside_dict (m : Parts) (x) (s : State) (h : m.dict = true) (hc : m.config = true ∨ configOf { s with dict := x } = configOf s) :
    outside m { s with dict := x } = outside m s := by
  unfold outside
  congr 1
  · exact seen_congr (.inl h)
  · exact seen_congr hc
@[simp] theorem outside_dict_all (m : Parts) (x) (s : State) (h : m.dict = true) (hc : m.config = true) : outside m { s with dict := x } = outside m s :=
  outside_dict m x s h (.inl hc)
theorem tget_tput_other {α : Type} (d : α) (t : Tbl α) (i j : Nat) (v : α) (h : j ≠ i) : tget d (tput t i v) j = tget d t j := by
  induction t with
  | nil => simp [tput, tget, h]
  | cons p r ih =>
    obtain ⟨k, w⟩ := p
    unfold tput
    split
    · rename_i h1; subst h1; simp [tget, h]
    · split
      · rename_i h1 h2
        unfold tget; rw [if_neg h]
        by_cases hj : j < i
        · rw [if_pos hj, if_neg (by omega), if_pos (by omega)]
        · rw [if_neg hj]; rfl
      · unfold tget; rw [ih]
/-- An entry is stored that does not configure, or entries that configure may change. -/
@[simp] theorem outside_dset (m : Parts) (k v : Nat) (s : State) (h : m.dict = true) (hc : m.config = true ∨ isConfig k = false) :
    outside m (dset k v s) = outside m s := by
  refine outside_dict m _ s h (hc.imp_right (fun hk => ?_))
  funext j
  unfold configOf
  split
  · rename_i hj
    exact tget_tput_other _ _ _ _ _ (fun e => by rw [e, hk] at hj; cases hj)
  · rfl
@[simp] theorem outside_bump (m : Parts) (k : Nat) (s : State) (h : m.dict = true) (hc : m.config = true ∨ isConfig k = false) :
    outside m (bump k s) = outside m s := outside_dset m _ _ s h hc
@[simp] theorem outside_bumpBy (m : Parts) (k n : Nat) (s : State) (h : m.dict = true) (hc : m.config = true ∨ isConfig k = false) :
    outside m (bumpBy k n s) = outside m s := outside_dset m _ _ s h hc
@[simp] theorem outside_bump32 (m : Parts) (k : Nat) (s : State) (h : m.dict = true) (hc : m.config = true ∨ isConfig k = false) :
    outside m (bump32 k s) = outside m s := outside_dset m _ _ s h hc
@[simp] theorem outside_bump16 (m : Parts) (k : Nat) (s : State) (h : m.dict = true) (hc : m.config = true ∨ isConfig k = false) :
    outside m (bump16 k s) = outside m s := outside_dset m _ _ s h hc
@[simp] theorem outside_keepBlock (m : Parts) (k v : Nat) (s : State) (h : m.dict = true) (hc : m.config = true ∨ isConfig k = false) :
    outside m (keepBlock k v s) = outside m s := outside_dset m _ _ s h hc
@[simp] theorem isConfig_110003 : isConfig 0x110003 = false := by decide
@[simp] theorem isConfig_110004 : isConfig 0x110004 = false := by decide
@[simp] theorem isConfig_110009 : isConfig 0x110009 = false := by decide
@[simp] theorem isConfig_210004 : isConfig 0x210004 = false := by decide
@[simp] theorem isConfig_221001 : isConfig 0x221001 = false := by decide
@[simp] theorem isConfig_221002 : isConfig 0x221002 = false := by decide
@[simp] theorem isConfig_221003 : isConfig 0x221003 = false := by decide
@[simp] theorem isConfig_300008 : isConfig 0x300008 = false := by decide
@[simp] theorem isConfig_310201 : isConfig 0x310201 = false := by decide
@[simp] theorem isConfig_310202 : isConfig 0x310202 = false := by decide
@[simp] theorem isConfig_324006 : isConfig 0x324006 = false := by decide
@[simp] theorem isConfig_32400b : isConfig 0x32400b = false := by decide
@[simp] theorem isConfig_334003 : isConfig 0x334003 = false := by decide
@[simp] theorem isConfig_334007 : isConfig 0x334007 = false := by decide
@[simp] theorem isConfig_340008 : isConfig 0x340008 = false := by decide
@[simp] theorem isConfig_340302 : isConfig 0x340302 = false := by decide
@[simp] theorem isConfig_340303 : isConfig 0x340303 = false := by decide
@[simp] theorem isConfig_340304 : isConfig 0x340304 = false := by decide
@[simp] theorem isConfig_340305 : isConfig 0x340305 = false := by decide
@[simp] theorem isConfig_360005 : isConfig 0x360005 = false := by decide
@[simp] theorem isConfig_360006 : isConfig 0x360006 = false := by decide
@[simp] theorem isConfig_360009 : isConfig 0x360009 = false := by decide
@[simp] theorem isConfig_370005 : isConfig 0x370005 = false := by decide
@[simp] theorem isConfig_371001 : isConfig 0x371001 = false := by decide
@[simp] theorem isConfig_371002 : isConfig 0x371002 = false := by decide
@[simp] theorem isConfig_371003 : isConfig 0x371003 = false := by decide
@[simp] theorem isConfig_400201 : isConfig 0x400201 = false := by decide
@[simp] theorem isConfig_400202 : isConfig 0x400202 = false := by decide
@[simp] theorem isConfig_400203 : isConfig 0x400203 = false := by decide
@[simp] theorem isConfig_401002 : isConfig 0x401002 = false := by decide
@[simp] theorem isConfig_520001 : isConfig 0x520001 = false := by decide
@[simp] theorem isConfig_520002 : isConfig 0x520002 = false := by decide
theorem isConfig_high (k : Nat) (h : 0x520000 ≤ k) : isConfig k = false := by simp [isConfig]; omega
@[simp] theorem outside_dset_high (m : Parts) (k v : Nat) (s : State) (h : m.dict = true) (hk : 0x520000 ≤ k) :
    outside m (dset k v s) = outside m s := outside_dset m _ _ s h (.inr (isConfig_high k hk))
@[simp] theorem outside_bump_high (m : Parts) (k : Nat) (s : State) (h : m.dict = true) (hk : 0x520000 ≤ k) :
    outside m (bump k s) = outside m s := outside_bump m _ s h (.inr (isConfig_high k hk))
@[simp] theorem outside_bumpBy_high (m : Parts) (k n : Nat) (s : State) (h : m.dict = true) (hk : 0x520000 ≤ k) :
    outside m (bumpBy k n s) = outside m s := outside_bumpBy m _ _ s h (.inr (isConfig_high k hk))
@[simp] theorem outside_bump32_high (m : Parts) (k : Nat) (s : State) (h : m.dict = true) (hk : 0x520000 ≤ k) :
    outside m (bump32 k s) = outside m s := outside_bump32 m _ s h (.inr (isConfig_high k hk))
@[simp] theorem outside_bump16_high (m : Parts) (k : Nat) (s : State) (h : m.dict = true) (hk : 0x520000 ≤ k) :
    outside m (bump16 k s) = outside m s := outside_bump16 m _ s h (.inr (isConfig_high k hk))
@[simp] theorem high_ite (p : Prop) [Decidable p] (a b : Nat) : (0x520000 ≤ if p then a else b) = if p then 0x520000 ≤ a else 0x520000 ≤ b := by split <;> rfl
@[simp] theorem isConfig_stat (p : Nat) : isConfig (0x710001 + p * 256) = false ∧ isConfig (0x710002 + p * 256) = false ∧ isConfig (0x710003 + p * 256) = false ∧
    isConfig (0x710004 + p * 256) = false ∧ isConfig (0x710006 + p * 256) = false ∧ isConfig (0x710007 + p * 256) = false ∧
    isConfig (0x710008 + p * 256) = false ∧ isConfig (0x71000a + p * 256) = false := by
  refine ⟨?_, ?_, ?_, ?_, ?_, ?_, ?_, ?_⟩ <;> simp [isConfig] <;> omega
theorem isConfig_chanKey (n i : Nat) (h : i < 16) (h0 : 0 < i) : isConfig (chanKey n i) = false := by
  have h1 : 3276800 < chanKey n i ∧ chanKey n i < 3285008 := by have := Nat.mod_lt n (show 0 < 32 by omega); unfold chanKey dkey; omega
  generalize chanKey n i = k at h1
  simp only [isConfig, Bool.or_eq_false_iff, Bool.and_eq_false_iff, decide_eq_false_iff_not]
  omega
theorem isConfig_nandKey (n i : Nat) (h : i < 16) (h0 : 0 < i) : isConfig (nandKey n i) = false := by
  have h1 : 3342336 < nandKey n i ∧ nandKey n i < 3352592 := by have := Nat.mod_lt n (show 0 < 40 by omega); unfold nandKey dkey; omega
  generalize nandKey n i = k at h1
  simp only [isConfig, Bool.or_eq_false_iff, Bool.and_eq_false_iff, decide_eq_false_iff_not]
  omega
@[simp] theorem isConfig_chanKey_2 (n : Nat) : isConfig (chanKey n 2) = false := isConfig_chanKey n 2 (by decide) (by decide)
@[simp] theorem isConfig_chanKey_3 (n : Nat) : isConfig (chanKey n 3) = false := isConfig_chanKey n 3 (by decide) (by decide)
@[simp] theorem isConfig_chanKey_8 (n : Nat) : isConfig (chanKey n 8) = false := isConfig_chanKey n 8 (by decide) (by decide)
@[simp] theorem isConfig_nandKey_2 (n : Nat) : isConfig (nandKey n 2) = false := isConfig_nandKey n 2 (by decide) (by decide)
@[simp] theorem isConfig_nandKey_3 (n : Nat) : isConfig (nandKey n 3) = false := isConfig_nandKey n 3 (by decide) (by decide)
@[simp] theorem isConfig_nandKey_4 (n : Nat) : isConfig (nandKey n 4) = false := isConfig_nandKey n 4 (by decide) (by decide)
@[simp] theorem isConfig_nandKey_5 (n : Nat) : isConfig (nandKey n 5) = false := isConfig_nandKey n 5 (by decide) (by decide)
@[simp] theorem outside_ports (m : Parts) (x) (s : State) (h : m.ports = true) : outside m { s with ports := x } = outside m s := by
  unfold outside
  congr 1
  exact seen_congr (.inl h)
@[simp] theorem outside_freeCtr (m : Parts) (x) (s : State) (h : m.freeCtr = true) : outside m { s with freeCtr := x } = outside m s := by
  unfold outside
  congr 1
  exact seen_congr (.inl h)
@[simp] theorem outside_rtc (m : Parts) (x) (s : State) (h : m.rtc = true) : outside m { s with rtc := x } = outside m s := by
  unfold outside
  congr 1
  exact seen_congr (.inl h)
@[simp] theorem outside_outbox (m : Parts) (x) (s : State) (h : m.outbox = true) : outside m { s with outbox := x } = outside m s := by
  unfold outside
  congr 1
  exact seen_congr (.inl h)
@[simp] theorem outside_force (m : Parts) (x) (s : State) (h : m.force = true) : outside m { s with force := x } = outside m s := by
  unfold outside
  congr 1
  exact seen_congr (.inl h)

/-- A fold of changes that each keep what is outside keeps it. -/
@[simp] theorem outside_foldl {α : Type} (m : Parts) (f : State → α → State) (h : ∀ a x, outside m (f a x) = outside m a) (l : List α)
    (s : State) : outside m (l.foldl f s) = outside m s := by
  induction l generalizing s with
  | nil => exact id rfl
  | cons x t ih => simp [ih, h]
@[simp] theorem outside_each {α : Type} (m : Parts) (l : List α) (f : α → State → State) (h : ∀ x a, outside m (f x a) = outside m a)
    (s : State) : outside m (each l f s) = outside m s := outside_foldl m _ (fun a x => h x a) l s
@[simp] theorem outside_thru_nil (m : Parts) (s : State) : outside m (thru [] s) = outside m s := by exact id rfl
@[simp] theorem thru_cons (f : State → State) (fs : List (State → State)) (s : State) : thru (f :: fs) s = thru fs (f s) := by exact id rfl
@[simp] theorem outside_when (m : Parts) (c : Bool) (f : State → State) (s : State) (h : outside m (f s) = outside m s) :
    outside m (when_ c f s) = outside m s := by unfold when_; split <;> simp_all
@[simp] theorem outside_ite (m : Parts) (p : Prop) [Decidable p] (a b : State) :
    outside m (if p then a else b) = if p then outside m a else outside m b := by
  split <;> rfl
/-- The same for a fold whose accumulator carries a state. -/
theorem outside_foldl_proj {α β : Type} (m : Parts) (g : β → State) (f : β → α → β) (h : ∀ a x, outside m (g (f a x)) = outside m (g a))
    (l : List α) (b : β) : outside m (g (l.foldl f b)) = outside m (g b) := by
  induction l generalizing b with
  | nil => rfl
  | cons x t ih => rw [List.foldl_cons, ih, h]
/-- A fold of changes that may fail, each of which keeps what is outside where it succeeds. -/
theorem outside_foldl_bind {α : Type} (m : Parts) (f : State → α → Option State) (h : ∀ a x t, f a x = some t → outside m t = outside m a)
    (l : List α) (s t : State) (e : l.foldl (fun acc x => acc.bind (fun a => f a x)) (some s) = some t) : outside m t = outside m s := by
  induction l generalizing s with
  | nil => simp_all
  | cons x r ih =>
    rw [List.foldl_cons, Option.bind_some] at e
    cases hf : f s x with
    | some u => rw [hf] at e; exact (ih u e).trans (h s x u hf)
    | none =>
      rw [hf] at e
      have hn : ∀ l : List α, l.foldl (fun (acc : Option State) x => acc.bind (fun a => f a x)) none = none := by
        intro l; induction l <;> simp_all
      rw [hn] at e
      cases e

/-- What stays past a set of parts stays on every part it does not name. -/
theorem sameBut_of_outside {m : Parts} {s t : State} (h : outside m t = outside m s) : SameBut m s t where
  host := eq_of_seen (congrArg Rest.host h)
  rc := eq_of_seen (congrArg Rest.rc h)
  per := eq_of_seen (congrArg Rest.per h)
  eng := eq_of_seen (congrArg Rest.eng h)
  tier := eq_of_seen (congrArg Rest.tier h)
  cs := eq_of_seen (congrArg Rest.cs h)
  dram := eq_of_seen (congrArg Rest.dram h)
  nand := eq_of_seen (congrArg Rest.nand h)
  fix := eq_of_seen (congrArg Rest.fix h)
  cp := eq_of_seen (congrArg Rest.cp h)
  rec_ := eq_of_seen (congrArg Rest.rec_ h)
  snap := eq_of_seen (congrArg Rest.snap h)
  md := eq_of_seen (congrArg Rest.md h)
  keys := eq_of_seen (congrArg Rest.keys h)
  fieth := eq_of_seen (congrArg Rest.fieth h)
  ports := eq_of_seen (congrArg Rest.ports h)
  pres := eq_of_seen (congrArg Rest.pres h)
  rmq := eq_of_seen (congrArg Rest.rmq h)
  rst := eq_of_seen (congrArg Rest.rst h)
  dict := eq_of_seen (congrArg Rest.dict h)
  force := eq_of_seen (congrArg Rest.force h)
  rtc := eq_of_seen (congrArg Rest.rtc h)
  freeCtr := eq_of_seen (congrArg Rest.freeCtr h)
  outbox := eq_of_seen (congrArg Rest.outbox h)
  pending := eq_of_seen (congrArg Rest.pending h)
  slots := eq_of_seen (congrArg Rest.slots h)
  replay := eq_of_seen (congrArg Rest.replay h)
  tenants := eq_of_seen (congrArg Rest.tenants h)
  hosts := eq_of_seen (congrArg Rest.hosts h)
  regions := eq_of_seen (congrArg Rest.regions h)
  keyTable := eq_of_seen (congrArg Rest.keyTable h)
  quotas := eq_of_seen (congrArg Rest.quotas h)
  dir := eq_of_seen (congrArg Rest.dir h)
  fmap := eq_of_seen (congrArg Rest.fmap h)
  groups := eq_of_seen (congrArg Rest.groups h)
  images := eq_of_seen (congrArg Rest.images h)
  snaps := eq_of_seen (congrArg Rest.snaps h)
  standing := eq_of_seen (congrArg Rest.standing h)
  mem := eq_of_seen (congrArg Rest.mem h)
  media := eq_of_seen (congrArg Rest.media h)
  plates := eq_of_seen (congrArg Rest.plates h)
  twin := eq_of_seen (congrArg Rest.twin h)
  epochFuses := eq_of_seen (congrArg Rest.epochFuses h)
  incFuses := eq_of_seen (congrArg Rest.incFuses h)
  mode := eq_of_seen (congrArg Rest.mode h)
  keySlots := eq_of_seen (congrArg Rest.keySlots h)
  svn := eq_of_seen (congrArg Rest.svn h)
  window := eq_of_seen (congrArg Rest.window h)
  sealBroken := eq_of_seen (congrArg Rest.sealBroken h)
  sealFuse := eq_of_seen (congrArg Rest.sealFuse h)
  ring := eq_of_seen (congrArg Rest.ring h)
  node := eq_of_seen (congrArg Rest.node h)
  options := eq_of_seen (congrArg Rest.options h)
  phase := eq_of_seen (congrArg Rest.phase h)
  config hc k hk := by
    have e : configOf t k = configOf s k := congrFun (eq_of_seen (congrArg Rest.config h) hc) k
    simpa [configOf, hk] using e

end Sys2Proof.Machine
end

