-- ==== Sys2Proof/Laws/KeepOps.lean ====
section
/-! SUPPORT. What each operation of Machine/Ops.lean leaves unchanged: everything outside the parts its hypotheses name (Outside.lean). -/
namespace Sys2Proof.Machine
open Sys2Proof
set_option linter.unusedSimpArgs false

@[simp] theorem outside_logRecs {mm : Parts} {n : Nat} {s : State} (p_per : mm.per = true) : outside mm (logRecs n s) = outside mm s := by
  simp [logRecs, *]
@[simp] theorem outside_fset {mm : Parts} {k unit v : Nat} {s : State} (p_force : mm.force = true) : outside mm (fset k unit v s) = outside mm s := by
  simp [fset, *]
@[simp] theorem outside_emit {mm : Parts} {o : Out} {s : State} (p_outbox : mm.outbox = true) : outside mm (emit o s) = outside mm s := by
  simp [emit, *]
@[simp] theorem outside_fiethSend {mm : Parts} {ch : Nat} {b : Bytes} {s : State} (p_outbox : mm.outbox = true) : outside mm (fiethSend ch b s) = outside mm s := by
  simp [fiethSend, *]
@[simp] theorem outside_sendAbort {mm : Parts} {ch tag idx sub code : Nat} {s : State} (p_dict : mm.dict = true) (p_outbox : mm.outbox = true) : outside mm (sendAbort ch tag idx sub code s) = outside mm s := by
  simp [sendAbort, *]
@[simp] theorem outside_sendOutcome {mm : Parts} {ch : Nat} {h : FHead} {o : FOutcome} {s : State} (p_dict : mm.dict = true) (p_outbox : mm.outbox = true) : outside mm (sendOutcome ch h o s) = outside mm s := by
  unfold sendOutcome; (repeat' split) <;> simp [*]
@[simp] theorem outside_dictAnswer {mm : Parts} {idx sub : Nat} {o : FOutcome} {s : State} (p_fieth : mm.fieth = true) (p_dict : mm.dict = true) (p_outbox : mm.outbox = true) : outside mm (dictAnswer idx sub o s) = outside mm s := by
  unfold dictAnswer; (repeat' split) <;> simp [*]
@[simp] theorem outside_dictDone {mm : Parts} {idx sub : Nat} {s : State} (p_fieth : mm.fieth = true) (p_dict : mm.dict = true) (p_outbox : mm.outbox = true) : outside mm (dictDone idx sub s) = outside mm s := by
  simp [dictDone, *]
@[simp] theorem outside_dictRefuse {mm : Parts} {idx sub code : Nat} {s : State} (p_fieth : mm.fieth = true) (p_dict : mm.dict = true) (p_outbox : mm.outbox = true) : outside mm (dictRefuse idx sub code s) = outside mm s := by
  simp [dictRefuse, *]
@[simp] theorem outside_dictGuard {mm : Parts} {idx sub : Nat} {presence : Bool} {f : State → State} {s : State} (p_fieth : mm.fieth = true) (p_dict : mm.dict = true) (p_outbox : mm.outbox = true) (hf : ∀ a, outside mm (f a) = outside mm a) : outside mm (dictGuard idx sub presence f s) = outside mm s := by
  simp [dictGuard, *]
@[simp] theorem outside_serviceOnly {mm : Parts} {idx sub : Nat} {f : State → State} {s : State} (p_fieth : mm.fieth = true) (p_dict : mm.dict = true) (p_outbox : mm.outbox = true) (hf : ∀ a, outside mm (f a) = outside mm a) : outside mm (serviceOnly idx sub f s) = outside mm s := by
  simp [serviceOnly, *]
@[simp] theorem outside_draw {mm : Parts} {s : State} (p_freeCtr : mm.freeCtr = true) : outside mm (draw s) = outside mm s := by
  simp [draw, *]
@[simp] theorem outside_faultHandled {mm : Parts} {s : State} (p_dict : mm.dict = true) (p_freeCtr : mm.freeCtr = true) : outside mm (faultHandled s) = outside mm s := by
  simp [faultHandled, *]
@[simp] theorem outside_postAs {mm : Parts} {injected fixed : Bool} {type sev inst : Nat} {detail : Bytes} {s : State} (p_rmq : mm.rmq = true) : outside mm (postAs injected fixed type sev inst detail s) = outside mm s := by
  simp [postAs, *]
@[simp] theorem outside_post {mm : Parts} {type sev inst : Nat} {detail : Bytes} {s : State} (p_rmq : mm.rmq = true) : outside mm (post type sev inst detail s) = outside mm s := by
  simp [post, *]
@[simp] theorem outside_postFixed {mm : Parts} {slot type sev inst : Nat} {detail : Bytes} {s : State} (p_rmq : mm.rmq = true) (p_freeCtr : mm.freeCtr = true) : outside mm (postFixed slot type sev inst detail s) = outside mm s := by
  unfold postFixed; (repeat' split) <;> (try simp [p_rmq, p_freeCtr]) <;> simp (disch := (intros; first | (simp [p_rmq, p_freeCtr]; done) | ((repeat' split) <;> try simp [p_rmq, p_freeCtr]))) [*]
@[simp] theorem outside_injectionRecord {mm : Parts} {a : Armed} {what cause : Nat} {s : State} (p_rmq : mm.rmq = true) : outside mm (injectionRecord a what cause s) = outside mm s := by
  simp [injectionRecord, *]
@[simp] theorem outside_disarm {mm : Parts} {cause : Nat} {a : Armed} {s : State} (p_pres : mm.pres = true) (p_rmq : mm.rmq = true) : outside mm (disarm cause a s) = outside mm s := by
  simp [disarm, *]
@[simp] theorem outside_disarmAll {mm : Parts} {cause : Nat} {s : State} (p_pres : mm.pres = true) (p_rmq : mm.rmq = true) : outside mm (disarmAll cause s) = outside mm s := by
  simp [disarmAll, *]
@[simp] theorem outside_disarmAt {mm : Parts} {l : List (Nat × Nat)} {s : State} (p_pres : mm.pres = true) (p_rmq : mm.rmq = true) : outside mm (disarmAt l s) = outside mm s := by
  simp [disarmAt, *]
theorem outside_fire {mm : Parts} {point inst : Nat} {variants : List Nat} {s : State} {v0 : Nat} {t : State} (h : fire point inst variants s = some (v0, t)) (p_pres : mm.pres = true) (p_rmq : mm.rmq = true) (p_dict : mm.dict = true) : outside mm t = outside mm s := by
  (unfold fire at h; (try dsimp only at h); (repeat' split at h) <;> first | (simp only [Option.some.injEq, Prod.mk.injEq] at h; simp [← h, p_pres, p_rmq, p_dict]; done) | (cases h; done) | (simp only [Option.some.injEq, Prod.mk.injEq] at h; simp_all; done) | (simp_all; done))
theorem outside_fireRecorded {mm : Parts} {point inst : Nat} {variants : List Nat} {s : State} {v0 : Nat} {t : State} (h : fireRecorded point inst variants s = some (v0, t)) (p_pres : mm.pres = true) (p_rmq : mm.rmq = true) (p_dict : mm.dict = true) : outside mm t = outside mm s := by
  unfold fireRecorded at h
  rw [Option.map_eq_some_iff] at h
  obtain ⟨p, hp, hq⟩ := h
  cases hq
  simp [outside_fire hp p_pres p_rmq p_dict, *]
@[simp] theorem outside_injected {mm : Parts} {f : State → State} {s : State} (p_pres : mm.pres = true) (hf : ∀ a, outside mm (f a) = outside mm a) : outside mm (injected f s) = outside mm s := by
  simp [injected, *]
@[simp] theorem outside_setDir {mm : Parts} {tpn : Nat} {f : DirEntry → DirEntry} {s : State} (p_per : mm.per = true) (p_dir : mm.dir = true) : outside mm (setDir tpn f s) = outside mm s := by
  simp [setDir, *]
@[simp] theorem outside_modRegion {mm : Parts} {id : Nat} {f : Region → Region} {s : State} (p_per : mm.per = true) (p_regions : mm.regions = true) : outside mm (modRegion id f s) = outside mm s := by
  simp [modRegion, *]
@[simp] theorem outside_setKey {mm : Parts} {i : Nat} {f : KeyEntry → KeyEntry} {s : State} (p_per : mm.per = true) (p_keyTable : mm.keyTable = true) : outside mm (setKey i f s) = outside mm s := by
  simp [setKey, *]
@[simp] theorem outside_setQuota {mm : Parts} {i : Nat} {f : Quota → Quota} {s : State} (p_per : mm.per = true) (p_quotas : mm.quotas = true) : outside mm (setQuota i f s) = outside mm s := by
  simp [setQuota, *]
@[simp] theorem outside_modOp {mm : Parts} {id : Nat} {f : Op → Op} {s : State} (p_host : mm.host = true) : outside mm (modOp id f s) = outside mm s := by
  simp [modOp, *]
@[simp] theorem outside_dropOp {mm : Parts} {id : Nat} {s : State} (p_host : mm.host = true) : outside mm (dropOp id s) = outside mm s := by
  simp [dropOp, *]
@[simp] theorem outside_setSlice {mm : Parts} {n : Nat} {f : Slice → Slice} {s : State} (p_cs : mm.cs = true) : outside mm (setSlice n f s) = outside mm s := by
  simp [setSlice, *]
@[simp] theorem outside_setChan {mm : Parts} {n : Nat} {f : Channel → Channel} {s : State} (p_dram : mm.dram = true) : outside mm (setChan n f s) = outside mm s := by
  simp [setChan, *]
@[simp] theorem outside_setNchan {mm : Parts} {n : Nat} {f : NandChan → NandChan} {s : State} (p_nand : mm.nand = true) : outside mm (setNchan n f s) = outside mm s := by
  simp [setNchan, *]
@[simp] theorem outside_setDie {mm : Parts} {n : Nat} {f : Die → Die} {s : State} (p_nand : mm.nand = true) : outside mm (setDie n f s) = outside mm s := by
  simp [setDie, *]
@[simp] theorem outside_setHalf {mm : Parts} {n : Nat} {f : Half → Half} {s : State} (p_cp : mm.cp = true) : outside mm (setHalf n f s) = outside mm s := by
  simp [setHalf, *]
@[simp] theorem outside_setPort {mm : Parts} {n : Nat} {f : Port → Port} {s : State} (p_ports : mm.ports = true) : outside mm (setPort n f s) = outside mm s := by
  simp [setPort, *]
@[simp] theorem outside_setSlot {mm : Parts} {h : Nat} {f : HostSlot → HostSlot} {s : State} (p_host : mm.host = true) (p_slots : mm.slots = true) : outside mm (setSlot h f s) = outside mm s := by
  simp [setSlot, *]
@[simp] theorem outside_setCan {mm : Parts} {n : Nat} {f : Can → Can} {s : State} (p_fieth : mm.fieth = true) : outside mm (setCan n f s) = outside mm s := by
  simp [setCan, *]
@[simp] theorem outside_setKeySlot {mm : Parts} {n : Nat} {f : KeySlot → KeySlot} {s : State} (p_keys : mm.keys = true) (p_keySlots : mm.keySlots = true) : outside mm (setKeySlot n f s) = outside mm s := by
  simp [setKeySlot, *]

end Sys2Proof.Machine
end

