-- ==== Sys2Proof/Laws/KeepData.lean ====
section
/-! SUPPORT. What each operation of Machine/Data.lean leaves unchanged: everything outside the parts its hypotheses name (Outside.lean). -/
namespace Sys2Proof.Machine
open Sys2Proof
set_option linter.unusedSimpArgs false

@[simp] theorem outside_issueWordline {mm : Parts} {n : Nat} {s : State} (p_nand : mm.nand = true) : outside mm (issueWordline n s) = outside mm s := by
  simp [issueWordline, *]
@[simp] theorem outside_mergeLine {mm : Parts} {tpn set lunit li : Nat} {data : Mem} {s : State} (p_nand : mm.nand = true) : outside mm (mergeLine tpn set lunit li data s) = outside mm s := by
  simp [mergeLine, *]
@[simp] theorem outside_homeWrite {mm : Parts} {line : Nat} {data : Mem} {s : State} (p_per : mm.per = true) (p_dram : mm.dram = true) (p_nand : mm.nand = true) (p_dir : mm.dir = true) (p_mem : mm.mem = true) : outside mm (homeWrite line data s) = outside mm s := by
  unfold homeWrite; (repeat' split) <;> (try simp [p_per, p_dram, p_nand, p_dir, p_mem]) <;> (repeat' split) <;> (try simp_all) <;> simp (disch := (intros; first | (simp [p_per, p_dram, p_nand, p_dir, p_mem]; done) | ((repeat' split) <;> try simp [p_per, p_dram, p_nand, p_dir, p_mem]))) [*]
@[simp] theorem outside_writeBack {mm : Parts} {line : Nat} {kill : Bool} {data : Mem} {s : State} (p_cs : mm.cs = true) (p_nand : mm.nand = true) : outside mm (writeBack line kill data s) = outside mm s := by
  unfold writeBack; (repeat' split) <;> (try simp [p_cs, p_nand]) <;> (repeat' split) <;> (try simp_all) <;> simp (disch := (intros; first | (simp [p_cs, p_nand]; done) | ((repeat' split) <;> try simp [p_cs, p_nand]))) [*]
@[simp] theorem outside_markDirty {mm : Parts} {tpn : Nat} {s : State} (p_fix : mm.fix = true) (p_cp : mm.cp = true) (p_dict : mm.dict = true) : outside mm (markDirty tpn s) = outside mm s := by
  simp [markDirty, *]
@[simp] theorem outside_cleanPage {mm : Parts} {tpn : Nat} {s : State} (p_fix : mm.fix = true) : outside mm (cleanPage tpn s) = outside mm s := by
  simp [cleanPage, *]
@[simp] theorem outside_markBlock {mm : Parts} {block : Nat} {s : State} (p_per : mm.per = true) : outside mm (markBlock block s) = outside mm s := by
  simp [markBlock, *]
@[simp] theorem outside_sendOn {mm : Parts} {half : Nat} {r : CpRec} {op : Option Nat} {s : State} (p_cp : mm.cp = true) (p_dict : mm.dict = true) : outside mm (sendOn half r op s) = outside mm s := by
  simp [sendOn, *]
@[simp] theorem outside_sendCtl {mm : Parts} {r : CpRec} {op : Option Nat} {s : State} (p_cp : mm.cp = true) (p_dict : mm.dict = true) : outside mm (sendCtl r op s) = outside mm s := by
  simp [sendCtl, *]
@[simp] theorem outside_handLine {mm : Parts} {line : Nat} {r : CpRec} {op : Option Nat} {s : State} (p_cp : mm.cp = true) (p_dict : mm.dict = true) : outside mm (handLine line r op s) = outside mm s := by
  simp [handLine, *]
@[simp] theorem outside_chargeEntry {mm : Parts} {e : StateEntry} {up : Bool} {s : State} (p_per : mm.per = true) (p_quotas : mm.quotas = true) : outside mm (chargeEntry e up s) = outside mm s := by
  unfold chargeEntry; (repeat' split) <;> simp [*]
@[simp] theorem outside_modSnap {mm : Parts} {number : Nat} {f : Snap → Snap} {s : State} (p_per : mm.per = true) (p_snaps : mm.snaps = true) : outside mm (modSnap number f s) = outside mm s := by
  simp [modSnap, *]
@[simp] theorem outside_addEntry {mm : Parts} {number : Nat} {e : StateEntry} {s : State} (p_per : mm.per = true) (p_quotas : mm.quotas = true) (p_snaps : mm.snaps = true) : outside mm (addEntry number e s) = outside mm s := by
  simp [addEntry, *]
@[simp] theorem outside_deleteSnap {mm : Parts} {number : Nat} {s : State} (p_per : mm.per = true) (p_snap : mm.snap = true) (p_quotas : mm.quotas = true) (p_dir : mm.dir = true) (p_snaps : mm.snaps = true) : outside mm (deleteSnap number s) = outside mm s := by
  unfold deleteSnap; (repeat' split) <;> (try simp [p_per, p_snap, p_quotas, p_dir, p_snaps]) <;> simp (disch := (intros; first | (simp [p_per, p_snap, p_quotas, p_dir, p_snaps]; done) | ((repeat' split) <;> try simp [p_per, p_snap, p_quotas, p_dir, p_snaps]))) [*]
@[simp] theorem outside_dropSnap {mm : Parts} {number cause : Nat} {s : State} (p_per : mm.per = true) (p_snap : mm.snap = true) (p_rmq : mm.rmq = true) (p_dict : mm.dict = true) (p_quotas : mm.quotas = true) (p_dir : mm.dir = true) (p_snaps : mm.snaps = true) : outside mm (dropSnap number cause s) = outside mm s := by
  simp [dropSnap, *]
@[simp] theorem outside_snapChange {mm : Parts} {tpn : Nat} {s : State} (p_per : mm.per = true) (p_snap : mm.snap = true) (p_rmq : mm.rmq = true) (p_dict : mm.dict = true) (p_quotas : mm.quotas = true) (p_dir : mm.dir = true) (p_snaps : mm.snaps = true) : outside mm (snapChange tpn s) = outside mm s := by
  unfold snapChange; (repeat' split) <;> (try simp [p_per, p_snap, p_rmq, p_dict, p_quotas, p_dir, p_snaps]) <;> (repeat' split) <;> (try simp_all) <;> simp (disch := (intros; first | (simp [p_per, p_snap, p_rmq, p_dict, p_quotas, p_dir, p_snaps]; done) | ((repeat' split) <;> try simp [p_per, p_snap, p_rmq, p_dict, p_quotas, p_dir, p_snaps]))) [*]
@[simp] theorem outside_changePage {mm : Parts} {tpn : Nat} {s : State} (p_per : mm.per = true) (p_fix : mm.fix = true) (p_cp : mm.cp = true) (p_snap : mm.snap = true) (p_rmq : mm.rmq = true) (p_dict : mm.dict = true) (p_quotas : mm.quotas = true) (p_dir : mm.dir = true) (p_snaps : mm.snaps = true) : outside mm (changePage tpn s) = outside mm s := by
  unfold changePage; (repeat' split) <;> (try simp [p_per, p_fix, p_cp, p_snap, p_rmq, p_dict, p_quotas, p_dir, p_snaps]) <;> (repeat' split) <;> (try simp_all) <;> simp (disch := (intros; first | (simp [p_per, p_fix, p_cp, p_snap, p_rmq, p_dict, p_quotas, p_dir, p_snaps]; done) | ((repeat' split) <;> try simp [p_per, p_fix, p_cp, p_snap, p_rmq, p_dict, p_quotas, p_dir, p_snaps]))) [*]
@[simp] theorem outside_poisonPage {mm : Parts} {tpn src : Nat} {s : State} (p_per : mm.per = true) (p_rmq : mm.rmq = true) (p_dir : mm.dir = true) : outside mm (poisonPage tpn src s) = outside mm s := by
  simp [poisonPage, *]

end Sys2Proof.Machine
end

