-- ==== Sys2Proof/Laws/KeepFtl.lean ====
section
/-! SUPPORT. What each operation of Machine/Ftl.lean leaves unchanged: everything outside the parts its hypotheses name (Outside.lean). -/
namespace Sys2Proof.Machine
open Sys2Proof
set_option linter.unusedSimpArgs false

@[simp] theorem outside_setGroup {mm : Parts} {die g : Nat} {f : Group → Group} {s : State} (p_per : mm.per = true) (p_groups : mm.groups = true) : outside mm (setGroup die g f s) = outside mm s := by
  simp [setGroup, *]
@[simp] theorem outside_openGroup {mm : Parts} {die g : Nat} {s : State} (p_per : mm.per = true) (p_dict : mm.dict = true) (p_freeCtr : mm.freeCtr = true) (p_groups : mm.groups = true) : outside mm (openGroup die g s) = outside mm s := by
  simp [openGroup, *]
@[simp] theorem outside_freeIfEmpty {mm : Parts} {ch die g : Nat} {s : State} (p_per : mm.per = true) (p_groups : mm.groups = true) : outside mm (freeIfEmpty ch die g s) = outside mm s := by
  simp [freeIfEmpty, *]
@[simp] theorem outside_mediaCheck {mm : Parts} {s : State} (p_dict : mm.dict = true) : outside mm (mediaCheck s) = outside mm s := by
  simp [mediaCheck, *]
@[simp] theorem outside_takeSeq {mm : Parts} {s : State} (p_per : mm.per = true) : outside mm (takeSeq s) = outside mm s := by
  simp [takeSeq, *]
@[simp] theorem outside_programRaw {mm : Parts} {p : Place} {area key slot : Nat} {data : Mem} {s : State} (p_per : mm.per = true) (p_nand : mm.nand = true) (p_media : mm.media = true) : outside mm (programRaw p area key slot data s) = outside mm s := by
  simp [programRaw, *]
theorem outside_poolSlot {mm : Parts} {n : Nat} {cur : Option Nat} {keep : Nat → Die → Die} {s : State} {v0 : Nat} {v1 : Nat} {t : State} (h : poolSlot n cur keep s = some (v0, v1, t)) (p_per : mm.per = true) (p_nand : mm.nand = true) (p_dict : mm.dict = true) (p_freeCtr : mm.freeCtr = true) (p_groups : mm.groups = true) : outside mm t = outside mm s := by
  unfold poolSlot at h; (repeat' split at h) <;> (try simp at h) <;> (try (obtain ⟨_, _, h⟩ := h; simp [← h, p_per, p_nand, p_dict, p_freeCtr, p_groups])) <;> simp_all
@[simp] theorem outside_useUnit {mm : Parts} {n g u full : Nat} {s : State} (p_per : mm.per = true) (p_groups : mm.groups = true) : outside mm (useUnit n g u full s) = outside mm s := by
  simp [useUnit, *]
@[simp] theorem outside_refreshProt {mm : Parts} {x : Stripe} {s : State} (p_per : mm.per = true) (p_fmap : mm.fmap = true) : outside mm (refreshProt x s) = outside mm s := by
  simp [refreshProt, *]
@[simp] theorem outside_writeParity {mm : Parts} {x : Stripe} {tlc : Bool} {s : State} (p_per : mm.per = true) (p_nand : mm.nand = true) (p_dict : mm.dict = true) (p_freeCtr : mm.freeCtr = true) (p_fmap : mm.fmap = true) (p_groups : mm.groups = true) (p_media : mm.media = true) : outside mm (writeParity x tlc s) = outside mm s := by
  unfold writeParity; (repeat' split) <;> (try have h_poolSlot := outside_poolSlot (mm := mm) (by assumption) p_per p_nand p_dict p_freeCtr p_groups) <;> (try simp [p_per, p_nand, p_dict, p_freeCtr, p_fmap, p_groups, p_media]) <;> (repeat' split) <;> (try have h_poolSlot := outside_poolSlot (mm := mm) (by assumption) p_per p_nand p_dict p_freeCtr p_groups) <;> (try simp_all) <;> simp (disch := (intros; first | (simp [p_per, p_nand, p_dict, p_freeCtr, p_fmap, p_groups, p_media]; done) | ((repeat' split) <;> (try have h_poolSlot := outside_poolSlot (mm := mm) (by assumption) p_per p_nand p_dict p_freeCtr p_groups) <;> try simp [p_per, p_nand, p_dict, p_freeCtr, p_fmap, p_groups, p_media]))) [*]
@[simp] theorem outside_joinStripe {mm : Parts} {p : Place} {area : Nat} {s : State} (p_per : mm.per = true) (p_nand : mm.nand = true) (p_dict : mm.dict = true) (p_freeCtr : mm.freeCtr = true) (p_fmap : mm.fmap = true) (p_groups : mm.groups = true) (p_media : mm.media = true) : outside mm (joinStripe p area s) = outside mm s := by
  unfold joinStripe; (repeat' split) <;> (try simp [p_per, p_nand, p_dict, p_freeCtr, p_fmap, p_groups, p_media]) <;> (repeat' split) <;> (try simp_all) <;> simp (disch := (intros; first | (simp [p_per, p_nand, p_dict, p_freeCtr, p_fmap, p_groups, p_media]; done) | ((repeat' split) <;> try simp [p_per, p_nand, p_dict, p_freeCtr, p_fmap, p_groups, p_media]))) [*]
@[simp] theorem outside_releaseParity {mm : Parts} {s : State} (p_per : mm.per = true) (p_nand : mm.nand = true) (p_dict : mm.dict = true) (p_fmap : mm.fmap = true) (p_groups : mm.groups = true) : outside mm (releaseParity s) = outside mm s := by
  unfold releaseParity; (repeat' split) <;> (try simp [p_per, p_nand, p_dict, p_fmap, p_groups]) <;> simp (disch := (intros; first | (simp [p_per, p_nand, p_dict, p_fmap, p_groups]; done) | ((repeat' split) <;> try simp [p_per, p_nand, p_dict, p_fmap, p_groups]))) [*]
@[simp] theorem outside_convertParity {mm : Parts} {s : State} (p_per : mm.per = true) (p_nand : mm.nand = true) (p_dict : mm.dict = true) (p_freeCtr : mm.freeCtr = true) (p_fmap : mm.fmap = true) (p_groups : mm.groups = true) (p_media : mm.media = true) : outside mm (convertParity s) = outside mm s := by
  simp [convertParity, *]
@[simp] theorem outside_programUnit {mm : Parts} {p : Place} {area key slot : Nat} {data : Mem} {s : State} (p_per : mm.per = true) (p_nand : mm.nand = true) (p_dict : mm.dict = true) (p_freeCtr : mm.freeCtr = true) (p_fmap : mm.fmap = true) (p_groups : mm.groups = true) (p_media : mm.media = true) : outside mm (programUnit p area key slot data s) = outside mm s := by
  simp [programUnit, *]
theorem outside_programPool {mm : Parts} {ch die area key : Nat} {data : Mem} {s : State} {v0 : Place} {t : State} (h : programPool ch die area key data s = some (v0, t)) (p_per : mm.per = true) (p_nand : mm.nand = true) (p_dict : mm.dict = true) (p_freeCtr : mm.freeCtr = true) (p_fmap : mm.fmap = true) (p_groups : mm.groups = true) (p_media : mm.media = true) : outside mm t = outside mm s := by
  unfold programPool at h
  rw [Option.map_eq_some_iff] at h
  obtain ⟨⟨g, u, s1⟩, hp, hq⟩ := h
  cases hq
  simp [(outside_poolSlot hp p_per p_nand p_dict p_freeCtr p_groups), *]
theorem outside_programImageAt {mm : Parts} {body : Bool} {set tpn slot : Nat} {data : Mem} {s : State} {v0 : ImageEntry} {t : State} (h : programImageAt body set tpn slot data s = some (v0, t)) (p_per : mm.per = true) (p_nand : mm.nand = true) (p_dict : mm.dict = true) (p_freeCtr : mm.freeCtr = true) (p_fmap : mm.fmap = true) (p_groups : mm.groups = true) (p_media : mm.media = true) : outside mm t = outside mm s := by
  unfold programImageAt at h
  rw [Option.map_eq_some_iff] at h
  obtain ⟨⟨g, u, f⟩, hp, hq⟩ := h
  cases hq
  dsimp only
  split <;> simp [*]
theorem outside_programImage {mm : Parts} {tpn : Nat} {data : Mem} {s : State} {v0 : ImageEntry} {t : State} (h : programImage tpn data s = some (v0, t)) (p_per : mm.per = true) (p_nand : mm.nand = true) (p_dict : mm.dict = true) (p_freeCtr : mm.freeCtr = true) (p_fmap : mm.fmap = true) (p_groups : mm.groups = true) (p_media : mm.media = true) : outside mm t = outside mm s := by
  unfold programImage at h; (repeat' split at h) <;> (try have h_programImageAt := outside_programImageAt (mm := mm) (by assumption) p_per p_nand p_dict p_freeCtr p_fmap p_groups p_media) <;> simp_all
@[simp] theorem outside_setImage {mm : Parts} {tpn : Nat} {e : ImageEntry} {s : State} (p_per : mm.per = true) (p_images : mm.images = true) : outside mm (setImage tpn e s) = outside mm s := by
  simp [setImage, *]
@[simp] theorem outside_setMap {mm : Parts} {lunit : Nat} {e : MapEntry} {s : State} (p_per : mm.per = true) (p_fmap : mm.fmap = true) : outside mm (setMap lunit e s) = outside mm s := by
  simp [setMap, *]
@[simp] theorem outside_discardUnit {mm : Parts} {lunit : Nat} {s : State} (p_per : mm.per = true) (p_nand : mm.nand = true) (p_fmap : mm.fmap = true) : outside mm (discardUnit lunit s) = outside mm s := by
  simp [discardUnit, *]

end Sys2Proof.Machine
end

