-- ==== Sys2Proof/Laws/KeepAccess.lean ====
section
/-! SUPPORT. What each operation of Machine/Access.lean leaves unchanged: everything outside the parts its hypotheses name (Outside.lean). -/
namespace Sys2Proof.Machine
open Sys2Proof
set_option linter.unusedSimpArgs false

@[simp] theorem outside_countRefusal {mm : Parts} {v : RespVal} {s : State} (p_dict : mm.dict = true) : outside mm (countRefusal v s) = outside mm s := by
  simp [countRefusal, *]
@[simp] theorem outside_keyLookup {mm : Parts} {group key : Nat} {s : State} (p_host : mm.host = true) (p_dict : mm.dict = true) (p_freeCtr : mm.freeCtr = true) : outside mm (keyLookup group key s) = outside mm s := by
  simp [keyLookup, *]
@[simp] theorem outside_emitFrame {mm : Parts} {o : Out} {s : State} (p_dict : mm.dict = true) (p_freeCtr : mm.freeCtr = true) (p_outbox : mm.outbox = true) : outside mm (emitFrame o s) = outside mm s := by
  unfold emitFrame; (repeat' split) <;> simp [*]
@[simp] theorem outside_countFrame {mm : Parts} {p : Nat} {ce : Bool} {s : State} (p_dict : mm.dict = true) (p_freeCtr : mm.freeCtr = true) : outside mm (countFrame p ce s) = outside mm s := by
  simp [countFrame, *]
@[simp] theorem outside_toHost {mm : Parts} {o : Out} {s : State} (p_snap : mm.snap = true) (p_dict : mm.dict = true) (p_freeCtr : mm.freeCtr = true) (p_outbox : mm.outbox = true) : outside mm (toHost o s) = outside mm s := by
  unfold toHost; (repeat' split) <;> simp [*]
@[simp] theorem outside_respond {mm : Parts} {r : ReplyTo} {v : RespVal} {s : State} (p_snap : mm.snap = true) (p_dict : mm.dict = true) (p_freeCtr : mm.freeCtr = true) (p_outbox : mm.outbox = true) : outside mm (respond r v s) = outside mm s := by
  simp [respond, *]

end Sys2Proof.Machine
end

