-- ==== Sys2Proof/Laws/KeepSlices.lean ====
section
/-! SUPPORT. What each operation of Machine/Slices.lean leaves unchanged: everything outside the parts its hypotheses name (Outside.lean). -/
namespace Sys2Proof.Machine
open Sys2Proof
set_option linter.unusedSimpArgs false

@[simp] theorem outside_touch {mm : Parts} {n key : Nat} {f : CLine → CLine} {s : State} (p_cs : mm.cs = true) : outside mm (touch n key f s) = outside mm s := by
  simp [touch, *]
@[simp] theorem outside_evict {mm : Parts} {n key : Nat} {s : State} (p_cs : mm.cs = true) (p_nand : mm.nand = true) : outside mm (evict n key s) = outside mm s := by
  unfold evict; (repeat' split) <;> simp [*]
theorem outside_install {mm : Parts} {line : Nat} {c : ReqClass} {dirty pinned pre : Bool} {data : Mem} {s : State} {t : State} (h : install line c dirty pinned pre data s = some t) (p_cs : mm.cs = true) (p_nand : mm.nand = true) : outside mm t = outside mm s := by
  (unfold install at h; (try dsimp only at h); (repeat' split at h) <;> first | (simp only [Option.some.injEq, Prod.mk.injEq] at h; simp [← h, p_cs, p_nand]; done) | (cases h; done) | (simp only [Option.some.injEq, Prod.mk.injEq] at h; simp_all; done) | (simp_all; done))
@[simp] theorem outside_lineDone {mm : Parts} {op : Nat} {s : State} (p_host : mm.host = true) : outside mm (lineDone op s) = outside mm s := by
  simp [lineDone, *]
@[simp] theorem outside_opNak {mm : Parts} {op : Nat} {v : RespVal} {s : State} (p_host : mm.host = true) : outside mm (opNak op v s) = outside mm s := by
  simp [opNak, *]
@[simp] theorem outside_restoreZero {mm : Parts} {tpn : Nat} {s : State} (p_dram : mm.dram = true) (p_rec_ : mm.rec_ = true) (p_snap : mm.snap = true) (p_mem : mm.mem = true) : outside mm (restoreZero tpn s) = outside mm s := by
  unfold restoreZero; (repeat' split) <;> simp [*]
@[simp] theorem outside_admitOp {mm : Parts} {o : Op} {s : State} (p_host : mm.host = true) (p_dram : mm.dram = true) (p_fix : mm.fix = true) (p_rec_ : mm.rec_ = true) (p_snap : mm.snap = true) (p_dict : mm.dict = true) (p_mem : mm.mem = true) : outside mm (admitOp o s) = outside mm s := by
  unfold admitOp; (repeat' split) <;> simp [*]
@[simp] theorem outside_settleRoom {mm : Parts} {tpn : Nat} {s : State} (p_host : mm.host = true) : outside mm (settleRoom tpn s) = outside mm s := by
  simp [settleRoom, *]
@[simp] theorem outside_opChange {mm : Parts} {line : Nat} {s : State} (p_host : mm.host = true) (p_per : mm.per = true) (p_fix : mm.fix = true) (p_cp : mm.cp = true) (p_snap : mm.snap = true) (p_rmq : mm.rmq = true) (p_dict : mm.dict = true) (p_quotas : mm.quotas = true) (p_dir : mm.dir = true) (p_snaps : mm.snaps = true) : outside mm (opChange line s) = outside mm s := by
  simp [opChange, *]
@[simp] theorem outside_readPoison {mm : Parts} {r : LineReq} {s : State} (p_host : mm.host = true) : outside mm (readPoison r s) = outside mm s := by
  unfold readPoison; (repeat' split) <;> simp [*]
@[simp] theorem outside_unitZeroed {mm : Parts} {op : Nat} {tpn k : Nat} {s : State} (p_per : mm.per = true) (p_nand : mm.nand = true) (p_fix : mm.fix = true) (p_cp : mm.cp = true) (p_dict : mm.dict = true) (p_dir : mm.dir = true) (p_fmap : mm.fmap = true) : outside mm (unitZeroed op tpn k s) = outside mm s := by
  unfold unitZeroed; (repeat' split) <;> simp [*]
@[simp] theorem outside_serveLine {mm : Parts} {r : LineReq} {v : Mem} {s : State} (p_host : mm.host = true) (p_per : mm.per = true) (p_nand : mm.nand = true) (p_fix : mm.fix = true) (p_cp : mm.cp = true) (p_snap : mm.snap = true) (p_rmq : mm.rmq = true) (p_dict : mm.dict = true) (p_quotas : mm.quotas = true) (p_dir : mm.dir = true) (p_fmap : mm.fmap = true) (p_snaps : mm.snaps = true) : outside mm (serveLine r v s).2 = outside mm s := by
  unfold serveLine; (repeat' split) <;> simp [*]
@[simp] theorem outside_bypassServe {mm : Parts} {r : LineReq} {s : State} (p_host : mm.host = true) (p_per : mm.per = true) (p_dram : mm.dram = true) (p_nand : mm.nand = true) (p_fix : mm.fix = true) (p_cp : mm.cp = true) (p_snap : mm.snap = true) (p_rmq : mm.rmq = true) (p_dict : mm.dict = true) (p_quotas : mm.quotas = true) (p_dir : mm.dir = true) (p_fmap : mm.fmap = true) (p_snaps : mm.snaps = true) (p_mem : mm.mem = true) : outside mm (bypassServe r s) = outside mm s := by
  simp [bypassServe, *]
@[simp] theorem outside_hitServe {mm : Parts} {n : Nat} {p : Nat × CLine} {r : LineReq} {s : State} (p_host : mm.host = true) (p_per : mm.per = true) (p_cs : mm.cs = true) (p_dram : mm.dram = true) (p_nand : mm.nand = true) (p_fix : mm.fix = true) (p_cp : mm.cp = true) (p_snap : mm.snap = true) (p_rmq : mm.rmq = true) (p_dict : mm.dict = true) (p_quotas : mm.quotas = true) (p_dir : mm.dir = true) (p_fmap : mm.fmap = true) (p_snaps : mm.snaps = true) (p_mem : mm.mem = true) : outside mm (hitServe n p r s) = outside mm s := by
  simp [hitServe, *]
@[simp] theorem outside_startUnitRead {mm : Parts} {lunit : Nat} {p : Place} {s : State} (p_nand : mm.nand = true) : outside mm (startUnitRead lunit p s) = outside mm s := by
  simp [startUnitRead, *]
@[simp] theorem outside_startPageRead {mm : Parts} {tpn : Nat} {s : State} (p_nand : mm.nand = true) : outside mm (startPageRead tpn s) = outside mm s := by
  unfold startPageRead; (repeat' split) <;> simp [*]
@[simp] theorem outside_demandPage {mm : Parts} {tpn : Nat} {s : State} (p_rec_ : mm.rec_ = true) (p_snap : mm.snap = true) : outside mm (demandPage tpn s) = outside mm s := by
  simp [demandPage, *]
@[simp] theorem outside_wakeChannel {mm : Parts} {s : State} {tpn : Nat} (p_dram : mm.dram = true) : outside mm (wakeChannel s tpn) = outside mm s := by
  unfold wakeChannel; (repeat' split) <;> simp [*]
theorem outside_missServe {mm : Parts} {n : Nat} {r : LineReq} {s : State} {t : State} (h : missServe n r s = some t) (p_host : mm.host = true) (p_per : mm.per = true) (p_cs : mm.cs = true) (p_dram : mm.dram = true) (p_nand : mm.nand = true) (p_fix : mm.fix = true) (p_cp : mm.cp = true) (p_rec_ : mm.rec_ = true) (p_snap : mm.snap = true) (p_rmq : mm.rmq = true) (p_dict : mm.dict = true) (p_quotas : mm.quotas = true) (p_dir : mm.dir = true) (p_fmap : mm.fmap = true) (p_snaps : mm.snaps = true) (p_mem : mm.mem = true) : outside mm t = outside mm s := by
  (unfold missServe at h; (try dsimp only at h); (repeat' split at h) <;> first | (simp only [Option.some.injEq, Prod.mk.injEq] at h; simp [← h, p_host, p_per, p_cs, p_dram, p_nand, p_fix, p_cp, p_rec_, p_snap, p_rmq, p_dict, p_quotas, p_dir, p_fmap, p_snaps, p_mem]; done) | (cases h; done) | ((try have h_install := outside_install (mm := mm) (by assumption) p_cs p_nand) <;> simp only [Option.some.injEq, Prod.mk.injEq] at h; simp_all; done) | ((try have h_install := outside_install (mm := mm) (by assumption) p_cs p_nand) <;> simp_all; done))
@[simp] theorem outside_popQueue {mm : Parts} {n : Nat} {s : State} (p_cs : mm.cs = true) : outside mm (popQueue n s) = outside mm s := by
  simp [popQueue, *]
@[simp] theorem outside_prefetchServe {mm : Parts} {n : Nat} {r : LineReq} {s : State} (p_cs : mm.cs = true) (p_nand : mm.nand = true) (p_dict : mm.dict = true) : outside mm (prefetchServe n r s) = outside mm s := by
  simp [prefetchServe, *]
theorem outside_serveReq {mm : Parts} {n : Nat} {r : LineReq} {s : State} {t : State} (h : serveReq n r s = some t) (p_host : mm.host = true) (p_per : mm.per = true) (p_cs : mm.cs = true) (p_dram : mm.dram = true) (p_nand : mm.nand = true) (p_fix : mm.fix = true) (p_cp : mm.cp = true) (p_rec_ : mm.rec_ = true) (p_snap : mm.snap = true) (p_rmq : mm.rmq = true) (p_dict : mm.dict = true) (p_quotas : mm.quotas = true) (p_dir : mm.dir = true) (p_fmap : mm.fmap = true) (p_snaps : mm.snaps = true) (p_mem : mm.mem = true) : outside mm t = outside mm s := by
  (unfold serveReq at h; (try dsimp only at h); (repeat' split at h) <;> first | (simp only [Option.some.injEq, Prod.mk.injEq] at h; simp [← h, p_host, p_per, p_cs, p_dram, p_nand, p_fix, p_cp, p_rec_, p_snap, p_rmq, p_dict, p_quotas, p_dir, p_fmap, p_snaps, p_mem]; done) | (cases h; done) | ((try have h_missServe := outside_missServe (mm := mm) (by assumption) p_host p_per p_cs p_dram p_nand p_fix p_cp p_rec_ p_snap p_rmq p_dict p_quotas p_dir p_fmap p_snaps p_mem) <;> simp only [Option.some.injEq, Prod.mk.injEq] at h; simp_all; done) | ((try have h_missServe := outside_missServe (mm := mm) (by assumption) p_host p_per p_cs p_dram p_nand p_fix p_cp p_rec_ p_snap p_rmq p_dict p_quotas p_dir p_fmap p_snaps p_mem) <;> simp_all; done))
@[simp] theorem outside_sliceStep {mm : Parts} {n : Nat} {s : State} (p_host : mm.host = true) (p_per : mm.per = true) (p_cs : mm.cs = true) (p_dram : mm.dram = true) (p_nand : mm.nand = true) (p_fix : mm.fix = true) (p_cp : mm.cp = true) (p_rec_ : mm.rec_ = true) (p_snap : mm.snap = true) (p_rmq : mm.rmq = true) (p_dict : mm.dict = true) (p_quotas : mm.quotas = true) (p_dir : mm.dir = true) (p_fmap : mm.fmap = true) (p_snaps : mm.snaps = true) (p_mem : mm.mem = true) : outside mm (sliceStep n s) = outside mm s := by
  unfold sliceStep; (repeat' split) <;> (try have h_serveReq := outside_serveReq (mm := mm) (by assumption) p_host p_per p_cs p_dram p_nand p_fix p_cp p_rec_ p_snap p_rmq p_dict p_quotas p_dir p_fmap p_snaps p_mem) <;> (try simp [p_host, p_per, p_cs, p_dram, p_nand, p_fix, p_cp, p_rec_, p_snap, p_rmq, p_dict, p_quotas, p_dir, p_fmap, p_snaps, p_mem]) <;> (repeat' split) <;> (try have h_serveReq := outside_serveReq (mm := mm) (by assumption) p_host p_per p_cs p_dram p_nand p_fix p_cp p_rec_ p_snap p_rmq p_dict p_quotas p_dir p_fmap p_snaps p_mem) <;> (try simp_all) <;> simp (disch := (intros; first | (simp [p_host, p_per, p_cs, p_dram, p_nand, p_fix, p_cp, p_rec_, p_snap, p_rmq, p_dict, p_quotas, p_dir, p_fmap, p_snaps, p_mem]; done) | ((repeat' split) <;> (try have h_serveReq := outside_serveReq (mm := mm) (by assumption) p_host p_per p_cs p_dram p_nand p_fix p_cp p_rec_ p_snap p_rmq p_dict p_quotas p_dir p_fmap p_snaps p_mem) <;> try simp [p_host, p_per, p_cs, p_dram, p_nand, p_fix, p_cp, p_rec_, p_snap, p_rmq, p_dict, p_quotas, p_dir, p_fmap, p_snaps, p_mem]))) [*]
@[simp] theorem outside_serveAttached {mm : Parts} {v : Mem} {d : Bool} {r : LineReq} {s : State} (p_host : mm.host = true) (p_per : mm.per = true) (p_dram : mm.dram = true) (p_nand : mm.nand = true) (p_fix : mm.fix = true) (p_cp : mm.cp = true) (p_rec_ : mm.rec_ = true) (p_snap : mm.snap = true) (p_rmq : mm.rmq = true) (p_dict : mm.dict = true) (p_quotas : mm.quotas = true) (p_dir : mm.dir = true) (p_fmap : mm.fmap = true) (p_snaps : mm.snaps = true) (p_mem : mm.mem = true) : outside mm (serveAttached v d r s).2.2 = outside mm s := by
  unfold serveAttached; (repeat' split) <;> (try simp [p_host, p_per, p_dram, p_nand, p_fix, p_cp, p_rec_, p_snap, p_rmq, p_dict, p_quotas, p_dir, p_fmap, p_snaps, p_mem]) <;> (repeat' split) <;> (try simp_all) <;> simp (disch := (intros; first | (simp [p_host, p_per, p_dram, p_nand, p_fix, p_cp, p_rec_, p_snap, p_rmq, p_dict, p_quotas, p_dir, p_fmap, p_snaps, p_mem]; done) | ((repeat' split) <;> try simp [p_host, p_per, p_dram, p_nand, p_fix, p_cp, p_rec_, p_snap, p_rmq, p_dict, p_quotas, p_dir, p_fmap, p_snaps, p_mem]))) [*]
@[simp] theorem outside_installSiblings {mm : Parts} {line : Nat} {s : State} (p_cs : mm.cs = true) (p_nand : mm.nand = true) (p_dict : mm.dict = true) : outside mm (installSiblings line s) = outside mm s := by
  unfold installSiblings
  dsimp only
  split
  · refine outside_each _ _ _ ?_ s
    intro i a
    split
    · rfl
    · split
      · simp [*]
      · cases hi : install (lineTpn line * 512 + i) .prefetch false false false (homeLine a (lineTpn line * 512 + i)) a with
        | none => simp [*]
        | some t => simp [(outside_install hi p_cs p_nand), *]
  · rfl
@[simp] theorem outside_doFillReturn {mm : Parts} {slice : Fin 14} {line : Nat} {s : State} (p_host : mm.host = true) (p_per : mm.per = true) (p_cs : mm.cs = true) (p_dram : mm.dram = true) (p_nand : mm.nand = true) (p_fix : mm.fix = true) (p_cp : mm.cp = true) (p_rec_ : mm.rec_ = true) (p_snap : mm.snap = true) (p_rmq : mm.rmq = true) (p_dict : mm.dict = true) (p_quotas : mm.quotas = true) (p_dir : mm.dir = true) (p_fmap : mm.fmap = true) (p_snaps : mm.snaps = true) (p_mem : mm.mem = true) : outside mm (doFillReturn slice line s) = outside mm s := by
  unfold doFillReturn
  dsimp only
  split
  · rfl
  · rename_i f hf
    split
    · rfl
    · generalize hg : (List.foldl (fun (acc : Mem × Bool × State) r => serveAttached acc.1 acc.2.1 r acc.2.2) _ f.attached) = g
      have hs : outside mm g.2.2 = outside mm s := by
        rw [← hg]
        generalize hz : (readLine s line, false, setSlice slice.val (fun x => _) s) = z
        have h0 : outside mm z.2.2 = outside mm s := by rw [← hz]; simp [*]
        clear hz hg
        induction f.attached generalizing z with
        | nil => exact h0
        | cons x t ih => exact ih _ (by simp [*])
      split
      · (repeat' split) <;> simp [*]
      · split
        · rename_i t ht
          have := (outside_install ht p_cs p_nand)
          (repeat' split) <;> simp_all
        · split <;> simp [*]
@[simp] theorem outside_doDramWriteDone {mm : Parts} {slice : Fin 14} {line : Nat} {s : State} (p_per : mm.per = true) (p_cs : mm.cs = true) (p_dram : mm.dram = true) (p_nand : mm.nand = true) (p_dict : mm.dict = true) (p_dir : mm.dir = true) (p_mem : mm.mem = true) : outside mm (doDramWriteDone slice line s) = outside mm s := by
  unfold doDramWriteDone; (repeat' split) <;> (try simp [p_per, p_cs, p_dram, p_nand, p_dict, p_dir, p_mem]) <;> (repeat' split) <;> (try simp_all) <;> simp (disch := (intros; first | (simp [p_per, p_cs, p_dram, p_nand, p_dict, p_dir, p_mem]; done) | ((repeat' split) <;> try simp [p_per, p_cs, p_dram, p_nand, p_dict, p_dir, p_mem]))) [*]
@[simp] theorem outside_maintenance {mm : Parts} {code slice line : Nat} {run : State → State} {s : State} (p_fieth : mm.fieth = true) (p_dict : mm.dict = true) (p_outbox : mm.outbox = true) (hrun : ∀ a, outside mm (run a) = outside mm a) : outside mm (maintenance code slice line run s) = outside mm s := by
  simp [maintenance, *]
@[simp] theorem outside_maintStatus {mm : Parts} {v : Nat} {s : State} (p_dict : mm.dict = true) : outside mm (maintStatus v s) = outside mm s := by
  simp [maintStatus, *]
@[simp] theorem outside_byAddress {mm : Parts} {code line : Nat} {s : State} (p_cs : mm.cs = true) (p_nand : mm.nand = true) (p_dict : mm.dict = true) : outside mm (byAddress code line s) = outside mm s := by
  unfold byAddress; (repeat' split) <;> (try simp [p_cs, p_nand, p_dict]) <;> (repeat' split) <;> (try simp_all) <;> simp (disch := (intros; first | (simp [p_cs, p_nand, p_dict]; done) | ((repeat' split) <;> try simp [p_cs, p_nand, p_dict]))) [*]
@[simp] theorem outside_bySlice {mm : Parts} {code : Nat} {w : Walk} {slice : Nat} {s : State} (p_cs : mm.cs = true) (p_dict : mm.dict = true) : outside mm (bySlice code w slice s) = outside mm s := by
  simp [bySlice, *]
@[simp] theorem outside_doCleanAddr {mm : Parts} {line : Nat} {s : State} (p_cs : mm.cs = true) (p_nand : mm.nand = true) (p_fieth : mm.fieth = true) (p_dict : mm.dict = true) (p_outbox : mm.outbox = true) : outside mm (doCleanAddr line s) = outside mm s := by
  simp [doCleanAddr, *]
@[simp] theorem outside_doFlushAddr {mm : Parts} {line : Nat} {s : State} (p_cs : mm.cs = true) (p_nand : mm.nand = true) (p_fieth : mm.fieth = true) (p_dict : mm.dict = true) (p_outbox : mm.outbox = true) : outside mm (doFlushAddr line s) = outside mm s := by
  simp [doFlushAddr, *]
@[simp] theorem outside_doInvalidateAddr {mm : Parts} {line : Nat} {s : State} (p_cs : mm.cs = true) (p_nand : mm.nand = true) (p_fieth : mm.fieth = true) (p_dict : mm.dict = true) (p_outbox : mm.outbox = true) : outside mm (doInvalidateAddr line s) = outside mm s := by
  simp [doInvalidateAddr, *]
@[simp] theorem outside_doCleanSlice {mm : Parts} {slice : Fin 16} {s : State} (p_cs : mm.cs = true) (p_fieth : mm.fieth = true) (p_dict : mm.dict = true) (p_outbox : mm.outbox = true) : outside mm (doCleanSlice slice s) = outside mm s := by
  simp [doCleanSlice, *]
@[simp] theorem outside_doFlushSlice {mm : Parts} {slice : Fin 16} {s : State} (p_cs : mm.cs = true) (p_fieth : mm.fieth = true) (p_dict : mm.dict = true) (p_outbox : mm.outbox = true) : outside mm (doFlushSlice slice s) = outside mm s := by
  simp [doFlushSlice, *]
@[simp] theorem outside_doDisable {mm : Parts} {slice : Fin 16} {s : State} (p_cs : mm.cs = true) (p_fieth : mm.fieth = true) (p_dict : mm.dict = true) (p_outbox : mm.outbox = true) : outside mm (doDisable slice s) = outside mm s := by
  simp [doDisable, *]
@[simp] theorem outside_doInvalidateSlice {mm : Parts} {slice : Fin 16} {s : State} (p_cs : mm.cs = true) (p_fieth : mm.fieth = true) (p_dict : mm.dict = true) (p_outbox : mm.outbox = true) : outside mm (doInvalidateSlice slice s) = outside mm s := by
  simp [doInvalidateSlice, *]
@[simp] theorem outside_doEnable {mm : Parts} {slice : Fin 16} {s : State} (p_cs : mm.cs = true) (p_fieth : mm.fieth = true) (p_dict : mm.dict = true) (p_outbox : mm.outbox = true) : outside mm (doEnable slice s) = outside mm s := by
  simp [doEnable, *]
@[simp] theorem outside_unknownMaintenance {mm : Parts} {code slice line : Nat} {s : State} (p_fieth : mm.fieth = true) (p_dict : mm.dict = true) (p_outbox : mm.outbox = true) : outside mm (unknownMaintenance code slice line s) = outside mm s := by
  simp [unknownMaintenance, *]
@[simp] theorem outside_sweepSlice {mm : Parts} {n : Nat} {drop : Bool} {s : State} (p_cs : mm.cs = true) (p_nand : mm.nand = true) : outside mm (sweepSlice n drop s) = outside mm s := by
  simp [sweepSlice, *]
@[simp] theorem outside_doSliceWalkDone {mm : Parts} {slice : Fin 16} {s : State} (p_cs : mm.cs = true) (p_nand : mm.nand = true) (p_dict : mm.dict = true) : outside mm (doSliceWalkDone slice s) = outside mm s := by
  unfold doSliceWalkDone; (repeat' split) <;> (try simp [p_cs, p_nand, p_dict]) <;> (repeat' split) <;> (try simp_all) <;> simp (disch := (intros; first | (simp [p_cs, p_nand, p_dict]; done) | ((repeat' split) <;> try simp [p_cs, p_nand, p_dict]))) [*]
@[simp] theorem outside_recoverLine {mm : Parts} {line : Nat} {s : State} (p_per : mm.per = true) (p_cp : mm.cp = true) (p_rmq : mm.rmq = true) (p_dict : mm.dict = true) (p_dir : mm.dir = true) : outside mm (recoverLine line s) = outside mm s := by
  simp [recoverLine, *]
@[simp] theorem outside_dropWay {mm : Parts} {n w : Nat} {lost : List Nat} {s : State} (p_per : mm.per = true) (p_cs : mm.cs = true) (p_nand : mm.nand = true) (p_cp : mm.cp = true) (p_rmq : mm.rmq = true) (p_dict : mm.dict = true) (p_dir : mm.dir = true) : outside mm (dropWay n w lost s) = outside mm s := by
  simp [dropWay, *]
@[simp] theorem outside_failSlice {mm : Parts} {n cause : Nat} {lost : List Nat} {s : State} (p_per : mm.per = true) (p_cs : mm.cs = true) (p_nand : mm.nand = true) (p_cp : mm.cp = true) (p_pres : mm.pres = true) (p_rmq : mm.rmq = true) (p_rst : mm.rst = true) (p_dict : mm.dict = true) (p_freeCtr : mm.freeCtr = true) (p_dir : mm.dir = true) : outside mm (failSlice n cause lost s) = outside mm s := by
  simp [failSlice, *]
@[simp] theorem outside_wayOff {mm : Parts} {n w cause : Nat} {lost : List Nat} {s : State} (p_per : mm.per = true) (p_cs : mm.cs = true) (p_nand : mm.nand = true) (p_cp : mm.cp = true) (p_pres : mm.pres = true) (p_rmq : mm.rmq = true) (p_rst : mm.rst = true) (p_dict : mm.dict = true) (p_freeCtr : mm.freeCtr = true) (p_dir : mm.dir = true) : outside mm (wayOff n w cause lost s) = outside mm s := by
  simp [wayOff, *]
@[simp] theorem outside_doSliceSramError {mm : Parts} {slice : Fin 16} {way : Fin 16} {uncorrectable : Bool} {lost : List Nat} {s : State} (p_per : mm.per = true) (p_cs : mm.cs = true) (p_nand : mm.nand = true) (p_cp : mm.cp = true) (p_pres : mm.pres = true) (p_rmq : mm.rmq = true) (p_rst : mm.rst = true) (p_dict : mm.dict = true) (p_freeCtr : mm.freeCtr = true) (p_dir : mm.dir = true) : outside mm (doSliceSramError slice way uncorrectable lost s) = outside mm s := by
  simp [doSliceSramError, *]
@[simp] theorem outside_doHomeSliceRequest {mm : Parts} {slice : Fin 14} {s : State} (p_host : mm.host = true) (p_per : mm.per = true) (p_cs : mm.cs = true) (p_dram : mm.dram = true) (p_nand : mm.nand = true) (p_fix : mm.fix = true) (p_cp : mm.cp = true) (p_rec_ : mm.rec_ = true) (p_snap : mm.snap = true) (p_pres : mm.pres = true) (p_rmq : mm.rmq = true) (p_rst : mm.rst = true) (p_dict : mm.dict = true) (p_freeCtr : mm.freeCtr = true) (p_quotas : mm.quotas = true) (p_dir : mm.dir = true) (p_fmap : mm.fmap = true) (p_snaps : mm.snaps = true) (p_mem : mm.mem = true) : outside mm (doHomeSliceRequest slice s) = outside mm s := by
  unfold doHomeSliceRequest; (repeat' split) <;> (try have h_fire := outside_fire (mm := mm) (by assumption) p_pres p_rmq p_dict) <;> (try have h_fireRecorded := outside_fireRecorded (mm := mm) (by assumption) p_pres p_rmq p_dict) <;> (try simp [p_host, p_per, p_cs, p_dram, p_nand, p_fix, p_cp, p_rec_, p_snap, p_pres, p_rmq, p_rst, p_dict, p_freeCtr, p_quotas, p_dir, p_fmap, p_snaps, p_mem]) <;> (repeat' split) <;> (try have h_fire := outside_fire (mm := mm) (by assumption) p_pres p_rmq p_dict) <;> (try have h_fireRecorded := outside_fireRecorded (mm := mm) (by assumption) p_pres p_rmq p_dict) <;> (try simp_all) <;> simp (disch := (intros; first | (simp [p_host, p_per, p_cs, p_dram, p_nand, p_fix, p_cp, p_rec_, p_snap, p_pres, p_rmq, p_rst, p_dict, p_freeCtr, p_quotas, p_dir, p_fmap, p_snaps, p_mem]; done) | ((repeat' split) <;> (try have h_fire := outside_fire (mm := mm) (by assumption) p_pres p_rmq p_dict) <;> (try have h_fireRecorded := outside_fireRecorded (mm := mm) (by assumption) p_pres p_rmq p_dict) <;> try simp [p_host, p_per, p_cs, p_dram, p_nand, p_fix, p_cp, p_rec_, p_snap, p_pres, p_rmq, p_rst, p_dict, p_freeCtr, p_quotas, p_dir, p_fmap, p_snaps, p_mem]))) [*]
@[simp] theorem outside_doSliceFail {mm : Parts} {slice : Fin 16} {cause : Nat} {lost : List Nat} {s : State} (p_per : mm.per = true) (p_cs : mm.cs = true) (p_nand : mm.nand = true) (p_cp : mm.cp = true) (p_pres : mm.pres = true) (p_rmq : mm.rmq = true) (p_rst : mm.rst = true) (p_dict : mm.dict = true) (p_freeCtr : mm.freeCtr = true) (p_dir : mm.dir = true) : outside mm (doSliceFail slice cause lost s) = outside mm s := by
  simp [doSliceFail, *]

end Sys2Proof.Machine
end

