-- ==== Sys2Proof/Laws/KeepOperands.lean ====
section
/-! SUPPORT. What each operation of Machine/Operands.lean leaves unchanged: everything outside the parts its hypotheses name (Outside.lean). -/
namespace Sys2Proof.Machine
open Sys2Proof
set_option linter.unusedSimpArgs false


end Sys2Proof.Machine
end

