-- ==== Sys2Proof/Laws/KeepTier.lean ====
section
/-! SUPPORT. What each operation of Machine/Tier.lean leaves unchanged: everything outside the parts its hypotheses name (Outside.lean). -/
namespace Sys2Proof.Machine
open Sys2Proof
set_option linter.unusedSimpArgs false

@[simp] theorem outside_addUsed {mm : Parts} {tenant tier : Nat} {up : Bool} {s : State} (p_per : mm.per = true) (p_quotas : mm.quotas = true) : outside mm (addUsed tenant tier up s) = outside mm s := by
  simp [addUsed, *]
@[simp] theorem outside_modPlace {mm : Parts} {t : Token} {f : PlaceRun → PlaceRun} {s : State} (p_tier : mm.tier = true) : outside mm (modPlace t f s) = outside mm s := by
  simp [modPlace, *]
@[simp] theorem outside_abandon {mm : Parts} {tpn : Nat} {s : State} (p_per : mm.per = true) (p_tier : mm.tier = true) (p_dict : mm.dict = true) (p_dir : mm.dir = true) : outside mm (abandon tpn s) = outside mm s := by
  simp [abandon, *]
@[simp] theorem outside_returnReserved {mm : Parts} {p : PlaceRun} {s : State} (p_per : mm.per = true) (p_quotas : mm.quotas = true) : outside mm (returnReserved p s) = outside mm s := by
  simp [returnReserved, *]
@[simp] theorem outside_stopPlace {mm : Parts} {t : Token} {v : RespVal} {s : State} (p_per : mm.per = true) (p_tier : mm.tier = true) (p_cp : mm.cp = true) (p_dict : mm.dict = true) (p_quotas : mm.quotas = true) (p_dir : mm.dir = true) : outside mm (stopPlace t v s) = outside mm s := by
  unfold stopPlace; (repeat' split) <;> simp [*]
theorem outside_pinPage {mm : Parts} {tpn : Nat} {s : State} {t : State} (h : pinPage tpn s = some t) (p_cs : mm.cs = true) (p_nand : mm.nand = true) : outside mm t = outside mm s := by
  unfold pinPage at h
  refine outside_foldl_bind mm (fun a i => _) ?_ _ s t h
  intro a i u hu
  dsimp only at hu
  repeat' split at hu
  all_goals first | exact (outside_install hu p_cs p_nand) | (simp only [Option.some.injEq] at hu; rw [← hu]; simp [p_cs, p_nand]; done) | (simp only [Option.some.injEq] at hu; rw [← hu])
@[simp] theorem outside_unpinPage {mm : Parts} {tpn : Nat} {s : State} (p_cs : mm.cs = true) : outside mm (unpinPage tpn s) = outside mm s := by
  simp [unpinPage, *]
theorem outside_reserveMove {mm : Parts} {tpn : Nat} {c : MoveCause} {s : State} {t : State} (h : reserveMove tpn c s = some t) (p_per : mm.per = true) (p_tier : mm.tier = true) (p_cs : mm.cs = true) (p_nand : mm.nand = true) (p_rec_ : mm.rec_ = true) (p_snap : mm.snap = true) (p_freeCtr : mm.freeCtr = true) (p_dir : mm.dir = true) : outside mm t = outside mm s := by
  unfold reserveMove at h
  rw [Option.bind_eq_some_iff] at h
  obtain ⟨d, _, h⟩ := h
  dsimp only at h
  repeat' split at h
  all_goals first | (simp only [Option.some.injEq] at h; rw [← h]; simp [p_per, p_tier, p_cs, p_nand, p_rec_, p_snap, p_freeCtr, p_dir]; done) | (cases h; done) | skip
  rename_i u hu
  simp only [Option.some.injEq] at h
  rw [← h]
  rw [(outside_pinPage hu p_cs p_nand)]
  simp [p_per, p_tier, p_cs, p_nand, p_rec_, p_snap, p_freeCtr, p_dir]
@[simp] theorem outside_placePage {mm : Parts} {p : PlaceRun} {tpn : Nat} {s : State} (p_per : mm.per = true) (p_tier : mm.tier = true) (p_cs : mm.cs = true) (p_nand : mm.nand = true) (p_cp : mm.cp = true) (p_rec_ : mm.rec_ = true) (p_snap : mm.snap = true) (p_dict : mm.dict = true) (p_freeCtr : mm.freeCtr = true) (p_quotas : mm.quotas = true) (p_dir : mm.dir = true) : outside mm (placePage p tpn s) = outside mm s := by
  unfold placePage; (repeat' split) <;> (try have h_reserveMove := outside_reserveMove (mm := mm) (by assumption) p_per p_tier p_cs p_nand p_rec_ p_snap p_freeCtr p_dir) <;> (try simp [p_per, p_tier, p_cs, p_nand, p_cp, p_rec_, p_snap, p_dict, p_freeCtr, p_quotas, p_dir]) <;> (repeat' split) <;> (try have h_reserveMove := outside_reserveMove (mm := mm) (by assumption) p_per p_tier p_cs p_nand p_rec_ p_snap p_freeCtr p_dir) <;> (try simp_all) <;> simp (disch := (intros; first | (simp [p_per, p_tier, p_cs, p_nand, p_cp, p_rec_, p_snap, p_dict, p_freeCtr, p_quotas, p_dir]; done) | ((repeat' split) <;> (try have h_reserveMove := outside_reserveMove (mm := mm) (by assumption) p_per p_tier p_cs p_nand p_rec_ p_snap p_freeCtr p_dir) <;> try simp [p_per, p_tier, p_cs, p_nand, p_cp, p_rec_, p_snap, p_dict, p_freeCtr, p_quotas, p_dir]))) [*]
@[simp] theorem outside_pumpMoves {mm : Parts} (n : Nat) (s : State) (p_per : mm.per = true) (p_tier : mm.tier = true) (p_cs : mm.cs = true) (p_nand : mm.nand = true) (p_cp : mm.cp = true) (p_rec_ : mm.rec_ = true) (p_snap : mm.snap = true) (p_dict : mm.dict = true) (p_freeCtr : mm.freeCtr = true) (p_quotas : mm.quotas = true) (p_dir : mm.dir = true) : outside mm (pumpMoves n s) = outside mm s := by
  induction n generalizing s with
  | zero => rfl
  | succ n ih =>
    unfold pumpMoves
    split
    · rfl
    · split
      · rename_i tpn c _ _
        dsimp only
        split
        · rename_i u hu
          rw [ih, (outside_reserveMove hu p_per p_tier p_cs p_nand p_rec_ p_snap p_freeCtr p_dir)]
          split <;> simp [p_per, p_tier, p_cs, p_nand, p_cp, p_rec_, p_snap, p_dict, p_freeCtr, p_quotas, p_dir]
        · rfl
      · split <;> simp [ih, p_per, p_tier, p_cs, p_nand, p_cp, p_rec_, p_snap, p_dict, p_freeCtr, p_quotas, p_dir]
@[simp] theorem outside_startMoves {mm : Parts} {s : State} (p_per : mm.per = true) (p_tier : mm.tier = true) (p_cs : mm.cs = true) (p_nand : mm.nand = true) (p_cp : mm.cp = true) (p_rec_ : mm.rec_ = true) (p_snap : mm.snap = true) (p_dict : mm.dict = true) (p_freeCtr : mm.freeCtr = true) (p_quotas : mm.quotas = true) (p_dir : mm.dir = true) : outside mm (startMoves s) = outside mm s := by
  simp [startMoves, *]
@[simp] theorem outside_closePlaces {mm : Parts} {s : State} (p_per : mm.per = true) (p_tier : mm.tier = true) (p_cp : mm.cp = true) (p_dict : mm.dict = true) (p_quotas : mm.quotas = true) : outside mm (closePlaces s) = outside mm s := by
  simp [closePlaces, *]
@[simp] theorem outside_ownMoves {mm : Parts} {pages : List Nat} {c : MoveCause} {row : Nat} {s : State} (p_per : mm.per = true) (p_tier : mm.tier = true) (p_cs : mm.cs = true) (p_nand : mm.nand = true) (p_cp : mm.cp = true) (p_rec_ : mm.rec_ = true) (p_snap : mm.snap = true) (p_rmq : mm.rmq = true) (p_dict : mm.dict = true) (p_freeCtr : mm.freeCtr = true) (p_quotas : mm.quotas = true) (p_dir : mm.dir = true) : outside mm (ownMoves pages c row s) = outside mm s := by
  simp [ownMoves, *]
@[simp] theorem outside_passHeld {mm : Parts} {tpn : Nat} {s : State} (p_per : mm.per = true) (p_snap : mm.snap = true) (p_rmq : mm.rmq = true) (p_dict : mm.dict = true) (p_quotas : mm.quotas = true) (p_dir : mm.dir = true) (p_snaps : mm.snaps = true) : outside mm (passHeld tpn s) = outside mm s := by
  simp [passHeld, *]
theorem outside_writeDest {mm : Parts} {h : Home} {skip : Bool} {data : Mem} {s : State} {t : State} (h : writeDest h skip data s = some t) (p_per : mm.per = true) (p_dram : mm.dram = true) (p_nand : mm.nand = true) (p_dict : mm.dict = true) (p_freeCtr : mm.freeCtr = true) (p_fmap : mm.fmap = true) (p_groups : mm.groups = true) (p_mem : mm.mem = true) (p_media : mm.media = true) : outside mm t = outside mm s := by
  unfold writeDest at h
  split at h
  · cases h
  · injection h with h; rw [← h]; split <;> simp [p_per, p_dram, p_nand, p_dict, p_freeCtr, p_fmap, p_groups, p_mem, p_media]
  · split at h
    · injection h with h; rw [h]
    · refine outside_foldl_bind mm (fun a k => _) ?_ _ s t h
      intro a k u hu
      rw [Option.map_eq_some_iff] at hu
      obtain ⟨p, hp, hu⟩ := hu
      rw [← hu]
      have := (outside_programPool hp p_per p_nand p_dict p_freeCtr p_fmap p_groups p_media)
      simp [this, p_per, p_dram, p_nand, p_dict, p_freeCtr, p_fmap, p_groups, p_mem, p_media]
@[simp] theorem outside_freeHome {mm : Parts} {h : Home} {s : State} (p_per : mm.per = true) (p_nand : mm.nand = true) (p_fmap : mm.fmap = true) : outside mm (freeHome h s) = outside mm s := by
  unfold freeHome; (repeat' split) <;> simp [*]
@[simp] theorem outside_switchHome {mm : Parts} {tpn : Nat} {d : DirEntry} {m : Move} {promote demote : Bool} {s : State} (p_per : mm.per = true) (p_tier : mm.tier = true) (p_cs : mm.cs = true) (p_nand : mm.nand = true) (p_fix : mm.fix = true) (p_cp : mm.cp = true) (p_dict : mm.dict = true) (p_dir : mm.dir = true) (p_fmap : mm.fmap = true) (p_images : mm.images = true) : outside mm (switchHome tpn d m promote demote s) = outside mm s := by
  simp [switchHome, *]
@[simp] theorem outside_countPlaced {mm : Parts} {tpn : Nat} {t : Token} {tenant : Nat} {promote : Bool} {s : State} (p_per : mm.per = true) (p_tier : mm.tier = true) (p_dict : mm.dict = true) (p_quotas : mm.quotas = true) : outside mm (countPlaced tpn t tenant promote s) = outside mm s := by
  simp [countPlaced, *]
@[simp] theorem outside_countMove {mm : Parts} {tpn : Nat} {c : MoveCause} {tenant : Nat} {promote : Bool} {s : State} (p_per : mm.per = true) (p_tier : mm.tier = true) (p_dict : mm.dict = true) (p_quotas : mm.quotas = true) : outside mm (countMove tpn c tenant promote s) = outside mm s := by
  unfold countMove; (repeat' split) <;> simp [*]
@[simp] theorem outside_doMoveCopyDone {mm : Parts} {tpn : Nat} {s : State} (p_per : mm.per = true) (p_tier : mm.tier = true) (p_cs : mm.cs = true) (p_dram : mm.dram = true) (p_nand : mm.nand = true) (p_fix : mm.fix = true) (p_cp : mm.cp = true) (p_rec_ : mm.rec_ = true) (p_snap : mm.snap = true) (p_rmq : mm.rmq = true) (p_dict : mm.dict = true) (p_freeCtr : mm.freeCtr = true) (p_quotas : mm.quotas = true) (p_dir : mm.dir = true) (p_fmap : mm.fmap = true) (p_groups : mm.groups = true) (p_images : mm.images = true) (p_snaps : mm.snaps = true) (p_mem : mm.mem = true) (p_media : mm.media = true) : outside mm (doMoveCopyDone tpn s) = outside mm s := by
  unfold doMoveCopyDone; (repeat' split) <;> (try have h_writeDest := outside_writeDest (mm := mm) (by assumption) p_per p_dram p_nand p_dict p_freeCtr p_fmap p_groups p_mem p_media) <;> (try simp [p_per, p_tier, p_cs, p_dram, p_nand, p_fix, p_cp, p_rec_, p_snap, p_rmq, p_dict, p_freeCtr, p_quotas, p_dir, p_fmap, p_groups, p_images, p_snaps, p_mem, p_media]) <;> (repeat' split) <;> (try have h_writeDest := outside_writeDest (mm := mm) (by assumption) p_per p_dram p_nand p_dict p_freeCtr p_fmap p_groups p_mem p_media) <;> (try simp_all) <;> simp (disch := (intros; first | (simp [p_per, p_tier, p_cs, p_dram, p_nand, p_fix, p_cp, p_rec_, p_snap, p_rmq, p_dict, p_freeCtr, p_quotas, p_dir, p_fmap, p_groups, p_images, p_snaps, p_mem, p_media]; done) | ((repeat' split) <;> (try have h_writeDest := outside_writeDest (mm := mm) (by assumption) p_per p_dram p_nand p_dict p_freeCtr p_fmap p_groups p_mem p_media) <;> try simp [p_per, p_tier, p_cs, p_dram, p_nand, p_fix, p_cp, p_rec_, p_snap, p_rmq, p_dict, p_freeCtr, p_quotas, p_dir, p_fmap, p_groups, p_images, p_snaps, p_mem, p_media]))) [*]
@[simp] theorem outside_doRehomeDisplaced {mm : Parts} {s : State} (p_per : mm.per = true) (p_tier : mm.tier = true) (p_cs : mm.cs = true) (p_nand : mm.nand = true) (p_cp : mm.cp = true) (p_rec_ : mm.rec_ = true) (p_snap : mm.snap = true) (p_fieth : mm.fieth = true) (p_dict : mm.dict = true) (p_freeCtr : mm.freeCtr = true) (p_outbox : mm.outbox = true) (p_quotas : mm.quotas = true) (p_dir : mm.dir = true) : outside mm (doRehomeDisplaced s) = outside mm s := by
  simp [doRehomeDisplaced, *]

end Sys2Proof.Machine
end

