-- ==== Sys2Proof/Laws/KeepStipple.lean ====
section
/-! SUPPORT. What each operation of Machine/Stipple.lean leaves unchanged: everything outside the parts its hypotheses name (Outside.lean). -/
namespace Sys2Proof.Machine
open Sys2Proof
set_option linter.unusedSimpArgs false

@[simp] theorem outside_holdFor {mm : Parts} {t : Token} {r : ReplyTo} {s : State} (p_host : mm.host = true) (p_replay : mm.replay = true) : outside mm (holdFor t r s) = outside mm s := by
  simp [holdFor, *]
@[simp] theorem outside_replayCreate {mm : Parts} {t : Token} {s : State} (p_host : mm.host = true) (p_replay : mm.replay = true) : outside mm (replayCreate t s) = outside mm s := by
  simp [replayCreate, *]
@[simp] theorem outside_replayComplete {mm : Parts} {t : Token} {v : RespVal} {s : State} (p_host : mm.host = true) (p_snap : mm.snap = true) (p_dict : mm.dict = true) (p_freeCtr : mm.freeCtr = true) (p_outbox : mm.outbox = true) (p_replay : mm.replay = true) : outside mm (replayComplete t v s) = outside mm s := by
  unfold replayComplete; (repeat' split) <;> (try simp [p_host, p_snap, p_dict, p_freeCtr, p_outbox, p_replay]) <;> (repeat' split) <;> (try simp_all) <;> simp (disch := (intros; first | (simp [p_host, p_snap, p_dict, p_freeCtr, p_outbox, p_replay]; done) | ((repeat' split) <;> try simp [p_host, p_snap, p_dict, p_freeCtr, p_outbox, p_replay]))) [*]
@[simp] theorem outside_replayFree {mm : Parts} {t : Token} {v : RespVal} {s : State} (p_host : mm.host = true) (p_snap : mm.snap = true) (p_dict : mm.dict = true) (p_freeCtr : mm.freeCtr = true) (p_outbox : mm.outbox = true) (p_replay : mm.replay = true) : outside mm (replayFree t v s) = outside mm s := by
  unfold replayFree; (repeat' split) <;> (try simp [p_host, p_snap, p_dict, p_freeCtr, p_outbox, p_replay]) <;> (repeat' split) <;> (try simp_all) <;> simp (disch := (intros; first | (simp [p_host, p_snap, p_dict, p_freeCtr, p_outbox, p_replay]; done) | ((repeat' split) <;> try simp [p_host, p_snap, p_dict, p_freeCtr, p_outbox, p_replay]))) [*]
@[simp] theorem outside_traceTouch {mm : Parts} {host : Nat} {r : Region} {pages : List Nat} {s : State} (p_rec_ : mm.rec_ = true) : outside mm (traceTouch host r pages s) = outside mm s := by
  simp [traceTouch, *]
@[simp] theorem outside_strideRead {mm : Parts} {group stream : Nat} {r : Region} {x : Nat} {s : State} (p_host : mm.host = true) (p_cs : mm.cs = true) : outside mm (strideRead group stream r x s) = outside mm s := by
  simp [strideRead, *]
@[simp] theorem outside_enqueue {mm : Parts} {l : List LineReq} {s : State} (p_cs : mm.cs = true) : outside mm (enqueue l s) = outside mm s := by
  simp [enqueue, *]
@[simp] theorem outside_forwardPart {mm : Parts} {o : Op} {key region off len dst : Nat} {s : State} (p_host : mm.host = true) (p_cp : mm.cp = true) (p_dict : mm.dict = true) : outside mm (forwardPart o key region off len dst s) = outside mm s := by
  simp [forwardPart, *]
@[simp] theorem outside_startPlace {mm : Parts} {o : Op} {r : Region} {s : State} (p_host : mm.host = true) (p_per : mm.per = true) (p_tier : mm.tier = true) (p_cs : mm.cs = true) (p_nand : mm.nand = true) (p_cp : mm.cp = true) (p_rec_ : mm.rec_ = true) (p_snap : mm.snap = true) (p_dict : mm.dict = true) (p_freeCtr : mm.freeCtr = true) (p_quotas : mm.quotas = true) (p_dir : mm.dir = true) : outside mm (startPlace o r s) = outside mm s := by
  unfold startPlace; (repeat' split) <;> (try simp [p_host, p_per, p_tier, p_cs, p_nand, p_cp, p_rec_, p_snap, p_dict, p_freeCtr, p_quotas, p_dir]) <;> (repeat' split) <;> (try simp_all) <;> simp (disch := (intros; first | (simp [p_host, p_per, p_tier, p_cs, p_nand, p_cp, p_rec_, p_snap, p_dict, p_freeCtr, p_quotas, p_dir]; done) | ((repeat' split) <;> try simp [p_host, p_per, p_tier, p_cs, p_nand, p_cp, p_rec_, p_snap, p_dict, p_freeCtr, p_quotas, p_dir]))) [*]
@[simp] theorem outside_startBatch {mm : Parts} {o : Op} {s : State} (p_host : mm.host = true) (p_cs : mm.cs = true) (p_cp : mm.cp = true) (p_dict : mm.dict = true) : outside mm (startBatch o s) = outside mm s := by
  unfold startBatch
  refine (outside_foldl_proj mm (fun x : Nat × Nat × State => x.2.2) _ ?_ _ _).trans rfl
  intro a p
  dsimp only
  (repeat' split) <;> simp [p_host, p_cs, p_cp, p_dict]
@[simp] theorem outside_startOp {mm : Parts} {id : Nat} {s : State} (p_host : mm.host = true) (p_per : mm.per = true) (p_tier : mm.tier = true) (p_cs : mm.cs = true) (p_nand : mm.nand = true) (p_cp : mm.cp = true) (p_rec_ : mm.rec_ = true) (p_snap : mm.snap = true) (p_dict : mm.dict = true) (p_freeCtr : mm.freeCtr = true) (p_quotas : mm.quotas = true) (p_dir : mm.dir = true) : outside mm (startOp id s) = outside mm s := by
  unfold startOp; (repeat' split) <;> simp [*]
@[simp] theorem outside_addOp {mm : Parts} {o : Op} {s : State} (p_host : mm.host = true) : outside mm (addOp o s) = outside mm s := by
  simp [addOp, *]
@[simp] theorem outside_admitRequest {mm : Parts} {d : Datagram} {k : OpKind} {r : Request} {g : Option Region} {s : State} (p_host : mm.host = true) (p_per : mm.per = true) (p_tier : mm.tier = true) (p_cs : mm.cs = true) (p_nand : mm.nand = true) (p_cp : mm.cp = true) (p_rec_ : mm.rec_ = true) (p_snap : mm.snap = true) (p_dict : mm.dict = true) (p_freeCtr : mm.freeCtr = true) (p_slots : mm.slots = true) (p_replay : mm.replay = true) (p_quotas : mm.quotas = true) (p_dir : mm.dir = true) : outside mm (admitRequest d k r g s) = outside mm s := by
  unfold admitRequest; (repeat' split) <;> (try simp [p_host, p_per, p_tier, p_cs, p_nand, p_cp, p_rec_, p_snap, p_dict, p_freeCtr, p_slots, p_replay, p_quotas, p_dir]) <;> simp (disch := (intros; first | (simp [p_host, p_per, p_tier, p_cs, p_nand, p_cp, p_rec_, p_snap, p_dict, p_freeCtr, p_slots, p_replay, p_quotas, p_dir]; done) | ((repeat' split) <;> try simp [p_host, p_per, p_tier, p_cs, p_nand, p_cp, p_rec_, p_snap, p_dict, p_freeCtr, p_slots, p_replay, p_quotas, p_dir]))) [*]
@[simp] theorem outside_injectedFrame {mm : Parts} {port : Nat} {s : State} (p_pres : mm.pres = true) (p_rmq : mm.rmq = true) (p_dict : mm.dict = true) : outside mm (injectedFrame port s).2.2 = outside mm s := by
  unfold injectedFrame; (repeat' split) <;> (try have h_fireRecorded := outside_fireRecorded (mm := mm) (by assumption) p_pres p_rmq p_dict) <;> simp_all
@[simp] theorem outside_injectedReplay {mm : Parts} {k : OpKind} {r : Request} {s : State} (p_pres : mm.pres = true) (p_rmq : mm.rmq = true) (p_dict : mm.dict = true) : outside mm (injectedReplay k r s) = outside mm s := by
  unfold injectedReplay
  split
  · split
    · rfl
    · cases hf : fireRecorded 0x0a01 0 [1] s with
      | none => rfl
      | some p => exact (outside_fireRecorded hf p_pres p_rmq p_dict)
  · rfl
@[simp] theorem outside_stipple {mm : Parts} {op : Nat} {d : Datagram} {s0 : State} (p_host : mm.host = true) (p_per : mm.per = true) (p_tier : mm.tier = true) (p_cs : mm.cs = true) (p_nand : mm.nand = true) (p_cp : mm.cp = true) (p_rec_ : mm.rec_ = true) (p_snap : mm.snap = true) (p_pres : mm.pres = true) (p_rmq : mm.rmq = true) (p_dict : mm.dict = true) (p_freeCtr : mm.freeCtr = true) (p_outbox : mm.outbox = true) (p_slots : mm.slots = true) (p_replay : mm.replay = true) (p_quotas : mm.quotas = true) (p_dir : mm.dir = true) : outside mm (stipple op d s0) = outside mm s0 := by
  unfold stipple; dsimp only; (repeat' split) <;> (try simp_all) <;> (repeat' split) <;> (try simp_all) <;> simp (disch := (intros; first | (simp_all; done) | ((repeat' split) <;> try simp_all))) [*]
@[simp] theorem outside_doStippleRead {mm : Parts} {d : Datagram} {s : State} (p_host : mm.host = true) (p_per : mm.per = true) (p_tier : mm.tier = true) (p_cs : mm.cs = true) (p_nand : mm.nand = true) (p_cp : mm.cp = true) (p_rec_ : mm.rec_ = true) (p_snap : mm.snap = true) (p_pres : mm.pres = true) (p_rmq : mm.rmq = true) (p_dict : mm.dict = true) (p_freeCtr : mm.freeCtr = true) (p_outbox : mm.outbox = true) (p_slots : mm.slots = true) (p_replay : mm.replay = true) (p_quotas : mm.quotas = true) (p_dir : mm.dir = true) : outside mm (doStippleRead d s) = outside mm s := by
  simp [doStippleRead, *]
@[simp] theorem outside_doStippleWrite {mm : Parts} {d : Datagram} {s : State} (p_host : mm.host = true) (p_per : mm.per = true) (p_tier : mm.tier = true) (p_cs : mm.cs = true) (p_nand : mm.nand = true) (p_cp : mm.cp = true) (p_rec_ : mm.rec_ = true) (p_snap : mm.snap = true) (p_pres : mm.pres = true) (p_rmq : mm.rmq = true) (p_dict : mm.dict = true) (p_freeCtr : mm.freeCtr = true) (p_outbox : mm.outbox = true) (p_slots : mm.slots = true) (p_replay : mm.replay = true) (p_quotas : mm.quotas = true) (p_dir : mm.dir = true) : outside mm (doStippleWrite d s) = outside mm s := by
  simp [doStippleWrite, *]
@[simp] theorem outside_doStippleAdd {mm : Parts} {d : Datagram} {s : State} (p_host : mm.host = true) (p_per : mm.per = true) (p_tier : mm.tier = true) (p_cs : mm.cs = true) (p_nand : mm.nand = true) (p_cp : mm.cp = true) (p_rec_ : mm.rec_ = true) (p_snap : mm.snap = true) (p_pres : mm.pres = true) (p_rmq : mm.rmq = true) (p_dict : mm.dict = true) (p_freeCtr : mm.freeCtr = true) (p_outbox : mm.outbox = true) (p_slots : mm.slots = true) (p_replay : mm.replay = true) (p_quotas : mm.quotas = true) (p_dir : mm.dir = true) : outside mm (doStippleAdd d s) = outside mm s := by
  simp [doStippleAdd, *]
@[simp] theorem outside_doStippleCas {mm : Parts} {d : Datagram} {s : State} (p_host : mm.host = true) (p_per : mm.per = true) (p_tier : mm.tier = true) (p_cs : mm.cs = true) (p_nand : mm.nand = true) (p_cp : mm.cp = true) (p_rec_ : mm.rec_ = true) (p_snap : mm.snap = true) (p_pres : mm.pres = true) (p_rmq : mm.rmq = true) (p_dict : mm.dict = true) (p_freeCtr : mm.freeCtr = true) (p_outbox : mm.outbox = true) (p_slots : mm.slots = true) (p_replay : mm.replay = true) (p_quotas : mm.quotas = true) (p_dir : mm.dir = true) : outside mm (doStippleCas d s) = outside mm s := by
  simp [doStippleCas, *]
@[simp] theorem outside_doStippleFence {mm : Parts} {d : Datagram} {s : State} (p_host : mm.host = true) (p_per : mm.per = true) (p_tier : mm.tier = true) (p_cs : mm.cs = true) (p_nand : mm.nand = true) (p_cp : mm.cp = true) (p_rec_ : mm.rec_ = true) (p_snap : mm.snap = true) (p_pres : mm.pres = true) (p_rmq : mm.rmq = true) (p_dict : mm.dict = true) (p_freeCtr : mm.freeCtr = true) (p_outbox : mm.outbox = true) (p_slots : mm.slots = true) (p_replay : mm.replay = true) (p_quotas : mm.quotas = true) (p_dir : mm.dir = true) : outside mm (doStippleFence d s) = outside mm s := by
  simp [doStippleFence, *]
@[simp] theorem outside_doStipplePlace {mm : Parts} {d : Datagram} {s : State} (p_host : mm.host = true) (p_per : mm.per = true) (p_tier : mm.tier = true) (p_cs : mm.cs = true) (p_nand : mm.nand = true) (p_cp : mm.cp = true) (p_rec_ : mm.rec_ = true) (p_snap : mm.snap = true) (p_pres : mm.pres = true) (p_rmq : mm.rmq = true) (p_dict : mm.dict = true) (p_freeCtr : mm.freeCtr = true) (p_outbox : mm.outbox = true) (p_slots : mm.slots = true) (p_replay : mm.replay = true) (p_quotas : mm.quotas = true) (p_dir : mm.dir = true) : outside mm (doStipplePlace d s) = outside mm s := by
  simp [doStipplePlace, *]
@[simp] theorem outside_doStippleDiscard {mm : Parts} {d : Datagram} {s : State} (p_host : mm.host = true) (p_per : mm.per = true) (p_tier : mm.tier = true) (p_cs : mm.cs = true) (p_nand : mm.nand = true) (p_cp : mm.cp = true) (p_rec_ : mm.rec_ = true) (p_snap : mm.snap = true) (p_pres : mm.pres = true) (p_rmq : mm.rmq = true) (p_dict : mm.dict = true) (p_freeCtr : mm.freeCtr = true) (p_outbox : mm.outbox = true) (p_slots : mm.slots = true) (p_replay : mm.replay = true) (p_quotas : mm.quotas = true) (p_dir : mm.dir = true) : outside mm (doStippleDiscard d s) = outside mm s := by
  simp [doStippleDiscard, *]
@[simp] theorem outside_doReadBatch {mm : Parts} {d : Datagram} {s : State} (p_host : mm.host = true) (p_per : mm.per = true) (p_tier : mm.tier = true) (p_cs : mm.cs = true) (p_nand : mm.nand = true) (p_cp : mm.cp = true) (p_rec_ : mm.rec_ = true) (p_snap : mm.snap = true) (p_pres : mm.pres = true) (p_rmq : mm.rmq = true) (p_dict : mm.dict = true) (p_freeCtr : mm.freeCtr = true) (p_outbox : mm.outbox = true) (p_slots : mm.slots = true) (p_replay : mm.replay = true) (p_quotas : mm.quotas = true) (p_dir : mm.dir = true) : outside mm (doReadBatch d s) = outside mm s := by
  simp [doReadBatch, *]
@[simp] theorem outside_endEntry {mm : Parts} {s0 : State} {o : Op} {v : RespVal} {s : State} (p_host : mm.host = true) (p_snap : mm.snap = true) (p_dict : mm.dict = true) (p_freeCtr : mm.freeCtr = true) (p_outbox : mm.outbox = true) (p_replay : mm.replay = true) : outside mm (endEntry s0 o v s) = outside mm s := by
  simp [endEntry, *]
@[simp] theorem outside_endPlace {mm : Parts} {o : Op} {v : RespVal} {s : State} (p_tier : mm.tier = true) (p_cp : mm.cp = true) (p_dict : mm.dict = true) : outside mm (endPlace o v s) = outside mm s := by
  simp [endPlace, *]
@[simp] theorem outside_endOp {mm : Parts} {o : Op} {v : RespVal} {s : State} (p_host : mm.host = true) (p_tier : mm.tier = true) (p_cp : mm.cp = true) (p_snap : mm.snap = true) (p_dict : mm.dict = true) (p_freeCtr : mm.freeCtr = true) (p_outbox : mm.outbox = true) (p_slots : mm.slots = true) (p_replay : mm.replay = true) : outside mm (endOp o v s) = outside mm s := by
  unfold endOp; (repeat' split) <;> simp [*]
@[simp] theorem outside_startWrite {mm : Parts} {s : State} (p_host : mm.host = true) (p_per : mm.per = true) (p_tier : mm.tier = true) (p_cs : mm.cs = true) (p_nand : mm.nand = true) (p_cp : mm.cp = true) (p_rec_ : mm.rec_ = true) (p_snap : mm.snap = true) (p_dict : mm.dict = true) (p_freeCtr : mm.freeCtr = true) (p_quotas : mm.quotas = true) (p_dir : mm.dir = true) : outside mm (startWrite s) = outside mm s := by
  unfold startWrite; (repeat' split) <;> simp [*]
@[simp] theorem outside_endInternal {mm : Parts} {o : Op} {s : State} (p_host : mm.host = true) (p_per : mm.per = true) (p_tier : mm.tier = true) (p_cs : mm.cs = true) (p_nand : mm.nand = true) (p_cp : mm.cp = true) (p_rec_ : mm.rec_ = true) (p_snap : mm.snap = true) (p_dict : mm.dict = true) (p_freeCtr : mm.freeCtr = true) (p_quotas : mm.quotas = true) (p_dir : mm.dir = true) : outside mm (endInternal o s) = outside mm s := by
  simp [endInternal, *]
@[simp] theorem outside_doFenceTimeout {mm : Parts} {op : Nat} {s : State} (p_host : mm.host = true) (p_tier : mm.tier = true) (p_cp : mm.cp = true) (p_snap : mm.snap = true) (p_dict : mm.dict = true) (p_freeCtr : mm.freeCtr = true) (p_outbox : mm.outbox = true) (p_slots : mm.slots = true) (p_replay : mm.replay = true) : outside mm (doFenceTimeout op s) = outside mm s := by
  unfold doFenceTimeout; (repeat' split) <;> simp [*]
@[simp] theorem outside_doReplayEntryExpire {mm : Parts} {host seq : Nat} {mirror : Bool} {s : State} (p_host : mm.host = true) (p_slots : mm.slots = true) (p_replay : mm.replay = true) : outside mm (doReplayEntryExpire host seq mirror s) = outside mm s := by
  unfold doReplayEntryExpire; (repeat' split) <;> (try simp [p_host, p_slots, p_replay]) <;> (repeat' split) <;> (try simp_all) <;> simp (disch := (intros; first | (simp [p_host, p_slots, p_replay]; done) | ((repeat' split) <;> try simp [p_host, p_slots, p_replay]))) [*]

end Sys2Proof.Machine
end

