-- ==== Sys2Proof/Laws/KeepRc.lean ====
section
/-! SUPPORT. What each operation of Machine/Rc.lean leaves unchanged: everything outside the parts its hypotheses name (Outside.lean). -/
namespace Sys2Proof.Machine
open Sys2Proof
set_option linter.unusedSimpArgs false

@[simp] theorem outside_modQp {mm : Parts} {qpn : Nat} {f : Qp → Qp} {s : State} (p_rc : mm.rc = true) : outside mm (modQp qpn f s) = outside mm s := by
  simp [modQp, *]
@[simp] theorem outside_freeQp {mm : Parts} {qpn : Nat} {s : State} (p_rc : mm.rc = true) (p_cp : mm.cp = true) (p_dict : mm.dict = true) : outside mm (freeQp qpn s) = outside mm s := by
  simp [freeQp, *]
@[simp] theorem outside_sendDreq {mm : Parts} {qpn : Nat} {st : QpSt} {s : State} (p_rc : mm.rc = true) (p_dict : mm.dict = true) (p_freeCtr : mm.freeCtr = true) (p_outbox : mm.outbox = true) : outside mm (sendDreq qpn st s) = outside mm s := by
  unfold sendDreq; (repeat' split) <;> simp [*]
@[simp] theorem outside_settleQp {mm : Parts} {qpn : Nat} {s : State} (p_rc : mm.rc = true) (p_cp : mm.cp = true) (p_dict : mm.dict = true) (p_freeCtr : mm.freeCtr = true) (p_outbox : mm.outbox = true) : outside mm (settleQp qpn s) = outside mm s := by
  unfold settleQp; (repeat' split) <;> simp [*]
@[simp] theorem outside_rcNak {mm : Parts} {qpn psn : Nat} {v : RespVal} {s : State} (p_rc : mm.rc = true) (p_snap : mm.snap = true) (p_dict : mm.dict = true) (p_freeCtr : mm.freeCtr = true) (p_outbox : mm.outbox = true) : outside mm (rcNak qpn psn v s) = outside mm s := by
  unfold rcNak; (repeat' split) <;> simp [*]
@[simp] theorem outside_qpAck {mm : Parts} {force : Bool} {qpn : Nat} {s : State} (p_rc : mm.rc = true) (p_snap : mm.snap = true) (p_dict : mm.dict = true) (p_freeCtr : mm.freeCtr = true) (p_outbox : mm.outbox = true) : outside mm (qpAck force qpn s) = outside mm s := by
  unfold qpAck; (repeat' split) <;> (try simp [p_rc, p_snap, p_dict, p_freeCtr, p_outbox]) <;> (repeat' split) <;> (try simp_all) <;> simp (disch := (intros; first | (simp [p_rc, p_snap, p_dict, p_freeCtr, p_outbox]; done) | ((repeat' split) <;> try simp [p_rc, p_snap, p_dict, p_freeCtr, p_outbox]))) [*]
@[simp] theorem outside_rcLaunch {mm : Parts} {id qpn : Nat} {s : State} (p_host : mm.host = true) (p_per : mm.per = true) (p_tier : mm.tier = true) (p_cs : mm.cs = true) (p_nand : mm.nand = true) (p_cp : mm.cp = true) (p_rec_ : mm.rec_ = true) (p_snap : mm.snap = true) (p_dict : mm.dict = true) (p_freeCtr : mm.freeCtr = true) (p_quotas : mm.quotas = true) (p_dir : mm.dir = true) : outside mm (rcLaunch id qpn s) = outside mm s := by
  unfold rcLaunch; (repeat' split) <;> simp [*]
@[simp] theorem outside_rcAdmit {mm : Parts} {q : Qp} {qpn : Nat} {p : RcPacket} {r : Option Region} {s : State} (p_host : mm.host = true) (p_rc : mm.rc = true) (p_per : mm.per = true) (p_tier : mm.tier = true) (p_cs : mm.cs = true) (p_nand : mm.nand = true) (p_cp : mm.cp = true) (p_rec_ : mm.rec_ = true) (p_snap : mm.snap = true) (p_dict : mm.dict = true) (p_freeCtr : mm.freeCtr = true) (p_quotas : mm.quotas = true) (p_dir : mm.dir = true) : outside mm (rcAdmit q qpn p r s) = outside mm s := by
  unfold rcAdmit; (repeat' split) <;> simp [*]
@[simp] theorem outside_rcPark {mm : Parts} {q : Qp} {p : RcPacket} {s : State} (p_rc : mm.rc = true) (p_ports : mm.ports = true) : outside mm (rcPark q p s) = outside mm s := by
  simp [rcPark, *]
@[simp] theorem outside_rcExecute {mm : Parts} {q : Qp} {qpn : Nat} {p : RcPacket} {s : State} (p_host : mm.host = true) (p_rc : mm.rc = true) (p_per : mm.per = true) (p_tier : mm.tier = true) (p_cs : mm.cs = true) (p_nand : mm.nand = true) (p_cp : mm.cp = true) (p_rec_ : mm.rec_ = true) (p_snap : mm.snap = true) (p_ports : mm.ports = true) (p_dict : mm.dict = true) (p_freeCtr : mm.freeCtr = true) (p_outbox : mm.outbox = true) (p_quotas : mm.quotas = true) (p_dir : mm.dir = true) : outside mm (rcExecute q qpn p s) = outside mm s := by
  unfold rcExecute; (repeat' split) <;> (try simp [p_host, p_rc, p_per, p_tier, p_cs, p_nand, p_cp, p_rec_, p_snap, p_ports, p_dict, p_freeCtr, p_outbox, p_quotas, p_dir]) <;> (repeat' split) <;> (try simp_all) <;> simp (disch := (intros; first | (simp [p_host, p_rc, p_per, p_tier, p_cs, p_nand, p_cp, p_rec_, p_snap, p_ports, p_dict, p_freeCtr, p_outbox, p_quotas, p_dir]; done) | ((repeat' split) <;> try simp [p_host, p_rc, p_per, p_tier, p_cs, p_nand, p_cp, p_rec_, p_snap, p_ports, p_dict, p_freeCtr, p_outbox, p_quotas, p_dir]))) [*]
@[simp] theorem outside_goBackN {mm : Parts} {q : Qp} {qpn : Nat} {p : RcPacket} {s : State} (p_host : mm.host = true) (p_rc : mm.rc = true) (p_per : mm.per = true) (p_tier : mm.tier = true) (p_cs : mm.cs = true) (p_nand : mm.nand = true) (p_cp : mm.cp = true) (p_rec_ : mm.rec_ = true) (p_snap : mm.snap = true) (p_ports : mm.ports = true) (p_dict : mm.dict = true) (p_freeCtr : mm.freeCtr = true) (p_outbox : mm.outbox = true) (p_quotas : mm.quotas = true) (p_dir : mm.dir = true) : outside mm (goBackN q qpn p s) = outside mm s := by
  unfold goBackN; (repeat' split) <;> simp [*]
@[simp] theorem outside_sprayRx {mm : Parts} {q : Qp} {qpn : Nat} {p : RcPacket} {s : State} (p_host : mm.host = true) (p_rc : mm.rc = true) (p_per : mm.per = true) (p_tier : mm.tier = true) (p_cs : mm.cs = true) (p_nand : mm.nand = true) (p_cp : mm.cp = true) (p_rec_ : mm.rec_ = true) (p_snap : mm.snap = true) (p_ports : mm.ports = true) (p_dict : mm.dict = true) (p_freeCtr : mm.freeCtr = true) (p_outbox : mm.outbox = true) (p_quotas : mm.quotas = true) (p_dir : mm.dir = true) : outside mm (sprayRx q qpn p s) = outside mm s := by
  simp [sprayRx, *]
@[simp] theorem outside_rcServe {mm : Parts} {qpn : Nat} {p : RcPacket} {s : State} (p_host : mm.host = true) (p_rc : mm.rc = true) (p_per : mm.per = true) (p_tier : mm.tier = true) (p_cs : mm.cs = true) (p_nand : mm.nand = true) (p_cp : mm.cp = true) (p_rec_ : mm.rec_ = true) (p_snap : mm.snap = true) (p_ports : mm.ports = true) (p_dict : mm.dict = true) (p_freeCtr : mm.freeCtr = true) (p_outbox : mm.outbox = true) (p_quotas : mm.quotas = true) (p_dir : mm.dir = true) : outside mm (rcServe qpn p s) = outside mm s := by
  unfold rcServe; (repeat' split) <;> simp [*]
@[simp] theorem outside_rcArrive {mm : Parts} {mine : RcPacket → Bool} {p : RcPacket} {s0 : State} (p_host : mm.host = true) (p_rc : mm.rc = true) (p_per : mm.per = true) (p_tier : mm.tier = true) (p_cs : mm.cs = true) (p_nand : mm.nand = true) (p_cp : mm.cp = true) (p_rec_ : mm.rec_ = true) (p_snap : mm.snap = true) (p_ports : mm.ports = true) (p_dict : mm.dict = true) (p_freeCtr : mm.freeCtr = true) (p_outbox : mm.outbox = true) (p_quotas : mm.quotas = true) (p_dir : mm.dir = true) : outside mm (rcArrive mine p s0) = outside mm s0 := by
  simp [rcArrive, *]
@[simp] theorem outside_doRdmaWrite {mm : Parts} {p : RcPacket} {s : State} (p_host : mm.host = true) (p_rc : mm.rc = true) (p_per : mm.per = true) (p_tier : mm.tier = true) (p_cs : mm.cs = true) (p_nand : mm.nand = true) (p_cp : mm.cp = true) (p_rec_ : mm.rec_ = true) (p_snap : mm.snap = true) (p_ports : mm.ports = true) (p_dict : mm.dict = true) (p_freeCtr : mm.freeCtr = true) (p_outbox : mm.outbox = true) (p_quotas : mm.quotas = true) (p_dir : mm.dir = true) : outside mm (doRdmaWrite p s) = outside mm s := by
  simp [doRdmaWrite, *]
@[simp] theorem outside_doRdmaReadRequest {mm : Parts} {p : RcPacket} {s : State} (p_host : mm.host = true) (p_rc : mm.rc = true) (p_per : mm.per = true) (p_tier : mm.tier = true) (p_cs : mm.cs = true) (p_nand : mm.nand = true) (p_cp : mm.cp = true) (p_rec_ : mm.rec_ = true) (p_snap : mm.snap = true) (p_ports : mm.ports = true) (p_dict : mm.dict = true) (p_freeCtr : mm.freeCtr = true) (p_outbox : mm.outbox = true) (p_quotas : mm.quotas = true) (p_dir : mm.dir = true) : outside mm (doRdmaReadRequest p s) = outside mm s := by
  simp [doRdmaReadRequest, *]
@[simp] theorem outside_doCompareSwap {mm : Parts} {p : RcPacket} {s : State} (p_host : mm.host = true) (p_rc : mm.rc = true) (p_per : mm.per = true) (p_tier : mm.tier = true) (p_cs : mm.cs = true) (p_nand : mm.nand = true) (p_cp : mm.cp = true) (p_rec_ : mm.rec_ = true) (p_snap : mm.snap = true) (p_ports : mm.ports = true) (p_dict : mm.dict = true) (p_freeCtr : mm.freeCtr = true) (p_outbox : mm.outbox = true) (p_quotas : mm.quotas = true) (p_dir : mm.dir = true) : outside mm (doCompareSwap p s) = outside mm s := by
  simp [doCompareSwap, *]
@[simp] theorem outside_doFetchAdd {mm : Parts} {p : RcPacket} {s : State} (p_host : mm.host = true) (p_rc : mm.rc = true) (p_per : mm.per = true) (p_tier : mm.tier = true) (p_cs : mm.cs = true) (p_nand : mm.nand = true) (p_cp : mm.cp = true) (p_rec_ : mm.rec_ = true) (p_snap : mm.snap = true) (p_ports : mm.ports = true) (p_dict : mm.dict = true) (p_freeCtr : mm.freeCtr = true) (p_outbox : mm.outbox = true) (p_quotas : mm.quotas = true) (p_dir : mm.dir = true) : outside mm (doFetchAdd p s) = outside mm s := by
  simp [doFetchAdd, *]
@[simp] theorem outside_doSprayWrite {mm : Parts} {p : RcPacket} {s : State} (p_host : mm.host = true) (p_rc : mm.rc = true) (p_per : mm.per = true) (p_tier : mm.tier = true) (p_cs : mm.cs = true) (p_nand : mm.nand = true) (p_cp : mm.cp = true) (p_rec_ : mm.rec_ = true) (p_snap : mm.snap = true) (p_ports : mm.ports = true) (p_dict : mm.dict = true) (p_freeCtr : mm.freeCtr = true) (p_outbox : mm.outbox = true) (p_quotas : mm.quotas = true) (p_dir : mm.dir = true) : outside mm (doSprayWrite p s) = outside mm s := by
  simp [doSprayWrite, *]
@[simp] theorem outside_doKeepalive {mm : Parts} {p : RcPacket} {s : State} (p_host : mm.host = true) (p_rc : mm.rc = true) (p_per : mm.per = true) (p_tier : mm.tier = true) (p_cs : mm.cs = true) (p_nand : mm.nand = true) (p_cp : mm.cp = true) (p_rec_ : mm.rec_ = true) (p_snap : mm.snap = true) (p_ports : mm.ports = true) (p_dict : mm.dict = true) (p_freeCtr : mm.freeCtr = true) (p_outbox : mm.outbox = true) (p_quotas : mm.quotas = true) (p_dir : mm.dir = true) : outside mm (doKeepalive p s) = outside mm s := by
  simp [doKeepalive, *]
@[simp] theorem outside_doRelease {mm : Parts} {p : RcPacket} {s : State} (p_host : mm.host = true) (p_rc : mm.rc = true) (p_per : mm.per = true) (p_tier : mm.tier = true) (p_cs : mm.cs = true) (p_nand : mm.nand = true) (p_cp : mm.cp = true) (p_rec_ : mm.rec_ = true) (p_snap : mm.snap = true) (p_ports : mm.ports = true) (p_dict : mm.dict = true) (p_freeCtr : mm.freeCtr = true) (p_outbox : mm.outbox = true) (p_quotas : mm.quotas = true) (p_dir : mm.dir = true) : outside mm (doRelease p s) = outside mm s := by
  simp [doRelease, *]
@[simp] theorem outside_doContextFetchDone {mm : Parts} {qpn : Nat} {s : State} (p_host : mm.host = true) (p_rc : mm.rc = true) (p_per : mm.per = true) (p_tier : mm.tier = true) (p_cs : mm.cs = true) (p_nand : mm.nand = true) (p_cp : mm.cp = true) (p_rec_ : mm.rec_ = true) (p_snap : mm.snap = true) (p_ports : mm.ports = true) (p_dict : mm.dict = true) (p_freeCtr : mm.freeCtr = true) (p_outbox : mm.outbox = true) (p_quotas : mm.quotas = true) (p_dir : mm.dir = true) : outside mm (doContextFetchDone qpn s) = outside mm s := by
  simp [doContextFetchDone, *]
@[simp] theorem outside_qpFrame {mm : Parts} {qpn : Nat} {s : State} (p_dict : mm.dict = true) (p_freeCtr : mm.freeCtr = true) : outside mm (qpFrame qpn s) = outside mm s := by
  unfold qpFrame; (repeat' split) <;> simp [*]
@[simp] theorem outside_doCnpReceive {mm : Parts} {qpn : Nat} {s0 : State} (p_rc : mm.rc = true) (p_dict : mm.dict = true) (p_freeCtr : mm.freeCtr = true) : outside mm (doCnpReceive qpn s0) = outside mm s0 := by
  unfold doCnpReceive; (repeat' split) <;> (try simp [p_rc, p_dict, p_freeCtr]) <;> (repeat' split) <;> (try simp_all) <;> simp (disch := (intros; first | (simp [p_rc, p_dict, p_freeCtr]; done) | ((repeat' split) <;> try simp [p_rc, p_dict, p_freeCtr]))) [*]
@[simp] theorem outside_doRateAlphaTick {mm : Parts} {qpn : Nat} {s : State} (p_rc : mm.rc = true) : outside mm (doRateAlphaTick qpn s) = outside mm s := by
  simp [doRateAlphaTick, *]
@[simp] theorem outside_doRateIncreaseTick {mm : Parts} {qpn : Nat} {s : State} (p_rc : mm.rc = true) : outside mm (doRateIncreaseTick qpn s) = outside mm s := by
  simp [doRateIncreaseTick, *]
@[simp] theorem outside_doReadResponseSend {mm : Parts} {qpn : Nat} {s : State} (p_rc : mm.rc = true) (p_cp : mm.cp = true) (p_snap : mm.snap = true) (p_dict : mm.dict = true) (p_freeCtr : mm.freeCtr = true) (p_outbox : mm.outbox = true) : outside mm (doReadResponseSend qpn s) = outside mm s := by
  unfold doReadResponseSend; (repeat' split) <;> simp [*]
@[simp] theorem outside_doAckTimer {mm : Parts} {qpn : Nat} {s : State} (p_rc : mm.rc = true) (p_cp : mm.cp = true) (p_snap : mm.snap = true) (p_dict : mm.dict = true) (p_freeCtr : mm.freeCtr = true) (p_outbox : mm.outbox = true) : outside mm (doAckTimer qpn s) = outside mm s := by
  simp [doAckTimer, *]
@[simp] theorem outside_doSprayAckTimer {mm : Parts} {qpn : Nat} {s : State} (p_rc : mm.rc = true) (p_cp : mm.cp = true) (p_snap : mm.snap = true) (p_dict : mm.dict = true) (p_freeCtr : mm.freeCtr = true) (p_outbox : mm.outbox = true) : outside mm (doSprayAckTimer qpn s) = outside mm s := by
  unfold doSprayAckTimer; (repeat' split) <;> simp [*]
@[simp] theorem outside_unpark {mm : Parts} {port : Nat} {s : State} (p_host : mm.host = true) (p_rc : mm.rc = true) (p_per : mm.per = true) (p_tier : mm.tier = true) (p_cs : mm.cs = true) (p_nand : mm.nand = true) (p_cp : mm.cp = true) (p_rec_ : mm.rec_ = true) (p_snap : mm.snap = true) (p_ports : mm.ports = true) (p_dict : mm.dict = true) (p_freeCtr : mm.freeCtr = true) (p_outbox : mm.outbox = true) (p_quotas : mm.quotas = true) (p_dir : mm.dir = true) : outside mm (unpark port s) = outside mm s := by
  unfold unpark; (repeat' split) <;> (try simp [p_host, p_rc, p_per, p_tier, p_cs, p_nand, p_cp, p_rec_, p_snap, p_ports, p_dict, p_freeCtr, p_outbox, p_quotas, p_dir]) <;> (repeat' split) <;> (try simp_all) <;> simp (disch := (intros; first | (simp [p_host, p_rc, p_per, p_tier, p_cs, p_nand, p_cp, p_rec_, p_snap, p_ports, p_dict, p_freeCtr, p_outbox, p_quotas, p_dir]; done) | ((repeat' split) <;> try simp [p_host, p_rc, p_per, p_tier, p_cs, p_nand, p_cp, p_rec_, p_snap, p_ports, p_dict, p_freeCtr, p_outbox, p_quotas, p_dir]))) [*]
@[simp] theorem outside_launchHeld {mm : Parts} {qpn : Nat} {s : State} (p_host : mm.host = true) (p_per : mm.per = true) (p_tier : mm.tier = true) (p_cs : mm.cs = true) (p_nand : mm.nand = true) (p_cp : mm.cp = true) (p_rec_ : mm.rec_ = true) (p_snap : mm.snap = true) (p_dict : mm.dict = true) (p_freeCtr : mm.freeCtr = true) (p_quotas : mm.quotas = true) (p_dir : mm.dir = true) : outside mm (launchHeld qpn s) = outside mm s := by
  unfold launchHeld; (repeat' split) <;> simp [*]
@[simp] theorem outside_endRc {mm : Parts} {o : Op} {v : RespVal} {s : State} (p_host : mm.host = true) (p_rc : mm.rc = true) (p_per : mm.per = true) (p_tier : mm.tier = true) (p_cs : mm.cs = true) (p_nand : mm.nand = true) (p_cp : mm.cp = true) (p_rec_ : mm.rec_ = true) (p_snap : mm.snap = true) (p_ports : mm.ports = true) (p_dict : mm.dict = true) (p_freeCtr : mm.freeCtr = true) (p_outbox : mm.outbox = true) (p_quotas : mm.quotas = true) (p_dir : mm.dir = true) : outside mm (endRc o v s) = outside mm s := by
  unfold endRc; (repeat' split) <;> (try simp [p_host, p_rc, p_per, p_tier, p_cs, p_nand, p_cp, p_rec_, p_snap, p_ports, p_dict, p_freeCtr, p_outbox, p_quotas, p_dir]) <;> (repeat' split) <;> (try simp_all) <;> simp (disch := (intros; first | (simp [p_host, p_rc, p_per, p_tier, p_cs, p_nand, p_cp, p_rec_, p_snap, p_ports, p_dict, p_freeCtr, p_outbox, p_quotas, p_dir]; done) | ((repeat' split) <;> try simp [p_host, p_rc, p_per, p_tier, p_cs, p_nand, p_cp, p_rec_, p_snap, p_ports, p_dict, p_freeCtr, p_outbox, p_quotas, p_dir]))) [*]
@[simp] theorem outside_doCompletionRelease {mm : Parts} {op : Nat} {s : State} (p_host : mm.host = true) (p_rc : mm.rc = true) (p_per : mm.per = true) (p_tier : mm.tier = true) (p_cs : mm.cs = true) (p_nand : mm.nand = true) (p_cp : mm.cp = true) (p_rec_ : mm.rec_ = true) (p_snap : mm.snap = true) (p_ports : mm.ports = true) (p_dict : mm.dict = true) (p_freeCtr : mm.freeCtr = true) (p_outbox : mm.outbox = true) (p_slots : mm.slots = true) (p_replay : mm.replay = true) (p_quotas : mm.quotas = true) (p_dir : mm.dir = true) : outside mm (doCompletionRelease op s) = outside mm s := by
  unfold doCompletionRelease; (repeat' split) <;> simp [*]
@[simp] theorem outside_sendRep {mm : Parts} {qpn : Nat} {s : State} (p_dict : mm.dict = true) (p_freeCtr : mm.freeCtr = true) (p_outbox : mm.outbox = true) : outside mm (sendRep qpn s) = outside mm s := by
  unfold sendRep; (repeat' split) <;> simp [*]
@[simp] theorem outside_doCmReq {mm : Parts} {m : CmReq} {s0 : State} (p_rc : mm.rc = true) (p_cp : mm.cp = true) (p_dict : mm.dict = true) (p_freeCtr : mm.freeCtr = true) (p_outbox : mm.outbox = true) : outside mm (doCmReq m s0) = outside mm s0 := by
  unfold doCmReq; (repeat' split) <;> (try simp [p_rc, p_cp, p_dict, p_freeCtr, p_outbox]) <;> (repeat' split) <;> (try simp_all) <;> simp (disch := (intros; first | (simp [p_rc, p_cp, p_dict, p_freeCtr, p_outbox]; done) | ((repeat' split) <;> try simp [p_rc, p_cp, p_dict, p_freeCtr, p_outbox]))) [*]
@[simp] theorem outside_doCmRtu {mm : Parts} {qpn : Nat} {s0 : State} (p_rc : mm.rc = true) (p_dict : mm.dict = true) (p_freeCtr : mm.freeCtr = true) : outside mm (doCmRtu qpn s0) = outside mm s0 := by
  unfold doCmRtu; (repeat' split) <;> (try simp [p_rc, p_dict, p_freeCtr]) <;> (repeat' split) <;> (try simp_all) <;> simp (disch := (intros; first | (simp [p_rc, p_dict, p_freeCtr]; done) | ((repeat' split) <;> try simp [p_rc, p_dict, p_freeCtr]))) [*]
@[simp] theorem outside_doCmDreq {mm : Parts} {qpn : Nat} {s0 : State} (p_rc : mm.rc = true) (p_cp : mm.cp = true) (p_snap : mm.snap = true) (p_dict : mm.dict = true) (p_freeCtr : mm.freeCtr = true) (p_outbox : mm.outbox = true) : outside mm (doCmDreq qpn s0) = outside mm s0 := by
  unfold doCmDreq; (repeat' split) <;> (try simp [p_rc, p_cp, p_snap, p_dict, p_freeCtr, p_outbox]) <;> (repeat' split) <;> (try simp_all) <;> simp (disch := (intros; first | (simp [p_rc, p_cp, p_snap, p_dict, p_freeCtr, p_outbox]; done) | ((repeat' split) <;> try simp [p_rc, p_cp, p_snap, p_dict, p_freeCtr, p_outbox]))) [*]
@[simp] theorem outside_doCmDrep {mm : Parts} {qpn : Nat} {s0 : State} (p_rc : mm.rc = true) (p_cp : mm.cp = true) (p_dict : mm.dict = true) (p_freeCtr : mm.freeCtr = true) : outside mm (doCmDrep qpn s0) = outside mm s0 := by
  unfold doCmDrep; (repeat' split) <;> (try simp [p_rc, p_cp, p_dict, p_freeCtr]) <;> (repeat' split) <;> (try simp_all) <;> simp (disch := (intros; first | (simp [p_rc, p_cp, p_dict, p_freeCtr]; done) | ((repeat' split) <;> try simp [p_rc, p_cp, p_dict, p_freeCtr]))) [*]
@[simp] theorem outside_doConnectTimeout {mm : Parts} {qpn : Nat} {s : State} (p_rc : mm.rc = true) (p_cp : mm.cp = true) (p_dict : mm.dict = true) : outside mm (doConnectTimeout qpn s) = outside mm s := by
  unfold doConnectTimeout; (repeat' split) <;> simp [*]
@[simp] theorem outside_doQpIdleTimeout {mm : Parts} {qpn : Nat} {s : State} (p_rc : mm.rc = true) (p_dict : mm.dict = true) (p_freeCtr : mm.freeCtr = true) (p_outbox : mm.outbox = true) : outside mm (doQpIdleTimeout qpn s) = outside mm s := by
  unfold doQpIdleTimeout; (repeat' split) <;> simp [*]
@[simp] theorem outside_doDrepTimeout {mm : Parts} {qpn : Nat} {s : State} (p_rc : mm.rc = true) (p_cp : mm.cp = true) (p_dict : mm.dict = true) : outside mm (doDrepTimeout qpn s) = outside mm s := by
  unfold doDrepTimeout; (repeat' split) <;> simp [*]

end Sys2Proof.Machine
end

