-- ==== Sys2Proof/Laws/KeepCommands.lean ====
section
/-! SUPPORT. What each operation of Machine/Commands.lean leaves unchanged: everything outside the parts its hypotheses name (Outside.lean). -/
namespace Sys2Proof.Machine
open Sys2Proof
set_option linter.unusedSimpArgs false

@[simp] theorem outside_homePages {mm : Parts} {tenant tier : Nat} {pages : List Nat} {s : State} (p_per : mm.per = true) (p_freeCtr : mm.freeCtr = true) (p_quotas : mm.quotas = true) (p_dir : mm.dir = true) : outside mm (homePages tenant tier pages s) = outside mm s := by
  unfold homePages; (repeat' split) <;> (try simp [p_per, p_freeCtr, p_quotas, p_dir]) <;> simp (disch := (intros; first | (simp [p_per, p_freeCtr, p_quotas, p_dir]; done) | ((repeat' split) <;> try simp [p_per, p_freeCtr, p_quotas, p_dir]))) [*]
@[simp] theorem outside_purgeLines {mm : Parts} {tpn : Nat} {s : State} (p_cs : mm.cs = true) : outside mm (purgeLines tpn s) = outside mm s := by
  simp [purgeLines, *]
@[simp] theorem outside_freePage {mm : Parts} {tpn : Nat} {s : State} (p_per : mm.per = true) (p_tier : mm.tier = true) (p_cs : mm.cs = true) (p_nand : mm.nand = true) (p_fix : mm.fix = true) (p_rec_ : mm.rec_ = true) (p_snap : mm.snap = true) (p_rmq : mm.rmq = true) (p_dict : mm.dict = true) (p_quotas : mm.quotas = true) (p_dir : mm.dir = true) (p_fmap : mm.fmap = true) (p_images : mm.images = true) (p_snaps : mm.snaps = true) : outside mm (freePage tpn s) = outside mm s := by
  simp [freePage, *]
@[simp] theorem outside_addRegion {mm : Parts} {slot : Nat} {r : Region} {s : State} (p_per : mm.per = true) (p_regions : mm.regions = true) : outside mm (addRegion slot r s) = outside mm s := by
  simp [addRegion, *]
@[simp] theorem outside_removeRegion {mm : Parts} {id : Nat} {s : State} (p_per : mm.per = true) (p_tier : mm.tier = true) (p_cs : mm.cs = true) (p_nand : mm.nand = true) (p_fix : mm.fix = true) (p_rec_ : mm.rec_ = true) (p_snap : mm.snap = true) (p_rmq : mm.rmq = true) (p_dict : mm.dict = true) (p_regions : mm.regions = true) (p_quotas : mm.quotas = true) (p_dir : mm.dir = true) (p_fmap : mm.fmap = true) (p_images : mm.images = true) (p_snaps : mm.snaps = true) : outside mm (removeRegion id s) = outside mm s := by
  unfold removeRegion; (repeat' split) <;> simp [*]
@[simp] theorem outside_resizeRegion {mm : Parts} {id pages tier : Nat} {s : State} (p_per : mm.per = true) (p_tier : mm.tier = true) (p_cs : mm.cs = true) (p_nand : mm.nand = true) (p_fix : mm.fix = true) (p_rec_ : mm.rec_ = true) (p_snap : mm.snap = true) (p_rmq : mm.rmq = true) (p_dict : mm.dict = true) (p_freeCtr : mm.freeCtr = true) (p_regions : mm.regions = true) (p_quotas : mm.quotas = true) (p_dir : mm.dir = true) (p_fmap : mm.fmap = true) (p_images : mm.images = true) (p_snaps : mm.snaps = true) : outside mm (resizeRegion id pages tier s) = outside mm s := by
  unfold resizeRegion; (repeat' split) <;> simp [*]
@[simp] theorem outside_dropHostQps {mm : Parts} {host : Nat} {s : State} (p_rc : mm.rc = true) (p_dict : mm.dict = true) (p_freeCtr : mm.freeCtr = true) (p_outbox : mm.outbox = true) : outside mm (dropHostQps host s) = outside mm s := by
  simp [dropHostQps, *]
@[simp] theorem outside_countTable {mm : Parts} {s : State} (p_per : mm.per = true) : outside mm (countTable s) = outside mm s := by
  simp [countTable, *]
@[simp] theorem outside_applyElem {mm : Parts} {e : TableElem} {s0 : State} (p_rc : mm.rc = true) (p_per : mm.per = true) (p_tier : mm.tier = true) (p_cs : mm.cs = true) (p_nand : mm.nand = true) (p_fix : mm.fix = true) (p_cp : mm.cp = true) (p_rec_ : mm.rec_ = true) (p_snap : mm.snap = true) (p_rmq : mm.rmq = true) (p_dict : mm.dict = true) (p_freeCtr : mm.freeCtr = true) (p_outbox : mm.outbox = true) (p_tenants : mm.tenants = true) (p_hosts : mm.hosts = true) (p_regions : mm.regions = true) (p_keyTable : mm.keyTable = true) (p_quotas : mm.quotas = true) (p_dir : mm.dir = true) (p_fmap : mm.fmap = true) (p_images : mm.images = true) (p_snaps : mm.snaps = true) (p_config : mm.config = true) : outside mm (applyElem e s0) = outside mm s0 := by
  unfold applyElem; (repeat' split) <;> (try simp [p_rc, p_per, p_tier, p_cs, p_nand, p_fix, p_cp, p_rec_, p_snap, p_rmq, p_dict, p_freeCtr, p_outbox, p_tenants, p_hosts, p_regions, p_keyTable, p_quotas, p_dir, p_fmap, p_images, p_snaps, p_config]) <;> (repeat' split) <;> (try simp_all) <;> simp (disch := (intros; first | (simp [p_rc, p_per, p_tier, p_cs, p_nand, p_fix, p_cp, p_rec_, p_snap, p_rmq, p_dict, p_freeCtr, p_outbox, p_tenants, p_hosts, p_regions, p_keyTable, p_quotas, p_dir, p_fmap, p_images, p_snaps, p_config]; done) | ((repeat' split) <;> try simp [p_rc, p_per, p_tier, p_cs, p_nand, p_fix, p_cp, p_rec_, p_snap, p_rmq, p_dict, p_freeCtr, p_outbox, p_tenants, p_hosts, p_regions, p_keyTable, p_quotas, p_dir, p_fmap, p_images, p_snaps, p_config]))) [*]
@[simp] theorem outside_finishCmd {mm : Parts} {status result : Nat} {s : State} (p_eng : mm.eng = true) (p_cp : mm.cp = true) (p_dict : mm.dict = true) : outside mm (finishCmd status result s) = outside mm s := by
  simp [finishCmd, *]
@[simp] theorem outside_changeElem {mm : Parts} {c : RunCmd} {e : TableElem} {s : State} (p_rc : mm.rc = true) (p_per : mm.per = true) (p_eng : mm.eng = true) (p_tier : mm.tier = true) (p_cs : mm.cs = true) (p_nand : mm.nand = true) (p_fix : mm.fix = true) (p_cp : mm.cp = true) (p_rec_ : mm.rec_ = true) (p_snap : mm.snap = true) (p_rmq : mm.rmq = true) (p_dict : mm.dict = true) (p_freeCtr : mm.freeCtr = true) (p_outbox : mm.outbox = true) (p_tenants : mm.tenants = true) (p_hosts : mm.hosts = true) (p_regions : mm.regions = true) (p_keyTable : mm.keyTable = true) (p_quotas : mm.quotas = true) (p_dir : mm.dir = true) (p_fmap : mm.fmap = true) (p_images : mm.images = true) (p_snaps : mm.snaps = true) (p_config : mm.config = true) : outside mm (changeElem c e s) = outside mm s := by
  simp [changeElem, *]
@[simp] theorem outside_runCreate {mm : Parts} {c : RunCmd} {s : State} (p_rc : mm.rc = true) (p_per : mm.per = true) (p_eng : mm.eng = true) (p_tier : mm.tier = true) (p_cs : mm.cs = true) (p_nand : mm.nand = true) (p_fix : mm.fix = true) (p_cp : mm.cp = true) (p_rec_ : mm.rec_ = true) (p_snap : mm.snap = true) (p_rmq : mm.rmq = true) (p_dict : mm.dict = true) (p_freeCtr : mm.freeCtr = true) (p_outbox : mm.outbox = true) (p_tenants : mm.tenants = true) (p_hosts : mm.hosts = true) (p_regions : mm.regions = true) (p_keyTable : mm.keyTable = true) (p_quotas : mm.quotas = true) (p_dir : mm.dir = true) (p_fmap : mm.fmap = true) (p_images : mm.images = true) (p_snaps : mm.snaps = true) (p_config : mm.config = true) : outside mm (runCreate c s) = outside mm s := by
  unfold runCreate; (repeat' split) <;> (try simp [p_rc, p_per, p_eng, p_tier, p_cs, p_nand, p_fix, p_cp, p_rec_, p_snap, p_rmq, p_dict, p_freeCtr, p_outbox, p_tenants, p_hosts, p_regions, p_keyTable, p_quotas, p_dir, p_fmap, p_images, p_snaps, p_config]) <;> (repeat' split) <;> (try simp_all) <;> simp (disch := (intros; first | (simp [p_rc, p_per, p_eng, p_tier, p_cs, p_nand, p_fix, p_cp, p_rec_, p_snap, p_rmq, p_dict, p_freeCtr, p_outbox, p_tenants, p_hosts, p_regions, p_keyTable, p_quotas, p_dir, p_fmap, p_images, p_snaps, p_config]; done) | ((repeat' split) <;> try simp [p_rc, p_per, p_eng, p_tier, p_cs, p_nand, p_fix, p_cp, p_rec_, p_snap, p_rmq, p_dict, p_freeCtr, p_outbox, p_tenants, p_hosts, p_regions, p_keyTable, p_quotas, p_dir, p_fmap, p_images, p_snaps, p_config]))) [*]
@[simp] theorem outside_runDelete {mm : Parts} {c : RunCmd} {s : State} (p_rc : mm.rc = true) (p_per : mm.per = true) (p_eng : mm.eng = true) (p_tier : mm.tier = true) (p_cs : mm.cs = true) (p_nand : mm.nand = true) (p_fix : mm.fix = true) (p_cp : mm.cp = true) (p_rec_ : mm.rec_ = true) (p_snap : mm.snap = true) (p_rmq : mm.rmq = true) (p_dict : mm.dict = true) (p_freeCtr : mm.freeCtr = true) (p_outbox : mm.outbox = true) (p_tenants : mm.tenants = true) (p_hosts : mm.hosts = true) (p_regions : mm.regions = true) (p_keyTable : mm.keyTable = true) (p_quotas : mm.quotas = true) (p_dir : mm.dir = true) (p_fmap : mm.fmap = true) (p_images : mm.images = true) (p_snaps : mm.snaps = true) (p_config : mm.config = true) : outside mm (runDelete c s) = outside mm s := by
  unfold runDelete; (repeat' split) <;> simp [*]
@[simp] theorem outside_startFence {mm : Parts} {f : Fence} {s : State} (p_per : mm.per = true) (p_eng : mm.eng = true) (p_regions : mm.regions = true) (p_keyTable : mm.keyTable = true) : outside mm (startFence f s) = outside mm s := by
  simp [startFence, *]
@[simp] theorem outside_runResize {mm : Parts} {c : RunCmd} {s : State} (p_rc : mm.rc = true) (p_per : mm.per = true) (p_eng : mm.eng = true) (p_tier : mm.tier = true) (p_cs : mm.cs = true) (p_nand : mm.nand = true) (p_fix : mm.fix = true) (p_cp : mm.cp = true) (p_rec_ : mm.rec_ = true) (p_snap : mm.snap = true) (p_rmq : mm.rmq = true) (p_dict : mm.dict = true) (p_freeCtr : mm.freeCtr = true) (p_outbox : mm.outbox = true) (p_tenants : mm.tenants = true) (p_hosts : mm.hosts = true) (p_regions : mm.regions = true) (p_keyTable : mm.keyTable = true) (p_quotas : mm.quotas = true) (p_dir : mm.dir = true) (p_fmap : mm.fmap = true) (p_images : mm.images = true) (p_snaps : mm.snaps = true) (p_config : mm.config = true) : outside mm (runResize c s) = outside mm s := by
  unfold runResize; (repeat' split) <;> (try simp [p_rc, p_per, p_eng, p_tier, p_cs, p_nand, p_fix, p_cp, p_rec_, p_snap, p_rmq, p_dict, p_freeCtr, p_outbox, p_tenants, p_hosts, p_regions, p_keyTable, p_quotas, p_dir, p_fmap, p_images, p_snaps, p_config]) <;> (repeat' split) <;> (try simp_all) <;> simp (disch := (intros; first | (simp [p_rc, p_per, p_eng, p_tier, p_cs, p_nand, p_fix, p_cp, p_rec_, p_snap, p_rmq, p_dict, p_freeCtr, p_outbox, p_tenants, p_hosts, p_regions, p_keyTable, p_quotas, p_dir, p_fmap, p_images, p_snaps, p_config]; done) | ((repeat' split) <;> try simp [p_rc, p_per, p_eng, p_tier, p_cs, p_nand, p_fix, p_cp, p_rec_, p_snap, p_rmq, p_dict, p_freeCtr, p_outbox, p_tenants, p_hosts, p_regions, p_keyTable, p_quotas, p_dir, p_fmap, p_images, p_snaps, p_config]))) [*]
@[simp] theorem outside_runIssue {mm : Parts} {c : RunCmd} {s : State} (p_rc : mm.rc = true) (p_per : mm.per = true) (p_eng : mm.eng = true) (p_tier : mm.tier = true) (p_cs : mm.cs = true) (p_nand : mm.nand = true) (p_fix : mm.fix = true) (p_cp : mm.cp = true) (p_rec_ : mm.rec_ = true) (p_snap : mm.snap = true) (p_rmq : mm.rmq = true) (p_dict : mm.dict = true) (p_freeCtr : mm.freeCtr = true) (p_outbox : mm.outbox = true) (p_tenants : mm.tenants = true) (p_hosts : mm.hosts = true) (p_regions : mm.regions = true) (p_keyTable : mm.keyTable = true) (p_quotas : mm.quotas = true) (p_dir : mm.dir = true) (p_fmap : mm.fmap = true) (p_images : mm.images = true) (p_snaps : mm.snaps = true) (p_config : mm.config = true) : outside mm (runIssue c s) = outside mm s := by
  unfold runIssue; (repeat' split) <;> simp [*]
@[simp] theorem outside_runRevoke {mm : Parts} {c : RunCmd} {s : State} (p_per : mm.per = true) (p_eng : mm.eng = true) (p_cp : mm.cp = true) (p_dict : mm.dict = true) (p_regions : mm.regions = true) (p_keyTable : mm.keyTable = true) : outside mm (runRevoke c s) = outside mm s := by
  unfold runRevoke; (repeat' split) <;> simp [*]
@[simp] theorem outside_runRevokeRegion {mm : Parts} {c : RunCmd} {s : State} (p_per : mm.per = true) (p_eng : mm.eng = true) (p_cp : mm.cp = true) (p_dict : mm.dict = true) (p_regions : mm.regions = true) (p_keyTable : mm.keyTable = true) : outside mm (runRevokeRegion c s) = outside mm s := by
  unfold runRevokeRegion; (repeat' split) <;> simp [*]
@[simp] theorem outside_runSetOwner {mm : Parts} {c : RunCmd} {s : State} (p_eng : mm.eng = true) (p_cp : mm.cp = true) (p_dict : mm.dict = true) : outside mm (runSetOwner c s) = outside mm s := by
  unfold runSetOwner; (repeat' split) <;> simp [*]
@[simp] theorem outside_startCmd {mm : Parts} {c : RunCmd} {s : State} (p_rc : mm.rc = true) (p_per : mm.per = true) (p_eng : mm.eng = true) (p_tier : mm.tier = true) (p_cs : mm.cs = true) (p_nand : mm.nand = true) (p_fix : mm.fix = true) (p_cp : mm.cp = true) (p_rec_ : mm.rec_ = true) (p_snap : mm.snap = true) (p_rmq : mm.rmq = true) (p_dict : mm.dict = true) (p_freeCtr : mm.freeCtr = true) (p_outbox : mm.outbox = true) (p_tenants : mm.tenants = true) (p_hosts : mm.hosts = true) (p_regions : mm.regions = true) (p_keyTable : mm.keyTable = true) (p_quotas : mm.quotas = true) (p_dir : mm.dir = true) (p_fmap : mm.fmap = true) (p_images : mm.images = true) (p_snaps : mm.snaps = true) (p_config : mm.config = true) : outside mm (startCmd c s) = outside mm s := by
  unfold startCmd; (repeat' split) <;> simp [*]
@[simp] theorem outside_command {mm : Parts} {code : Nat} {b : RegionBlock} {s : State} (p_rc : mm.rc = true) (p_per : mm.per = true) (p_eng : mm.eng = true) (p_tier : mm.tier = true) (p_cs : mm.cs = true) (p_nand : mm.nand = true) (p_fix : mm.fix = true) (p_cp : mm.cp = true) (p_rec_ : mm.rec_ = true) (p_snap : mm.snap = true) (p_fieth : mm.fieth = true) (p_rmq : mm.rmq = true) (p_dict : mm.dict = true) (p_freeCtr : mm.freeCtr = true) (p_outbox : mm.outbox = true) (p_tenants : mm.tenants = true) (p_hosts : mm.hosts = true) (p_regions : mm.regions = true) (p_keyTable : mm.keyTable = true) (p_quotas : mm.quotas = true) (p_dir : mm.dir = true) (p_fmap : mm.fmap = true) (p_images : mm.images = true) (p_snaps : mm.snaps = true) (p_config : mm.config = true) : outside mm (command code b s) = outside mm s := by
  unfold command; (repeat' split) <;> (try simp [p_rc, p_per, p_eng, p_tier, p_cs, p_nand, p_fix, p_cp, p_rec_, p_snap, p_fieth, p_rmq, p_dict, p_freeCtr, p_outbox, p_tenants, p_hosts, p_regions, p_keyTable, p_quotas, p_dir, p_fmap, p_images, p_snaps, p_config]) <;> simp (disch := (intros; first | (simp [p_rc, p_per, p_eng, p_tier, p_cs, p_nand, p_fix, p_cp, p_rec_, p_snap, p_fieth, p_rmq, p_dict, p_freeCtr, p_outbox, p_tenants, p_hosts, p_regions, p_keyTable, p_quotas, p_dir, p_fmap, p_images, p_snaps, p_config]; done) | ((repeat' split) <;> try simp [p_rc, p_per, p_eng, p_tier, p_cs, p_nand, p_fix, p_cp, p_rec_, p_snap, p_fieth, p_rmq, p_dict, p_freeCtr, p_outbox, p_tenants, p_hosts, p_regions, p_keyTable, p_quotas, p_dir, p_fmap, p_images, p_snaps, p_config]))) [*]
@[simp] theorem outside_doCreate {mm : Parts} {b : RegionBlock} {s : State} (p_rc : mm.rc = true) (p_per : mm.per = true) (p_eng : mm.eng = true) (p_tier : mm.tier = true) (p_cs : mm.cs = true) (p_nand : mm.nand = true) (p_fix : mm.fix = true) (p_cp : mm.cp = true) (p_rec_ : mm.rec_ = true) (p_snap : mm.snap = true) (p_fieth : mm.fieth = true) (p_rmq : mm.rmq = true) (p_dict : mm.dict = true) (p_freeCtr : mm.freeCtr = true) (p_outbox : mm.outbox = true) (p_tenants : mm.tenants = true) (p_hosts : mm.hosts = true) (p_regions : mm.regions = true) (p_keyTable : mm.keyTable = true) (p_quotas : mm.quotas = true) (p_dir : mm.dir = true) (p_fmap : mm.fmap = true) (p_images : mm.images = true) (p_snaps : mm.snaps = true) (p_config : mm.config = true) : outside mm (doCreate b s) = outside mm s := by
  simp [doCreate, *]
@[simp] theorem outside_doDelete {mm : Parts} {b : RegionBlock} {s : State} (p_rc : mm.rc = true) (p_per : mm.per = true) (p_eng : mm.eng = true) (p_tier : mm.tier = true) (p_cs : mm.cs = true) (p_nand : mm.nand = true) (p_fix : mm.fix = true) (p_cp : mm.cp = true) (p_rec_ : mm.rec_ = true) (p_snap : mm.snap = true) (p_fieth : mm.fieth = true) (p_rmq : mm.rmq = true) (p_dict : mm.dict = true) (p_freeCtr : mm.freeCtr = true) (p_outbox : mm.outbox = true) (p_tenants : mm.tenants = true) (p_hosts : mm.hosts = true) (p_regions : mm.regions = true) (p_keyTable : mm.keyTable = true) (p_quotas : mm.quotas = true) (p_dir : mm.dir = true) (p_fmap : mm.fmap = true) (p_images : mm.images = true) (p_snaps : mm.snaps = true) (p_config : mm.config = true) : outside mm (doDelete b s) = outside mm s := by
  simp [doDelete, *]
@[simp] theorem outside_doResize {mm : Parts} {b : RegionBlock} {s : State} (p_rc : mm.rc = true) (p_per : mm.per = true) (p_eng : mm.eng = true) (p_tier : mm.tier = true) (p_cs : mm.cs = true) (p_nand : mm.nand = true) (p_fix : mm.fix = true) (p_cp : mm.cp = true) (p_rec_ : mm.rec_ = true) (p_snap : mm.snap = true) (p_fieth : mm.fieth = true) (p_rmq : mm.rmq = true) (p_dict : mm.dict = true) (p_freeCtr : mm.freeCtr = true) (p_outbox : mm.outbox = true) (p_tenants : mm.tenants = true) (p_hosts : mm.hosts = true) (p_regions : mm.regions = true) (p_keyTable : mm.keyTable = true) (p_quotas : mm.quotas = true) (p_dir : mm.dir = true) (p_fmap : mm.fmap = true) (p_images : mm.images = true) (p_snaps : mm.snaps = true) (p_config : mm.config = true) : outside mm (doResize b s) = outside mm s := by
  simp [doResize, *]
@[simp] theorem outside_doIssueKey {mm : Parts} {b : RegionBlock} {s : State} (p_rc : mm.rc = true) (p_per : mm.per = true) (p_eng : mm.eng = true) (p_tier : mm.tier = true) (p_cs : mm.cs = true) (p_nand : mm.nand = true) (p_fix : mm.fix = true) (p_cp : mm.cp = true) (p_rec_ : mm.rec_ = true) (p_snap : mm.snap = true) (p_fieth : mm.fieth = true) (p_rmq : mm.rmq = true) (p_dict : mm.dict = true) (p_freeCtr : mm.freeCtr = true) (p_outbox : mm.outbox = true) (p_tenants : mm.tenants = true) (p_hosts : mm.hosts = true) (p_regions : mm.regions = true) (p_keyTable : mm.keyTable = true) (p_quotas : mm.quotas = true) (p_dir : mm.dir = true) (p_fmap : mm.fmap = true) (p_images : mm.images = true) (p_snaps : mm.snaps = true) (p_config : mm.config = true) : outside mm (doIssueKey b s) = outside mm s := by
  simp [doIssueKey, *]
@[simp] theorem outside_doRevokeKey {mm : Parts} {b : RegionBlock} {s : State} (p_rc : mm.rc = true) (p_per : mm.per = true) (p_eng : mm.eng = true) (p_tier : mm.tier = true) (p_cs : mm.cs = true) (p_nand : mm.nand = true) (p_fix : mm.fix = true) (p_cp : mm.cp = true) (p_rec_ : mm.rec_ = true) (p_snap : mm.snap = true) (p_fieth : mm.fieth = true) (p_rmq : mm.rmq = true) (p_dict : mm.dict = true) (p_freeCtr : mm.freeCtr = true) (p_outbox : mm.outbox = true) (p_tenants : mm.tenants = true) (p_hosts : mm.hosts = true) (p_regions : mm.regions = true) (p_keyTable : mm.keyTable = true) (p_quotas : mm.quotas = true) (p_dir : mm.dir = true) (p_fmap : mm.fmap = true) (p_images : mm.images = true) (p_snaps : mm.snaps = true) (p_config : mm.config = true) : outside mm (doRevokeKey b s) = outside mm s := by
  simp [doRevokeKey, *]
@[simp] theorem outside_doRevokeRegion {mm : Parts} {b : RegionBlock} {s : State} (p_rc : mm.rc = true) (p_per : mm.per = true) (p_eng : mm.eng = true) (p_tier : mm.tier = true) (p_cs : mm.cs = true) (p_nand : mm.nand = true) (p_fix : mm.fix = true) (p_cp : mm.cp = true) (p_rec_ : mm.rec_ = true) (p_snap : mm.snap = true) (p_fieth : mm.fieth = true) (p_rmq : mm.rmq = true) (p_dict : mm.dict = true) (p_freeCtr : mm.freeCtr = true) (p_outbox : mm.outbox = true) (p_tenants : mm.tenants = true) (p_hosts : mm.hosts = true) (p_regions : mm.regions = true) (p_keyTable : mm.keyTable = true) (p_quotas : mm.quotas = true) (p_dir : mm.dir = true) (p_fmap : mm.fmap = true) (p_images : mm.images = true) (p_snaps : mm.snaps = true) (p_config : mm.config = true) : outside mm (doRevokeRegion b s) = outside mm s := by
  simp [doRevokeRegion, *]
@[simp] theorem outside_doSetOwner {mm : Parts} {b : RegionBlock} {s : State} (p_rc : mm.rc = true) (p_per : mm.per = true) (p_eng : mm.eng = true) (p_tier : mm.tier = true) (p_cs : mm.cs = true) (p_nand : mm.nand = true) (p_fix : mm.fix = true) (p_cp : mm.cp = true) (p_rec_ : mm.rec_ = true) (p_snap : mm.snap = true) (p_fieth : mm.fieth = true) (p_rmq : mm.rmq = true) (p_dict : mm.dict = true) (p_freeCtr : mm.freeCtr = true) (p_outbox : mm.outbox = true) (p_tenants : mm.tenants = true) (p_hosts : mm.hosts = true) (p_regions : mm.regions = true) (p_keyTable : mm.keyTable = true) (p_quotas : mm.quotas = true) (p_dir : mm.dir = true) (p_fmap : mm.fmap = true) (p_images : mm.images = true) (p_snaps : mm.snaps = true) (p_config : mm.config = true) : outside mm (doSetOwner b s) = outside mm s := by
  simp [doSetOwner, *]
@[simp] theorem outside_doFencePoint {mm : Parts} {s : State} (p_host : mm.host = true) (p_per : mm.per = true) (p_eng : mm.eng = true) (p_tier : mm.tier = true) (p_cp : mm.cp = true) (p_dict : mm.dict = true) (p_keyTable : mm.keyTable = true) (p_quotas : mm.quotas = true) (p_dir : mm.dir = true) : outside mm (doFencePoint s) = outside mm s := by
  unfold doFencePoint; (repeat' split) <;> simp [*]
@[simp] theorem outside_endFence {mm : Parts} {f : Fence} {s : State} (p_per : mm.per = true) (p_eng : mm.eng = true) (p_tier : mm.tier = true) (p_cs : mm.cs = true) (p_nand : mm.nand = true) (p_fix : mm.fix = true) (p_rec_ : mm.rec_ = true) (p_snap : mm.snap = true) (p_rmq : mm.rmq = true) (p_dict : mm.dict = true) (p_freeCtr : mm.freeCtr = true) (p_regions : mm.regions = true) (p_keyTable : mm.keyTable = true) (p_quotas : mm.quotas = true) (p_dir : mm.dir = true) (p_fmap : mm.fmap = true) (p_images : mm.images = true) (p_snaps : mm.snaps = true) : outside mm (endFence f s) = outside mm s := by
  unfold endFence; (repeat' split) <;> simp [*]
@[simp] theorem outside_replayFence {mm : Parts} {s : State} (p_per : mm.per = true) (p_eng : mm.eng = true) (p_tier : mm.tier = true) (p_cs : mm.cs = true) (p_nand : mm.nand = true) (p_fix : mm.fix = true) (p_rec_ : mm.rec_ = true) (p_snap : mm.snap = true) (p_rmq : mm.rmq = true) (p_dict : mm.dict = true) (p_freeCtr : mm.freeCtr = true) (p_regions : mm.regions = true) (p_keyTable : mm.keyTable = true) (p_quotas : mm.quotas = true) (p_dir : mm.dir = true) (p_fmap : mm.fmap = true) (p_images : mm.images = true) (p_snaps : mm.snaps = true) : outside mm (replayFence s) = outside mm s := by
  unfold replayFence; (repeat' split) <;> simp [*]
@[simp] theorem outside_fenceDone {mm : Parts} {s : State} (p_per : mm.per = true) (p_eng : mm.eng = true) (p_tier : mm.tier = true) (p_cs : mm.cs = true) (p_nand : mm.nand = true) (p_fix : mm.fix = true) (p_cp : mm.cp = true) (p_rec_ : mm.rec_ = true) (p_snap : mm.snap = true) (p_rmq : mm.rmq = true) (p_dict : mm.dict = true) (p_freeCtr : mm.freeCtr = true) (p_regions : mm.regions = true) (p_keyTable : mm.keyTable = true) (p_quotas : mm.quotas = true) (p_dir : mm.dir = true) (p_fmap : mm.fmap = true) (p_images : mm.images = true) (p_snaps : mm.snaps = true) : outside mm (fenceDone s) = outside mm s := by
  unfold fenceDone; (repeat' split) <;> simp [*]
@[simp] theorem outside_doFenceDrainEnd {mm : Parts} {s : State} (p_per : mm.per = true) (p_eng : mm.eng = true) (p_tier : mm.tier = true) (p_cs : mm.cs = true) (p_nand : mm.nand = true) (p_fix : mm.fix = true) (p_cp : mm.cp = true) (p_rec_ : mm.rec_ = true) (p_snap : mm.snap = true) (p_rmq : mm.rmq = true) (p_dict : mm.dict = true) (p_freeCtr : mm.freeCtr = true) (p_regions : mm.regions = true) (p_keyTable : mm.keyTable = true) (p_quotas : mm.quotas = true) (p_dir : mm.dir = true) (p_fmap : mm.fmap = true) (p_images : mm.images = true) (p_snaps : mm.snaps = true) : outside mm (doFenceDrainEnd s) = outside mm s := by
  unfold doFenceDrainEnd; (repeat' split) <;> simp [*]
@[simp] theorem outside_doFenceCancelDeadline {mm : Parts} {s : State} (p_host : mm.host = true) (p_eng : mm.eng = true) (p_dict : mm.dict = true) : outside mm (doFenceCancelDeadline s) = outside mm s := by
  unfold doFenceCancelDeadline; (repeat' split) <;> simp [*]
@[simp] theorem outside_writeElems {mm : Parts} {idx sub : Nat} {l : List TableElem} {s : State} (p_rc : mm.rc = true) (p_per : mm.per = true) (p_eng : mm.eng = true) (p_tier : mm.tier = true) (p_cs : mm.cs = true) (p_nand : mm.nand = true) (p_fix : mm.fix = true) (p_cp : mm.cp = true) (p_rec_ : mm.rec_ = true) (p_snap : mm.snap = true) (p_fieth : mm.fieth = true) (p_rmq : mm.rmq = true) (p_dict : mm.dict = true) (p_freeCtr : mm.freeCtr = true) (p_outbox : mm.outbox = true) (p_tenants : mm.tenants = true) (p_hosts : mm.hosts = true) (p_regions : mm.regions = true) (p_keyTable : mm.keyTable = true) (p_quotas : mm.quotas = true) (p_dir : mm.dir = true) (p_fmap : mm.fmap = true) (p_images : mm.images = true) (p_snaps : mm.snaps = true) (p_config : mm.config = true) : outside mm (writeElems idx sub l s) = outside mm s := by
  simp [writeElems, *]
@[simp] theorem outside_tableWrite {mm : Parts} {idx i : Nat} {values : List Nat} {s : State} (p_rc : mm.rc = true) (p_per : mm.per = true) (p_eng : mm.eng = true) (p_tier : mm.tier = true) (p_cs : mm.cs = true) (p_nand : mm.nand = true) (p_fix : mm.fix = true) (p_cp : mm.cp = true) (p_rec_ : mm.rec_ = true) (p_snap : mm.snap = true) (p_fieth : mm.fieth = true) (p_rmq : mm.rmq = true) (p_dict : mm.dict = true) (p_freeCtr : mm.freeCtr = true) (p_outbox : mm.outbox = true) (p_tenants : mm.tenants = true) (p_hosts : mm.hosts = true) (p_regions : mm.regions = true) (p_keyTable : mm.keyTable = true) (p_quotas : mm.quotas = true) (p_dir : mm.dir = true) (p_fmap : mm.fmap = true) (p_images : mm.images = true) (p_snaps : mm.snaps = true) (p_config : mm.config = true) : outside mm (tableWrite idx i values s) = outside mm s := by
  unfold tableWrite; (repeat' split) <;> (try simp [p_rc, p_per, p_eng, p_tier, p_cs, p_nand, p_fix, p_cp, p_rec_, p_snap, p_fieth, p_rmq, p_dict, p_freeCtr, p_outbox, p_tenants, p_hosts, p_regions, p_keyTable, p_quotas, p_dir, p_fmap, p_images, p_snaps, p_config]) <;> simp (disch := (intros; first | (simp [p_rc, p_per, p_eng, p_tier, p_cs, p_nand, p_fix, p_cp, p_rec_, p_snap, p_fieth, p_rmq, p_dict, p_freeCtr, p_outbox, p_tenants, p_hosts, p_regions, p_keyTable, p_quotas, p_dir, p_fmap, p_images, p_snaps, p_config]; done) | ((repeat' split) <;> try simp [p_rc, p_per, p_eng, p_tier, p_cs, p_nand, p_fix, p_cp, p_rec_, p_snap, p_fieth, p_rmq, p_dict, p_freeCtr, p_outbox, p_tenants, p_hosts, p_regions, p_keyTable, p_quotas, p_dir, p_fmap, p_images, p_snaps, p_config]))) [*]
@[simp] theorem outside_doTenantTableWrite {mm : Parts} {tenant : Fin 256} {value : Nat} {s : State} (p_rc : mm.rc = true) (p_per : mm.per = true) (p_eng : mm.eng = true) (p_tier : mm.tier = true) (p_cs : mm.cs = true) (p_nand : mm.nand = true) (p_fix : mm.fix = true) (p_cp : mm.cp = true) (p_rec_ : mm.rec_ = true) (p_snap : mm.snap = true) (p_fieth : mm.fieth = true) (p_rmq : mm.rmq = true) (p_dict : mm.dict = true) (p_freeCtr : mm.freeCtr = true) (p_outbox : mm.outbox = true) (p_tenants : mm.tenants = true) (p_hosts : mm.hosts = true) (p_regions : mm.regions = true) (p_keyTable : mm.keyTable = true) (p_quotas : mm.quotas = true) (p_dir : mm.dir = true) (p_fmap : mm.fmap = true) (p_images : mm.images = true) (p_snaps : mm.snaps = true) (p_config : mm.config = true) : outside mm (doTenantTableWrite tenant value s) = outside mm s := by
  simp [doTenantTableWrite, *]
@[simp] theorem outside_doQuotaTableWrite {mm : Parts} {tenant : Fin 256} {value : Nat} {s : State} (p_rc : mm.rc = true) (p_per : mm.per = true) (p_eng : mm.eng = true) (p_tier : mm.tier = true) (p_cs : mm.cs = true) (p_nand : mm.nand = true) (p_fix : mm.fix = true) (p_cp : mm.cp = true) (p_rec_ : mm.rec_ = true) (p_snap : mm.snap = true) (p_fieth : mm.fieth = true) (p_rmq : mm.rmq = true) (p_dict : mm.dict = true) (p_freeCtr : mm.freeCtr = true) (p_outbox : mm.outbox = true) (p_tenants : mm.tenants = true) (p_hosts : mm.hosts = true) (p_regions : mm.regions = true) (p_keyTable : mm.keyTable = true) (p_quotas : mm.quotas = true) (p_dir : mm.dir = true) (p_fmap : mm.fmap = true) (p_images : mm.images = true) (p_snaps : mm.snaps = true) (p_config : mm.config = true) : outside mm (doQuotaTableWrite tenant value s) = outside mm s := by
  simp [doQuotaTableWrite, *]
@[simp] theorem outside_doHostTableWrite {mm : Parts} {host : Fin 65536} {value : Nat} {s : State} (p_rc : mm.rc = true) (p_per : mm.per = true) (p_eng : mm.eng = true) (p_tier : mm.tier = true) (p_cs : mm.cs = true) (p_nand : mm.nand = true) (p_fix : mm.fix = true) (p_cp : mm.cp = true) (p_rec_ : mm.rec_ = true) (p_snap : mm.snap = true) (p_fieth : mm.fieth = true) (p_rmq : mm.rmq = true) (p_dict : mm.dict = true) (p_freeCtr : mm.freeCtr = true) (p_outbox : mm.outbox = true) (p_tenants : mm.tenants = true) (p_hosts : mm.hosts = true) (p_regions : mm.regions = true) (p_keyTable : mm.keyTable = true) (p_quotas : mm.quotas = true) (p_dir : mm.dir = true) (p_fmap : mm.fmap = true) (p_images : mm.images = true) (p_snaps : mm.snaps = true) (p_config : mm.config = true) : outside mm (doHostTableWrite host value s) = outside mm s := by
  simp [doHostTableWrite, *]
@[simp] theorem outside_doReplayWindowWrite {mm : Parts} {ms : Nat} {s : State} (p_cp : mm.cp = true) (p_fieth : mm.fieth = true) (p_dict : mm.dict = true) (p_outbox : mm.outbox = true) (p_config : mm.config = true) : outside mm (doReplayWindowWrite ms s) = outside mm s := by
  unfold doReplayWindowWrite; (repeat' split) <;> (try simp [p_cp, p_fieth, p_dict, p_outbox, p_config]) <;> simp (disch := (intros; first | (simp [p_cp, p_fieth, p_dict, p_outbox, p_config]; done) | ((repeat' split) <;> try simp [p_cp, p_fieth, p_dict, p_outbox, p_config]))) [*]

end Sys2Proof.Machine
end

