-- ==== Sys2Proof/Laws/KeepMode.lean ====
section
/-! SUPPORT. What each operation of Machine/Mode.lean leaves unchanged: everything outside the parts its hypotheses name (Outside.lean). -/
namespace Sys2Proof.Machine
open Sys2Proof
set_option linter.unusedSimpArgs false

@[simp] theorem outside_setMode {mm : Parts} {m : Mode} {row : Nat} {s : State} (p_per : mm.per = true) (p_nand : mm.nand = true) (p_md : mm.md = true) (p_pres : mm.pres = true) (p_rmq : mm.rmq = true) (p_dict : mm.dict = true) (p_freeCtr : mm.freeCtr = true) (p_fmap : mm.fmap = true) (p_groups : mm.groups = true) (p_media : mm.media = true) (p_mode : mm.mode = true) : outside mm (setMode m row s) = outside mm s := by
  unfold setMode; (repeat' split) <;> simp [*]
@[simp] theorem outside_raiseKeep {mm : Parts} {bit : Nat} {s : State} (p_md : mm.md = true) : outside mm (raiseKeep bit s) = outside mm s := by
  unfold raiseKeep; (repeat' split) <;> simp [*]
@[simp] theorem outside_leaveKeep {mm : Parts} {s : State} (p_per : mm.per = true) (p_nand : mm.nand = true) (p_cp : mm.cp = true) (p_md : mm.md = true) (p_pres : mm.pres = true) (p_rmq : mm.rmq = true) (p_dict : mm.dict = true) (p_freeCtr : mm.freeCtr = true) (p_fmap : mm.fmap = true) (p_groups : mm.groups = true) (p_media : mm.media = true) (p_twin : mm.twin = true) (p_mode : mm.mode = true) : outside mm (leaveKeep s) = outside mm s := by
  simp [leaveKeep, *]
@[simp] theorem outside_clearKeep {mm : Parts} {bit : Nat} {s : State} (p_per : mm.per = true) (p_nand : mm.nand = true) (p_cp : mm.cp = true) (p_md : mm.md = true) (p_pres : mm.pres = true) (p_rmq : mm.rmq = true) (p_dict : mm.dict = true) (p_freeCtr : mm.freeCtr = true) (p_fmap : mm.fmap = true) (p_groups : mm.groups = true) (p_media : mm.media = true) (p_twin : mm.twin = true) (p_mode : mm.mode = true) : outside mm (clearKeep bit s) = outside mm s := by
  simp [clearKeep, *]
@[simp] theorem outside_intoKeep {mm : Parts} {row : Nat} {s : State} (p_per : mm.per = true) (p_nand : mm.nand = true) (p_md : mm.md = true) (p_pres : mm.pres = true) (p_rmq : mm.rmq = true) (p_dict : mm.dict = true) (p_freeCtr : mm.freeCtr = true) (p_fmap : mm.fmap = true) (p_groups : mm.groups = true) (p_media : mm.media = true) (p_mode : mm.mode = true) : outside mm (intoKeep row s) = outside mm s := by
  simp [intoKeep, *]
@[simp] theorem outside_abandonCut {mm : Parts} {s : State} (p_per : mm.per = true) (p_snap : mm.snap = true) (p_dict : mm.dict = true) (p_quotas : mm.quotas = true) (p_dir : mm.dir = true) (p_snaps : mm.snaps = true) : outside mm (abandonCut s) = outside mm s := by
  unfold abandonCut; (repeat' split) <;> simp [*]
@[simp] theorem outside_enterDrain {mm : Parts} {cause : Nat} {s : State} (p_per : mm.per = true) (p_tier : mm.tier = true) (p_nand : mm.nand = true) (p_fix : mm.fix = true) (p_cp : mm.cp = true) (p_snap : mm.snap = true) (p_md : mm.md = true) (p_pres : mm.pres = true) (p_rmq : mm.rmq = true) (p_rst : mm.rst = true) (p_dict : mm.dict = true) (p_freeCtr : mm.freeCtr = true) (p_quotas : mm.quotas = true) (p_dir : mm.dir = true) (p_fmap : mm.fmap = true) (p_groups : mm.groups = true) (p_snaps : mm.snaps = true) (p_media : mm.media = true) (p_mode : mm.mode = true) (p_phase : mm.phase = true) : outside mm (enterDrain cause s) = outside mm s := by
  simp [enterDrain, *]
@[simp] theorem outside_fatal {mm : Parts} {code : Nat} {s : State} (p_per : mm.per = true) (p_tier : mm.tier = true) (p_nand : mm.nand = true) (p_fix : mm.fix = true) (p_cp : mm.cp = true) (p_snap : mm.snap = true) (p_md : mm.md = true) (p_pres : mm.pres = true) (p_rmq : mm.rmq = true) (p_rst : mm.rst = true) (p_dict : mm.dict = true) (p_freeCtr : mm.freeCtr = true) (p_outbox : mm.outbox = true) (p_quotas : mm.quotas = true) (p_dir : mm.dir = true) (p_fmap : mm.fmap = true) (p_groups : mm.groups = true) (p_snaps : mm.snaps = true) (p_media : mm.media = true) (p_mode : mm.mode = true) (p_phase : mm.phase = true) : outside mm (fatal code s) = outside mm s := by
  simp [fatal, *]
@[simp] theorem outside_stopDead {mm : Parts} {s : State} (p_per : mm.per = true) (p_tier : mm.tier = true) (p_nand : mm.nand = true) (p_fix : mm.fix = true) (p_cp : mm.cp = true) (p_snap : mm.snap = true) (p_md : mm.md = true) (p_pres : mm.pres = true) (p_rmq : mm.rmq = true) (p_rst : mm.rst = true) (p_dict : mm.dict = true) (p_freeCtr : mm.freeCtr = true) (p_outbox : mm.outbox = true) (p_quotas : mm.quotas = true) (p_dir : mm.dir = true) (p_fmap : mm.fmap = true) (p_groups : mm.groups = true) (p_snaps : mm.snaps = true) (p_media : mm.media = true) (p_mode : mm.mode = true) (p_phase : mm.phase = true) : outside mm (stopDead s) = outside mm s := by
  simp [stopDead, *]
@[simp] theorem outside_acceptReset {mm : Parts} {bit : Nat} {s : State} (p_rec_ : mm.rec_ = true) (p_rst : mm.rst = true) (p_phase : mm.phase = true) : outside mm (acceptReset bit s) = outside mm s := by
  unfold acceptReset; (repeat' split) <;> simp [*]
@[simp] theorem outside_doConfigApplyAtIdle {mm : Parts} {unit : Nat} {s : State} (p_cs : mm.cs = true) (p_dram : mm.dram = true) (p_ports : mm.ports = true) (p_force : mm.force = true) : outside mm (doConfigApplyAtIdle unit s) = outside mm s := by
  unfold doConfigApplyAtIdle; (repeat' split) <;> (try simp [p_cs, p_dram, p_ports, p_force]) <;> simp (disch := (intros; first | (simp [p_cs, p_dram, p_ports, p_force]; done) | ((repeat' split) <;> try simp [p_cs, p_dram, p_ports, p_force]))) [*]

end Sys2Proof.Machine
end

