-- ==== Sys2Proof/Laws/KeepSnapshots.lean ====
section
/-! SUPPORT. What each operation of Machine/Snapshots.lean leaves unchanged: everything outside the parts its hypotheses name (Outside.lean). -/
namespace Sys2Proof.Machine
open Sys2Proof
set_option linter.unusedSimpArgs false

@[simp] theorem outside_finishImage {mm : Parts} {tpn : Nat} {s : State} (p_fix : mm.fix = true) : outside mm (finishImage tpn s) = outside mm s := by
  unfold finishImage; (repeat' split) <;> simp [*]
@[simp] theorem outside_recordImage {mm : Parts} {tpn : Nat} {e : ImageEntry} {s : State} (p_per : mm.per = true) (p_fix : mm.fix = true) (p_cp : mm.cp = true) (p_dict : mm.dict = true) (p_images : mm.images = true) : outside mm (recordImage tpn e s) = outside mm s := by
  simp [recordImage, *]
@[simp] theorem outside_beginImage {mm : Parts} {tpn : Nat} {s : State} (p_fix : mm.fix = true) : outside mm (beginImage tpn s) = outside mm s := by
  simp [beginImage, *]
@[simp] theorem outside_settled1 {mm : Parts} {number region page : Nat} {s : State} (p_per : mm.per = true) (p_snaps : mm.snaps = true) : outside mm (settled1 number region page s) = outside mm s := by
  simp [settled1, *]
@[simp] theorem outside_imageServes {mm : Parts} {tpn : Nat} {s : State} (p_per : mm.per = true) (p_snaps : mm.snaps = true) : outside mm (imageServes tpn s) = outside mm s := by
  unfold imageServes; (repeat' split) <;> simp [*]
@[simp] theorem outside_doStateSettle {mm : Parts} {number : Nat} {s : State} (p_fix : mm.fix = true) (p_rec_ : mm.rec_ = true) (p_snap : mm.snap = true) : outside mm (doStateSettle number s) = outside mm s := by
  unfold doStateSettle; (repeat' split) <;> simp [*]
@[simp] theorem outside_doStateCaptureDone {mm : Parts} {number tpn : Nat} {ok : Bool} {s : State} (p_per : mm.per = true) (p_nand : mm.nand = true) (p_fix : mm.fix = true) (p_cp : mm.cp = true) (p_snap : mm.snap = true) (p_dict : mm.dict = true) (p_freeCtr : mm.freeCtr = true) (p_quotas : mm.quotas = true) (p_fmap : mm.fmap = true) (p_groups : mm.groups = true) (p_images : mm.images = true) (p_snaps : mm.snaps = true) (p_media : mm.media = true) : outside mm (doStateCaptureDone number tpn ok s) = outside mm s := by
  unfold doStateCaptureDone; (repeat' split) <;> (try have h_programImage := outside_programImage (mm := mm) (by assumption) p_per p_nand p_dict p_freeCtr p_fmap p_groups p_media) <;> simp_all
@[simp] theorem outside_doStateRetentionExpire {mm : Parts} {number : Nat} {s : State} (p_per : mm.per = true) (p_snap : mm.snap = true) (p_quotas : mm.quotas = true) (p_dir : mm.dir = true) (p_snaps : mm.snaps = true) : outside mm (doStateRetentionExpire number s) = outside mm s := by
  unfold doStateRetentionExpire; (repeat' split) <;> simp [*]
@[simp] theorem outside_finishState {mm : Parts} {status result : Nat} {s : State} (p_eng : mm.eng = true) (p_cp : mm.cp = true) (p_snap : mm.snap = true) (p_dict : mm.dict = true) : outside mm (finishState status result s) = outside mm s := by
  simp [finishState, *]
@[simp] theorem outside_takePoint {mm : Parts} {own : Bool} {s : State} (p_per : mm.per = true) (p_dir : mm.dir = true) (p_snaps : mm.snaps = true) : outside mm (takePoint own s) = outside mm s := by
  unfold takePoint; (repeat' split) <;> simp [*]
@[simp] theorem outside_releaseHeld {mm : Parts} {s : State} (p_snap : mm.snap = true) (p_dict : mm.dict = true) (p_freeCtr : mm.freeCtr = true) (p_outbox : mm.outbox = true) : outside mm (releaseHeld s) = outside mm s := by
  simp [releaseHeld, *]
@[simp] theorem outside_releaseCut {mm : Parts} {s : State} (p_per : mm.per = true) (p_eng : mm.eng = true) (p_cp : mm.cp = true) (p_snap : mm.snap = true) (p_dict : mm.dict = true) (p_freeCtr : mm.freeCtr = true) (p_outbox : mm.outbox = true) (p_snaps : mm.snaps = true) : outside mm (releaseCut s) = outside mm s := by
  unfold releaseCut; (repeat' split) <;> simp [*]
@[simp] theorem outside_runCut {mm : Parts} {b : StateBlock} {s : State} (p_eng : mm.eng = true) (p_cp : mm.cp = true) (p_snap : mm.snap = true) (p_dict : mm.dict = true) : outside mm (runCut b s) = outside mm s := by
  simp [runCut, *]
@[simp] theorem outside_runClone {mm : Parts} {b : StateBlock} {s : State} (p_rc : mm.rc = true) (p_per : mm.per = true) (p_eng : mm.eng = true) (p_tier : mm.tier = true) (p_cs : mm.cs = true) (p_nand : mm.nand = true) (p_fix : mm.fix = true) (p_cp : mm.cp = true) (p_rec_ : mm.rec_ = true) (p_snap : mm.snap = true) (p_rmq : mm.rmq = true) (p_dict : mm.dict = true) (p_freeCtr : mm.freeCtr = true) (p_outbox : mm.outbox = true) (p_tenants : mm.tenants = true) (p_hosts : mm.hosts = true) (p_regions : mm.regions = true) (p_keyTable : mm.keyTable = true) (p_quotas : mm.quotas = true) (p_dir : mm.dir = true) (p_fmap : mm.fmap = true) (p_images : mm.images = true) (p_snaps : mm.snaps = true) (p_config : mm.config = true) : outside mm (runClone b s) = outside mm s := by
  unfold runClone; (repeat' split) <;> simp [*]
@[simp] theorem outside_cloneVerdict {mm : Parts} {accept : Bool} {e : TableElem} {s : State} (p_rc : mm.rc = true) (p_per : mm.per = true) (p_eng : mm.eng = true) (p_tier : mm.tier = true) (p_cs : mm.cs = true) (p_nand : mm.nand = true) (p_fix : mm.fix = true) (p_cp : mm.cp = true) (p_rec_ : mm.rec_ = true) (p_snap : mm.snap = true) (p_rmq : mm.rmq = true) (p_dict : mm.dict = true) (p_freeCtr : mm.freeCtr = true) (p_outbox : mm.outbox = true) (p_tenants : mm.tenants = true) (p_hosts : mm.hosts = true) (p_regions : mm.regions = true) (p_keyTable : mm.keyTable = true) (p_quotas : mm.quotas = true) (p_dir : mm.dir = true) (p_fmap : mm.fmap = true) (p_images : mm.images = true) (p_snaps : mm.snaps = true) (p_config : mm.config = true) : outside mm (cloneVerdict accept e s) = outside mm s := by
  unfold cloneVerdict; (repeat' split) <;> simp [*]
@[simp] theorem outside_startState {mm : Parts} {code : Nat} {b : StateBlock} {s : State} (p_rc : mm.rc = true) (p_per : mm.per = true) (p_eng : mm.eng = true) (p_tier : mm.tier = true) (p_cs : mm.cs = true) (p_nand : mm.nand = true) (p_fix : mm.fix = true) (p_cp : mm.cp = true) (p_rec_ : mm.rec_ = true) (p_snap : mm.snap = true) (p_rmq : mm.rmq = true) (p_dict : mm.dict = true) (p_freeCtr : mm.freeCtr = true) (p_outbox : mm.outbox = true) (p_tenants : mm.tenants = true) (p_hosts : mm.hosts = true) (p_regions : mm.regions = true) (p_keyTable : mm.keyTable = true) (p_quotas : mm.quotas = true) (p_dir : mm.dir = true) (p_fmap : mm.fmap = true) (p_images : mm.images = true) (p_snaps : mm.snaps = true) (p_config : mm.config = true) : outside mm (startState code b s) = outside mm s := by
  unfold startState; (repeat' split) <;> simp [*]
@[simp] theorem outside_stateCommand {mm : Parts} {code : Nat} {b : StateBlock} {s : State} (p_rc : mm.rc = true) (p_per : mm.per = true) (p_eng : mm.eng = true) (p_tier : mm.tier = true) (p_cs : mm.cs = true) (p_nand : mm.nand = true) (p_fix : mm.fix = true) (p_cp : mm.cp = true) (p_rec_ : mm.rec_ = true) (p_snap : mm.snap = true) (p_fieth : mm.fieth = true) (p_rmq : mm.rmq = true) (p_dict : mm.dict = true) (p_freeCtr : mm.freeCtr = true) (p_outbox : mm.outbox = true) (p_tenants : mm.tenants = true) (p_hosts : mm.hosts = true) (p_regions : mm.regions = true) (p_keyTable : mm.keyTable = true) (p_quotas : mm.quotas = true) (p_dir : mm.dir = true) (p_fmap : mm.fmap = true) (p_images : mm.images = true) (p_snaps : mm.snaps = true) (p_config : mm.config = true) : outside mm (stateCommand code b s) = outside mm s := by
  unfold stateCommand; (repeat' split) <;> (try simp [p_rc, p_per, p_eng, p_tier, p_cs, p_nand, p_fix, p_cp, p_rec_, p_snap, p_fieth, p_rmq, p_dict, p_freeCtr, p_outbox, p_tenants, p_hosts, p_regions, p_keyTable, p_quotas, p_dir, p_fmap, p_images, p_snaps, p_config]) <;> simp (disch := (intros; first | (simp [p_rc, p_per, p_eng, p_tier, p_cs, p_nand, p_fix, p_cp, p_rec_, p_snap, p_fieth, p_rmq, p_dict, p_freeCtr, p_outbox, p_tenants, p_hosts, p_regions, p_keyTable, p_quotas, p_dir, p_fmap, p_images, p_snaps, p_config]; done) | ((repeat' split) <;> try simp [p_rc, p_per, p_eng, p_tier, p_cs, p_nand, p_fix, p_cp, p_rec_, p_snap, p_fieth, p_rmq, p_dict, p_freeCtr, p_outbox, p_tenants, p_hosts, p_regions, p_keyTable, p_quotas, p_dir, p_fmap, p_images, p_snaps, p_config]))) [*]
@[simp] theorem outside_doCut {mm : Parts} {b : StateBlock} {s : State} (p_rc : mm.rc = true) (p_per : mm.per = true) (p_eng : mm.eng = true) (p_tier : mm.tier = true) (p_cs : mm.cs = true) (p_nand : mm.nand = true) (p_fix : mm.fix = true) (p_cp : mm.cp = true) (p_rec_ : mm.rec_ = true) (p_snap : mm.snap = true) (p_fieth : mm.fieth = true) (p_rmq : mm.rmq = true) (p_dict : mm.dict = true) (p_freeCtr : mm.freeCtr = true) (p_outbox : mm.outbox = true) (p_tenants : mm.tenants = true) (p_hosts : mm.hosts = true) (p_regions : mm.regions = true) (p_keyTable : mm.keyTable = true) (p_quotas : mm.quotas = true) (p_dir : mm.dir = true) (p_fmap : mm.fmap = true) (p_images : mm.images = true) (p_snaps : mm.snaps = true) (p_config : mm.config = true) : outside mm (doCut b s) = outside mm s := by
  simp [doCut, *]
@[simp] theorem outside_doStateDelete {mm : Parts} {b : StateBlock} {s : State} (p_rc : mm.rc = true) (p_per : mm.per = true) (p_eng : mm.eng = true) (p_tier : mm.tier = true) (p_cs : mm.cs = true) (p_nand : mm.nand = true) (p_fix : mm.fix = true) (p_cp : mm.cp = true) (p_rec_ : mm.rec_ = true) (p_snap : mm.snap = true) (p_fieth : mm.fieth = true) (p_rmq : mm.rmq = true) (p_dict : mm.dict = true) (p_freeCtr : mm.freeCtr = true) (p_outbox : mm.outbox = true) (p_tenants : mm.tenants = true) (p_hosts : mm.hosts = true) (p_regions : mm.regions = true) (p_keyTable : mm.keyTable = true) (p_quotas : mm.quotas = true) (p_dir : mm.dir = true) (p_fmap : mm.fmap = true) (p_images : mm.images = true) (p_snaps : mm.snaps = true) (p_config : mm.config = true) : outside mm (doStateDelete b s) = outside mm s := by
  simp [doStateDelete, *]
@[simp] theorem outside_doClone {mm : Parts} {b : StateBlock} {s : State} (p_rc : mm.rc = true) (p_per : mm.per = true) (p_eng : mm.eng = true) (p_tier : mm.tier = true) (p_cs : mm.cs = true) (p_nand : mm.nand = true) (p_fix : mm.fix = true) (p_cp : mm.cp = true) (p_rec_ : mm.rec_ = true) (p_snap : mm.snap = true) (p_fieth : mm.fieth = true) (p_rmq : mm.rmq = true) (p_dict : mm.dict = true) (p_freeCtr : mm.freeCtr = true) (p_outbox : mm.outbox = true) (p_tenants : mm.tenants = true) (p_hosts : mm.hosts = true) (p_regions : mm.regions = true) (p_keyTable : mm.keyTable = true) (p_quotas : mm.quotas = true) (p_dir : mm.dir = true) (p_fmap : mm.fmap = true) (p_images : mm.images = true) (p_snaps : mm.snaps = true) (p_config : mm.config = true) : outside mm (doClone b s) = outside mm s := by
  simp [doClone, *]
@[simp] theorem outside_doSetRetain {mm : Parts} {b : StateBlock} {s : State} (p_rc : mm.rc = true) (p_per : mm.per = true) (p_eng : mm.eng = true) (p_tier : mm.tier = true) (p_cs : mm.cs = true) (p_nand : mm.nand = true) (p_fix : mm.fix = true) (p_cp : mm.cp = true) (p_rec_ : mm.rec_ = true) (p_snap : mm.snap = true) (p_fieth : mm.fieth = true) (p_rmq : mm.rmq = true) (p_dict : mm.dict = true) (p_freeCtr : mm.freeCtr = true) (p_outbox : mm.outbox = true) (p_tenants : mm.tenants = true) (p_hosts : mm.hosts = true) (p_regions : mm.regions = true) (p_keyTable : mm.keyTable = true) (p_quotas : mm.quotas = true) (p_dir : mm.dir = true) (p_fmap : mm.fmap = true) (p_images : mm.images = true) (p_snaps : mm.snaps = true) (p_config : mm.config = true) : outside mm (doSetRetain b s) = outside mm s := by
  simp [doSetRetain, *]
@[simp] theorem outside_confirmCut {mm : Parts} {s : State} (p_cp : mm.cp = true) (p_snap : mm.snap = true) (p_dict : mm.dict = true) : outside mm (confirmCut s) = outside mm s := by
  unfold confirmCut; (repeat' split) <;> simp [*]
@[simp] theorem outside_doCutMarksReported {mm : Parts} {s : State} (p_per : mm.per = true) (p_cp : mm.cp = true) (p_snap : mm.snap = true) (p_dict : mm.dict = true) (p_dir : mm.dir = true) (p_snaps : mm.snaps = true) : outside mm (doCutMarksReported s) = outside mm s := by
  unfold doCutMarksReported; (repeat' split) <;> (try simp [p_per, p_cp, p_snap, p_dict, p_dir, p_snaps]) <;> simp (disch := (intros; first | (simp [p_per, p_cp, p_snap, p_dict, p_dir, p_snaps]; done) | ((repeat' split) <;> try simp [p_per, p_cp, p_snap, p_dict, p_dir, p_snaps]))) [*]
@[simp] theorem outside_doCutPointsReported {mm : Parts} {ns : Nat} {s : State} (p_per : mm.per = true) (p_eng : mm.eng = true) (p_cp : mm.cp = true) (p_snap : mm.snap = true) (p_dict : mm.dict = true) (p_freeCtr : mm.freeCtr = true) (p_outbox : mm.outbox = true) (p_snaps : mm.snaps = true) : outside mm (doCutPointsReported ns s) = outside mm s := by
  unfold doCutPointsReported; (repeat' split) <;> simp [*]
@[simp] theorem outside_doClonePageCopy {mm : Parts} {readable : Bool} {s : State} (p_per : mm.per = true) (p_dram : mm.dram = true) (p_nand : mm.nand = true) (p_fix : mm.fix = true) (p_cp : mm.cp = true) (p_snap : mm.snap = true) (p_rmq : mm.rmq = true) (p_dict : mm.dict = true) (p_quotas : mm.quotas = true) (p_dir : mm.dir = true) (p_snaps : mm.snaps = true) (p_mem : mm.mem = true) : outside mm (doClonePageCopy readable s) = outside mm s := by
  unfold doClonePageCopy; (repeat' split) <;> simp [*]

end Sys2Proof.Machine
end

