-- ==== Sys2Proof/Laws/KeepDram.lean ====
section
/-! SUPPORT. What each operation of Machine/Dram.lean leaves unchanged: everything outside the parts its hypotheses name (Outside.lean). -/
namespace Sys2Proof.Machine
open Sys2Proof
set_option linter.unusedSimpArgs false

@[simp] theorem outside_doPanicRaise {mm : Parts} {channel : Fin 32} {fixative : Bool} {s : State} (p_dram : mm.dram = true) (p_dict : mm.dict = true) : outside mm (doPanicRaise channel fixative s) = outside mm s := by
  simp [doPanicRaise, *]
@[simp] theorem outside_doPanicClear {mm : Parts} {channel : Fin 32} {fixative : Bool} {s : State} (p_dram : mm.dram = true) : outside mm (doPanicClear channel fixative s) = outside mm s := by
  simp [doPanicClear, *]
@[simp] theorem outside_doRefreshDue {mm : Parts} {channel : Fin 32} {subrank : Fin 4} {s : State} (p_dram : mm.dram = true) (p_dict : mm.dict = true) : outside mm (doRefreshDue channel subrank s) = outside mm s := by
  simp [doRefreshDue, *]
@[simp] theorem outside_doRefreshCatchup {mm : Parts} {channel : Fin 32} {subrank : Fin 4} {s : State} (p_dram : mm.dram = true) : outside mm (doRefreshCatchup channel subrank s) = outside mm s := by
  simp [doRefreshCatchup, *]
@[simp] theorem outside_doRankIdleTimeout {mm : Parts} {channel : Fin 32} {rank : Fin 2} {s : State} (p_dram : mm.dram = true) : outside mm (doRankIdleTimeout channel rank s) = outside mm s := by
  simp [doRankIdleTimeout, *]
@[simp] theorem outside_activate {mm : Parts} {n : Nat} {e : DramWord} {s : State} (p_dram : mm.dram = true) (p_dict : mm.dict = true) : outside mm (activate n e s) = outside mm s := by
  simp [activate, *]
@[simp] theorem outside_drainWrites {mm : Parts} {n : Nat} {s : State} (p_dram : mm.dram = true) : outside mm (drainWrites n s) = outside mm s := by
  simp [drainWrites, *]
@[simp] theorem outside_loseChannel {mm : Parts} {n cause sub rank : Nat} {s : State} (p_per : mm.per = true) (p_tier : mm.tier = true) (p_cs : mm.cs = true) (p_dram : mm.dram = true) (p_nand : mm.nand = true) (p_cp : mm.cp = true) (p_rec_ : mm.rec_ = true) (p_snap : mm.snap = true) (p_md : mm.md = true) (p_pres : mm.pres = true) (p_rmq : mm.rmq = true) (p_rst : mm.rst = true) (p_dict : mm.dict = true) (p_freeCtr : mm.freeCtr = true) (p_quotas : mm.quotas = true) (p_dir : mm.dir = true) : outside mm (loseChannel n cause sub rank s) = outside mm s := by
  simp [loseChannel, *]
@[simp] theorem outside_setEntry {mm : Parts} {n word : Nat} {f : ErrEntry → ErrEntry} {s : State} (p_dram : mm.dram = true) : outside mm (setEntry n word f s) = outside mm s := by
  simp [setEntry, *]
@[simp] theorem outside_repairRecord {mm : Parts} {n : Nat} {a : RowAddr} {what : Nat} {s : State} (p_rmq : mm.rmq = true) : outside mm (repairRecord n a what s) = outside mm s := by
  simp [repairRecord, *]
@[simp] theorem outside_retireFrames {mm : Parts} {n : Nat} {a : RowAddr} {frames : List Nat} {s : State} (p_per : mm.per = true) (p_tier : mm.tier = true) (p_cs : mm.cs = true) (p_dram : mm.dram = true) (p_nand : mm.nand = true) (p_cp : mm.cp = true) (p_rec_ : mm.rec_ = true) (p_snap : mm.snap = true) (p_rmq : mm.rmq = true) (p_dict : mm.dict = true) (p_freeCtr : mm.freeCtr = true) (p_quotas : mm.quotas = true) (p_dir : mm.dir = true) : outside mm (retireFrames n a frames s) = outside mm s := by
  simp [retireFrames, *]
@[simp] theorem outside_repairRow {mm : Parts} {n line : Nat} {a : RowAddr} {s : State} (p_per : mm.per = true) (p_tier : mm.tier = true) (p_cs : mm.cs = true) (p_dram : mm.dram = true) (p_nand : mm.nand = true) (p_cp : mm.cp = true) (p_rec_ : mm.rec_ = true) (p_snap : mm.snap = true) (p_rmq : mm.rmq = true) (p_dict : mm.dict = true) (p_freeCtr : mm.freeCtr = true) (p_quotas : mm.quotas = true) (p_dir : mm.dir = true) : outside mm (repairRow n line a s).2 = outside mm s := by
  unfold repairRow; (repeat' split) <;> (try simp [p_per, p_tier, p_cs, p_dram, p_nand, p_cp, p_rec_, p_snap, p_rmq, p_dict, p_freeCtr, p_quotas, p_dir]) <;> (repeat' split) <;> (try simp_all) <;> simp (disch := (intros; first | (simp [p_per, p_tier, p_cs, p_dram, p_nand, p_cp, p_rec_, p_snap, p_rmq, p_dict, p_freeCtr, p_quotas, p_dir]; done) | ((repeat' split) <;> try simp [p_per, p_tier, p_cs, p_dram, p_nand, p_cp, p_rec_, p_snap, p_rmq, p_dict, p_freeCtr, p_quotas, p_dir]))) [*]
@[simp] theorem outside_climbLadder {mm : Parts} {n line : Nat} {e : ErrEntry} {s : State} (p_per : mm.per = true) (p_tier : mm.tier = true) (p_cs : mm.cs = true) (p_dram : mm.dram = true) (p_nand : mm.nand = true) (p_cp : mm.cp = true) (p_rec_ : mm.rec_ = true) (p_snap : mm.snap = true) (p_rmq : mm.rmq = true) (p_dict : mm.dict = true) (p_freeCtr : mm.freeCtr = true) (p_quotas : mm.quotas = true) (p_dir : mm.dir = true) : outside mm (climbLadder n line e s) = outside mm s := by
  simp [climbLadder, *]
@[simp] theorem outside_correctable {mm : Parts} {n : Nat} {e : DramWord} {s : State} (p_per : mm.per = true) (p_tier : mm.tier = true) (p_cs : mm.cs = true) (p_dram : mm.dram = true) (p_nand : mm.nand = true) (p_cp : mm.cp = true) (p_rec_ : mm.rec_ = true) (p_snap : mm.snap = true) (p_rmq : mm.rmq = true) (p_dict : mm.dict = true) (p_freeCtr : mm.freeCtr = true) (p_quotas : mm.quotas = true) (p_dir : mm.dir = true) : outside mm (correctable n e s) = outside mm s := by
  unfold correctable; (repeat' split) <;> (try simp [p_per, p_tier, p_cs, p_dram, p_nand, p_cp, p_rec_, p_snap, p_rmq, p_dict, p_freeCtr, p_quotas, p_dir]) <;> (repeat' split) <;> (try simp_all) <;> simp (disch := (intros; first | (simp [p_per, p_tier, p_cs, p_dram, p_nand, p_cp, p_rec_, p_snap, p_rmq, p_dict, p_freeCtr, p_quotas, p_dir]; done) | ((repeat' split) <;> try simp [p_per, p_tier, p_cs, p_dram, p_nand, p_cp, p_rec_, p_snap, p_rmq, p_dict, p_freeCtr, p_quotas, p_dir]))) [*]
@[simp] theorem outside_recovered {mm : Parts} {n line step : Nat} {s : State} (p_per : mm.per = true) (p_tier : mm.tier = true) (p_cs : mm.cs = true) (p_dram : mm.dram = true) (p_nand : mm.nand = true) (p_cp : mm.cp = true) (p_rec_ : mm.rec_ = true) (p_snap : mm.snap = true) (p_rmq : mm.rmq = true) (p_dict : mm.dict = true) (p_freeCtr : mm.freeCtr = true) (p_quotas : mm.quotas = true) (p_dir : mm.dir = true) : outside mm (recovered n line step s) = outside mm s := by
  unfold recovered; (repeat' split) <;> simp [*]
@[simp] theorem outside_recoverLocal {mm : Parts} {n line : Nat} {imageOk : Bool} {s : State} (p_per : mm.per = true) (p_tier : mm.tier = true) (p_cs : mm.cs = true) (p_dram : mm.dram = true) (p_nand : mm.nand = true) (p_cp : mm.cp = true) (p_rec_ : mm.rec_ = true) (p_snap : mm.snap = true) (p_rmq : mm.rmq = true) (p_dict : mm.dict = true) (p_freeCtr : mm.freeCtr = true) (p_quotas : mm.quotas = true) (p_dir : mm.dir = true) (p_mem : mm.mem = true) : outside mm (recoverLocal n line imageOk s) = outside mm s := by
  simp [recoverLocal, *]
@[simp] theorem outside_uncorrectable {mm : Parts} {n : Nat} {e : DramWord} {s : State} (p_per : mm.per = true) (p_tier : mm.tier = true) (p_cs : mm.cs = true) (p_dram : mm.dram = true) (p_nand : mm.nand = true) (p_cp : mm.cp = true) (p_rec_ : mm.rec_ = true) (p_snap : mm.snap = true) (p_rmq : mm.rmq = true) (p_dict : mm.dict = true) (p_freeCtr : mm.freeCtr = true) (p_quotas : mm.quotas = true) (p_dir : mm.dir = true) (p_mem : mm.mem = true) : outside mm (uncorrectable n e s) = outside mm s := by
  simp [uncorrectable, *]
@[simp] theorem outside_readWord {mm : Parts} {n : Nat} {e : DramWord} {s0 : State} (p_per : mm.per = true) (p_tier : mm.tier = true) (p_cs : mm.cs = true) (p_dram : mm.dram = true) (p_nand : mm.nand = true) (p_cp : mm.cp = true) (p_rec_ : mm.rec_ = true) (p_snap : mm.snap = true) (p_pres : mm.pres = true) (p_rmq : mm.rmq = true) (p_dict : mm.dict = true) (p_freeCtr : mm.freeCtr = true) (p_quotas : mm.quotas = true) (p_dir : mm.dir = true) (p_mem : mm.mem = true) : outside mm (readWord n e s0) = outside mm s0 := by
  unfold readWord; (repeat' split) <;> (try have h_fire := outside_fire (mm := mm) (by assumption) p_pres p_rmq p_dict) <;> (try have h_fireRecorded := outside_fireRecorded (mm := mm) (by assumption) p_pres p_rmq p_dict) <;> (try simp [p_per, p_tier, p_cs, p_dram, p_nand, p_cp, p_rec_, p_snap, p_pres, p_rmq, p_dict, p_freeCtr, p_quotas, p_dir, p_mem]) <;> (repeat' split) <;> (try have h_fire := outside_fire (mm := mm) (by assumption) p_pres p_rmq p_dict) <;> (try have h_fireRecorded := outside_fireRecorded (mm := mm) (by assumption) p_pres p_rmq p_dict) <;> (try simp_all) <;> simp (disch := (intros; first | (simp [p_per, p_tier, p_cs, p_dram, p_nand, p_cp, p_rec_, p_snap, p_pres, p_rmq, p_dict, p_freeCtr, p_quotas, p_dir, p_mem]; done) | ((repeat' split) <;> (try have h_fire := outside_fire (mm := mm) (by assumption) p_pres p_rmq p_dict) <;> (try have h_fireRecorded := outside_fireRecorded (mm := mm) (by assumption) p_pres p_rmq p_dict) <;> try simp [p_per, p_tier, p_cs, p_dram, p_nand, p_cp, p_rec_, p_snap, p_pres, p_rmq, p_dict, p_freeCtr, p_quotas, p_dir, p_mem]))) [*]
@[simp] theorem outside_doDramReadDone {mm : Parts} {channel : Fin 32} {e : DramWord} {s : State} (p_per : mm.per = true) (p_tier : mm.tier = true) (p_cs : mm.cs = true) (p_dram : mm.dram = true) (p_nand : mm.nand = true) (p_cp : mm.cp = true) (p_rec_ : mm.rec_ = true) (p_snap : mm.snap = true) (p_pres : mm.pres = true) (p_rmq : mm.rmq = true) (p_dict : mm.dict = true) (p_freeCtr : mm.freeCtr = true) (p_quotas : mm.quotas = true) (p_dir : mm.dir = true) (p_mem : mm.mem = true) : outside mm (doDramReadDone channel e s) = outside mm s := by
  simp [doDramReadDone, *]
@[simp] theorem outside_doBurnisherScrub {mm : Parts} {channel : Fin 32} {e : DramWord} {s : State} (p_per : mm.per = true) (p_tier : mm.tier = true) (p_cs : mm.cs = true) (p_dram : mm.dram = true) (p_nand : mm.nand = true) (p_cp : mm.cp = true) (p_rec_ : mm.rec_ = true) (p_snap : mm.snap = true) (p_pres : mm.pres = true) (p_rmq : mm.rmq = true) (p_dict : mm.dict = true) (p_freeCtr : mm.freeCtr = true) (p_quotas : mm.quotas = true) (p_dir : mm.dir = true) (p_mem : mm.mem = true) : outside mm (doBurnisherScrub channel e s) = outside mm s := by
  simp [doBurnisherScrub, *]
@[simp] theorem outside_doDramTrainingDone {mm : Parts} {channel : Fin 32} {margin : Nat} {ok preserved : Bool} {s : State} (p_dram : mm.dram = true) (p_rec_ : mm.rec_ = true) : outside mm (doDramTrainingDone channel margin ok preserved s) = outside mm s := by
  simp [doDramTrainingDone, *]
@[simp] theorem outside_doTrainingDeadline {mm : Parts} {s : State} (p_per : mm.per = true) (p_tier : mm.tier = true) (p_cs : mm.cs = true) (p_dram : mm.dram = true) (p_nand : mm.nand = true) (p_cp : mm.cp = true) (p_rec_ : mm.rec_ = true) (p_snap : mm.snap = true) (p_md : mm.md = true) (p_pres : mm.pres = true) (p_rmq : mm.rmq = true) (p_rst : mm.rst = true) (p_dict : mm.dict = true) (p_freeCtr : mm.freeCtr = true) (p_quotas : mm.quotas = true) (p_dir : mm.dir = true) : outside mm (doTrainingDeadline s) = outside mm s := by
  simp [doTrainingDeadline, *]
@[simp] theorem outside_doZqCalibrationTick {mm : Parts} {channel : Fin 32} {s : State} (p_dram : mm.dram = true) : outside mm (doZqCalibrationTick channel s) = outside mm s := by
  simp [doZqCalibrationTick, *]
@[simp] theorem outside_doDqsOscillatorTick {mm : Parts} {channel : Fin 32} {drift : Bool} {s : State} (p_dram : mm.dram = true) : outside mm (doDqsOscillatorTick channel drift s) = outside mm s := by
  simp [doDqsOscillatorTick, *]
@[simp] theorem outside_beginRetrain {mm : Parts} {n : Nat} {s : State} (p_dram : mm.dram = true) (p_dict : mm.dict = true) : outside mm (beginRetrain n s) = outside mm s := by
  simp [beginRetrain, *]
@[simp] theorem outside_doRetrainStart {mm : Parts} {channel : Fin 32} {temp : Int} {s0 : State} (p_dram : mm.dram = true) (p_dict : mm.dict = true) : outside mm (doRetrainStart channel temp s0) = outside mm s0 := by
  simp [doRetrainStart, *]
@[simp] theorem outside_doRetrainRequest {mm : Parts} {channel : Fin 32} {s : State} (p_dram : mm.dram = true) (p_fieth : mm.fieth = true) (p_dict : mm.dict = true) (p_outbox : mm.outbox = true) : outside mm (doRetrainRequest channel s) = outside mm s := by
  simp [doRetrainRequest, *]
@[simp] theorem outside_doRetrainDone {mm : Parts} {channel : Fin 32} {margin : Nat} {temp : Int} {failing : Option (Nat × Nat)} {s : State} (p_per : mm.per = true) (p_tier : mm.tier = true) (p_cs : mm.cs = true) (p_dram : mm.dram = true) (p_nand : mm.nand = true) (p_cp : mm.cp = true) (p_rec_ : mm.rec_ = true) (p_snap : mm.snap = true) (p_md : mm.md = true) (p_pres : mm.pres = true) (p_rmq : mm.rmq = true) (p_rst : mm.rst = true) (p_dict : mm.dict = true) (p_freeCtr : mm.freeCtr = true) (p_quotas : mm.quotas = true) (p_dir : mm.dir = true) : outside mm (doRetrainDone channel margin temp failing s) = outside mm s := by
  unfold doRetrainDone; (repeat' split) <;> simp [*]
@[simp] theorem outside_doReserveRebuildDone {mm : Parts} {group : Fin 4} {s : State} (p_dram : mm.dram = true) : outside mm (doReserveRebuildDone group s) = outside mm s := by
  simp [doReserveRebuildDone, *]
@[simp] theorem outside_doHpprProgrammingDone {mm : Parts} {s : State} (p_dram : mm.dram = true) (p_dict : mm.dict = true) : outside mm (doHpprProgrammingDone s) = outside mm s := by
  simp [doHpprProgrammingDone, *]

end Sys2Proof.Machine
end

