-- ==== Sys2Proof/Laws/KeepRestore.lean ====
section
/-! SUPPORT. What each operation of Machine/Restore.lean leaves unchanged: everything outside the parts its hypotheses name (Outside.lean). -/
namespace Sys2Proof.Machine
open Sys2Proof
set_option linter.unusedSimpArgs false

@[simp] theorem outside_advance {mm : Parts} (n : Nat) (s : State) (p_rec_ : mm.rec_ = true) (p_dict : mm.dict = true) : outside mm (advance n s) = outside mm s := by
  induction n generalizing s with
  | zero => rfl
  | succ n ih =>
    unfold advance
    split
    · rfl
    · simp [ih, p_rec_, p_dict]
@[simp] theorem outside_erasePlate {mm : Parts} {plate : Nat} {s : State} (p_per : mm.per = true) (p_nand : mm.nand = true) (p_groups : mm.groups = true) : outside mm (erasePlate plate s) = outside mm s := by
  unfold erasePlate; (repeat' split) <;> (try simp [p_per, p_nand, p_groups]) <;> simp (disch := (intros; first | (simp [p_per, p_nand, p_groups]; done) | ((repeat' split) <;> try simp [p_per, p_nand, p_groups]))) [*]
@[simp] theorem outside_releasePlates {mm : Parts} {s : State} (p_per : mm.per = true) (p_nand : mm.nand = true) (p_fix : mm.fix = true) (p_rec_ : mm.rec_ = true) (p_groups : mm.groups = true) (p_plates : mm.plates = true) : outside mm (releasePlates s) = outside mm s := by
  simp [releasePlates, *]
@[simp] theorem outside_recallEnd {mm : Parts} {s : State} (p_per : mm.per = true) (p_nand : mm.nand = true) (p_rec_ : mm.rec_ = true) (p_md : mm.md = true) (p_pres : mm.pres = true) (p_rmq : mm.rmq = true) (p_dict : mm.dict = true) (p_freeCtr : mm.freeCtr = true) (p_fmap : mm.fmap = true) (p_groups : mm.groups = true) (p_media : mm.media = true) (p_mode : mm.mode = true) : outside mm (recallEnd s) = outside mm s := by
  simp [recallEnd, *]
@[simp] theorem outside_recallStep {mm : Parts} {s : State} (p_per : mm.per = true) (p_nand : mm.nand = true) (p_fix : mm.fix = true) (p_rec_ : mm.rec_ = true) (p_md : mm.md = true) (p_pres : mm.pres = true) (p_rmq : mm.rmq = true) (p_dict : mm.dict = true) (p_freeCtr : mm.freeCtr = true) (p_fmap : mm.fmap = true) (p_groups : mm.groups = true) (p_media : mm.media = true) (p_plates : mm.plates = true) (p_mode : mm.mode = true) : outside mm (recallStep s) = outside mm s := by
  simp [recallStep, *]
@[simp] theorem outside_markRestored {mm : Parts} {tpn : Nat} {s : State} (p_per : mm.per = true) (p_nand : mm.nand = true) (p_fix : mm.fix = true) (p_rec_ : mm.rec_ = true) (p_md : mm.md = true) (p_pres : mm.pres = true) (p_rmq : mm.rmq = true) (p_dict : mm.dict = true) (p_freeCtr : mm.freeCtr = true) (p_fmap : mm.fmap = true) (p_groups : mm.groups = true) (p_media : mm.media = true) (p_plates : mm.plates = true) (p_mode : mm.mode = true) : outside mm (markRestored tpn s) = outside mm s := by
  simp [markRestored, *]
@[simp] theorem outside_countRestore {mm : Parts} {tpn : Nat} {s : State} (p_dict : mm.dict = true) : outside mm (countRestore tpn s) = outside mm s := by
  simp [countRestore, *]
@[simp] theorem outside_restorePoison {mm : Parts} {tpn : Nat} {s : State} (p_per : mm.per = true) (p_nand : mm.nand = true) (p_fix : mm.fix = true) (p_rec_ : mm.rec_ = true) (p_md : mm.md = true) (p_pres : mm.pres = true) (p_rmq : mm.rmq = true) (p_dict : mm.dict = true) (p_freeCtr : mm.freeCtr = true) (p_dir : mm.dir = true) (p_fmap : mm.fmap = true) (p_groups : mm.groups = true) (p_media : mm.media = true) (p_plates : mm.plates = true) (p_mode : mm.mode = true) : outside mm (restorePoison tpn s) = outside mm s := by
  simp [restorePoison, *]
@[simp] theorem outside_fillFrame {mm : Parts} {tpn : Nat} {data : Mem} {s : State} (p_dram : mm.dram = true) (p_mem : mm.mem = true) : outside mm (fillFrame tpn data s) = outside mm s := by
  unfold fillFrame; (repeat' split) <;> simp [*]

end Sys2Proof.Machine
end

