-- ==== Sys2Proof/Laws/KeepNand.lean ====
section
/-! SUPPORT. What each operation of Machine/Nand.lean leaves unchanged: everything outside the parts its hypotheses name (Outside.lean). -/
namespace Sys2Proof.Machine
open Sys2Proof
set_option linter.unusedSimpArgs false

@[simp] theorem outside_xqFence {mm : Parts} {n : Nat} {s : State} (p_per : mm.per = true) (p_tier : mm.tier = true) (p_nand : mm.nand = true) (p_fix : mm.fix = true) (p_cp : mm.cp = true) (p_snap : mm.snap = true) (p_md : mm.md = true) (p_keys : mm.keys = true) (p_pres : mm.pres = true) (p_rmq : mm.rmq = true) (p_rst : mm.rst = true) (p_dict : mm.dict = true) (p_freeCtr : mm.freeCtr = true) (p_outbox : mm.outbox = true) (p_quotas : mm.quotas = true) (p_dir : mm.dir = true) (p_fmap : mm.fmap = true) (p_groups : mm.groups = true) (p_snaps : mm.snaps = true) (p_media : mm.media = true) (p_mode : mm.mode = true) (p_phase : mm.phase = true) : outside mm (xqFence n s) = outside mm s := by
  simp [xqFence, *]
@[simp] theorem outside_xqMismatch {mm : Parts} {n : Nat} {second : Bool} {s : State} (p_per : mm.per = true) (p_tier : mm.tier = true) (p_nand : mm.nand = true) (p_fix : mm.fix = true) (p_cp : mm.cp = true) (p_snap : mm.snap = true) (p_md : mm.md = true) (p_keys : mm.keys = true) (p_pres : mm.pres = true) (p_rmq : mm.rmq = true) (p_rst : mm.rst = true) (p_dict : mm.dict = true) (p_freeCtr : mm.freeCtr = true) (p_outbox : mm.outbox = true) (p_quotas : mm.quotas = true) (p_dir : mm.dir = true) (p_fmap : mm.fmap = true) (p_groups : mm.groups = true) (p_snaps : mm.snaps = true) (p_media : mm.media = true) (p_mode : mm.mode = true) (p_phase : mm.phase = true) : outside mm (xqMismatch n second s) = outside mm s := by
  simp [xqMismatch, *]
@[simp] theorem outside_throughQuad {mm : Parts} {ch : Nat} {s : State} (p_per : mm.per = true) (p_tier : mm.tier = true) (p_nand : mm.nand = true) (p_fix : mm.fix = true) (p_cp : mm.cp = true) (p_snap : mm.snap = true) (p_md : mm.md = true) (p_keys : mm.keys = true) (p_pres : mm.pres = true) (p_rmq : mm.rmq = true) (p_rst : mm.rst = true) (p_dict : mm.dict = true) (p_freeCtr : mm.freeCtr = true) (p_outbox : mm.outbox = true) (p_quotas : mm.quotas = true) (p_dir : mm.dir = true) (p_fmap : mm.fmap = true) (p_groups : mm.groups = true) (p_snaps : mm.snaps = true) (p_media : mm.media = true) (p_mode : mm.mode = true) (p_phase : mm.phase = true) : outside mm (throughQuad ch s) = outside mm s := by
  unfold throughQuad; (repeat' split) <;> (try have h_fire := outside_fire (mm := mm) (by assumption) p_pres p_rmq p_dict) <;> (try have h_fireRecorded := outside_fireRecorded (mm := mm) (by assumption) p_pres p_rmq p_dict) <;> (try simp [p_per, p_tier, p_nand, p_fix, p_cp, p_snap, p_md, p_keys, p_pres, p_rmq, p_rst, p_dict, p_freeCtr, p_outbox, p_quotas, p_dir, p_fmap, p_groups, p_snaps, p_media, p_mode, p_phase]) <;> (repeat' split) <;> (try have h_fire := outside_fire (mm := mm) (by assumption) p_pres p_rmq p_dict) <;> (try have h_fireRecorded := outside_fireRecorded (mm := mm) (by assumption) p_pres p_rmq p_dict) <;> (try simp_all) <;> simp (disch := (intros; first | (simp [p_per, p_tier, p_nand, p_fix, p_cp, p_snap, p_md, p_keys, p_pres, p_rmq, p_rst, p_dict, p_freeCtr, p_outbox, p_quotas, p_dir, p_fmap, p_groups, p_snaps, p_media, p_mode, p_phase]; done) | ((repeat' split) <;> (try have h_fire := outside_fire (mm := mm) (by assumption) p_pres p_rmq p_dict) <;> (try have h_fireRecorded := outside_fireRecorded (mm := mm) (by assumption) p_pres p_rmq p_dict) <;> try simp [p_per, p_tier, p_nand, p_fix, p_cp, p_snap, p_md, p_keys, p_pres, p_rmq, p_rst, p_dict, p_freeCtr, p_outbox, p_quotas, p_dir, p_fmap, p_groups, p_snaps, p_media, p_mode, p_phase]))) [*]
@[simp] theorem outside_reserveCauses {mm : Parts} {s : State} (p_per : mm.per = true) (p_nand : mm.nand = true) (p_cp : mm.cp = true) (p_md : mm.md = true) (p_pres : mm.pres = true) (p_rmq : mm.rmq = true) (p_dict : mm.dict = true) (p_freeCtr : mm.freeCtr = true) (p_fmap : mm.fmap = true) (p_groups : mm.groups = true) (p_media : mm.media = true) (p_twin : mm.twin = true) (p_mode : mm.mode = true) : outside mm (reserveCauses s) = outside mm s := by
  simp [reserveCauses, *]
@[simp] theorem outside_mediaStep {mm : Parts} {s : State} (p_per : mm.per = true) (p_nand : mm.nand = true) (p_cp : mm.cp = true) (p_md : mm.md = true) (p_pres : mm.pres = true) (p_rmq : mm.rmq = true) (p_dict : mm.dict = true) (p_freeCtr : mm.freeCtr = true) (p_fmap : mm.fmap = true) (p_groups : mm.groups = true) (p_media : mm.media = true) (p_twin : mm.twin = true) (p_mode : mm.mode = true) : outside mm (mediaStep s) = outside mm s := by
  simp [mediaStep, *]
@[simp] theorem outside_mediaMin {mm : Parts} {s : State} (p_md : mm.md = true) (p_rmq : mm.rmq = true) : outside mm (mediaMin s) = outside mm s := by
  simp [mediaMin, *]
@[simp] theorem outside_poisonNand {mm : Parts} {tpn : Nat} {s : State} (p_per : mm.per = true) (p_rmq : mm.rmq = true) (p_dict : mm.dict = true) (p_dir : mm.dir = true) : outside mm (poisonNand tpn s) = outside mm s := by
  simp [poisonNand, *]
@[simp] theorem outside_retireDie {mm : Parts} {n cause : Nat} {s : State} (p_per : mm.per = true) (p_tier : mm.tier = true) (p_cs : mm.cs = true) (p_nand : mm.nand = true) (p_cp : mm.cp = true) (p_rec_ : mm.rec_ = true) (p_snap : mm.snap = true) (p_md : mm.md = true) (p_pres : mm.pres = true) (p_rmq : mm.rmq = true) (p_dict : mm.dict = true) (p_freeCtr : mm.freeCtr = true) (p_quotas : mm.quotas = true) (p_dir : mm.dir = true) (p_fmap : mm.fmap = true) (p_groups : mm.groups = true) (p_media : mm.media = true) (p_twin : mm.twin = true) (p_mode : mm.mode = true) : outside mm (retireDie n cause s) = outside mm s := by
  simp [retireDie, *]
@[simp] theorem outside_doDieRetire {mm : Parts} {channel : Fin 40} {die : Fin 16} {cause : Nat} {s : State} (p_per : mm.per = true) (p_tier : mm.tier = true) (p_cs : mm.cs = true) (p_nand : mm.nand = true) (p_cp : mm.cp = true) (p_rec_ : mm.rec_ = true) (p_snap : mm.snap = true) (p_md : mm.md = true) (p_pres : mm.pres = true) (p_rmq : mm.rmq = true) (p_dict : mm.dict = true) (p_freeCtr : mm.freeCtr = true) (p_quotas : mm.quotas = true) (p_dir : mm.dir = true) (p_fmap : mm.fmap = true) (p_groups : mm.groups = true) (p_media : mm.media = true) (p_twin : mm.twin = true) (p_mode : mm.mode = true) : outside mm (doDieRetire channel die cause s) = outside mm s := by
  simp [doDieRetire, *]
@[simp] theorem outside_retireBlock {mm : Parts} {n g plane cause : Nat} {s : State} (p_per : mm.per = true) (p_tier : mm.tier = true) (p_cs : mm.cs = true) (p_nand : mm.nand = true) (p_cp : mm.cp = true) (p_rec_ : mm.rec_ = true) (p_snap : mm.snap = true) (p_md : mm.md = true) (p_pres : mm.pres = true) (p_rmq : mm.rmq = true) (p_dict : mm.dict = true) (p_freeCtr : mm.freeCtr = true) (p_quotas : mm.quotas = true) (p_dir : mm.dir = true) (p_fmap : mm.fmap = true) (p_groups : mm.groups = true) (p_media : mm.media = true) (p_twin : mm.twin = true) (p_mode : mm.mode = true) : outside mm (retireBlock n g plane cause s) = outside mm s := by
  simp [retireBlock, *]
@[simp] theorem outside_loseNand {mm : Parts} {c : Nat} {s : State} (p_per : mm.per = true) (p_tier : mm.tier = true) (p_cs : mm.cs = true) (p_nand : mm.nand = true) (p_cp : mm.cp = true) (p_rec_ : mm.rec_ = true) (p_snap : mm.snap = true) (p_md : mm.md = true) (p_pres : mm.pres = true) (p_rmq : mm.rmq = true) (p_rst : mm.rst = true) (p_dict : mm.dict = true) (p_freeCtr : mm.freeCtr = true) (p_quotas : mm.quotas = true) (p_dir : mm.dir = true) (p_fmap : mm.fmap = true) (p_groups : mm.groups = true) (p_media : mm.media = true) (p_twin : mm.twin = true) (p_mode : mm.mode = true) : outside mm (loseNand c s) = outside mm s := by
  simp [loseNand, *]
@[simp] theorem outside_doNandChannelReady {mm : Parts} {channel : Fin 40} {ok : Bool} {present : Nat} {s : State} (p_per : mm.per = true) (p_tier : mm.tier = true) (p_cs : mm.cs = true) (p_nand : mm.nand = true) (p_cp : mm.cp = true) (p_rec_ : mm.rec_ = true) (p_snap : mm.snap = true) (p_md : mm.md = true) (p_pres : mm.pres = true) (p_rmq : mm.rmq = true) (p_rst : mm.rst = true) (p_dict : mm.dict = true) (p_freeCtr : mm.freeCtr = true) (p_quotas : mm.quotas = true) (p_dir : mm.dir = true) (p_fmap : mm.fmap = true) (p_groups : mm.groups = true) (p_media : mm.media = true) (p_twin : mm.twin = true) (p_mode : mm.mode = true) : outside mm (doNandChannelReady channel ok present s) = outside mm s := by
  unfold doNandChannelReady; (repeat' split) <;> (try simp [p_per, p_tier, p_cs, p_nand, p_cp, p_rec_, p_snap, p_md, p_pres, p_rmq, p_rst, p_dict, p_freeCtr, p_quotas, p_dir, p_fmap, p_groups, p_media, p_twin, p_mode]) <;> (repeat' split) <;> (try simp_all) <;> simp (disch := (intros; first | (simp [p_per, p_tier, p_cs, p_nand, p_cp, p_rec_, p_snap, p_md, p_pres, p_rmq, p_rst, p_dict, p_freeCtr, p_quotas, p_dir, p_fmap, p_groups, p_media, p_twin, p_mode]; done) | ((repeat' split) <;> try simp [p_per, p_tier, p_cs, p_nand, p_cp, p_rec_, p_snap, p_md, p_pres, p_rmq, p_rst, p_dict, p_freeCtr, p_quotas, p_dir, p_fmap, p_groups, p_media, p_twin, p_mode]))) [*]
@[simp] theorem outside_movePlace {mm : Parts} {lunit : Nat} {src dst : Place} {s : State} (p_per : mm.per = true) (p_fmap : mm.fmap = true) (p_snaps : mm.snaps = true) : outside mm (movePlace lunit src dst s).2 = outside mm s := by
  simp [movePlace, *]
@[simp] theorem outside_countMigrated {mm : Parts} {src : Place} {n : Nat} {s : State} (p_dict : mm.dict = true) : outside mm (countMigrated src n s) = outside mm s := by
  simp [countMigrated, *]
@[simp] theorem outside_moveImage {mm : Parts} {tpn : Nat} {e : ImageEntry} {body : Bool} {s : State} (p_per : mm.per = true) (p_nand : mm.nand = true) (p_dict : mm.dict = true) (p_freeCtr : mm.freeCtr = true) (p_fmap : mm.fmap = true) (p_groups : mm.groups = true) (p_images : mm.images = true) (p_snaps : mm.snaps = true) (p_media : mm.media = true) : outside mm (moveImage tpn e body s) = outside mm s := by
  unfold moveImage; (repeat' split) <;> (try have h_programImageAt := outside_programImageAt (mm := mm) (by assumption) p_per p_nand p_dict p_freeCtr p_fmap p_groups p_media) <;> (try simp [p_per, p_nand, p_dict, p_freeCtr, p_fmap, p_groups, p_images, p_snaps, p_media]) <;> (repeat' split) <;> (try have h_programImageAt := outside_programImageAt (mm := mm) (by assumption) p_per p_nand p_dict p_freeCtr p_fmap p_groups p_media) <;> (try simp_all) <;> simp (disch := (intros; first | (simp [p_per, p_nand, p_dict, p_freeCtr, p_fmap, p_groups, p_images, p_snaps, p_media]; done) | ((repeat' split) <;> (try have h_programImageAt := outside_programImageAt (mm := mm) (by assumption) p_per p_nand p_dict p_freeCtr p_fmap p_groups p_media) <;> try simp [p_per, p_nand, p_dict, p_freeCtr, p_fmap, p_groups, p_images, p_snaps, p_media]))) [*]
@[simp] theorem outside_copyBatch {mm : Parts} {n : Nat} {s : State} (p_nand : mm.nand = true) : outside mm (copyBatch n s) = outside mm s := by
  simp [copyBatch, *]
@[simp] theorem outside_copyWhole {mm : Parts} {n : Nat} {s : State} (p_per : mm.per = true) (p_nand : mm.nand = true) (p_dict : mm.dict = true) (p_freeCtr : mm.freeCtr = true) (p_fmap : mm.fmap = true) (p_groups : mm.groups = true) (p_images : mm.images = true) (p_snaps : mm.snaps = true) (p_media : mm.media = true) : outside mm (copyWhole n s) = outside mm s := by
  unfold copyWhole; (repeat' split) <;> (try simp [p_per, p_nand, p_dict, p_freeCtr, p_fmap, p_groups, p_images, p_snaps, p_media]) <;> simp (disch := (intros; first | (simp [p_per, p_nand, p_dict, p_freeCtr, p_fmap, p_groups, p_images, p_snaps, p_media]; done) | ((repeat' split) <;> try simp [p_per, p_nand, p_dict, p_freeCtr, p_fmap, p_groups, p_images, p_snaps, p_media]))) [*]
@[simp] theorem outside_migrateImages {mm : Parts} {s : State} (p_per : mm.per = true) (p_nand : mm.nand = true) (p_dict : mm.dict = true) (p_freeCtr : mm.freeCtr = true) (p_fmap : mm.fmap = true) (p_groups : mm.groups = true) (p_images : mm.images = true) (p_snaps : mm.snaps = true) (p_media : mm.media = true) : outside mm (migrateImages s) = outside mm s := by
  unfold migrateImages; (repeat' split) <;> simp [*]
@[simp] theorem outside_takeVictim {mm : Parts} {n g : Nat} {s : State} (p_per : mm.per = true) (p_groups : mm.groups = true) : outside mm (takeVictim n g s) = outside mm s := by
  simp [takeVictim, *]
@[simp] theorem outside_gcSwitch {mm : Parts} {n : Nat} {s : State} (p_nand : mm.nand = true) : outside mm (gcSwitch n s) = outside mm s := by
  simp [gcSwitch, *]
@[simp] theorem outside_migrateCheck {mm : Parts} {s : State} (p_keys : mm.keys = true) (p_dict : mm.dict = true) : outside mm (migrateCheck s) = outside mm s := by
  unfold migrateCheck; (repeat' split) <;> simp [*]
@[simp] theorem outside_gcStep {mm : Parts} {n : Nat} {s : State} (p_per : mm.per = true) (p_nand : mm.nand = true) (p_dict : mm.dict = true) (p_freeCtr : mm.freeCtr = true) (p_fmap : mm.fmap = true) (p_groups : mm.groups = true) (p_images : mm.images = true) (p_snaps : mm.snaps = true) (p_media : mm.media = true) : outside mm (gcStep n s) = outside mm s := by
  unfold gcStep; (repeat' split) <;> (try simp [p_per, p_nand, p_dict, p_freeCtr, p_fmap, p_groups, p_images, p_snaps, p_media]) <;> (repeat' split) <;> (try simp_all) <;> simp (disch := (intros; first | (simp [p_per, p_nand, p_dict, p_freeCtr, p_fmap, p_groups, p_images, p_snaps, p_media]; done) | ((repeat' split) <;> try simp [p_per, p_nand, p_dict, p_freeCtr, p_fmap, p_groups, p_images, p_snaps, p_media]))) [*]
@[simp] theorem outside_gcAll {mm : Parts} {s : State} (p_per : mm.per = true) (p_nand : mm.nand = true) (p_cp : mm.cp = true) (p_md : mm.md = true) (p_keys : mm.keys = true) (p_pres : mm.pres = true) (p_rmq : mm.rmq = true) (p_dict : mm.dict = true) (p_freeCtr : mm.freeCtr = true) (p_fmap : mm.fmap = true) (p_groups : mm.groups = true) (p_images : mm.images = true) (p_snaps : mm.snaps = true) (p_media : mm.media = true) (p_twin : mm.twin = true) (p_mode : mm.mode = true) : outside mm (gcAll s) = outside mm s := by
  simp [gcAll, *]
@[simp] theorem outside_foldHead {mm : Parts} {set : Nat} {s : State} (p_per : mm.per = true) (p_nand : mm.nand = true) (p_dict : mm.dict = true) (p_freeCtr : mm.freeCtr = true) (p_fmap : mm.fmap = true) (p_groups : mm.groups = true) (p_images : mm.images = true) (p_snaps : mm.snaps = true) (p_media : mm.media = true) : outside mm (foldHead set s) = outside mm s := by
  unfold foldHead; (repeat' split) <;> (try simp [p_per, p_nand, p_dict, p_freeCtr, p_fmap, p_groups, p_images, p_snaps, p_media]) <;> (repeat' split) <;> (try simp_all) <;> simp (disch := (intros; first | (simp [p_per, p_nand, p_dict, p_freeCtr, p_fmap, p_groups, p_images, p_snaps, p_media]; done) | ((repeat' split) <;> try simp [p_per, p_nand, p_dict, p_freeCtr, p_fmap, p_groups, p_images, p_snaps, p_media]))) [*]
@[simp] theorem outside_refreshGroup {mm : Parts} {n g : Nat} {s : State} (p_per : mm.per = true) (p_nand : mm.nand = true) (p_dict : mm.dict = true) (p_freeCtr : mm.freeCtr = true) (p_fmap : mm.fmap = true) (p_groups : mm.groups = true) (p_images : mm.images = true) (p_snaps : mm.snaps = true) (p_media : mm.media = true) : outside mm (refreshGroup n g s) = outside mm s := by
  simp [refreshGroup, *]
@[simp] theorem outside_wearStep {mm : Parts} {s : State} (p_nand : mm.nand = true) (p_rmq : mm.rmq = true) : outside mm (wearStep s) = outside mm s := by
  simp [wearStep, *]
@[simp] theorem outside_placeBack {mm : Parts} {n : Nat} {u : ProgUnit} {lunit : Nat} {s : State} (p_per : mm.per = true) (p_nand : mm.nand = true) (p_dict : mm.dict = true) (p_freeCtr : mm.freeCtr = true) (p_fmap : mm.fmap = true) (p_groups : mm.groups = true) (p_media : mm.media = true) : outside mm (placeBack n u lunit s) = outside mm s := by
  unfold placeBack; (repeat' split) <;> (try have h_poolSlot := outside_poolSlot (mm := mm) (by assumption) p_per p_nand p_dict p_freeCtr p_groups) <;> simp_all
@[simp] theorem outside_placeCopy {mm : Parts} {n : Nat} {u : ProgUnit} {src : Place} {s : State} (p_per : mm.per = true) (p_nand : mm.nand = true) (p_dict : mm.dict = true) (p_freeCtr : mm.freeCtr = true) (p_fmap : mm.fmap = true) (p_groups : mm.groups = true) (p_snaps : mm.snaps = true) (p_media : mm.media = true) : outside mm (placeCopy n u src s) = outside mm s := by
  unfold placeCopy; (repeat' split) <;> (try have h_poolSlot := outside_poolSlot (mm := mm) (by assumption) p_per p_nand p_dict p_freeCtr p_groups) <;> simp_all
@[simp] theorem outside_placePad {mm : Parts} {n : Nat} {s : State} (p_per : mm.per = true) (p_nand : mm.nand = true) (p_dict : mm.dict = true) (p_freeCtr : mm.freeCtr = true) (p_groups : mm.groups = true) (p_media : mm.media = true) : outside mm (placePad n s) = outside mm s := by
  unfold placePad; (repeat' split) <;> (try have h_poolSlot := outside_poolSlot (mm := mm) (by assumption) p_per p_nand p_dict p_freeCtr p_groups) <;> simp_all
@[simp] theorem outside_doNandProgramDone {mm : Parts} {channel : Fin 40} {die : Fin 16} {ok : Bool} {plane : Fin 4} {s0 : State} (p_per : mm.per = true) (p_tier : mm.tier = true) (p_cs : mm.cs = true) (p_nand : mm.nand = true) (p_fix : mm.fix = true) (p_cp : mm.cp = true) (p_rec_ : mm.rec_ = true) (p_snap : mm.snap = true) (p_md : mm.md = true) (p_keys : mm.keys = true) (p_pres : mm.pres = true) (p_rmq : mm.rmq = true) (p_rst : mm.rst = true) (p_dict : mm.dict = true) (p_freeCtr : mm.freeCtr = true) (p_outbox : mm.outbox = true) (p_quotas : mm.quotas = true) (p_dir : mm.dir = true) (p_fmap : mm.fmap = true) (p_groups : mm.groups = true) (p_images : mm.images = true) (p_snaps : mm.snaps = true) (p_media : mm.media = true) (p_twin : mm.twin = true) (p_mode : mm.mode = true) (p_phase : mm.phase = true) : outside mm (doNandProgramDone channel die ok plane s0) = outside mm s0 := by
  unfold doNandProgramDone; (repeat' split) <;> (try simp [p_per, p_tier, p_cs, p_nand, p_fix, p_cp, p_rec_, p_snap, p_md, p_keys, p_pres, p_rmq, p_rst, p_dict, p_freeCtr, p_outbox, p_quotas, p_dir, p_fmap, p_groups, p_images, p_snaps, p_media, p_twin, p_mode, p_phase]) <;> (repeat' split) <;> (try simp_all) <;> simp (disch := (intros; first | (simp [p_per, p_tier, p_cs, p_nand, p_fix, p_cp, p_rec_, p_snap, p_md, p_keys, p_pres, p_rmq, p_rst, p_dict, p_freeCtr, p_outbox, p_quotas, p_dir, p_fmap, p_groups, p_images, p_snaps, p_media, p_twin, p_mode, p_phase]; done) | ((repeat' split) <;> try simp [p_per, p_tier, p_cs, p_nand, p_fix, p_cp, p_rec_, p_snap, p_md, p_keys, p_pres, p_rmq, p_rst, p_dict, p_freeCtr, p_outbox, p_quotas, p_dir, p_fmap, p_groups, p_images, p_snaps, p_media, p_twin, p_mode, p_phase]))) [*]
@[simp] theorem outside_doWordlineWaitTimeout {mm : Parts} {channel : Fin 40} {die : Fin 16} {s : State} (p_nand : mm.nand = true) : outside mm (doWordlineWaitTimeout channel die s) = outside mm s := by
  simp [doWordlineWaitTimeout, *]
@[simp] theorem outside_plateReady {mm : Parts} {plate : Nat} {s : State} (p_per : mm.per = true) (p_nand : mm.nand = true) (p_fix : mm.fix = true) (p_cp : mm.cp = true) (p_md : mm.md = true) (p_pres : mm.pres = true) (p_rmq : mm.rmq = true) (p_dict : mm.dict = true) (p_freeCtr : mm.freeCtr = true) (p_fmap : mm.fmap = true) (p_groups : mm.groups = true) (p_media : mm.media = true) (p_plates : mm.plates = true) (p_twin : mm.twin = true) (p_mode : mm.mode = true) : outside mm (plateReady plate s) = outside mm s := by
  simp [plateReady, *]
@[simp] theorem outside_doNandEraseDone {mm : Parts} {channel : Fin 40} {die : Fin 16} {group : Nat} {ok : Bool} {plane : Fin 4} {s : State} (p_per : mm.per = true) (p_tier : mm.tier = true) (p_cs : mm.cs = true) (p_nand : mm.nand = true) (p_fix : mm.fix = true) (p_cp : mm.cp = true) (p_rec_ : mm.rec_ = true) (p_snap : mm.snap = true) (p_md : mm.md = true) (p_pres : mm.pres = true) (p_rmq : mm.rmq = true) (p_dict : mm.dict = true) (p_freeCtr : mm.freeCtr = true) (p_quotas : mm.quotas = true) (p_dir : mm.dir = true) (p_fmap : mm.fmap = true) (p_groups : mm.groups = true) (p_images : mm.images = true) (p_snaps : mm.snaps = true) (p_media : mm.media = true) (p_plates : mm.plates = true) (p_twin : mm.twin = true) (p_mode : mm.mode = true) : outside mm (doNandEraseDone channel die group ok plane s) = outside mm s := by
  unfold doNandEraseDone; (repeat' split) <;> simp [*]
@[simp] theorem outside_startLogWrite {mm : Parts} {s : State} (p_per : mm.per = true) : outside mm (startLogWrite s) = outside mm s := by
  simp [startLogWrite, *]
@[simp] theorem outside_doMapLogDurable {mm : Parts} {s : State} (p_per : mm.per = true) (p_nand : mm.nand = true) (p_cp : mm.cp = true) (p_md : mm.md = true) (p_keys : mm.keys = true) (p_pres : mm.pres = true) (p_rmq : mm.rmq = true) (p_dict : mm.dict = true) (p_freeCtr : mm.freeCtr = true) (p_fmap : mm.fmap = true) (p_groups : mm.groups = true) (p_images : mm.images = true) (p_snaps : mm.snaps = true) (p_media : mm.media = true) (p_twin : mm.twin = true) (p_mode : mm.mode = true) : outside mm (doMapLogDurable s) = outside mm s := by
  unfold doMapLogDurable; (repeat' split) <;> simp [*]
@[simp] theorem outside_doCheckpointRoundStart {mm : Parts} {s : State} (p_per : mm.per = true) : outside mm (doCheckpointRoundStart s) = outside mm s := by
  simp [doCheckpointRoundStart, *]
@[simp] theorem outside_doCheckpointRoundDone {mm : Parts} {s : State} (p_per : mm.per = true) (p_dict : mm.dict = true) : outside mm (doCheckpointRoundDone s) = outside mm s := by
  simp [doCheckpointRoundDone, *]
@[simp] theorem outside_doParityPadTimeout {mm : Parts} {stripe : Nat} {s : State} (p_per : mm.per = true) (p_nand : mm.nand = true) (p_dict : mm.dict = true) (p_freeCtr : mm.freeCtr = true) (p_fmap : mm.fmap = true) (p_groups : mm.groups = true) (p_media : mm.media = true) : outside mm (doParityPadTimeout stripe s) = outside mm s := by
  unfold doParityPadTimeout; (repeat' split) <;> simp [*]
@[simp] theorem outside_failFills {mm : Parts} {tpn : Nat} {s : State} (p_host : mm.host = true) (p_cs : mm.cs = true) : outside mm (failFills tpn s) = outside mm s := by
  unfold failFills; (repeat' split) <;> (try simp [p_host, p_cs]) <;> simp (disch := (intros; first | (simp [p_host, p_cs]; done) | ((repeat' split) <;> try simp [p_host, p_cs]))) [*]
@[simp] theorem outside_rewriteUnit {mm : Parts} {tpn lunit : Nat} {data : Mem} {s : State} (p_per : mm.per = true) (p_nand : mm.nand = true) (p_dict : mm.dict = true) (p_freeCtr : mm.freeCtr = true) (p_fmap : mm.fmap = true) (p_groups : mm.groups = true) (p_images : mm.images = true) (p_snaps : mm.snaps = true) (p_media : mm.media = true) : outside mm (rewriteUnit tpn lunit data s) = outside mm s := by
  unfold rewriteUnit; (repeat' split) <;> simp [*]
@[simp] theorem outside_unitFailed {mm : Parts} {lunit : Nat} {keyLost : Bool} {s : State} (p_host : mm.host = true) (p_per : mm.per = true) (p_cs : mm.cs = true) (p_nand : mm.nand = true) (p_cp : mm.cp = true) (p_rmq : mm.rmq = true) (p_dict : mm.dict = true) (p_dir : mm.dir = true) : outside mm (unitFailed lunit keyLost s) = outside mm s := by
  unfold unitFailed; (repeat' split) <;> simp [*]
theorem outside_injectRead {mm : Parts} {ch prot : Nat} {v : UnitVerdict} {s : State} {v0 : UnitVerdict} {t : State} (h : injectRead ch prot v s = some (v0, t)) (p_pres : mm.pres = true) (p_rmq : mm.rmq = true) (p_dict : mm.dict = true) : outside mm t = outside mm s := by
  unfold injectRead at h
  split at h
  · cases h
  · split at h
    · rename_i p hp
      cases h
      exact (outside_fireRecorded hp p_pres p_rmq p_dict)
    · split at h
      · rename_i p hp
        split at h
        · cases h
          exact (outside_fireRecorded hp p_pres p_rmq p_dict)
        · split at h
          · rename_i q hq
            cases h
            exact (outside_fireRecorded hq p_pres p_rmq p_dict).trans (outside_fireRecorded hp p_pres p_rmq p_dict)
          · cases h
            exact (outside_fireRecorded hp p_pres p_rmq p_dict)
      · cases h
@[simp] theorem outside_readLadder {mm : Parts} {lunit : Nat} {e : MapEntry} {v : UnitVerdict} {s : State} (p_host : mm.host = true) (p_per : mm.per = true) (p_cs : mm.cs = true) (p_nand : mm.nand = true) (p_cp : mm.cp = true) (p_rmq : mm.rmq = true) (p_dict : mm.dict = true) (p_freeCtr : mm.freeCtr = true) (p_dir : mm.dir = true) (p_fmap : mm.fmap = true) (p_groups : mm.groups = true) (p_images : mm.images = true) (p_snaps : mm.snaps = true) (p_media : mm.media = true) : outside mm (readLadder lunit e v s) = outside mm s := by
  unfold readLadder; (repeat' split) <;> simp [*]
@[simp] theorem outside_doNandReadDone {mm : Parts} {lunit : Nat} {v : UnitVerdict} {s0 : State} (p_host : mm.host = true) (p_per : mm.per = true) (p_tier : mm.tier = true) (p_cs : mm.cs = true) (p_nand : mm.nand = true) (p_fix : mm.fix = true) (p_cp : mm.cp = true) (p_snap : mm.snap = true) (p_md : mm.md = true) (p_keys : mm.keys = true) (p_pres : mm.pres = true) (p_rmq : mm.rmq = true) (p_rst : mm.rst = true) (p_dict : mm.dict = true) (p_freeCtr : mm.freeCtr = true) (p_outbox : mm.outbox = true) (p_quotas : mm.quotas = true) (p_dir : mm.dir = true) (p_fmap : mm.fmap = true) (p_groups : mm.groups = true) (p_images : mm.images = true) (p_snaps : mm.snaps = true) (p_media : mm.media = true) (p_mode : mm.mode = true) (p_phase : mm.phase = true) : outside mm (doNandReadDone lunit v s0) = outside mm s0 := by
  unfold doNandReadDone; (repeat' split) <;> (try have h_injectRead := outside_injectRead (mm := mm) (by assumption) p_pres p_rmq p_dict) <;> (try simp [p_host, p_per, p_tier, p_cs, p_nand, p_fix, p_cp, p_snap, p_md, p_keys, p_pres, p_rmq, p_rst, p_dict, p_freeCtr, p_outbox, p_quotas, p_dir, p_fmap, p_groups, p_images, p_snaps, p_media, p_mode, p_phase]) <;> (repeat' split) <;> (try have h_injectRead := outside_injectRead (mm := mm) (by assumption) p_pres p_rmq p_dict) <;> (try simp_all) <;> simp (disch := (intros; first | (simp [p_host, p_per, p_tier, p_cs, p_nand, p_fix, p_cp, p_snap, p_md, p_keys, p_pres, p_rmq, p_rst, p_dict, p_freeCtr, p_outbox, p_quotas, p_dir, p_fmap, p_groups, p_images, p_snaps, p_media, p_mode, p_phase]; done) | ((repeat' split) <;> (try have h_injectRead := outside_injectRead (mm := mm) (by assumption) p_pres p_rmq p_dict) <;> try simp [p_host, p_per, p_tier, p_cs, p_nand, p_fix, p_cp, p_snap, p_md, p_keys, p_pres, p_rmq, p_rst, p_dict, p_freeCtr, p_outbox, p_quotas, p_dir, p_fmap, p_groups, p_images, p_snaps, p_media, p_mode, p_phase]))) [*]
@[simp] theorem outside_doTracerVerifyStart {mm : Parts} {channel : Fin 40} {die : Fin 16} {group : Nat} {s : State} (p_nand : mm.nand = true) : outside mm (doTracerVerifyStart channel die group s) = outside mm s := by
  simp [doTracerVerifyStart, *]
@[simp] theorem outside_doTracerVerifyDone {mm : Parts} {channel : Fin 40} {die : Fin 16} {group worst : Nat} {failed : Bool} {plane : Fin 4} {s : State} (p_per : mm.per = true) (p_tier : mm.tier = true) (p_cs : mm.cs = true) (p_nand : mm.nand = true) (p_fix : mm.fix = true) (p_cp : mm.cp = true) (p_rec_ : mm.rec_ = true) (p_snap : mm.snap = true) (p_md : mm.md = true) (p_pres : mm.pres = true) (p_rmq : mm.rmq = true) (p_dict : mm.dict = true) (p_freeCtr : mm.freeCtr = true) (p_quotas : mm.quotas = true) (p_dir : mm.dir = true) (p_fmap : mm.fmap = true) (p_groups : mm.groups = true) (p_images : mm.images = true) (p_snaps : mm.snaps = true) (p_media : mm.media = true) (p_plates : mm.plates = true) (p_twin : mm.twin = true) (p_mode : mm.mode = true) : outside mm (doTracerVerifyDone channel die group worst failed plane s) = outside mm s := by
  simp [doTracerVerifyDone, *]
@[simp] theorem outside_doTracerPatrol {mm : Parts} {channel : Fin 40} {die : Fin 16} {group worst : Nat} {retried : Bool} {s : State} (p_per : mm.per = true) (p_nand : mm.nand = true) (p_dict : mm.dict = true) (p_freeCtr : mm.freeCtr = true) (p_fmap : mm.fmap = true) (p_groups : mm.groups = true) (p_images : mm.images = true) (p_snaps : mm.snaps = true) (p_media : mm.media = true) : outside mm (doTracerPatrol channel die group worst retried s) = outside mm s := by
  simp [doTracerPatrol, *]
@[simp] theorem outside_doGcStallTimeout {mm : Parts} {s : State} (p_md : mm.md = true) : outside mm (doGcStallTimeout s) = outside mm s := by
  simp [doGcStallTimeout, *]

end Sys2Proof.Machine
end

