-- ==== Sys2Proof/Laws/KeepTakeover.lean ====
section
/-! SUPPORT. What each operation of Machine/Takeover.lean leaves unchanged: everything outside the parts its hypotheses name (Outside.lean). -/
namespace Sys2Proof.Machine
open Sys2Proof
set_option linter.unusedSimpArgs false

@[simp] theorem outside_markUnacked {mm : Parts} {s : State} (p_per : mm.per = true) : outside mm (markUnacked s) = outside mm s := by
  simp [markUnacked, *]
@[simp] theorem outside_clearHalves {mm : Parts} {s : State} (p_cp : mm.cp = true) : outside mm (clearHalves s) = outside mm s := by
  simp [clearHalves, *]
@[simp] theorem outside_fetchFailed {mm : Parts} {f : Fetch} {s0 : State} (p_host : mm.host = true) (p_per : mm.per = true) (p_tier : mm.tier = true) (p_cs : mm.cs = true) (p_dram : mm.dram = true) (p_nand : mm.nand = true) (p_fix : mm.fix = true) (p_cp : mm.cp = true) (p_rec_ : mm.rec_ = true) (p_snap : mm.snap = true) (p_md : mm.md = true) (p_pres : mm.pres = true) (p_rmq : mm.rmq = true) (p_dict : mm.dict = true) (p_freeCtr : mm.freeCtr = true) (p_quotas : mm.quotas = true) (p_dir : mm.dir = true) (p_fmap : mm.fmap = true) (p_groups : mm.groups = true) (p_mem : mm.mem = true) (p_media : mm.media = true) (p_plates : mm.plates = true) (p_mode : mm.mode = true) : outside mm (fetchFailed f s0) = outside mm s0 := by
  unfold fetchFailed; (repeat' split) <;> (try simp [p_host, p_per, p_tier, p_cs, p_dram, p_nand, p_fix, p_cp, p_rec_, p_snap, p_md, p_pres, p_rmq, p_dict, p_freeCtr, p_quotas, p_dir, p_fmap, p_groups, p_mem, p_media, p_plates, p_mode]) <;> (repeat' split) <;> (try simp_all) <;> simp (disch := (intros; first | (simp [p_host, p_per, p_tier, p_cs, p_dram, p_nand, p_fix, p_cp, p_rec_, p_snap, p_md, p_pres, p_rmq, p_dict, p_freeCtr, p_quotas, p_dir, p_fmap, p_groups, p_mem, p_media, p_plates, p_mode]; done) | ((repeat' split) <;> try simp [p_host, p_per, p_tier, p_cs, p_dram, p_nand, p_fix, p_cp, p_rec_, p_snap, p_md, p_pres, p_rmq, p_dict, p_freeCtr, p_quotas, p_dir, p_fmap, p_groups, p_mem, p_media, p_plates, p_mode]))) [*]
@[simp] theorem outside_decideWrite {mm : Parts} {w : PendingWrite} {s : State} (p_rc : mm.rc = true) (p_per : mm.per = true) (p_tier : mm.tier = true) (p_cs : mm.cs = true) (p_nand : mm.nand = true) (p_fix : mm.fix = true) (p_cp : mm.cp = true) (p_rec_ : mm.rec_ = true) (p_snap : mm.snap = true) (p_fieth : mm.fieth = true) (p_rmq : mm.rmq = true) (p_dict : mm.dict = true) (p_freeCtr : mm.freeCtr = true) (p_outbox : mm.outbox = true) (p_tenants : mm.tenants = true) (p_hosts : mm.hosts = true) (p_regions : mm.regions = true) (p_keyTable : mm.keyTable = true) (p_quotas : mm.quotas = true) (p_dir : mm.dir = true) (p_fmap : mm.fmap = true) (p_images : mm.images = true) (p_snaps : mm.snaps = true) (p_config : mm.config = true) : outside mm (decideWrite w s) = outside mm s := by
  simp [decideWrite, *]
@[simp] theorem outside_restartBatch {mm : Parts} {o : Op} {s : State} (p_host : mm.host = true) (p_cs : mm.cs = true) : outside mm (restartBatch o s) = outside mm s := by
  unfold restartBatch; (repeat' split) <;> (try simp [p_host, p_cs]) <;> simp (disch := (intros; first | (simp [p_host, p_cs]; done) | ((repeat' split) <;> try simp [p_host, p_cs]))) [*]
@[simp] theorem outside_restartOp {mm : Parts} {o : Op} {s : State} (p_host : mm.host = true) (p_per : mm.per = true) (p_tier : mm.tier = true) (p_cs : mm.cs = true) (p_nand : mm.nand = true) (p_cp : mm.cp = true) (p_rec_ : mm.rec_ = true) (p_snap : mm.snap = true) (p_dict : mm.dict = true) (p_freeCtr : mm.freeCtr = true) (p_quotas : mm.quotas = true) (p_dir : mm.dir = true) : outside mm (restartOp o s) = outside mm s := by
  simp [restartOp, *]
@[simp] theorem outside_promoteShadows {mm : Parts} {s : State} (p_rc : mm.rc = true) : outside mm (promoteShadows s) = outside mm s := by
  simp [promoteShadows, *]
@[simp] theorem outside_soloCommand {mm : Parts} {s : State} (p_rc : mm.rc = true) (p_per : mm.per = true) (p_eng : mm.eng = true) (p_tier : mm.tier = true) (p_cs : mm.cs = true) (p_nand : mm.nand = true) (p_fix : mm.fix = true) (p_cp : mm.cp = true) (p_rec_ : mm.rec_ = true) (p_snap : mm.snap = true) (p_rmq : mm.rmq = true) (p_dict : mm.dict = true) (p_freeCtr : mm.freeCtr = true) (p_outbox : mm.outbox = true) (p_tenants : mm.tenants = true) (p_hosts : mm.hosts = true) (p_regions : mm.regions = true) (p_keyTable : mm.keyTable = true) (p_quotas : mm.quotas = true) (p_dir : mm.dir = true) (p_fmap : mm.fmap = true) (p_images : mm.images = true) (p_snaps : mm.snaps = true) (p_config : mm.config = true) : outside mm (soloCommand s) = outside mm s := by
  unfold soloCommand; (repeat' split) <;> (try simp [p_rc, p_per, p_eng, p_tier, p_cs, p_nand, p_fix, p_cp, p_rec_, p_snap, p_rmq, p_dict, p_freeCtr, p_outbox, p_tenants, p_hosts, p_regions, p_keyTable, p_quotas, p_dir, p_fmap, p_images, p_snaps, p_config]) <;> (repeat' split) <;> (try simp_all) <;> simp (disch := (intros; first | (simp [p_rc, p_per, p_eng, p_tier, p_cs, p_nand, p_fix, p_cp, p_rec_, p_snap, p_rmq, p_dict, p_freeCtr, p_outbox, p_tenants, p_hosts, p_regions, p_keyTable, p_quotas, p_dir, p_fmap, p_images, p_snaps, p_config]; done) | ((repeat' split) <;> try simp [p_rc, p_per, p_eng, p_tier, p_cs, p_nand, p_fix, p_cp, p_rec_, p_snap, p_rmq, p_dict, p_freeCtr, p_outbox, p_tenants, p_hosts, p_regions, p_keyTable, p_quotas, p_dir, p_fmap, p_images, p_snaps, p_config]))) [*]
@[simp] theorem outside_soloStates {mm : Parts} {s : State} (p_rc : mm.rc = true) (p_per : mm.per = true) (p_eng : mm.eng = true) (p_tier : mm.tier = true) (p_cs : mm.cs = true) (p_nand : mm.nand = true) (p_fix : mm.fix = true) (p_cp : mm.cp = true) (p_rec_ : mm.rec_ = true) (p_snap : mm.snap = true) (p_rmq : mm.rmq = true) (p_dict : mm.dict = true) (p_freeCtr : mm.freeCtr = true) (p_outbox : mm.outbox = true) (p_tenants : mm.tenants = true) (p_hosts : mm.hosts = true) (p_regions : mm.regions = true) (p_keyTable : mm.keyTable = true) (p_quotas : mm.quotas = true) (p_dir : mm.dir = true) (p_fmap : mm.fmap = true) (p_images : mm.images = true) (p_snaps : mm.snaps = true) (p_config : mm.config = true) : outside mm (soloStates s) = outside mm s := by
  unfold soloStates; (repeat' split) <;> simp [*]
@[simp] theorem outside_dropTwinPlaces {mm : Parts} {s : State} (p_per : mm.per = true) (p_tier : mm.tier = true) (p_cp : mm.cp = true) (p_dict : mm.dict = true) (p_quotas : mm.quotas = true) (p_dir : mm.dir = true) : outside mm (dropTwinPlaces s) = outside mm s := by
  simp [dropTwinPlaces, *]
@[simp] theorem outside_declare {mm : Parts} {row : Nat} {s : State} (p_host : mm.host = true) (p_rc : mm.rc = true) (p_per : mm.per = true) (p_eng : mm.eng = true) (p_tier : mm.tier = true) (p_cs : mm.cs = true) (p_dram : mm.dram = true) (p_nand : mm.nand = true) (p_fix : mm.fix = true) (p_cp : mm.cp = true) (p_rec_ : mm.rec_ = true) (p_snap : mm.snap = true) (p_md : mm.md = true) (p_fieth : mm.fieth = true) (p_pres : mm.pres = true) (p_rmq : mm.rmq = true) (p_dict : mm.dict = true) (p_freeCtr : mm.freeCtr = true) (p_outbox : mm.outbox = true) (p_tenants : mm.tenants = true) (p_hosts : mm.hosts = true) (p_regions : mm.regions = true) (p_keyTable : mm.keyTable = true) (p_quotas : mm.quotas = true) (p_dir : mm.dir = true) (p_fmap : mm.fmap = true) (p_groups : mm.groups = true) (p_images : mm.images = true) (p_snaps : mm.snaps = true) (p_standing : mm.standing = true) (p_mem : mm.mem = true) (p_media : mm.media = true) (p_plates : mm.plates = true) (p_twin : mm.twin = true) (p_mode : mm.mode = true) (p_config : mm.config = true) : outside mm (declare row s) = outside mm s := by
  unfold declare; (repeat' split) <;> (try simp [p_host, p_rc, p_per, p_eng, p_tier, p_cs, p_dram, p_nand, p_fix, p_cp, p_rec_, p_snap, p_md, p_fieth, p_pres, p_rmq, p_dict, p_freeCtr, p_outbox, p_tenants, p_hosts, p_regions, p_keyTable, p_quotas, p_dir, p_fmap, p_groups, p_images, p_snaps, p_standing, p_mem, p_media, p_plates, p_twin, p_mode, p_config]) <;> simp (disch := (intros; first | (simp [p_host, p_rc, p_per, p_eng, p_tier, p_cs, p_dram, p_nand, p_fix, p_cp, p_rec_, p_snap, p_md, p_fieth, p_pres, p_rmq, p_dict, p_freeCtr, p_outbox, p_tenants, p_hosts, p_regions, p_keyTable, p_quotas, p_dir, p_fmap, p_groups, p_images, p_snaps, p_standing, p_mem, p_media, p_plates, p_twin, p_mode, p_config]; done) | ((repeat' split) <;> try simp [p_host, p_rc, p_per, p_eng, p_tier, p_cs, p_dram, p_nand, p_fix, p_cp, p_rec_, p_snap, p_md, p_fieth, p_pres, p_rmq, p_dict, p_freeCtr, p_outbox, p_tenants, p_hosts, p_regions, p_keyTable, p_quotas, p_dir, p_fmap, p_groups, p_images, p_snaps, p_standing, p_mem, p_media, p_plates, p_twin, p_mode, p_config]))) [*]
@[simp] theorem outside_dropWaiting {mm : Parts} {s : State} (p_host : mm.host = true) : outside mm (dropWaiting s) = outside mm s := by
  simp [dropWaiting, *]
@[simp] theorem outside_standDown {mm : Parts} {row : Nat} {s : State} (p_host : mm.host = true) (p_per : mm.per = true) (p_eng : mm.eng = true) (p_tier : mm.tier = true) (p_nand : mm.nand = true) (p_fix : mm.fix = true) (p_cp : mm.cp = true) (p_snap : mm.snap = true) (p_md : mm.md = true) (p_fieth : mm.fieth = true) (p_pres : mm.pres = true) (p_rmq : mm.rmq = true) (p_rst : mm.rst = true) (p_dict : mm.dict = true) (p_freeCtr : mm.freeCtr = true) (p_outbox : mm.outbox = true) (p_quotas : mm.quotas = true) (p_dir : mm.dir = true) (p_fmap : mm.fmap = true) (p_groups : mm.groups = true) (p_snaps : mm.snaps = true) (p_standing : mm.standing = true) (p_media : mm.media = true) (p_twin : mm.twin = true) (p_mode : mm.mode = true) (p_phase : mm.phase = true) : outside mm (standDown row s) = outside mm s := by
  unfold standDown; (repeat' split) <;> (try simp [p_host, p_per, p_eng, p_tier, p_nand, p_fix, p_cp, p_snap, p_md, p_fieth, p_pres, p_rmq, p_rst, p_dict, p_freeCtr, p_outbox, p_quotas, p_dir, p_fmap, p_groups, p_snaps, p_standing, p_media, p_twin, p_mode, p_phase]) <;> (repeat' split) <;> (try simp_all) <;> simp (disch := (intros; first | (simp [p_host, p_per, p_eng, p_tier, p_nand, p_fix, p_cp, p_snap, p_md, p_fieth, p_pres, p_rmq, p_rst, p_dict, p_freeCtr, p_outbox, p_quotas, p_dir, p_fmap, p_groups, p_snaps, p_standing, p_media, p_twin, p_mode, p_phase]; done) | ((repeat' split) <;> try simp [p_host, p_per, p_eng, p_tier, p_nand, p_fix, p_cp, p_snap, p_md, p_fieth, p_pres, p_rmq, p_rst, p_dict, p_freeCtr, p_outbox, p_quotas, p_dir, p_fmap, p_groups, p_snaps, p_standing, p_media, p_twin, p_mode, p_phase]))) [*]
@[simp] theorem outside_resyncLoss {mm : Parts} {s : State} (p_host : mm.host = true) (p_rc : mm.rc = true) (p_per : mm.per = true) (p_eng : mm.eng = true) (p_tier : mm.tier = true) (p_cs : mm.cs = true) (p_dram : mm.dram = true) (p_nand : mm.nand = true) (p_fix : mm.fix = true) (p_cp : mm.cp = true) (p_rec_ : mm.rec_ = true) (p_snap : mm.snap = true) (p_md : mm.md = true) (p_fieth : mm.fieth = true) (p_pres : mm.pres = true) (p_rmq : mm.rmq = true) (p_rst : mm.rst = true) (p_dict : mm.dict = true) (p_freeCtr : mm.freeCtr = true) (p_outbox : mm.outbox = true) (p_tenants : mm.tenants = true) (p_hosts : mm.hosts = true) (p_regions : mm.regions = true) (p_keyTable : mm.keyTable = true) (p_quotas : mm.quotas = true) (p_dir : mm.dir = true) (p_fmap : mm.fmap = true) (p_groups : mm.groups = true) (p_images : mm.images = true) (p_snaps : mm.snaps = true) (p_standing : mm.standing = true) (p_mem : mm.mem = true) (p_media : mm.media = true) (p_plates : mm.plates = true) (p_twin : mm.twin = true) (p_mode : mm.mode = true) (p_phase : mm.phase = true) (p_config : mm.config = true) : outside mm (resyncLoss s) = outside mm s := by
  simp [resyncLoss, *]
@[simp] theorem outside_lossEvent {mm : Parts} {row : Nat} {s : State} (p_host : mm.host = true) (p_rc : mm.rc = true) (p_per : mm.per = true) (p_eng : mm.eng = true) (p_tier : mm.tier = true) (p_cs : mm.cs = true) (p_dram : mm.dram = true) (p_nand : mm.nand = true) (p_fix : mm.fix = true) (p_cp : mm.cp = true) (p_rec_ : mm.rec_ = true) (p_snap : mm.snap = true) (p_md : mm.md = true) (p_fieth : mm.fieth = true) (p_pres : mm.pres = true) (p_rmq : mm.rmq = true) (p_rst : mm.rst = true) (p_dict : mm.dict = true) (p_freeCtr : mm.freeCtr = true) (p_outbox : mm.outbox = true) (p_tenants : mm.tenants = true) (p_hosts : mm.hosts = true) (p_regions : mm.regions = true) (p_keyTable : mm.keyTable = true) (p_quotas : mm.quotas = true) (p_dir : mm.dir = true) (p_fmap : mm.fmap = true) (p_groups : mm.groups = true) (p_images : mm.images = true) (p_snaps : mm.snaps = true) (p_standing : mm.standing = true) (p_mem : mm.mem = true) (p_media : mm.media = true) (p_plates : mm.plates = true) (p_twin : mm.twin = true) (p_mode : mm.mode = true) (p_phase : mm.phase = true) (p_config : mm.config = true) : outside mm (lossEvent row s) = outside mm s := by
  unfold lossEvent; (repeat' split) <;> simp [*]
@[simp] theorem outside_linkLost {mm : Parts} {s : State} (p_host : mm.host = true) (p_rc : mm.rc = true) (p_per : mm.per = true) (p_eng : mm.eng = true) (p_tier : mm.tier = true) (p_cs : mm.cs = true) (p_dram : mm.dram = true) (p_nand : mm.nand = true) (p_fix : mm.fix = true) (p_cp : mm.cp = true) (p_rec_ : mm.rec_ = true) (p_snap : mm.snap = true) (p_md : mm.md = true) (p_fieth : mm.fieth = true) (p_pres : mm.pres = true) (p_rmq : mm.rmq = true) (p_rst : mm.rst = true) (p_dict : mm.dict = true) (p_freeCtr : mm.freeCtr = true) (p_outbox : mm.outbox = true) (p_tenants : mm.tenants = true) (p_hosts : mm.hosts = true) (p_regions : mm.regions = true) (p_keyTable : mm.keyTable = true) (p_quotas : mm.quotas = true) (p_dir : mm.dir = true) (p_fmap : mm.fmap = true) (p_groups : mm.groups = true) (p_images : mm.images = true) (p_snaps : mm.snaps = true) (p_standing : mm.standing = true) (p_mem : mm.mem = true) (p_media : mm.media = true) (p_plates : mm.plates = true) (p_twin : mm.twin = true) (p_mode : mm.mode = true) (p_phase : mm.phase = true) (p_config : mm.config = true) : outside mm (linkLost s) = outside mm s := by
  simp [linkLost, *]
@[simp] theorem outside_firstShare {mm : Parts} {s : State} (p_cp : mm.cp = true) : outside mm (firstShare s) = outside mm s := by
  simp [firstShare, *]
@[simp] theorem outside_enterCopying {mm : Parts} {s : State} (p_cp : mm.cp = true) : outside mm (enterCopying s) = outside mm s := by
  simp [enterCopying, *]
@[simp] theorem outside_dropOrphanPages {mm : Parts} {s : State} (p_per : mm.per = true) (p_tier : mm.tier = true) (p_cs : mm.cs = true) (p_nand : mm.nand = true) (p_fix : mm.fix = true) (p_rec_ : mm.rec_ = true) (p_snap : mm.snap = true) (p_rmq : mm.rmq = true) (p_dict : mm.dict = true) (p_quotas : mm.quotas = true) (p_dir : mm.dir = true) (p_fmap : mm.fmap = true) (p_images : mm.images = true) (p_snaps : mm.snaps = true) : outside mm (dropOrphanPages s) = outside mm s := by
  simp [dropOrphanPages, *]
@[simp] theorem outside_targetStep {mm : Parts} {s : State} (p_per : mm.per = true) (p_tier : mm.tier = true) (p_cs : mm.cs = true) (p_nand : mm.nand = true) (p_fix : mm.fix = true) (p_cp : mm.cp = true) (p_rec_ : mm.rec_ = true) (p_snap : mm.snap = true) (p_rmq : mm.rmq = true) (p_dict : mm.dict = true) (p_quotas : mm.quotas = true) (p_dir : mm.dir = true) (p_fmap : mm.fmap = true) (p_images : mm.images = true) (p_snaps : mm.snaps = true) : outside mm (targetStep s) = outside mm s := by
  simp [targetStep, *]

end Sys2Proof.Machine
end

