-- ==== Sys2Proof/Laws/KeepFixative.lean ====
section
/-! SUPPORT. What each operation of Machine/Fixative.lean leaves unchanged: everything outside the parts its hypotheses name (Outside.lean). -/
namespace Sys2Proof.Machine
open Sys2Proof
set_option linter.unusedSimpArgs false

@[simp] theorem outside_startImages {mm : Parts} {s : State} (p_fix : mm.fix = true) (p_rec_ : mm.rec_ = true) (p_snap : mm.snap = true) : outside mm (startImages s) = outside mm s := by
  unfold startImages; (repeat' split) <;> (try simp [p_fix, p_rec_, p_snap]) <;> simp (disch := (intros; first | (simp [p_fix, p_rec_, p_snap]; done) | ((repeat' split) <;> try simp [p_fix, p_rec_, p_snap]))) [*]
@[simp] theorem outside_dropImage {mm : Parts} {t : Nat} {s : State} (p_per : mm.per = true) (p_fix : mm.fix = true) (p_cp : mm.cp = true) (p_dict : mm.dict = true) (p_images : mm.images = true) : outside mm (dropImage t s) = outside mm s := by
  simp [dropImage, *]
@[simp] theorem outside_closePassGroups {mm : Parts} {s : State} (p_per : mm.per = true) (p_groups : mm.groups = true) : outside mm (closePassGroups s) = outside mm s := by
  simp [closePassGroups, *]
@[simp] theorem outside_passEnd {mm : Parts} {s : State} (p_per : mm.per = true) (p_nand : mm.nand = true) (p_fix : mm.fix = true) (p_rec_ : mm.rec_ = true) (p_md : mm.md = true) (p_pres : mm.pres = true) (p_rmq : mm.rmq = true) (p_dict : mm.dict = true) (p_freeCtr : mm.freeCtr = true) (p_fmap : mm.fmap = true) (p_groups : mm.groups = true) (p_media : mm.media = true) (p_plates : mm.plates = true) (p_mode : mm.mode = true) : outside mm (passEnd s) = outside mm s := by
  simp [passEnd, *]
@[simp] theorem outside_beginPass {mm : Parts} {s : State} (p_per : mm.per = true) (p_fix : mm.fix = true) (p_cp : mm.cp = true) (p_rec_ : mm.rec_ = true) (p_snap : mm.snap = true) (p_dict : mm.dict = true) (p_images : mm.images = true) : outside mm (beginPass s) = outside mm s := by
  simp [beginPass, *]
@[simp] theorem outside_passStep {mm : Parts} {s : State} (p_per : mm.per = true) (p_tier : mm.tier = true) (p_cs : mm.cs = true) (p_nand : mm.nand = true) (p_fix : mm.fix = true) (p_cp : mm.cp = true) (p_rec_ : mm.rec_ = true) (p_snap : mm.snap = true) (p_md : mm.md = true) (p_pres : mm.pres = true) (p_rmq : mm.rmq = true) (p_dict : mm.dict = true) (p_freeCtr : mm.freeCtr = true) (p_quotas : mm.quotas = true) (p_dir : mm.dir = true) (p_fmap : mm.fmap = true) (p_groups : mm.groups = true) (p_images : mm.images = true) (p_snaps : mm.snaps = true) (p_media : mm.media = true) (p_plates : mm.plates = true) (p_mode : mm.mode = true) : outside mm (passStep s) = outside mm s := by
  simp [passStep, *]
@[simp] theorem outside_doJournalTick {mm : Parts} {s : State} (p_per : mm.per = true) (p_tier : mm.tier = true) (p_cs : mm.cs = true) (p_nand : mm.nand = true) (p_fix : mm.fix = true) (p_cp : mm.cp = true) (p_rec_ : mm.rec_ = true) (p_snap : mm.snap = true) (p_md : mm.md = true) (p_pres : mm.pres = true) (p_rmq : mm.rmq = true) (p_dict : mm.dict = true) (p_freeCtr : mm.freeCtr = true) (p_quotas : mm.quotas = true) (p_dir : mm.dir = true) (p_fmap : mm.fmap = true) (p_groups : mm.groups = true) (p_images : mm.images = true) (p_snaps : mm.snaps = true) (p_media : mm.media = true) (p_plates : mm.plates = true) (p_mode : mm.mode = true) : outside mm (doJournalTick s) = outside mm s := by
  simp [doJournalTick, *]
@[simp] theorem outside_doImageEligible {mm : Parts} {tpn : Nat} {s : State} (p_fix : mm.fix = true) (p_rec_ : mm.rec_ = true) (p_snap : mm.snap = true) : outside mm (doImageEligible tpn s) = outside mm s := by
  simp [doImageEligible, *]
@[simp] theorem outside_countPressure {mm : Parts} {s : State} (p_fix : mm.fix = true) (p_rmq : mm.rmq = true) : outside mm (countPressure s) = outside mm s := by
  simp [countPressure, *]
@[simp] theorem outside_answerImage {mm : Parts} {tpn : Nat} {s : State} (p_cp : mm.cp = true) (p_dict : mm.dict = true) : outside mm (answerImage tpn s) = outside mm s := by
  simp [answerImage, *]
@[simp] theorem outside_doJournalImageDone {mm : Parts} {tpn : Nat} {ok : Bool} {s : State} (p_per : mm.per = true) (p_tier : mm.tier = true) (p_cs : mm.cs = true) (p_nand : mm.nand = true) (p_fix : mm.fix = true) (p_cp : mm.cp = true) (p_rec_ : mm.rec_ = true) (p_snap : mm.snap = true) (p_md : mm.md = true) (p_pres : mm.pres = true) (p_rmq : mm.rmq = true) (p_dict : mm.dict = true) (p_freeCtr : mm.freeCtr = true) (p_quotas : mm.quotas = true) (p_dir : mm.dir = true) (p_fmap : mm.fmap = true) (p_groups : mm.groups = true) (p_images : mm.images = true) (p_snaps : mm.snaps = true) (p_media : mm.media = true) (p_plates : mm.plates = true) (p_mode : mm.mode = true) : outside mm (doJournalImageDone tpn ok s) = outside mm s := by
  unfold doJournalImageDone; (repeat' split) <;> (try have h_programImage := outside_programImage (mm := mm) (by assumption) p_per p_nand p_dict p_freeCtr p_fmap p_groups p_media) <;> simp_all
@[simp] theorem outside_holdupCheck {mm : Parts} {s : State} (p_per : mm.per = true) (p_nand : mm.nand = true) (p_cp : mm.cp = true) (p_md : mm.md = true) (p_pres : mm.pres = true) (p_rmq : mm.rmq = true) (p_dict : mm.dict = true) (p_freeCtr : mm.freeCtr = true) (p_fmap : mm.fmap = true) (p_groups : mm.groups = true) (p_media : mm.media = true) (p_twin : mm.twin = true) (p_mode : mm.mode = true) : outside mm (holdupCheck s) = outside mm s := by
  simp [holdupCheck, *]
@[simp] theorem outside_budgetChanged {mm : Parts} {s : State} (p_per : mm.per = true) (p_nand : mm.nand = true) (p_cp : mm.cp = true) (p_md : mm.md = true) (p_pres : mm.pres = true) (p_rmq : mm.rmq = true) (p_dict : mm.dict = true) (p_freeCtr : mm.freeCtr = true) (p_fmap : mm.fmap = true) (p_groups : mm.groups = true) (p_media : mm.media = true) (p_twin : mm.twin = true) (p_mode : mm.mode = true) : outside mm (budgetChanged s) = outside mm s := by
  simp [budgetChanged, *]
@[simp] theorem outside_doBudgetWrite {mm : Parts} {profile gib : Nat} {s : State} (p_per : mm.per = true) (p_nand : mm.nand = true) (p_cp : mm.cp = true) (p_md : mm.md = true) (p_fieth : mm.fieth = true) (p_pres : mm.pres = true) (p_rmq : mm.rmq = true) (p_dict : mm.dict = true) (p_freeCtr : mm.freeCtr = true) (p_outbox : mm.outbox = true) (p_fmap : mm.fmap = true) (p_groups : mm.groups = true) (p_media : mm.media = true) (p_twin : mm.twin = true) (p_mode : mm.mode = true) (p_config : mm.config = true) : outside mm (doBudgetWrite profile gib s) = outside mm s := by
  simp [doBudgetWrite, *]
@[simp] theorem outside_doHoldupEnergyWrite {mm : Parts} {joules : Nat} {s : State} (p_per : mm.per = true) (p_nand : mm.nand = true) (p_fix : mm.fix = true) (p_cp : mm.cp = true) (p_md : mm.md = true) (p_fieth : mm.fieth = true) (p_pres : mm.pres = true) (p_rmq : mm.rmq = true) (p_dict : mm.dict = true) (p_freeCtr : mm.freeCtr = true) (p_outbox : mm.outbox = true) (p_fmap : mm.fmap = true) (p_groups : mm.groups = true) (p_media : mm.media = true) (p_twin : mm.twin = true) (p_mode : mm.mode = true) (p_config : mm.config = true) : outside mm (doHoldupEnergyWrite joules s) = outside mm s := by
  simp [doHoldupEnergyWrite, *]
@[simp] theorem outside_doHoldupReportTimeout {mm : Parts} {s : State} (p_per : mm.per = true) (p_nand : mm.nand = true) (p_fix : mm.fix = true) (p_cp : mm.cp = true) (p_md : mm.md = true) (p_pres : mm.pres = true) (p_rmq : mm.rmq = true) (p_dict : mm.dict = true) (p_freeCtr : mm.freeCtr = true) (p_fmap : mm.fmap = true) (p_groups : mm.groups = true) (p_media : mm.media = true) (p_twin : mm.twin = true) (p_mode : mm.mode = true) : outside mm (doHoldupReportTimeout s) = outside mm s := by
  simp [doHoldupReportTimeout, *]
@[simp] theorem outside_doPfailFall {mm : Parts} {cycles : Nat} {s : State} (p_per : mm.per = true) (p_tier : mm.tier = true) (p_nand : mm.nand = true) (p_fix : mm.fix = true) (p_cp : mm.cp = true) (p_snap : mm.snap = true) (p_md : mm.md = true) (p_pres : mm.pres = true) (p_rmq : mm.rmq = true) (p_rst : mm.rst = true) (p_dict : mm.dict = true) (p_freeCtr : mm.freeCtr = true) (p_quotas : mm.quotas = true) (p_dir : mm.dir = true) (p_fmap : mm.fmap = true) (p_groups : mm.groups = true) (p_snaps : mm.snaps = true) (p_media : mm.media = true) (p_mode : mm.mode = true) (p_phase : mm.phase = true) : outside mm (doPfailFall cycles s) = outside mm s := by
  simp [doPfailFall, *]
@[simp] theorem outside_abandonOps {mm : Parts} {changesOnly : Bool} {s : State} (p_host : mm.host = true) (p_rec_ : mm.rec_ = true) : outside mm (abandonOps changesOnly s) = outside mm s := by
  simp [abandonOps, *]
@[simp] theorem outside_yieldTo {mm : Parts} {sub : Nat} {s : State} (p_per : mm.per = true) (p_cp : mm.cp = true) (p_dict : mm.dict = true) (p_standing : mm.standing = true) : outside mm (yieldTo sub s) = outside mm s := by
  simp [yieldTo, *]
@[simp] theorem outside_stopPass {mm : Parts} {s : State} (p_fix : mm.fix = true) : outside mm (stopPass s) = outside mm s := by
  simp [stopPass, *]
@[simp] theorem outside_stopDies {mm : Parts} {s : State} (p_nand : mm.nand = true) : outside mm (stopDies s) = outside mm s := by
  simp [stopDies, *]
@[simp] theorem outside_abandonMoves {mm : Parts} {s : State} (p_per : mm.per = true) (p_tier : mm.tier = true) (p_cs : mm.cs = true) (p_dict : mm.dict = true) (p_dir : mm.dir = true) : outside mm (abandonMoves s) = outside mm s := by
  simp [abandonMoves, *]
@[simp] theorem outside_doQuiesceDeadline {mm : Parts} {s : State} (p_host : mm.host = true) (p_per : mm.per = true) (p_tier : mm.tier = true) (p_cs : mm.cs = true) (p_nand : mm.nand = true) (p_fix : mm.fix = true) (p_cp : mm.cp = true) (p_rec_ : mm.rec_ = true) (p_md : mm.md = true) (p_pres : mm.pres = true) (p_rmq : mm.rmq = true) (p_dict : mm.dict = true) (p_freeCtr : mm.freeCtr = true) (p_dir : mm.dir = true) (p_fmap : mm.fmap = true) (p_groups : mm.groups = true) (p_standing : mm.standing = true) (p_media : mm.media = true) (p_mode : mm.mode = true) : outside mm (doQuiesceDeadline s) = outside mm s := by
  simp [doQuiesceDeadline, *]
@[simp] theorem outside_doDumpSealed {mm : Parts} {duration units : Nat} {s : State} (p_per : mm.per = true) (p_fix : mm.fix = true) (p_rec_ : mm.rec_ = true) (p_rmq : mm.rmq = true) (p_rst : mm.rst = true) (p_dict : mm.dict = true) (p_plates : mm.plates = true) (p_phase : mm.phase = true) : outside mm (doDumpSealed duration units s) = outside mm s := by
  simp [doDumpSealed, *]
@[simp] theorem outside_doPfailRise {mm : Parts} {s : State} (p_rec_ : mm.rec_ = true) (p_rst : mm.rst = true) (p_phase : mm.phase = true) : outside mm (doPfailRise s) = outside mm s := by
  simp [doPfailRise, *]

end Sys2Proof.Machine
end

