-- ==== Sys2Proof/Laws/KeepCounterproof.lean ====
section
/-! SUPPORT. What each operation of Machine/Counterproof.lean leaves unchanged: everything outside the parts its hypotheses name (Outside.lean). -/
namespace Sys2Proof.Machine
open Sys2Proof
set_option linter.unusedSimpArgs false

@[simp] theorem outside_sendAck {mm : Parts} {half : Nat} {nak : Bool} {s : State} (p_cp : mm.cp = true) (p_outbox : mm.outbox = true) : outside mm (sendAck half nak s) = outside mm s := by
  simp [sendAck, *]
@[simp] theorem outside_reportHeld {mm : Parts} {half : Nat} {s : State} (p_cp : mm.cp = true) (p_outbox : mm.outbox = true) : outside mm (reportHeld half s) = outside mm s := by
  simp [reportHeld, *]
@[simp] theorem outside_doFrameCloseTimer {mm : Parts} {half : Fin 2} {s0 : State} (p_host : mm.host = true) (p_rc : mm.rc = true) (p_per : mm.per = true) (p_eng : mm.eng = true) (p_tier : mm.tier = true) (p_cs : mm.cs = true) (p_dram : mm.dram = true) (p_nand : mm.nand = true) (p_fix : mm.fix = true) (p_cp : mm.cp = true) (p_rec_ : mm.rec_ = true) (p_snap : mm.snap = true) (p_md : mm.md = true) (p_keys : mm.keys = true) (p_fieth : mm.fieth = true) (p_pres : mm.pres = true) (p_rmq : mm.rmq = true) (p_rst : mm.rst = true) (p_dict : mm.dict = true) (p_freeCtr : mm.freeCtr = true) (p_outbox : mm.outbox = true) (p_tenants : mm.tenants = true) (p_hosts : mm.hosts = true) (p_regions : mm.regions = true) (p_keyTable : mm.keyTable = true) (p_quotas : mm.quotas = true) (p_dir : mm.dir = true) (p_fmap : mm.fmap = true) (p_groups : mm.groups = true) (p_images : mm.images = true) (p_snaps : mm.snaps = true) (p_standing : mm.standing = true) (p_mem : mm.mem = true) (p_media : mm.media = true) (p_plates : mm.plates = true) (p_twin : mm.twin = true) (p_mode : mm.mode = true) (p_phase : mm.phase = true) (p_config : mm.config = true) : outside mm (doFrameCloseTimer half s0) = outside mm s0 := by
  unfold doFrameCloseTimer; dsimp only; (repeat' split) <;> (try have h_fire := outside_fire (mm := mm) (by assumption) p_pres p_rmq p_dict) <;> (try have h_fireRecorded := outside_fireRecorded (mm := mm) (by assumption) p_pres p_rmq p_dict) <;> (try simp_all) <;> (repeat' split) <;> (try have h_fire := outside_fire (mm := mm) (by assumption) p_pres p_rmq p_dict) <;> (try have h_fireRecorded := outside_fireRecorded (mm := mm) (by assumption) p_pres p_rmq p_dict) <;> (try simp_all) <;> simp (disch := (intros; first | (simp_all; done) | ((repeat' split) <;> (try have h_fire := outside_fire (mm := mm) (by assumption) p_pres p_rmq p_dict) <;> (try have h_fireRecorded := outside_fireRecorded (mm := mm) (by assumption) p_pres p_rmq p_dict) <;> try simp_all))) [*]
@[simp] theorem outside_resendFrames {mm : Parts} {half : Nat} {s : State} (p_cp : mm.cp = true) (p_dict : mm.dict = true) (p_outbox : mm.outbox = true) : outside mm (resendFrames half s) = outside mm s := by
  simp [resendFrames, *]
@[simp] theorem outside_doResendTimeout {mm : Parts} {half : Fin 2} {s : State} (p_cp : mm.cp = true) (p_dict : mm.dict = true) (p_outbox : mm.outbox = true) : outside mm (doResendTimeout half s) = outside mm s := by
  simp [doResendTimeout, *]
@[simp] theorem outside_doHeartbeatSendTimer {mm : Parts} {half : Fin 2} {s : State} (p_cp : mm.cp = true) (p_outbox : mm.outbox = true) : outside mm (doHeartbeatSendTimer half s) = outside mm s := by
  simp [doHeartbeatSendTimer, *]
@[simp] theorem outside_syncStep {mm : Parts} {s : State} (p_cp : mm.cp = true) (p_dict : mm.dict = true) : outside mm (syncStep s) = outside mm s := by
  simp [syncStep, *]
@[simp] theorem outside_enterSync {mm : Parts} {s : State} (p_per : mm.per = true) (p_nand : mm.nand = true) (p_cp : mm.cp = true) (p_md : mm.md = true) (p_pres : mm.pres = true) (p_rmq : mm.rmq = true) (p_dict : mm.dict = true) (p_freeCtr : mm.freeCtr = true) (p_fmap : mm.fmap = true) (p_groups : mm.groups = true) (p_standing : mm.standing = true) (p_media : mm.media = true) (p_twin : mm.twin = true) (p_mode : mm.mode = true) : outside mm (enterSync s) = outside mm s := by
  simp [enterSync, *]
@[simp] theorem outside_syncDone {mm : Parts} {s : State} (p_per : mm.per = true) (p_nand : mm.nand = true) (p_cp : mm.cp = true) (p_md : mm.md = true) (p_pres : mm.pres = true) (p_rmq : mm.rmq = true) (p_dict : mm.dict = true) (p_freeCtr : mm.freeCtr = true) (p_fmap : mm.fmap = true) (p_groups : mm.groups = true) (p_standing : mm.standing = true) (p_media : mm.media = true) (p_twin : mm.twin = true) (p_mode : mm.mode = true) : outside mm (syncDone s) = outside mm s := by
  simp [syncDone, *]
@[simp] theorem outside_setSyncGen {mm : Parts} {s : State} (p_per : mm.per = true) : outside mm (setSyncGen s) = outside mm s := by
  simp [setSyncGen, *]
@[simp] theorem outside_copyPage {mm : Parts} {tpn : Nat} {s : State} (p_cp : mm.cp = true) (p_dict : mm.dict = true) : outside mm (copyPage tpn s) = outside mm s := by
  simp [copyPage, *]
@[simp] theorem outside_doResyncCopyBlock {mm : Parts} {s : State} (p_cp : mm.cp = true) (p_rec_ : mm.rec_ = true) (p_snap : mm.snap = true) (p_dict : mm.dict = true) : outside mm (doResyncCopyBlock s) = outside mm s := by
  unfold doResyncCopyBlock; (repeat' split) <;> (try simp [p_cp, p_rec_, p_snap, p_dict]) <;> (repeat' split) <;> (try simp_all) <;> simp (disch := (intros; first | (simp [p_cp, p_rec_, p_snap, p_dict]; done) | ((repeat' split) <;> try simp [p_cp, p_rec_, p_snap, p_dict]))) [*]
@[simp] theorem outside_ackTo {mm : Parts} {half ackFsn : Nat} {nak : Bool} {s : State} (p_cp : mm.cp = true) (p_dict : mm.dict = true) (p_outbox : mm.outbox = true) : outside mm (ackTo half ackFsn nak s) = outside mm s := by
  unfold ackTo; (repeat' split) <;> (try simp [p_cp, p_dict, p_outbox]) <;> (repeat' split) <;> (try simp_all) <;> simp (disch := (intros; first | (simp [p_cp, p_dict, p_outbox]; done) | ((repeat' split) <;> try simp [p_cp, p_dict, p_outbox]))) [*]
@[simp] theorem outside_noteHead {mm : Parts} {h : FrameHead} {s : State} (p_cp : mm.cp = true) : outside mm (noteHead h s) = outside mm s := by
  simp [noteHead, *]
@[simp] theorem outside_injectFrame {mm : Parts} {h : FrameHead} {s : State} (p_pres : mm.pres = true) (p_rmq : mm.rmq = true) (p_dict : mm.dict = true) : outside mm (injectFrame h s).2.2 = outside mm s := by
  unfold injectFrame; (repeat' split) <;> (try have h_fire := outside_fire (mm := mm) (by assumption) p_pres p_rmq p_dict) <;> (try have h_fireRecorded := outside_fireRecorded (mm := mm) (by assumption) p_pres p_rmq p_dict) <;> simp_all
@[simp] theorem outside_doDataFrame {mm : Parts} {h : FrameHead} {recs : List CpRec} {s0 : State} (p_host : mm.host = true) (p_rc : mm.rc = true) (p_per : mm.per = true) (p_eng : mm.eng = true) (p_tier : mm.tier = true) (p_cs : mm.cs = true) (p_dram : mm.dram = true) (p_nand : mm.nand = true) (p_fix : mm.fix = true) (p_cp : mm.cp = true) (p_rec_ : mm.rec_ = true) (p_snap : mm.snap = true) (p_md : mm.md = true) (p_keys : mm.keys = true) (p_fieth : mm.fieth = true) (p_pres : mm.pres = true) (p_rmq : mm.rmq = true) (p_rst : mm.rst = true) (p_dict : mm.dict = true) (p_freeCtr : mm.freeCtr = true) (p_outbox : mm.outbox = true) (p_tenants : mm.tenants = true) (p_hosts : mm.hosts = true) (p_regions : mm.regions = true) (p_keyTable : mm.keyTable = true) (p_quotas : mm.quotas = true) (p_dir : mm.dir = true) (p_fmap : mm.fmap = true) (p_groups : mm.groups = true) (p_images : mm.images = true) (p_snaps : mm.snaps = true) (p_standing : mm.standing = true) (p_mem : mm.mem = true) (p_media : mm.media = true) (p_plates : mm.plates = true) (p_twin : mm.twin = true) (p_mode : mm.mode = true) (p_phase : mm.phase = true) (p_config : mm.config = true) : outside mm (doDataFrame h recs s0) = outside mm s0 := by
  simp [doDataFrame, *]
@[simp] theorem outside_doAckFrame {mm : Parts} {h : FrameHead} {s : State} (p_cp : mm.cp = true) (p_dict : mm.dict = true) (p_outbox : mm.outbox = true) : outside mm (doAckFrame h s) = outside mm s := by
  simp [doAckFrame, *]
@[simp] theorem outside_doHeartbeatFrame {mm : Parts} {h : FrameHead} {b : StatusBody} {s : State} (p_cp : mm.cp = true) (p_dict : mm.dict = true) (p_outbox : mm.outbox = true) : outside mm (doHeartbeatFrame h b s) = outside mm s := by
  simp [doHeartbeatFrame, *]
@[simp] theorem outside_withRec {mm : Parts} {half : Fin 2} {strict : Bool} {sel : CpRec → Bool} {f : RxRec → State → State} {s : State} (p_cp : mm.cp = true) (p_dict : mm.dict = true) (p_outbox : mm.outbox = true) (hf : ∀ x0 a, outside mm (f x0 a) = outside mm a) : outside mm (withRec half strict sel f s) = outside mm s := by
  unfold withRec; (repeat' split) <;> simp [*]
@[simp] theorem outside_imageForTwin {mm : Parts} {tpn : Nat} {s : State} (p_fix : mm.fix = true) (p_cp : mm.cp = true) (p_rec_ : mm.rec_ = true) (p_snap : mm.snap = true) (p_dict : mm.dict = true) : outside mm (imageForTwin tpn s) = outside mm s := by
  unfold imageForTwin; (repeat' split) <;> simp [*]
@[simp] theorem outside_imageStep {mm : Parts} {s : State} (p_fix : mm.fix = true) (p_cp : mm.cp = true) (p_rec_ : mm.rec_ = true) (p_snap : mm.snap = true) (p_dict : mm.dict = true) : outside mm (imageStep s) = outside mm s := by
  simp [imageStep, *]
@[simp] theorem outside_mirrorPut {mm : Parts} {line : Nat} {f : Mem → Mem} {clean : Bool} {s : State} (p_per : mm.per = true) (p_cs : mm.cs = true) (p_dram : mm.dram = true) (p_nand : mm.nand = true) (p_fix : mm.fix = true) (p_cp : mm.cp = true) (p_snap : mm.snap = true) (p_rmq : mm.rmq = true) (p_dict : mm.dict = true) (p_quotas : mm.quotas = true) (p_dir : mm.dir = true) (p_snaps : mm.snaps = true) (p_mem : mm.mem = true) : outside mm (mirrorPut line f clean s) = outside mm s := by
  unfold mirrorPut; (repeat' split) <;> (try have h_install := outside_install (mm := mm) (by assumption) p_cs p_nand) <;> (try simp [p_per, p_cs, p_dram, p_nand, p_fix, p_cp, p_snap, p_rmq, p_dict, p_quotas, p_dir, p_snaps, p_mem]) <;> (repeat' split) <;> (try have h_install := outside_install (mm := mm) (by assumption) p_cs p_nand) <;> (try simp_all) <;> simp (disch := (intros; first | (simp [p_per, p_cs, p_dram, p_nand, p_fix, p_cp, p_snap, p_rmq, p_dict, p_quotas, p_dir, p_snaps, p_mem]; done) | ((repeat' split) <;> (try have h_install := outside_install (mm := mm) (by assumption) p_cs p_nand) <;> try simp [p_per, p_cs, p_dram, p_nand, p_fix, p_cp, p_snap, p_rmq, p_dict, p_quotas, p_dir, p_snaps, p_mem]))) [*]
@[simp] theorem outside_lineRecord {mm : Parts} {half : Fin 2} {sel : CpRec → Bool} {whole : Bool} {f : CpRec → State → State} {s : State} (p_per : mm.per = true) (p_fix : mm.fix = true) (p_cp : mm.cp = true) (p_rec_ : mm.rec_ = true) (p_snap : mm.snap = true) (p_dict : mm.dict = true) (p_outbox : mm.outbox = true) (hf : ∀ x0 a, outside mm (f x0 a) = outside mm a) : outside mm (lineRecord half sel whole f s) = outside mm s := by
  unfold lineRecord; (repeat' split) <;> simp [*]
@[simp] theorem outside_unDiscard {mm : Parts} {tpn : Nat} {s : State} (p_cp : mm.cp = true) : outside mm (unDiscard tpn s) = outside mm s := by
  simp [unDiscard, *]
@[simp] theorem outside_shadowApplied {mm : Parts} {qpn psn : Nat} {result : Option Nat} {s : State} (p_rc : mm.rc = true) : outside mm (shadowApplied qpn psn result s) = outside mm s := by
  simp [shadowApplied, *]
@[simp] theorem outside_doWriteRecord {mm : Parts} {half : Fin 2} {s : State} (p_rc : mm.rc = true) (p_per : mm.per = true) (p_cs : mm.cs = true) (p_dram : mm.dram = true) (p_nand : mm.nand = true) (p_fix : mm.fix = true) (p_cp : mm.cp = true) (p_rec_ : mm.rec_ = true) (p_snap : mm.snap = true) (p_rmq : mm.rmq = true) (p_dict : mm.dict = true) (p_outbox : mm.outbox = true) (p_quotas : mm.quotas = true) (p_dir : mm.dir = true) (p_snaps : mm.snaps = true) (p_mem : mm.mem = true) : outside mm (doWriteRecord half s) = outside mm s := by
  unfold doWriteRecord; (repeat' split) <;> (try simp [p_rc, p_per, p_cs, p_dram, p_nand, p_fix, p_cp, p_rec_, p_snap, p_rmq, p_dict, p_outbox, p_quotas, p_dir, p_snaps, p_mem]) <;> simp (disch := (intros; first | (simp [p_rc, p_per, p_cs, p_dram, p_nand, p_fix, p_cp, p_rec_, p_snap, p_rmq, p_dict, p_outbox, p_quotas, p_dir, p_snaps, p_mem]; done) | ((repeat' split) <;> try simp [p_rc, p_per, p_cs, p_dram, p_nand, p_fix, p_cp, p_rec_, p_snap, p_rmq, p_dict, p_outbox, p_quotas, p_dir, p_snaps, p_mem]))) [*]
@[simp] theorem outside_doZeroRecord {mm : Parts} {half : Fin 2} {s : State} (p_per : mm.per = true) (p_cs : mm.cs = true) (p_dram : mm.dram = true) (p_nand : mm.nand = true) (p_fix : mm.fix = true) (p_cp : mm.cp = true) (p_rec_ : mm.rec_ = true) (p_snap : mm.snap = true) (p_rmq : mm.rmq = true) (p_dict : mm.dict = true) (p_outbox : mm.outbox = true) (p_quotas : mm.quotas = true) (p_dir : mm.dir = true) (p_snaps : mm.snaps = true) (p_mem : mm.mem = true) : outside mm (doZeroRecord half s) = outside mm s := by
  unfold doZeroRecord; (repeat' split) <;> (try simp [p_per, p_cs, p_dram, p_nand, p_fix, p_cp, p_rec_, p_snap, p_rmq, p_dict, p_outbox, p_quotas, p_dir, p_snaps, p_mem]) <;> simp (disch := (intros; first | (simp [p_per, p_cs, p_dram, p_nand, p_fix, p_cp, p_rec_, p_snap, p_rmq, p_dict, p_outbox, p_quotas, p_dir, p_snaps, p_mem]; done) | ((repeat' split) <;> try simp [p_per, p_cs, p_dram, p_nand, p_fix, p_cp, p_rec_, p_snap, p_rmq, p_dict, p_outbox, p_quotas, p_dir, p_snaps, p_mem]))) [*]
@[simp] theorem outside_mirrorEntry {mm : Parts} {t : Token} {v : RespVal} {s : State} (p_host : mm.host = true) (p_replay : mm.replay = true) : outside mm (mirrorEntry t v s) = outside mm s := by
  simp [mirrorEntry, *]
@[simp] theorem outside_resultHere {mm : Parts} {host seq prior : Nat} {s : State} (p_host : mm.host = true) : outside mm (resultHere host seq prior s) = outside mm s := by
  simp [resultHere, *]
@[simp] theorem outside_doAtomicRecord {mm : Parts} {half : Fin 2} {s : State} (p_host : mm.host = true) (p_rc : mm.rc = true) (p_per : mm.per = true) (p_cs : mm.cs = true) (p_dram : mm.dram = true) (p_nand : mm.nand = true) (p_fix : mm.fix = true) (p_cp : mm.cp = true) (p_rec_ : mm.rec_ = true) (p_snap : mm.snap = true) (p_rmq : mm.rmq = true) (p_dict : mm.dict = true) (p_outbox : mm.outbox = true) (p_replay : mm.replay = true) (p_quotas : mm.quotas = true) (p_dir : mm.dir = true) (p_snaps : mm.snaps = true) (p_mem : mm.mem = true) : outside mm (doAtomicRecord half s) = outside mm s := by
  unfold doAtomicRecord; (repeat' split) <;> (try simp [p_host, p_rc, p_per, p_cs, p_dram, p_nand, p_fix, p_cp, p_rec_, p_snap, p_rmq, p_dict, p_outbox, p_replay, p_quotas, p_dir, p_snaps, p_mem]) <;> simp (disch := (intros; first | (simp [p_host, p_rc, p_per, p_cs, p_dram, p_nand, p_fix, p_cp, p_rec_, p_snap, p_rmq, p_dict, p_outbox, p_replay, p_quotas, p_dir, p_snaps, p_mem]; done) | ((repeat' split) <;> try simp [p_host, p_rc, p_per, p_cs, p_dram, p_nand, p_fix, p_cp, p_rec_, p_snap, p_rmq, p_dict, p_outbox, p_replay, p_quotas, p_dir, p_snaps, p_mem]))) [*]
@[simp] theorem outside_doCopyRecord {mm : Parts} {half : Fin 2} {s : State} (p_per : mm.per = true) (p_cs : mm.cs = true) (p_dram : mm.dram = true) (p_nand : mm.nand = true) (p_fix : mm.fix = true) (p_cp : mm.cp = true) (p_rec_ : mm.rec_ = true) (p_snap : mm.snap = true) (p_rmq : mm.rmq = true) (p_dict : mm.dict = true) (p_outbox : mm.outbox = true) (p_quotas : mm.quotas = true) (p_dir : mm.dir = true) (p_snaps : mm.snaps = true) (p_mem : mm.mem = true) : outside mm (doCopyRecord half s) = outside mm s := by
  unfold doCopyRecord; (repeat' split) <;> (try simp [p_per, p_cs, p_dram, p_nand, p_fix, p_cp, p_rec_, p_snap, p_rmq, p_dict, p_outbox, p_quotas, p_dir, p_snaps, p_mem]) <;> simp (disch := (intros; first | (simp [p_per, p_cs, p_dram, p_nand, p_fix, p_cp, p_rec_, p_snap, p_rmq, p_dict, p_outbox, p_quotas, p_dir, p_snaps, p_mem]; done) | ((repeat' split) <;> try simp [p_per, p_cs, p_dram, p_nand, p_fix, p_cp, p_rec_, p_snap, p_rmq, p_dict, p_outbox, p_quotas, p_dir, p_snaps, p_mem]))) [*]
@[simp] theorem outside_doFetchRecord {mm : Parts} {half : Fin 2} {readable : Bool} {s : State} (p_cp : mm.cp = true) (p_dict : mm.dict = true) (p_outbox : mm.outbox = true) : outside mm (doFetchRecord half readable s) = outside mm s := by
  unfold doFetchRecord; (repeat' split) <;> (try simp [p_cp, p_dict, p_outbox]) <;> simp (disch := (intros; first | (simp [p_cp, p_dict, p_outbox]; done) | ((repeat' split) <;> try simp [p_cp, p_dict, p_outbox]))) [*]
@[simp] theorem outside_fetched {mm : Parts} {f : Fetch} {line : Nat} {data : Mem} {s : State} (p_per : mm.per = true) (p_tier : mm.tier = true) (p_cs : mm.cs = true) (p_dram : mm.dram = true) (p_nand : mm.nand = true) (p_fix : mm.fix = true) (p_cp : mm.cp = true) (p_rec_ : mm.rec_ = true) (p_snap : mm.snap = true) (p_md : mm.md = true) (p_pres : mm.pres = true) (p_rmq : mm.rmq = true) (p_dict : mm.dict = true) (p_freeCtr : mm.freeCtr = true) (p_quotas : mm.quotas = true) (p_dir : mm.dir = true) (p_fmap : mm.fmap = true) (p_groups : mm.groups = true) (p_images : mm.images = true) (p_snaps : mm.snaps = true) (p_mem : mm.mem = true) (p_media : mm.media = true) (p_plates : mm.plates = true) (p_mode : mm.mode = true) : outside mm (fetched f line data s) = outside mm s := by
  unfold fetched
  split
  · split <;> simp [p_per, p_tier, p_cs, p_dram, p_nand, p_fix, p_cp, p_rec_, p_snap, p_md, p_pres, p_rmq, p_dict, p_freeCtr, p_quotas, p_dir, p_fmap, p_groups, p_images, p_snaps, p_mem, p_media, p_plates, p_mode]
  · cases hi : install line .host true false false data (updCp (fun c => { c with fetches := dropFirst (fun x => x = f) c.fetches }) s) with
    | none => simp [hi, p_per, p_tier, p_cs, p_dram, p_nand, p_fix, p_cp, p_rec_, p_snap, p_md, p_pres, p_rmq, p_dict, p_freeCtr, p_quotas, p_dir, p_fmap, p_groups, p_images, p_snaps, p_mem, p_media, p_plates, p_mode]
    | some t =>
      have hs := (outside_install hi p_cs p_nand)
      simp only [hi, Option.getD_some, hs]
      simp [p_per, p_tier, p_cs, p_dram, p_nand, p_fix, p_cp, p_rec_, p_snap, p_md, p_pres, p_rmq, p_dict, p_freeCtr, p_quotas, p_dir, p_fmap, p_groups, p_images, p_snaps, p_mem, p_media, p_plates, p_mode]
  · simp [p_per, p_tier, p_cs, p_dram, p_nand, p_fix, p_cp, p_rec_, p_snap, p_md, p_pres, p_rmq, p_dict, p_freeCtr, p_quotas, p_dir, p_fmap, p_groups, p_images, p_snaps, p_mem, p_media, p_plates, p_mode]
  · dsimp only
    split <;> simp [p_per, p_tier, p_cs, p_dram, p_nand, p_fix, p_cp, p_rec_, p_snap, p_md, p_pres, p_rmq, p_dict, p_freeCtr, p_quotas, p_dir, p_fmap, p_groups, p_images, p_snaps, p_mem, p_media, p_plates, p_mode]
  · (repeat' split) <;> simp [p_per, p_tier, p_cs, p_dram, p_nand, p_fix, p_cp, p_rec_, p_snap, p_md, p_pres, p_rmq, p_dict, p_freeCtr, p_quotas, p_dir, p_fmap, p_groups, p_images, p_snaps, p_mem, p_media, p_plates, p_mode]
@[simp] theorem outside_doFetchDataRecord {mm : Parts} {half : Fin 2} {s : State} (p_per : mm.per = true) (p_tier : mm.tier = true) (p_cs : mm.cs = true) (p_dram : mm.dram = true) (p_nand : mm.nand = true) (p_fix : mm.fix = true) (p_cp : mm.cp = true) (p_rec_ : mm.rec_ = true) (p_snap : mm.snap = true) (p_md : mm.md = true) (p_pres : mm.pres = true) (p_rmq : mm.rmq = true) (p_dict : mm.dict = true) (p_freeCtr : mm.freeCtr = true) (p_outbox : mm.outbox = true) (p_quotas : mm.quotas = true) (p_dir : mm.dir = true) (p_fmap : mm.fmap = true) (p_groups : mm.groups = true) (p_images : mm.images = true) (p_snaps : mm.snaps = true) (p_mem : mm.mem = true) (p_media : mm.media = true) (p_plates : mm.plates = true) (p_mode : mm.mode = true) : outside mm (doFetchDataRecord half s) = outside mm s := by
  unfold doFetchDataRecord; (repeat' split) <;> (try simp [p_per, p_tier, p_cs, p_dram, p_nand, p_fix, p_cp, p_rec_, p_snap, p_md, p_pres, p_rmq, p_dict, p_freeCtr, p_outbox, p_quotas, p_dir, p_fmap, p_groups, p_images, p_snaps, p_mem, p_media, p_plates, p_mode]) <;> simp (disch := (intros; first | (simp [p_per, p_tier, p_cs, p_dram, p_nand, p_fix, p_cp, p_rec_, p_snap, p_md, p_pres, p_rmq, p_dict, p_freeCtr, p_outbox, p_quotas, p_dir, p_fmap, p_groups, p_images, p_snaps, p_mem, p_media, p_plates, p_mode]; done) | ((repeat' split) <;> try simp [p_per, p_tier, p_cs, p_dram, p_nand, p_fix, p_cp, p_rec_, p_snap, p_md, p_pres, p_rmq, p_dict, p_freeCtr, p_outbox, p_quotas, p_dir, p_fmap, p_groups, p_images, p_snaps, p_mem, p_media, p_plates, p_mode]))) [*]
@[simp] theorem outside_doFetchFailRecord {mm : Parts} {half : Fin 2} {s : State} (p_host : mm.host = true) (p_per : mm.per = true) (p_tier : mm.tier = true) (p_cs : mm.cs = true) (p_dram : mm.dram = true) (p_nand : mm.nand = true) (p_fix : mm.fix = true) (p_cp : mm.cp = true) (p_rec_ : mm.rec_ = true) (p_snap : mm.snap = true) (p_md : mm.md = true) (p_pres : mm.pres = true) (p_rmq : mm.rmq = true) (p_dict : mm.dict = true) (p_freeCtr : mm.freeCtr = true) (p_outbox : mm.outbox = true) (p_quotas : mm.quotas = true) (p_dir : mm.dir = true) (p_fmap : mm.fmap = true) (p_groups : mm.groups = true) (p_mem : mm.mem = true) (p_media : mm.media = true) (p_plates : mm.plates = true) (p_mode : mm.mode = true) : outside mm (doFetchFailRecord half s) = outside mm s := by
  unfold doFetchFailRecord; (repeat' split) <;> (try simp [p_host, p_per, p_tier, p_cs, p_dram, p_nand, p_fix, p_cp, p_rec_, p_snap, p_md, p_pres, p_rmq, p_dict, p_freeCtr, p_outbox, p_quotas, p_dir, p_fmap, p_groups, p_mem, p_media, p_plates, p_mode]) <;> simp (disch := (intros; first | (simp [p_host, p_per, p_tier, p_cs, p_dram, p_nand, p_fix, p_cp, p_rec_, p_snap, p_md, p_pres, p_rmq, p_dict, p_freeCtr, p_outbox, p_quotas, p_dir, p_fmap, p_groups, p_mem, p_media, p_plates, p_mode]; done) | ((repeat' split) <;> try simp [p_host, p_per, p_tier, p_cs, p_dram, p_nand, p_fix, p_cp, p_rec_, p_snap, p_md, p_pres, p_rmq, p_dict, p_freeCtr, p_outbox, p_quotas, p_dir, p_fmap, p_groups, p_mem, p_media, p_plates, p_mode]))) [*]
@[simp] theorem outside_control {mm : Parts} {half : Fin 2} {strict : Bool} {sel : CpRec → Bool} {f : CpRec → State → State} {s : State} (p_cp : mm.cp = true) (p_dict : mm.dict = true) (p_outbox : mm.outbox = true) (hf : ∀ x0 a, outside mm (f x0 a) = outside mm a) : outside mm (control half strict sel f s) = outside mm s := by
  simp [control, *]
@[simp] theorem outside_doForwardRecord {mm : Parts} {half : Fin 2} {s : State} (p_host : mm.host = true) (p_per : mm.per = true) (p_tier : mm.tier = true) (p_cs : mm.cs = true) (p_nand : mm.nand = true) (p_cp : mm.cp = true) (p_rec_ : mm.rec_ = true) (p_snap : mm.snap = true) (p_dict : mm.dict = true) (p_freeCtr : mm.freeCtr = true) (p_outbox : mm.outbox = true) (p_replay : mm.replay = true) (p_quotas : mm.quotas = true) (p_dir : mm.dir = true) : outside mm (doForwardRecord half s) = outside mm s := by
  unfold doForwardRecord; (repeat' split) <;> (try simp [p_host, p_per, p_tier, p_cs, p_nand, p_cp, p_rec_, p_snap, p_dict, p_freeCtr, p_outbox, p_replay, p_quotas, p_dir]) <;> simp (disch := (intros; first | (simp [p_host, p_per, p_tier, p_cs, p_nand, p_cp, p_rec_, p_snap, p_dict, p_freeCtr, p_outbox, p_replay, p_quotas, p_dir]; done) | ((repeat' split) <;> try simp [p_host, p_per, p_tier, p_cs, p_nand, p_cp, p_rec_, p_snap, p_dict, p_freeCtr, p_outbox, p_replay, p_quotas, p_dir]))) [*]
@[simp] theorem outside_doForwardDoneRecord {mm : Parts} {half : Fin 2} {s : State} (p_host : mm.host = true) (p_cp : mm.cp = true) (p_dict : mm.dict = true) (p_outbox : mm.outbox = true) : outside mm (doForwardDoneRecord half s) = outside mm s := by
  unfold doForwardDoneRecord; (repeat' split) <;> (try simp [p_host, p_cp, p_dict, p_outbox]) <;> simp (disch := (intros; first | (simp [p_host, p_cp, p_dict, p_outbox]; done) | ((repeat' split) <;> try simp [p_host, p_cp, p_dict, p_outbox]))) [*]
@[simp] theorem outside_adoptElem {mm : Parts} {e : TableElem} {s : State} (p_rc : mm.rc = true) (p_per : mm.per = true) (p_tier : mm.tier = true) (p_cs : mm.cs = true) (p_nand : mm.nand = true) (p_fix : mm.fix = true) (p_cp : mm.cp = true) (p_rec_ : mm.rec_ = true) (p_snap : mm.snap = true) (p_rmq : mm.rmq = true) (p_dict : mm.dict = true) (p_freeCtr : mm.freeCtr = true) (p_outbox : mm.outbox = true) (p_tenants : mm.tenants = true) (p_hosts : mm.hosts = true) (p_regions : mm.regions = true) (p_keyTable : mm.keyTable = true) (p_quotas : mm.quotas = true) (p_dir : mm.dir = true) (p_fmap : mm.fmap = true) (p_images : mm.images = true) (p_snaps : mm.snaps = true) (p_config : mm.config = true) : outside mm (adoptElem e s) = outside mm s := by
  unfold adoptElem; (repeat' split) <;> simp [*]
@[simp] theorem outside_doTableRecord {mm : Parts} {half : Fin 2} {s : State} (p_rc : mm.rc = true) (p_per : mm.per = true) (p_tier : mm.tier = true) (p_cs : mm.cs = true) (p_nand : mm.nand = true) (p_fix : mm.fix = true) (p_cp : mm.cp = true) (p_rec_ : mm.rec_ = true) (p_snap : mm.snap = true) (p_rmq : mm.rmq = true) (p_dict : mm.dict = true) (p_freeCtr : mm.freeCtr = true) (p_outbox : mm.outbox = true) (p_tenants : mm.tenants = true) (p_hosts : mm.hosts = true) (p_regions : mm.regions = true) (p_keyTable : mm.keyTable = true) (p_quotas : mm.quotas = true) (p_dir : mm.dir = true) (p_fmap : mm.fmap = true) (p_images : mm.images = true) (p_snaps : mm.snaps = true) (p_config : mm.config = true) : outside mm (doTableRecord half s) = outside mm s := by
  unfold doTableRecord; (repeat' split) <;> (try simp [p_rc, p_per, p_tier, p_cs, p_nand, p_fix, p_cp, p_rec_, p_snap, p_rmq, p_dict, p_freeCtr, p_outbox, p_tenants, p_hosts, p_regions, p_keyTable, p_quotas, p_dir, p_fmap, p_images, p_snaps, p_config]) <;> simp (disch := (intros; first | (simp [p_rc, p_per, p_tier, p_cs, p_nand, p_fix, p_cp, p_rec_, p_snap, p_rmq, p_dict, p_freeCtr, p_outbox, p_tenants, p_hosts, p_regions, p_keyTable, p_quotas, p_dir, p_fmap, p_images, p_snaps, p_config]; done) | ((repeat' split) <;> try simp [p_rc, p_per, p_tier, p_cs, p_nand, p_fix, p_cp, p_rec_, p_snap, p_rmq, p_dict, p_freeCtr, p_outbox, p_tenants, p_hosts, p_regions, p_keyTable, p_quotas, p_dir, p_fmap, p_images, p_snaps, p_config]))) [*]
@[simp] theorem outside_commandVerdict {mm : Parts} {accept : Bool} {e : TableElem} {c : RunCmd} {s : State} (p_rc : mm.rc = true) (p_per : mm.per = true) (p_eng : mm.eng = true) (p_tier : mm.tier = true) (p_cs : mm.cs = true) (p_nand : mm.nand = true) (p_fix : mm.fix = true) (p_cp : mm.cp = true) (p_rec_ : mm.rec_ = true) (p_snap : mm.snap = true) (p_rmq : mm.rmq = true) (p_dict : mm.dict = true) (p_freeCtr : mm.freeCtr = true) (p_outbox : mm.outbox = true) (p_tenants : mm.tenants = true) (p_hosts : mm.hosts = true) (p_regions : mm.regions = true) (p_keyTable : mm.keyTable = true) (p_quotas : mm.quotas = true) (p_dir : mm.dir = true) (p_fmap : mm.fmap = true) (p_images : mm.images = true) (p_snaps : mm.snaps = true) (p_config : mm.config = true) : outside mm (commandVerdict accept e c s) = outside mm s := by
  simp [commandVerdict, *]
@[simp] theorem outside_writeVerdict {mm : Parts} {ok : Bool} {e : TableElem} {w : PendingWrite} {s : State} (p_rc : mm.rc = true) (p_per : mm.per = true) (p_eng : mm.eng = true) (p_tier : mm.tier = true) (p_cs : mm.cs = true) (p_nand : mm.nand = true) (p_fix : mm.fix = true) (p_cp : mm.cp = true) (p_rec_ : mm.rec_ = true) (p_snap : mm.snap = true) (p_fieth : mm.fieth = true) (p_rmq : mm.rmq = true) (p_dict : mm.dict = true) (p_freeCtr : mm.freeCtr = true) (p_outbox : mm.outbox = true) (p_tenants : mm.tenants = true) (p_hosts : mm.hosts = true) (p_regions : mm.regions = true) (p_keyTable : mm.keyTable = true) (p_quotas : mm.quotas = true) (p_dir : mm.dir = true) (p_fmap : mm.fmap = true) (p_images : mm.images = true) (p_snaps : mm.snaps = true) (p_config : mm.config = true) : outside mm (writeVerdict ok e w s) = outside mm s := by
  simp [writeVerdict, *]
@[simp] theorem outside_doTableVerdict {mm : Parts} {half : Fin 2} {s : State} (p_rc : mm.rc = true) (p_per : mm.per = true) (p_eng : mm.eng = true) (p_tier : mm.tier = true) (p_cs : mm.cs = true) (p_nand : mm.nand = true) (p_fix : mm.fix = true) (p_cp : mm.cp = true) (p_rec_ : mm.rec_ = true) (p_snap : mm.snap = true) (p_fieth : mm.fieth = true) (p_rmq : mm.rmq = true) (p_dict : mm.dict = true) (p_freeCtr : mm.freeCtr = true) (p_outbox : mm.outbox = true) (p_tenants : mm.tenants = true) (p_hosts : mm.hosts = true) (p_regions : mm.regions = true) (p_keyTable : mm.keyTable = true) (p_quotas : mm.quotas = true) (p_dir : mm.dir = true) (p_fmap : mm.fmap = true) (p_images : mm.images = true) (p_snaps : mm.snaps = true) (p_config : mm.config = true) : outside mm (doTableVerdict half s) = outside mm s := by
  unfold doTableVerdict; (repeat' split) <;> (try simp [p_rc, p_per, p_eng, p_tier, p_cs, p_nand, p_fix, p_cp, p_rec_, p_snap, p_fieth, p_rmq, p_dict, p_freeCtr, p_outbox, p_tenants, p_hosts, p_regions, p_keyTable, p_quotas, p_dir, p_fmap, p_images, p_snaps, p_config]) <;> simp (disch := (intros; first | (simp [p_rc, p_per, p_eng, p_tier, p_cs, p_nand, p_fix, p_cp, p_rec_, p_snap, p_fieth, p_rmq, p_dict, p_freeCtr, p_outbox, p_tenants, p_hosts, p_regions, p_keyTable, p_quotas, p_dir, p_fmap, p_images, p_snaps, p_config]; done) | ((repeat' split) <;> try simp [p_rc, p_per, p_eng, p_tier, p_cs, p_nand, p_fix, p_cp, p_rec_, p_snap, p_fieth, p_rmq, p_dict, p_freeCtr, p_outbox, p_tenants, p_hosts, p_regions, p_keyTable, p_quotas, p_dir, p_fmap, p_images, p_snaps, p_config]))) [*]
@[simp] theorem outside_doFenceMarkRecord {mm : Parts} {half : Fin 2} {s : State} (p_per : mm.per = true) (p_eng : mm.eng = true) (p_cp : mm.cp = true) (p_dict : mm.dict = true) (p_outbox : mm.outbox = true) (p_regions : mm.regions = true) (p_keyTable : mm.keyTable = true) : outside mm (doFenceMarkRecord half s) = outside mm s := by
  unfold doFenceMarkRecord; (repeat' split) <;> (try simp [p_per, p_eng, p_cp, p_dict, p_outbox, p_regions, p_keyTable]) <;> simp (disch := (intros; first | (simp [p_per, p_eng, p_cp, p_dict, p_outbox, p_regions, p_keyTable]; done) | ((repeat' split) <;> try simp [p_per, p_eng, p_cp, p_dict, p_outbox, p_regions, p_keyTable]))) [*]
@[simp] theorem outside_doFenceConfirmRecord {mm : Parts} {half : Fin 2} {s : State} (p_per : mm.per = true) (p_eng : mm.eng = true) (p_tier : mm.tier = true) (p_cs : mm.cs = true) (p_nand : mm.nand = true) (p_fix : mm.fix = true) (p_cp : mm.cp = true) (p_rec_ : mm.rec_ = true) (p_snap : mm.snap = true) (p_rmq : mm.rmq = true) (p_dict : mm.dict = true) (p_freeCtr : mm.freeCtr = true) (p_outbox : mm.outbox = true) (p_regions : mm.regions = true) (p_keyTable : mm.keyTable = true) (p_quotas : mm.quotas = true) (p_dir : mm.dir = true) (p_fmap : mm.fmap = true) (p_images : mm.images = true) (p_snaps : mm.snaps = true) : outside mm (doFenceConfirmRecord half s) = outside mm s := by
  unfold doFenceConfirmRecord; (repeat' split) <;> (try simp [p_per, p_eng, p_tier, p_cs, p_nand, p_fix, p_cp, p_rec_, p_snap, p_rmq, p_dict, p_freeCtr, p_outbox, p_regions, p_keyTable, p_quotas, p_dir, p_fmap, p_images, p_snaps]) <;> simp (disch := (intros; first | (simp [p_per, p_eng, p_tier, p_cs, p_nand, p_fix, p_cp, p_rec_, p_snap, p_rmq, p_dict, p_freeCtr, p_outbox, p_regions, p_keyTable, p_quotas, p_dir, p_fmap, p_images, p_snaps]; done) | ((repeat' split) <;> try simp [p_per, p_eng, p_tier, p_cs, p_nand, p_fix, p_cp, p_rec_, p_snap, p_rmq, p_dict, p_freeCtr, p_outbox, p_regions, p_keyTable, p_quotas, p_dir, p_fmap, p_images, p_snaps]))) [*]
@[simp] theorem outside_setOwner {mm : Parts} {region node : Nat} {s : State} (p_per : mm.per = true) (p_regions : mm.regions = true) : outside mm (setOwner region node s) = outside mm s := by
  simp [setOwner, *]
@[simp] theorem outside_doOwnerHandover {mm : Parts} {half : Fin 2} {s : State} (p_per : mm.per = true) (p_eng : mm.eng = true) (p_cp : mm.cp = true) (p_dict : mm.dict = true) (p_outbox : mm.outbox = true) (p_regions : mm.regions = true) : outside mm (doOwnerHandover half s) = outside mm s := by
  unfold doOwnerHandover; (repeat' split) <;> (try simp [p_per, p_eng, p_cp, p_dict, p_outbox, p_regions]) <;> simp (disch := (intros; first | (simp [p_per, p_eng, p_cp, p_dict, p_outbox, p_regions]; done) | ((repeat' split) <;> try simp [p_per, p_eng, p_cp, p_dict, p_outbox, p_regions]))) [*]
@[simp] theorem outside_doOwnerConfirm {mm : Parts} {half : Fin 2} {s : State} (p_host : mm.host = true) (p_per : mm.per = true) (p_eng : mm.eng = true) (p_tier : mm.tier = true) (p_cs : mm.cs = true) (p_nand : mm.nand = true) (p_cp : mm.cp = true) (p_rec_ : mm.rec_ = true) (p_snap : mm.snap = true) (p_dict : mm.dict = true) (p_freeCtr : mm.freeCtr = true) (p_outbox : mm.outbox = true) (p_regions : mm.regions = true) (p_quotas : mm.quotas = true) (p_dir : mm.dir = true) : outside mm (doOwnerConfirm half s) = outside mm s := by
  unfold doOwnerConfirm; (repeat' split) <;> (try simp [p_host, p_per, p_eng, p_tier, p_cs, p_nand, p_cp, p_rec_, p_snap, p_dict, p_freeCtr, p_outbox, p_regions, p_quotas, p_dir]) <;> simp (disch := (intros; first | (simp [p_host, p_per, p_eng, p_tier, p_cs, p_nand, p_cp, p_rec_, p_snap, p_dict, p_freeCtr, p_outbox, p_regions, p_quotas, p_dir]; done) | ((repeat' split) <;> try simp [p_host, p_per, p_eng, p_tier, p_cs, p_nand, p_cp, p_rec_, p_snap, p_dict, p_freeCtr, p_outbox, p_regions, p_quotas, p_dir]))) [*]
@[simp] theorem outside_doOwnerRequest {mm : Parts} {half : Fin 2} {s : State} (p_eng : mm.eng = true) (p_cp : mm.cp = true) (p_dict : mm.dict = true) (p_outbox : mm.outbox = true) : outside mm (doOwnerRequest half s) = outside mm s := by
  unfold doOwnerRequest; (repeat' split) <;> (try simp [p_eng, p_cp, p_dict, p_outbox]) <;> simp (disch := (intros; first | (simp [p_eng, p_cp, p_dict, p_outbox]; done) | ((repeat' split) <;> try simp [p_eng, p_cp, p_dict, p_outbox]))) [*]
@[simp] theorem outside_doPlaceStartRecord {mm : Parts} {half : Fin 2} {s : State} (p_per : mm.per = true) (p_tier : mm.tier = true) (p_cs : mm.cs = true) (p_nand : mm.nand = true) (p_cp : mm.cp = true) (p_rec_ : mm.rec_ = true) (p_snap : mm.snap = true) (p_dict : mm.dict = true) (p_freeCtr : mm.freeCtr = true) (p_outbox : mm.outbox = true) (p_quotas : mm.quotas = true) (p_dir : mm.dir = true) : outside mm (doPlaceStartRecord half s) = outside mm s := by
  unfold doPlaceStartRecord; (repeat' split) <;> (try simp [p_per, p_tier, p_cs, p_nand, p_cp, p_rec_, p_snap, p_dict, p_freeCtr, p_outbox, p_quotas, p_dir]) <;> simp (disch := (intros; first | (simp [p_per, p_tier, p_cs, p_nand, p_cp, p_rec_, p_snap, p_dict, p_freeCtr, p_outbox, p_quotas, p_dir]; done) | ((repeat' split) <;> try simp [p_per, p_tier, p_cs, p_nand, p_cp, p_rec_, p_snap, p_dict, p_freeCtr, p_outbox, p_quotas, p_dir]))) [*]
@[simp] theorem outside_doPlaceDoneRecord {mm : Parts} {half : Fin 2} {s : State} (p_per : mm.per = true) (p_tier : mm.tier = true) (p_cp : mm.cp = true) (p_dict : mm.dict = true) (p_outbox : mm.outbox = true) (p_quotas : mm.quotas = true) (p_dir : mm.dir = true) : outside mm (doPlaceDoneRecord half s) = outside mm s := by
  unfold doPlaceDoneRecord; (repeat' split) <;> (try simp [p_per, p_tier, p_cp, p_dict, p_outbox, p_quotas, p_dir]) <;> simp (disch := (intros; first | (simp [p_per, p_tier, p_cp, p_dict, p_outbox, p_quotas, p_dir]; done) | ((repeat' split) <;> try simp [p_per, p_tier, p_cp, p_dict, p_outbox, p_quotas, p_dir]))) [*]
@[simp] theorem outside_doPlaceOutcomeRecord {mm : Parts} {half : Fin 2} {s : State} (p_host : mm.host = true) (p_per : mm.per = true) (p_tier : mm.tier = true) (p_cp : mm.cp = true) (p_dict : mm.dict = true) (p_outbox : mm.outbox = true) (p_replay : mm.replay = true) (p_quotas : mm.quotas = true) (p_dir : mm.dir = true) : outside mm (doPlaceOutcomeRecord half s) = outside mm s := by
  unfold doPlaceOutcomeRecord
  split
  · rfl
  · refine outside_control p_cp p_dict p_outbox (fun r a => ?_)
    split
    · have hi : ∀ (p : PlaceRun) (b : State), outside mm (each ((b.tier.moves.filter (ofPlace p.token)).map (·.tpn)) abandon (returnReserved p b)) = outside mm b := by
        intro p b
        rw [outside_each _ _ _ (fun x c => by simp [p_host, p_per, p_tier, p_cp, p_dict, p_outbox, p_replay, p_quotas, p_dir])]
        simp [p_host, p_per, p_tier, p_cp, p_dict, p_outbox, p_replay, p_quotas, p_dir]
      simp [hi, p_host, p_per, p_tier, p_cp, p_dict, p_outbox, p_replay, p_quotas, p_dir]
    · rfl
@[simp] theorem outside_doQpShadowRecord {mm : Parts} {half : Fin 2} {s : State} (p_rc : mm.rc = true) (p_cp : mm.cp = true) (p_dict : mm.dict = true) (p_outbox : mm.outbox = true) : outside mm (doQpShadowRecord half s) = outside mm s := by
  unfold doQpShadowRecord; (repeat' split) <;> (try simp [p_rc, p_cp, p_dict, p_outbox]) <;> simp (disch := (intros; first | (simp [p_rc, p_cp, p_dict, p_outbox]; done) | ((repeat' split) <;> try simp [p_rc, p_cp, p_dict, p_outbox]))) [*]
@[simp] theorem outside_doQpFreeRecord {mm : Parts} {half : Fin 2} {s : State} (p_rc : mm.rc = true) (p_cp : mm.cp = true) (p_dict : mm.dict = true) (p_outbox : mm.outbox = true) : outside mm (doQpFreeRecord half s) = outside mm s := by
  unfold doQpFreeRecord; (repeat' split) <;> (try simp [p_rc, p_cp, p_dict, p_outbox]) <;> simp (disch := (intros; first | (simp [p_rc, p_cp, p_dict, p_outbox]; done) | ((repeat' split) <;> try simp [p_rc, p_cp, p_dict, p_outbox]))) [*]
@[simp] theorem outside_doQpHeldRecord {mm : Parts} {half : Fin 2} {s : State} (p_rc : mm.rc = true) (p_cp : mm.cp = true) (p_dict : mm.dict = true) (p_freeCtr : mm.freeCtr = true) (p_outbox : mm.outbox = true) : outside mm (doQpHeldRecord half s) = outside mm s := by
  unfold doQpHeldRecord; (repeat' split) <;> (try simp [p_rc, p_cp, p_dict, p_freeCtr, p_outbox]) <;> simp (disch := (intros; first | (simp [p_rc, p_cp, p_dict, p_freeCtr, p_outbox]; done) | ((repeat' split) <;> try simp [p_rc, p_cp, p_dict, p_freeCtr, p_outbox]))) [*]
@[simp] theorem outside_doReplayRecord {mm : Parts} {half : Fin 2} {s : State} (p_host : mm.host = true) (p_cp : mm.cp = true) (p_dict : mm.dict = true) (p_outbox : mm.outbox = true) (p_replay : mm.replay = true) : outside mm (doReplayRecord half s) = outside mm s := by
  unfold doReplayRecord; (repeat' split) <;> (try simp [p_host, p_cp, p_dict, p_outbox, p_replay]) <;> simp (disch := (intros; first | (simp [p_host, p_cp, p_dict, p_outbox, p_replay]; done) | ((repeat' split) <;> try simp [p_host, p_cp, p_dict, p_outbox, p_replay]))) [*]
@[simp] theorem outside_doImageRequestRecord {mm : Parts} {half : Fin 2} {s : State} (p_fix : mm.fix = true) (p_cp : mm.cp = true) (p_rec_ : mm.rec_ = true) (p_snap : mm.snap = true) (p_dict : mm.dict = true) (p_outbox : mm.outbox = true) : outside mm (doImageRequestRecord half s) = outside mm s := by
  unfold doImageRequestRecord; (repeat' split) <;> (try simp [p_fix, p_cp, p_rec_, p_snap, p_dict, p_outbox]) <;> simp (disch := (intros; first | (simp [p_fix, p_cp, p_rec_, p_snap, p_dict, p_outbox]; done) | ((repeat' split) <;> try simp [p_fix, p_cp, p_rec_, p_snap, p_dict, p_outbox]))) [*]
@[simp] theorem outside_doImageDoneRecord {mm : Parts} {half : Fin 2} {s : State} (p_per : mm.per = true) (p_tier : mm.tier = true) (p_cs : mm.cs = true) (p_nand : mm.nand = true) (p_fix : mm.fix = true) (p_cp : mm.cp = true) (p_rec_ : mm.rec_ = true) (p_snap : mm.snap = true) (p_md : mm.md = true) (p_pres : mm.pres = true) (p_rmq : mm.rmq = true) (p_dict : mm.dict = true) (p_freeCtr : mm.freeCtr = true) (p_outbox : mm.outbox = true) (p_quotas : mm.quotas = true) (p_dir : mm.dir = true) (p_fmap : mm.fmap = true) (p_groups : mm.groups = true) (p_images : mm.images = true) (p_snaps : mm.snaps = true) (p_media : mm.media = true) (p_plates : mm.plates = true) (p_mode : mm.mode = true) : outside mm (doImageDoneRecord half s) = outside mm s := by
  unfold doImageDoneRecord; (repeat' split) <;> (try simp [p_per, p_tier, p_cs, p_nand, p_fix, p_cp, p_rec_, p_snap, p_md, p_pres, p_rmq, p_dict, p_freeCtr, p_outbox, p_quotas, p_dir, p_fmap, p_groups, p_images, p_snaps, p_media, p_plates, p_mode]) <;> simp (disch := (intros; first | (simp [p_per, p_tier, p_cs, p_nand, p_fix, p_cp, p_rec_, p_snap, p_md, p_pres, p_rmq, p_dict, p_freeCtr, p_outbox, p_quotas, p_dir, p_fmap, p_groups, p_images, p_snaps, p_media, p_plates, p_mode]; done) | ((repeat' split) <;> try simp [p_per, p_tier, p_cs, p_nand, p_fix, p_cp, p_rec_, p_snap, p_md, p_pres, p_rmq, p_dict, p_freeCtr, p_outbox, p_quotas, p_dir, p_fmap, p_groups, p_images, p_snaps, p_media, p_plates, p_mode]))) [*]
@[simp] theorem outside_doDiscardUnitRecord {mm : Parts} {half : Fin 2} {s : State} (p_per : mm.per = true) (p_nand : mm.nand = true) (p_cp : mm.cp = true) (p_dict : mm.dict = true) (p_outbox : mm.outbox = true) (p_dir : mm.dir = true) (p_fmap : mm.fmap = true) : outside mm (doDiscardUnitRecord half s) = outside mm s := by
  unfold doDiscardUnitRecord; (repeat' split) <;> (try simp [p_per, p_nand, p_cp, p_dict, p_outbox, p_dir, p_fmap]) <;> simp (disch := (intros; first | (simp [p_per, p_nand, p_cp, p_dict, p_outbox, p_dir, p_fmap]; done) | ((repeat' split) <;> try simp [p_per, p_nand, p_cp, p_dict, p_outbox, p_dir, p_fmap]))) [*]
@[simp] theorem outside_doStateBeginRecord {mm : Parts} {half : Fin 2} {s : State} (p_cp : mm.cp = true) (p_snap : mm.snap = true) (p_dict : mm.dict = true) (p_outbox : mm.outbox = true) : outside mm (doStateBeginRecord half s) = outside mm s := by
  unfold doStateBeginRecord; (repeat' split) <;> (try simp [p_cp, p_snap, p_dict, p_outbox]) <;> simp (disch := (intros; first | (simp [p_cp, p_snap, p_dict, p_outbox]; done) | ((repeat' split) <;> try simp [p_cp, p_snap, p_dict, p_outbox]))) [*]
@[simp] theorem outside_doStateConfirmRecord {mm : Parts} {half : Fin 2} {s : State} (p_per : mm.per = true) (p_eng : mm.eng = true) (p_cp : mm.cp = true) (p_snap : mm.snap = true) (p_dict : mm.dict = true) (p_freeCtr : mm.freeCtr = true) (p_outbox : mm.outbox = true) (p_dir : mm.dir = true) (p_snaps : mm.snaps = true) : outside mm (doStateConfirmRecord half s) = outside mm s := by
  unfold doStateConfirmRecord; (repeat' split) <;> (try simp [p_per, p_eng, p_cp, p_snap, p_dict, p_freeCtr, p_outbox, p_dir, p_snaps]) <;> simp (disch := (intros; first | (simp [p_per, p_eng, p_cp, p_snap, p_dict, p_freeCtr, p_outbox, p_dir, p_snaps]; done) | ((repeat' split) <;> try simp [p_per, p_eng, p_cp, p_snap, p_dict, p_freeCtr, p_outbox, p_dir, p_snaps]))) [*]
@[simp] theorem outside_doStatePointRecord {mm : Parts} {half : Fin 2} {s : State} (p_per : mm.per = true) (p_cp : mm.cp = true) (p_snap : mm.snap = true) (p_dict : mm.dict = true) (p_outbox : mm.outbox = true) (p_dir : mm.dir = true) (p_snaps : mm.snaps = true) : outside mm (doStatePointRecord half s) = outside mm s := by
  unfold doStatePointRecord; (repeat' split) <;> (try simp [p_per, p_cp, p_snap, p_dict, p_outbox, p_dir, p_snaps]) <;> simp (disch := (intros; first | (simp [p_per, p_cp, p_snap, p_dict, p_outbox, p_dir, p_snaps]; done) | ((repeat' split) <;> try simp [p_per, p_cp, p_snap, p_dict, p_outbox, p_dir, p_snaps]))) [*]
@[simp] theorem outside_doClaim {mm : Parts} {half : Fin 2} {s : State} (p_eng : mm.eng = true) (p_cp : mm.cp = true) (p_dict : mm.dict = true) (p_outbox : mm.outbox = true) : outside mm (doClaim half s) = outside mm s := by
  unfold doClaim; (repeat' split) <;> (try simp [p_eng, p_cp, p_dict, p_outbox]) <;> simp (disch := (intros; first | (simp [p_eng, p_cp, p_dict, p_outbox]; done) | ((repeat' split) <;> try simp [p_eng, p_cp, p_dict, p_outbox]))) [*]
@[simp] theorem outside_doClaimGrant {mm : Parts} {half : Fin 2} {s : State} (p_rc : mm.rc = true) (p_per : mm.per = true) (p_eng : mm.eng = true) (p_tier : mm.tier = true) (p_cs : mm.cs = true) (p_nand : mm.nand = true) (p_fix : mm.fix = true) (p_cp : mm.cp = true) (p_rec_ : mm.rec_ = true) (p_snap : mm.snap = true) (p_rmq : mm.rmq = true) (p_dict : mm.dict = true) (p_freeCtr : mm.freeCtr = true) (p_outbox : mm.outbox = true) (p_tenants : mm.tenants = true) (p_hosts : mm.hosts = true) (p_regions : mm.regions = true) (p_keyTable : mm.keyTable = true) (p_quotas : mm.quotas = true) (p_dir : mm.dir = true) (p_fmap : mm.fmap = true) (p_images : mm.images = true) (p_snaps : mm.snaps = true) (p_config : mm.config = true) : outside mm (doClaimGrant half s) = outside mm s := by
  unfold doClaimGrant; (repeat' split) <;> (try simp [p_rc, p_per, p_eng, p_tier, p_cs, p_nand, p_fix, p_cp, p_rec_, p_snap, p_rmq, p_dict, p_freeCtr, p_outbox, p_tenants, p_hosts, p_regions, p_keyTable, p_quotas, p_dir, p_fmap, p_images, p_snaps, p_config]) <;> simp (disch := (intros; first | (simp [p_rc, p_per, p_eng, p_tier, p_cs, p_nand, p_fix, p_cp, p_rec_, p_snap, p_rmq, p_dict, p_freeCtr, p_outbox, p_tenants, p_hosts, p_regions, p_keyTable, p_quotas, p_dir, p_fmap, p_images, p_snaps, p_config]; done) | ((repeat' split) <;> try simp [p_rc, p_per, p_eng, p_tier, p_cs, p_nand, p_fix, p_cp, p_rec_, p_snap, p_rmq, p_dict, p_freeCtr, p_outbox, p_tenants, p_hosts, p_regions, p_keyTable, p_quotas, p_dir, p_fmap, p_images, p_snaps, p_config]))) [*]
@[simp] theorem outside_doClaimRefuse {mm : Parts} {half : Fin 2} {s : State} (p_eng : mm.eng = true) (p_cp : mm.cp = true) (p_snap : mm.snap = true) (p_dict : mm.dict = true) (p_outbox : mm.outbox = true) : outside mm (doClaimRefuse half s) = outside mm s := by
  unfold doClaimRefuse; (repeat' split) <;> (try simp [p_eng, p_cp, p_snap, p_dict, p_outbox]) <;> simp (disch := (intros; first | (simp [p_eng, p_cp, p_snap, p_dict, p_outbox]; done) | ((repeat' split) <;> try simp [p_eng, p_cp, p_snap, p_dict, p_outbox]))) [*]
@[simp] theorem outside_doClaimRelease {mm : Parts} {half : Fin 2} {s : State} (p_per : mm.per = true) (p_eng : mm.eng = true) (p_cp : mm.cp = true) (p_snap : mm.snap = true) (p_dict : mm.dict = true) (p_freeCtr : mm.freeCtr = true) (p_outbox : mm.outbox = true) (p_snaps : mm.snaps = true) : outside mm (doClaimRelease half s) = outside mm s := by
  unfold doClaimRelease; (repeat' split) <;> (try simp [p_per, p_eng, p_cp, p_snap, p_dict, p_freeCtr, p_outbox, p_snaps]) <;> simp (disch := (intros; first | (simp [p_per, p_eng, p_cp, p_snap, p_dict, p_freeCtr, p_outbox, p_snaps]; done) | ((repeat' split) <;> try simp [p_per, p_eng, p_cp, p_snap, p_dict, p_freeCtr, p_outbox, p_snaps]))) [*]
@[simp] theorem outside_doResyncStart {mm : Parts} {half : Fin 2} {s : State} (p_cp : mm.cp = true) (p_dict : mm.dict = true) (p_outbox : mm.outbox = true) : outside mm (doResyncStart half s) = outside mm s := by
  unfold doResyncStart; (repeat' split) <;> (try simp [p_cp, p_dict, p_outbox]) <;> simp (disch := (intros; first | (simp [p_cp, p_dict, p_outbox]; done) | ((repeat' split) <;> try simp [p_cp, p_dict, p_outbox]))) [*]
@[simp] theorem outside_doResyncMarks {mm : Parts} {half : Fin 2} {s : State} (p_per : mm.per = true) (p_tier : mm.tier = true) (p_cs : mm.cs = true) (p_nand : mm.nand = true) (p_fix : mm.fix = true) (p_cp : mm.cp = true) (p_rec_ : mm.rec_ = true) (p_snap : mm.snap = true) (p_rmq : mm.rmq = true) (p_dict : mm.dict = true) (p_outbox : mm.outbox = true) (p_quotas : mm.quotas = true) (p_dir : mm.dir = true) (p_fmap : mm.fmap = true) (p_images : mm.images = true) (p_snaps : mm.snaps = true) : outside mm (doResyncMarks half s) = outside mm s := by
  unfold doResyncMarks; (repeat' split) <;> (try simp [p_per, p_tier, p_cs, p_nand, p_fix, p_cp, p_rec_, p_snap, p_rmq, p_dict, p_outbox, p_quotas, p_dir, p_fmap, p_images, p_snaps]) <;> simp (disch := (intros; first | (simp [p_per, p_tier, p_cs, p_nand, p_fix, p_cp, p_rec_, p_snap, p_rmq, p_dict, p_outbox, p_quotas, p_dir, p_fmap, p_images, p_snaps]; done) | ((repeat' split) <;> try simp [p_per, p_tier, p_cs, p_nand, p_fix, p_cp, p_rec_, p_snap, p_rmq, p_dict, p_outbox, p_quotas, p_dir, p_fmap, p_images, p_snaps]))) [*]
@[simp] theorem outside_doTablesDone {mm : Parts} {half : Fin 2} {s : State} (p_cp : mm.cp = true) (p_dict : mm.dict = true) (p_outbox : mm.outbox = true) : outside mm (doTablesDone half s) = outside mm s := by
  simp [doTablesDone, *]
@[simp] theorem outside_doSync {mm : Parts} {half : Fin 2} {s : State} (p_per : mm.per = true) (p_nand : mm.nand = true) (p_cp : mm.cp = true) (p_md : mm.md = true) (p_pres : mm.pres = true) (p_rmq : mm.rmq = true) (p_dict : mm.dict = true) (p_freeCtr : mm.freeCtr = true) (p_outbox : mm.outbox = true) (p_fmap : mm.fmap = true) (p_groups : mm.groups = true) (p_standing : mm.standing = true) (p_media : mm.media = true) (p_twin : mm.twin = true) (p_mode : mm.mode = true) : outside mm (doSync half s) = outside mm s := by
  simp [doSync, *]
@[simp] theorem outside_doSyncAck {mm : Parts} {half : Fin 2} {s : State} (p_per : mm.per = true) (p_nand : mm.nand = true) (p_cp : mm.cp = true) (p_md : mm.md = true) (p_pres : mm.pres = true) (p_rmq : mm.rmq = true) (p_dict : mm.dict = true) (p_freeCtr : mm.freeCtr = true) (p_outbox : mm.outbox = true) (p_fmap : mm.fmap = true) (p_groups : mm.groups = true) (p_standing : mm.standing = true) (p_media : mm.media = true) (p_twin : mm.twin = true) (p_mode : mm.mode = true) : outside mm (doSyncAck half s) = outside mm s := by
  simp [doSyncAck, *]
@[simp] theorem outside_leaveNotice {mm : Parts} {half : Nat} {s : State} (p_host : mm.host = true) (p_rc : mm.rc = true) (p_per : mm.per = true) (p_eng : mm.eng = true) (p_tier : mm.tier = true) (p_cs : mm.cs = true) (p_dram : mm.dram = true) (p_nand : mm.nand = true) (p_fix : mm.fix = true) (p_cp : mm.cp = true) (p_rec_ : mm.rec_ = true) (p_snap : mm.snap = true) (p_md : mm.md = true) (p_fieth : mm.fieth = true) (p_pres : mm.pres = true) (p_rmq : mm.rmq = true) (p_rst : mm.rst = true) (p_dict : mm.dict = true) (p_freeCtr : mm.freeCtr = true) (p_outbox : mm.outbox = true) (p_tenants : mm.tenants = true) (p_hosts : mm.hosts = true) (p_regions : mm.regions = true) (p_keyTable : mm.keyTable = true) (p_quotas : mm.quotas = true) (p_dir : mm.dir = true) (p_fmap : mm.fmap = true) (p_groups : mm.groups = true) (p_images : mm.images = true) (p_snaps : mm.snaps = true) (p_standing : mm.standing = true) (p_mem : mm.mem = true) (p_media : mm.media = true) (p_plates : mm.plates = true) (p_twin : mm.twin = true) (p_mode : mm.mode = true) (p_phase : mm.phase = true) (p_config : mm.config = true) : outside mm (leaveNotice half s) = outside mm s := by
  simp [leaveNotice, *]
@[simp] theorem outside_doNoticeDrain {mm : Parts} {half : Fin 2} {s : State} (p_host : mm.host = true) (p_rc : mm.rc = true) (p_per : mm.per = true) (p_eng : mm.eng = true) (p_tier : mm.tier = true) (p_cs : mm.cs = true) (p_dram : mm.dram = true) (p_nand : mm.nand = true) (p_fix : mm.fix = true) (p_cp : mm.cp = true) (p_rec_ : mm.rec_ = true) (p_snap : mm.snap = true) (p_md : mm.md = true) (p_fieth : mm.fieth = true) (p_pres : mm.pres = true) (p_rmq : mm.rmq = true) (p_rst : mm.rst = true) (p_dict : mm.dict = true) (p_freeCtr : mm.freeCtr = true) (p_outbox : mm.outbox = true) (p_tenants : mm.tenants = true) (p_hosts : mm.hosts = true) (p_regions : mm.regions = true) (p_keyTable : mm.keyTable = true) (p_quotas : mm.quotas = true) (p_dir : mm.dir = true) (p_fmap : mm.fmap = true) (p_groups : mm.groups = true) (p_images : mm.images = true) (p_snaps : mm.snaps = true) (p_standing : mm.standing = true) (p_mem : mm.mem = true) (p_media : mm.media = true) (p_plates : mm.plates = true) (p_twin : mm.twin = true) (p_mode : mm.mode = true) (p_phase : mm.phase = true) (p_config : mm.config = true) : outside mm (doNoticeDrain half s) = outside mm s := by
  simp [doNoticeDrain, *]
@[simp] theorem outside_doNoticeKeep {mm : Parts} {half : Fin 2} {s : State} (p_host : mm.host = true) (p_rc : mm.rc = true) (p_per : mm.per = true) (p_eng : mm.eng = true) (p_tier : mm.tier = true) (p_cs : mm.cs = true) (p_dram : mm.dram = true) (p_nand : mm.nand = true) (p_fix : mm.fix = true) (p_cp : mm.cp = true) (p_rec_ : mm.rec_ = true) (p_snap : mm.snap = true) (p_md : mm.md = true) (p_fieth : mm.fieth = true) (p_pres : mm.pres = true) (p_rmq : mm.rmq = true) (p_rst : mm.rst = true) (p_dict : mm.dict = true) (p_freeCtr : mm.freeCtr = true) (p_outbox : mm.outbox = true) (p_tenants : mm.tenants = true) (p_hosts : mm.hosts = true) (p_regions : mm.regions = true) (p_keyTable : mm.keyTable = true) (p_quotas : mm.quotas = true) (p_dir : mm.dir = true) (p_fmap : mm.fmap = true) (p_groups : mm.groups = true) (p_images : mm.images = true) (p_snaps : mm.snaps = true) (p_standing : mm.standing = true) (p_mem : mm.mem = true) (p_media : mm.media = true) (p_plates : mm.plates = true) (p_twin : mm.twin = true) (p_mode : mm.mode = true) (p_phase : mm.phase = true) (p_config : mm.config = true) : outside mm (doNoticeKeep half s) = outside mm s := by
  simp [doNoticeKeep, *]
@[simp] theorem outside_doNoticeDeclareTimeout {mm : Parts} {s : State} (p_host : mm.host = true) (p_rc : mm.rc = true) (p_per : mm.per = true) (p_eng : mm.eng = true) (p_tier : mm.tier = true) (p_cs : mm.cs = true) (p_dram : mm.dram = true) (p_nand : mm.nand = true) (p_fix : mm.fix = true) (p_cp : mm.cp = true) (p_rec_ : mm.rec_ = true) (p_snap : mm.snap = true) (p_md : mm.md = true) (p_fieth : mm.fieth = true) (p_pres : mm.pres = true) (p_rmq : mm.rmq = true) (p_rst : mm.rst = true) (p_dict : mm.dict = true) (p_freeCtr : mm.freeCtr = true) (p_outbox : mm.outbox = true) (p_tenants : mm.tenants = true) (p_hosts : mm.hosts = true) (p_regions : mm.regions = true) (p_keyTable : mm.keyTable = true) (p_quotas : mm.quotas = true) (p_dir : mm.dir = true) (p_fmap : mm.fmap = true) (p_groups : mm.groups = true) (p_images : mm.images = true) (p_snaps : mm.snaps = true) (p_standing : mm.standing = true) (p_mem : mm.mem = true) (p_media : mm.media = true) (p_plates : mm.plates = true) (p_twin : mm.twin = true) (p_mode : mm.mode = true) (p_phase : mm.phase = true) (p_config : mm.config = true) : outside mm (doNoticeDeclareTimeout s) = outside mm s := by
  simp [doNoticeDeclareTimeout, *]
@[simp] theorem outside_doNoticeBarred {mm : Parts} {half : Fin 2} {s : State} (p_host : mm.host = true) (p_rc : mm.rc = true) (p_per : mm.per = true) (p_eng : mm.eng = true) (p_tier : mm.tier = true) (p_cs : mm.cs = true) (p_dram : mm.dram = true) (p_nand : mm.nand = true) (p_fix : mm.fix = true) (p_cp : mm.cp = true) (p_rec_ : mm.rec_ = true) (p_snap : mm.snap = true) (p_md : mm.md = true) (p_fieth : mm.fieth = true) (p_pres : mm.pres = true) (p_rmq : mm.rmq = true) (p_rst : mm.rst = true) (p_dict : mm.dict = true) (p_freeCtr : mm.freeCtr = true) (p_outbox : mm.outbox = true) (p_tenants : mm.tenants = true) (p_hosts : mm.hosts = true) (p_regions : mm.regions = true) (p_keyTable : mm.keyTable = true) (p_quotas : mm.quotas = true) (p_dir : mm.dir = true) (p_fmap : mm.fmap = true) (p_groups : mm.groups = true) (p_images : mm.images = true) (p_snaps : mm.snaps = true) (p_standing : mm.standing = true) (p_mem : mm.mem = true) (p_media : mm.media = true) (p_plates : mm.plates = true) (p_twin : mm.twin = true) (p_mode : mm.mode = true) (p_phase : mm.phase = true) (p_config : mm.config = true) : outside mm (doNoticeBarred half s) = outside mm s := by
  simp [doNoticeBarred, *]
@[simp] theorem outside_doNoticeLoss {mm : Parts} {half : Fin 2} {s : State} (p_host : mm.host = true) (p_rc : mm.rc = true) (p_per : mm.per = true) (p_eng : mm.eng = true) (p_tier : mm.tier = true) (p_cs : mm.cs = true) (p_dram : mm.dram = true) (p_nand : mm.nand = true) (p_fix : mm.fix = true) (p_cp : mm.cp = true) (p_rec_ : mm.rec_ = true) (p_snap : mm.snap = true) (p_md : mm.md = true) (p_fieth : mm.fieth = true) (p_pres : mm.pres = true) (p_rmq : mm.rmq = true) (p_rst : mm.rst = true) (p_dict : mm.dict = true) (p_freeCtr : mm.freeCtr = true) (p_outbox : mm.outbox = true) (p_tenants : mm.tenants = true) (p_hosts : mm.hosts = true) (p_regions : mm.regions = true) (p_keyTable : mm.keyTable = true) (p_quotas : mm.quotas = true) (p_dir : mm.dir = true) (p_fmap : mm.fmap = true) (p_groups : mm.groups = true) (p_images : mm.images = true) (p_snaps : mm.snaps = true) (p_standing : mm.standing = true) (p_mem : mm.mem = true) (p_media : mm.media = true) (p_plates : mm.plates = true) (p_twin : mm.twin = true) (p_mode : mm.mode = true) (p_phase : mm.phase = true) (p_config : mm.config = true) : outside mm (doNoticeLoss half s) = outside mm s := by
  simp [doNoticeLoss, *]
@[simp] theorem outside_halfOff {mm : Parts} {half : Nat} {s : State} (p_cp : mm.cp = true) (p_pres : mm.pres = true) (p_rmq : mm.rmq = true) (p_rst : mm.rst = true) : outside mm (halfOff half s) = outside mm s := by
  simp [halfOff, *]
@[simp] theorem outside_doNoticeFailover {mm : Parts} {half : Fin 2} {s : State} (p_cp : mm.cp = true) (p_pres : mm.pres = true) (p_rmq : mm.rmq = true) (p_rst : mm.rst = true) (p_dict : mm.dict = true) (p_outbox : mm.outbox = true) : outside mm (doNoticeFailover half s) = outside mm s := by
  simp [doNoticeFailover, *]
@[simp] theorem outside_doFailoverReply {mm : Parts} {half : Fin 2} {s : State} (p_cp : mm.cp = true) (p_dict : mm.dict = true) (p_outbox : mm.outbox = true) : outside mm (doFailoverReply half s) = outside mm s := by
  unfold doFailoverReply; (repeat' split) <;> (try simp [p_cp, p_dict, p_outbox]) <;> simp (disch := (intros; first | (simp [p_cp, p_dict, p_outbox]; done) | ((repeat' split) <;> try simp [p_cp, p_dict, p_outbox]))) [*]
@[simp] theorem outside_doHalfFail {mm : Parts} {half : Fin 2} {cause : Nat} {s : State} (p_host : mm.host = true) (p_rc : mm.rc = true) (p_per : mm.per = true) (p_eng : mm.eng = true) (p_tier : mm.tier = true) (p_cs : mm.cs = true) (p_dram : mm.dram = true) (p_nand : mm.nand = true) (p_fix : mm.fix = true) (p_cp : mm.cp = true) (p_rec_ : mm.rec_ = true) (p_snap : mm.snap = true) (p_md : mm.md = true) (p_fieth : mm.fieth = true) (p_pres : mm.pres = true) (p_rmq : mm.rmq = true) (p_rst : mm.rst = true) (p_dict : mm.dict = true) (p_freeCtr : mm.freeCtr = true) (p_outbox : mm.outbox = true) (p_tenants : mm.tenants = true) (p_hosts : mm.hosts = true) (p_regions : mm.regions = true) (p_keyTable : mm.keyTable = true) (p_quotas : mm.quotas = true) (p_dir : mm.dir = true) (p_fmap : mm.fmap = true) (p_groups : mm.groups = true) (p_images : mm.images = true) (p_snaps : mm.snaps = true) (p_standing : mm.standing = true) (p_mem : mm.mem = true) (p_media : mm.media = true) (p_plates : mm.plates = true) (p_twin : mm.twin = true) (p_mode : mm.mode = true) (p_phase : mm.phase = true) (p_config : mm.config = true) : outside mm (doHalfFail half cause s) = outside mm s := by
  simp [doHalfFail, *]
@[simp] theorem outside_doHalfRetrainTick {mm : Parts} {half : Fin 2} {s : State} (p_cp : mm.cp = true) (p_rst : mm.rst = true) : outside mm (doHalfRetrainTick half s) = outside mm s := by
  simp [doHalfRetrainTick, *]
@[simp] theorem outside_doLinkLossTimeout {mm : Parts} {s : State} (p_host : mm.host = true) (p_rc : mm.rc = true) (p_per : mm.per = true) (p_eng : mm.eng = true) (p_tier : mm.tier = true) (p_cs : mm.cs = true) (p_dram : mm.dram = true) (p_nand : mm.nand = true) (p_fix : mm.fix = true) (p_cp : mm.cp = true) (p_rec_ : mm.rec_ = true) (p_snap : mm.snap = true) (p_md : mm.md = true) (p_fieth : mm.fieth = true) (p_pres : mm.pres = true) (p_rmq : mm.rmq = true) (p_rst : mm.rst = true) (p_dict : mm.dict = true) (p_freeCtr : mm.freeCtr = true) (p_outbox : mm.outbox = true) (p_tenants : mm.tenants = true) (p_hosts : mm.hosts = true) (p_regions : mm.regions = true) (p_keyTable : mm.keyTable = true) (p_quotas : mm.quotas = true) (p_dir : mm.dir = true) (p_fmap : mm.fmap = true) (p_groups : mm.groups = true) (p_images : mm.images = true) (p_snaps : mm.snaps = true) (p_standing : mm.standing = true) (p_mem : mm.mem = true) (p_media : mm.media = true) (p_plates : mm.plates = true) (p_twin : mm.twin = true) (p_mode : mm.mode = true) (p_phase : mm.phase = true) (p_config : mm.config = true) : outside mm (doLinkLossTimeout s) = outside mm s := by
  simp [doLinkLossTimeout, *]
@[simp] theorem outside_takeEpoch {mm : Parts} {p : Nat × Bool} {s : State} (p_cp : mm.cp = true) (p_rmq : mm.rmq = true) (p_freeCtr : mm.freeCtr = true) (p_epochFuses : mm.epochFuses = true) : outside mm (takeEpoch p s) = outside mm s := by
  simp [takeEpoch, *]
@[simp] theorem outside_barred {mm : Parts} {cause : Nat} {s : State} (p_cp : mm.cp = true) (p_rmq : mm.rmq = true) (p_twin : mm.twin = true) : outside mm (barred cause s) = outside mm s := by
  simp [barred, *]
@[simp] theorem outside_doLaneTrainingDone {mm : Parts} {half : Fin 2} {ok epochWritable : Bool} {s : State} (p_cp : mm.cp = true) (p_pres : mm.pres = true) (p_rmq : mm.rmq = true) (p_rst : mm.rst = true) (p_dict : mm.dict = true) (p_freeCtr : mm.freeCtr = true) (p_outbox : mm.outbox = true) (p_twin : mm.twin = true) (p_epochFuses : mm.epochFuses = true) : outside mm (doLaneTrainingDone half ok epochWritable s) = outside mm s := by
  unfold doLaneTrainingDone; (repeat' split) <;> simp [*]
@[simp] theorem outside_beginResync {mm : Parts} {source target : Bool} {b : StatusBody} {s : State} (p_per : mm.per = true) (p_tier : mm.tier = true) (p_cs : mm.cs = true) (p_nand : mm.nand = true) (p_fix : mm.fix = true) (p_cp : mm.cp = true) (p_rec_ : mm.rec_ = true) (p_snap : mm.snap = true) (p_rmq : mm.rmq = true) (p_dict : mm.dict = true) (p_tenants : mm.tenants = true) (p_hosts : mm.hosts = true) (p_regions : mm.regions = true) (p_keyTable : mm.keyTable = true) (p_quotas : mm.quotas = true) (p_dir : mm.dir = true) (p_fmap : mm.fmap = true) (p_images : mm.images = true) (p_snaps : mm.snaps = true) (p_standing : mm.standing = true) (p_twin : mm.twin = true) : outside mm (beginResync source target b s) = outside mm s := by
  simp [beginResync, *]
@[simp] theorem outside_settleHello {mm : Parts} {h : FrameHead} {b : StatusBody} {s : State} (p_host : mm.host = true) (p_per : mm.per = true) (p_eng : mm.eng = true) (p_tier : mm.tier = true) (p_cs : mm.cs = true) (p_nand : mm.nand = true) (p_fix : mm.fix = true) (p_cp : mm.cp = true) (p_rec_ : mm.rec_ = true) (p_snap : mm.snap = true) (p_md : mm.md = true) (p_fieth : mm.fieth = true) (p_pres : mm.pres = true) (p_rmq : mm.rmq = true) (p_rst : mm.rst = true) (p_dict : mm.dict = true) (p_freeCtr : mm.freeCtr = true) (p_outbox : mm.outbox = true) (p_tenants : mm.tenants = true) (p_hosts : mm.hosts = true) (p_regions : mm.regions = true) (p_keyTable : mm.keyTable = true) (p_quotas : mm.quotas = true) (p_dir : mm.dir = true) (p_fmap : mm.fmap = true) (p_groups : mm.groups = true) (p_images : mm.images = true) (p_snaps : mm.snaps = true) (p_standing : mm.standing = true) (p_media : mm.media = true) (p_twin : mm.twin = true) (p_mode : mm.mode = true) (p_phase : mm.phase = true) : outside mm (settleHello h b s) = outside mm s := by
  simp [settleHello, *]
@[simp] theorem outside_doHelloFrame {mm : Parts} {h : FrameHead} {b : StatusBody} {s : State} (p_host : mm.host = true) (p_per : mm.per = true) (p_eng : mm.eng = true) (p_tier : mm.tier = true) (p_cs : mm.cs = true) (p_nand : mm.nand = true) (p_fix : mm.fix = true) (p_cp : mm.cp = true) (p_rec_ : mm.rec_ = true) (p_snap : mm.snap = true) (p_md : mm.md = true) (p_fieth : mm.fieth = true) (p_pres : mm.pres = true) (p_rmq : mm.rmq = true) (p_rst : mm.rst = true) (p_dict : mm.dict = true) (p_freeCtr : mm.freeCtr = true) (p_outbox : mm.outbox = true) (p_tenants : mm.tenants = true) (p_hosts : mm.hosts = true) (p_regions : mm.regions = true) (p_keyTable : mm.keyTable = true) (p_quotas : mm.quotas = true) (p_dir : mm.dir = true) (p_fmap : mm.fmap = true) (p_groups : mm.groups = true) (p_images : mm.images = true) (p_snaps : mm.snaps = true) (p_standing : mm.standing = true) (p_media : mm.media = true) (p_twin : mm.twin = true) (p_mode : mm.mode = true) (p_phase : mm.phase = true) : outside mm (doHelloFrame h b s) = outside mm s := by
  simp [doHelloFrame, *]
@[simp] theorem outside_doCounterLimit {mm : Parts} {epochWritable : Bool} {s : State} (p_host : mm.host = true) (p_rc : mm.rc = true) (p_per : mm.per = true) (p_eng : mm.eng = true) (p_tier : mm.tier = true) (p_cs : mm.cs = true) (p_dram : mm.dram = true) (p_nand : mm.nand = true) (p_fix : mm.fix = true) (p_cp : mm.cp = true) (p_rec_ : mm.rec_ = true) (p_snap : mm.snap = true) (p_md : mm.md = true) (p_fieth : mm.fieth = true) (p_pres : mm.pres = true) (p_rmq : mm.rmq = true) (p_rst : mm.rst = true) (p_dict : mm.dict = true) (p_freeCtr : mm.freeCtr = true) (p_outbox : mm.outbox = true) (p_tenants : mm.tenants = true) (p_hosts : mm.hosts = true) (p_regions : mm.regions = true) (p_keyTable : mm.keyTable = true) (p_quotas : mm.quotas = true) (p_dir : mm.dir = true) (p_fmap : mm.fmap = true) (p_groups : mm.groups = true) (p_images : mm.images = true) (p_snaps : mm.snaps = true) (p_standing : mm.standing = true) (p_mem : mm.mem = true) (p_media : mm.media = true) (p_plates : mm.plates = true) (p_twin : mm.twin = true) (p_epochFuses : mm.epochFuses = true) (p_mode : mm.mode = true) (p_phase : mm.phase = true) (p_config : mm.config = true) : outside mm (doCounterLimit epochWritable s) = outside mm s := by
  unfold doCounterLimit; (repeat' split) <;> simp [*]
@[simp] theorem outside_doTwinAnswerTimeout {mm : Parts} {s : State} (p_host : mm.host = true) (p_rc : mm.rc = true) (p_per : mm.per = true) (p_eng : mm.eng = true) (p_tier : mm.tier = true) (p_cs : mm.cs = true) (p_dram : mm.dram = true) (p_nand : mm.nand = true) (p_fix : mm.fix = true) (p_cp : mm.cp = true) (p_rec_ : mm.rec_ = true) (p_snap : mm.snap = true) (p_md : mm.md = true) (p_fieth : mm.fieth = true) (p_pres : mm.pres = true) (p_rmq : mm.rmq = true) (p_rst : mm.rst = true) (p_dict : mm.dict = true) (p_freeCtr : mm.freeCtr = true) (p_outbox : mm.outbox = true) (p_tenants : mm.tenants = true) (p_hosts : mm.hosts = true) (p_regions : mm.regions = true) (p_keyTable : mm.keyTable = true) (p_quotas : mm.quotas = true) (p_dir : mm.dir = true) (p_fmap : mm.fmap = true) (p_groups : mm.groups = true) (p_images : mm.images = true) (p_snaps : mm.snaps = true) (p_standing : mm.standing = true) (p_mem : mm.mem = true) (p_media : mm.media = true) (p_plates : mm.plates = true) (p_twin : mm.twin = true) (p_mode : mm.mode = true) (p_phase : mm.phase = true) (p_config : mm.config = true) : outside mm (doTwinAnswerTimeout s) = outside mm s := by
  simp [doTwinAnswerTimeout, *]
@[simp] theorem outside_settleAlone {mm : Parts} {s : State} (p_host : mm.host = true) (p_rc : mm.rc = true) (p_per : mm.per = true) (p_eng : mm.eng = true) (p_tier : mm.tier = true) (p_cs : mm.cs = true) (p_dram : mm.dram = true) (p_nand : mm.nand = true) (p_fix : mm.fix = true) (p_cp : mm.cp = true) (p_rec_ : mm.rec_ = true) (p_snap : mm.snap = true) (p_md : mm.md = true) (p_fieth : mm.fieth = true) (p_pres : mm.pres = true) (p_rmq : mm.rmq = true) (p_dict : mm.dict = true) (p_freeCtr : mm.freeCtr = true) (p_outbox : mm.outbox = true) (p_tenants : mm.tenants = true) (p_hosts : mm.hosts = true) (p_regions : mm.regions = true) (p_keyTable : mm.keyTable = true) (p_quotas : mm.quotas = true) (p_dir : mm.dir = true) (p_fmap : mm.fmap = true) (p_groups : mm.groups = true) (p_images : mm.images = true) (p_snaps : mm.snaps = true) (p_standing : mm.standing = true) (p_mem : mm.mem = true) (p_media : mm.media = true) (p_plates : mm.plates = true) (p_twin : mm.twin = true) (p_mode : mm.mode = true) (p_config : mm.config = true) : outside mm (settleAlone s) = outside mm s := by
  simp [settleAlone, *]
@[simp] theorem outside_doTwinPresentChange {mm : Parts} {present : Bool} {s : State} (p_host : mm.host = true) (p_rc : mm.rc = true) (p_per : mm.per = true) (p_eng : mm.eng = true) (p_tier : mm.tier = true) (p_cs : mm.cs = true) (p_dram : mm.dram = true) (p_nand : mm.nand = true) (p_fix : mm.fix = true) (p_cp : mm.cp = true) (p_rec_ : mm.rec_ = true) (p_snap : mm.snap = true) (p_md : mm.md = true) (p_fieth : mm.fieth = true) (p_pres : mm.pres = true) (p_rmq : mm.rmq = true) (p_rst : mm.rst = true) (p_dict : mm.dict = true) (p_freeCtr : mm.freeCtr = true) (p_outbox : mm.outbox = true) (p_tenants : mm.tenants = true) (p_hosts : mm.hosts = true) (p_regions : mm.regions = true) (p_keyTable : mm.keyTable = true) (p_quotas : mm.quotas = true) (p_dir : mm.dir = true) (p_fmap : mm.fmap = true) (p_groups : mm.groups = true) (p_images : mm.images = true) (p_snaps : mm.snaps = true) (p_standing : mm.standing = true) (p_mem : mm.mem = true) (p_media : mm.media = true) (p_plates : mm.plates = true) (p_twin : mm.twin = true) (p_mode : mm.mode = true) (p_config : mm.config = true) : outside mm (doTwinPresentChange present s) = outside mm s := by
  simp [doTwinPresentChange, *]
@[simp] theorem outside_doSettleTimeout {mm : Parts} {s : State} (p_cp : mm.cp = true) (p_rmq : mm.rmq = true) : outside mm (doSettleTimeout s) = outside mm s := by
  simp [doSettleTimeout, *]
@[simp] theorem outside_doBudgetShareTick {mm : Parts} {s : State} (p_cp : mm.cp = true) (p_freeCtr : mm.freeCtr = true) : outside mm (doBudgetShareTick s) = outside mm s := by
  simp [doBudgetShareTick, *]
@[simp] theorem outside_doTakeOwnership {mm : Parts} {s : State} (p_host : mm.host = true) (p_rc : mm.rc = true) (p_per : mm.per = true) (p_eng : mm.eng = true) (p_tier : mm.tier = true) (p_cs : mm.cs = true) (p_dram : mm.dram = true) (p_nand : mm.nand = true) (p_fix : mm.fix = true) (p_cp : mm.cp = true) (p_rec_ : mm.rec_ = true) (p_snap : mm.snap = true) (p_md : mm.md = true) (p_fieth : mm.fieth = true) (p_pres : mm.pres = true) (p_rmq : mm.rmq = true) (p_dict : mm.dict = true) (p_freeCtr : mm.freeCtr = true) (p_outbox : mm.outbox = true) (p_tenants : mm.tenants = true) (p_hosts : mm.hosts = true) (p_regions : mm.regions = true) (p_keyTable : mm.keyTable = true) (p_quotas : mm.quotas = true) (p_dir : mm.dir = true) (p_fmap : mm.fmap = true) (p_groups : mm.groups = true) (p_images : mm.images = true) (p_snaps : mm.snaps = true) (p_standing : mm.standing = true) (p_mem : mm.mem = true) (p_media : mm.media = true) (p_plates : mm.plates = true) (p_twin : mm.twin = true) (p_mode : mm.mode = true) (p_config : mm.config = true) : outside mm (doTakeOwnership s) = outside mm s := by
  simp [doTakeOwnership, *]

end Sys2Proof.Machine
end

