-- ==== Sys2Proof/Laws/KeepRecall.lean ====
section
/-! SUPPORT. What each operation of Machine/Recall.lean leaves unchanged: everything outside the parts its hypotheses name (Outside.lean). -/
namespace Sys2Proof.Machine
open Sys2Proof
set_option linter.unusedSimpArgs false

@[simp] theorem outside_forgetWork {mm : Parts} {s : State} (p_nand : mm.nand = true) (p_fix : mm.fix = true) : outside mm (forgetWork s) = outside mm s := by
  simp [forgetWork, *]
@[simp] theorem outside_loadTables {mm : Parts} {s : State} (p_per : mm.per = true) (p_tier : mm.tier = true) (p_cs : mm.cs = true) (p_nand : mm.nand = true) (p_fix : mm.fix = true) (p_cp : mm.cp = true) (p_rec_ : mm.rec_ = true) (p_snap : mm.snap = true) (p_rmq : mm.rmq = true) (p_dict : mm.dict = true) (p_freeCtr : mm.freeCtr = true) (p_tenants : mm.tenants = true) (p_hosts : mm.hosts = true) (p_regions : mm.regions = true) (p_keyTable : mm.keyTable = true) (p_quotas : mm.quotas = true) (p_dir : mm.dir = true) (p_fmap : mm.fmap = true) (p_groups : mm.groups = true) (p_images : mm.images = true) (p_snaps : mm.snaps = true) (p_standing : mm.standing = true) : outside mm (loadTables s) = outside mm s := by
  simp [loadTables, *]
@[simp] theorem outside_doMapDirectoryLoaded {mm : Parts} {rebuilt : Nat} {s : State} (p_per : mm.per = true) (p_eng : mm.eng = true) (p_tier : mm.tier = true) (p_cs : mm.cs = true) (p_nand : mm.nand = true) (p_fix : mm.fix = true) (p_cp : mm.cp = true) (p_rec_ : mm.rec_ = true) (p_snap : mm.snap = true) (p_md : mm.md = true) (p_rmq : mm.rmq = true) (p_dict : mm.dict = true) (p_freeCtr : mm.freeCtr = true) (p_tenants : mm.tenants = true) (p_hosts : mm.hosts = true) (p_regions : mm.regions = true) (p_keyTable : mm.keyTable = true) (p_quotas : mm.quotas = true) (p_dir : mm.dir = true) (p_fmap : mm.fmap = true) (p_groups : mm.groups = true) (p_images : mm.images = true) (p_snaps : mm.snaps = true) (p_standing : mm.standing = true) : outside mm (doMapDirectoryLoaded rebuilt s) = outside mm s := by
  simp [doMapDirectoryLoaded, *]
@[simp] theorem outside_doSegmentLoadDone {mm : Parts} {segment : Nat} {s : State} (p_rec_ : mm.rec_ = true) (p_dict : mm.dict = true) : outside mm (doSegmentLoadDone segment s) = outside mm s := by
  simp [doSegmentLoadDone, *]
@[simp] theorem outside_reinstateMerge {mm : Parts} {m : Merge} {s : State} (p_nand : mm.nand = true) : outside mm (reinstateMerge m s) = outside mm s := by
  simp [reinstateMerge, *]
@[simp] theorem outside_reinstateLine {mm : Parts} {line : Nat} {data : Mem} {s : State} (p_per : mm.per = true) (p_cs : mm.cs = true) (p_dram : mm.dram = true) (p_nand : mm.nand = true) (p_dir : mm.dir = true) (p_mem : mm.mem = true) : outside mm (reinstateLine line data s) = outside mm s := by
  unfold reinstateLine
  cases hi : install line .host true false false data s with
  | none => simp [p_per, p_cs, p_dram, p_nand, p_dir, p_mem]
  | some t =>
    have := (outside_install hi p_cs p_nand)
    simp [this]
@[simp] theorem outside_replaySeal {mm : Parts} {d : Dump} {s : State} (p_rmq : mm.rmq = true) : outside mm (replaySeal d s) = outside mm s := by
  simp [replaySeal, *]
@[simp] theorem outside_doDumpIndexed {mm : Parts} {s : State} (p_per : mm.per = true) (p_cs : mm.cs = true) (p_dram : mm.dram = true) (p_nand : mm.nand = true) (p_fix : mm.fix = true) (p_rec_ : mm.rec_ = true) (p_md : mm.md = true) (p_pres : mm.pres = true) (p_rmq : mm.rmq = true) (p_dict : mm.dict = true) (p_freeCtr : mm.freeCtr = true) (p_dir : mm.dir = true) (p_fmap : mm.fmap = true) (p_groups : mm.groups = true) (p_mem : mm.mem = true) (p_media : mm.media = true) (p_plates : mm.plates = true) (p_mode : mm.mode = true) (p_ring : mm.ring = true) : outside mm (doDumpIndexed s) = outside mm s := by
  unfold doDumpIndexed; (repeat' split) <;> simp [*]
@[simp] theorem outside_readAhead {mm : Parts} {tpn : Nat} {s : State} (p_rec_ : mm.rec_ = true) : outside mm (readAhead tpn s) = outside mm s := by
  simp [readAhead, *]
@[simp] theorem outside_restoreFailed {mm : Parts} {tpn : Nat} {s : State} (p_per : mm.per = true) (p_nand : mm.nand = true) (p_fix : mm.fix = true) (p_cp : mm.cp = true) (p_rec_ : mm.rec_ = true) (p_md : mm.md = true) (p_pres : mm.pres = true) (p_rmq : mm.rmq = true) (p_dict : mm.dict = true) (p_freeCtr : mm.freeCtr = true) (p_dir : mm.dir = true) (p_fmap : mm.fmap = true) (p_groups : mm.groups = true) (p_media : mm.media = true) (p_plates : mm.plates = true) (p_mode : mm.mode = true) : outside mm (restoreFailed tpn s) = outside mm s := by
  simp [restoreFailed, *]
@[simp] theorem outside_restorePage {mm : Parts} {tpn : Nat} {readable : Bool} {s : State} (p_per : mm.per = true) (p_dram : mm.dram = true) (p_nand : mm.nand = true) (p_fix : mm.fix = true) (p_cp : mm.cp = true) (p_rec_ : mm.rec_ = true) (p_md : mm.md = true) (p_pres : mm.pres = true) (p_rmq : mm.rmq = true) (p_dict : mm.dict = true) (p_freeCtr : mm.freeCtr = true) (p_dir : mm.dir = true) (p_fmap : mm.fmap = true) (p_groups : mm.groups = true) (p_mem : mm.mem = true) (p_media : mm.media = true) (p_plates : mm.plates = true) (p_mode : mm.mode = true) : outside mm (restorePage tpn readable s) = outside mm s := by
  unfold restorePage; (repeat' split) <;> (try simp [p_per, p_dram, p_nand, p_fix, p_cp, p_rec_, p_md, p_pres, p_rmq, p_dict, p_freeCtr, p_dir, p_fmap, p_groups, p_mem, p_media, p_plates, p_mode]) <;> (repeat' split) <;> (try simp_all) <;> simp (disch := (intros; first | (simp [p_per, p_dram, p_nand, p_fix, p_cp, p_rec_, p_md, p_pres, p_rmq, p_dict, p_freeCtr, p_dir, p_fmap, p_groups, p_mem, p_media, p_plates, p_mode]; done) | ((repeat' split) <;> try simp [p_per, p_dram, p_nand, p_fix, p_cp, p_rec_, p_md, p_pres, p_rmq, p_dict, p_freeCtr, p_dir, p_fmap, p_groups, p_mem, p_media, p_plates, p_mode]))) [*]
@[simp] theorem outside_doRestorePageDone {mm : Parts} {tpn : Nat} {readable : Bool} {s : State} (p_per : mm.per = true) (p_tier : mm.tier = true) (p_cs : mm.cs = true) (p_dram : mm.dram = true) (p_nand : mm.nand = true) (p_fix : mm.fix = true) (p_cp : mm.cp = true) (p_rec_ : mm.rec_ = true) (p_snap : mm.snap = true) (p_md : mm.md = true) (p_pres : mm.pres = true) (p_rmq : mm.rmq = true) (p_dict : mm.dict = true) (p_freeCtr : mm.freeCtr = true) (p_quotas : mm.quotas = true) (p_dir : mm.dir = true) (p_fmap : mm.fmap = true) (p_groups : mm.groups = true) (p_images : mm.images = true) (p_snaps : mm.snaps = true) (p_mem : mm.mem = true) (p_media : mm.media = true) (p_plates : mm.plates = true) (p_mode : mm.mode = true) : outside mm (doRestorePageDone tpn readable s) = outside mm s := by
  simp [doRestorePageDone, *]
@[simp] theorem outside_doRestoreOrdersRead {mm : Parts} {s : State} (p_host : mm.host = true) (p_per : mm.per = true) (p_tier : mm.tier = true) (p_cs : mm.cs = true) (p_dram : mm.dram = true) (p_nand : mm.nand = true) (p_fix : mm.fix = true) (p_cp : mm.cp = true) (p_rec_ : mm.rec_ = true) (p_snap : mm.snap = true) (p_md : mm.md = true) (p_pres : mm.pres = true) (p_rmq : mm.rmq = true) (p_dict : mm.dict = true) (p_freeCtr : mm.freeCtr = true) (p_quotas : mm.quotas = true) (p_dir : mm.dir = true) (p_fmap : mm.fmap = true) (p_groups : mm.groups = true) (p_mem : mm.mem = true) (p_media : mm.media = true) (p_plates : mm.plates = true) (p_mode : mm.mode = true) : outside mm (doRestoreOrdersRead s) = outside mm s := by
  simp [doRestoreOrdersRead, *]
@[simp] theorem outside_doTraceWindowEnd {mm : Parts} {host : Nat} {s : State} (p_host : mm.host = true) (p_per : mm.per = true) (p_tier : mm.tier = true) (p_cs : mm.cs = true) (p_nand : mm.nand = true) (p_cp : mm.cp = true) (p_rec_ : mm.rec_ = true) (p_snap : mm.snap = true) (p_dict : mm.dict = true) (p_freeCtr : mm.freeCtr = true) (p_quotas : mm.quotas = true) (p_dir : mm.dir = true) : outside mm (doTraceWindowEnd host s) = outside mm s := by
  unfold doTraceWindowEnd; (repeat' split) <;> simp [*]
@[simp] theorem outside_doOrphanReclaim {mm : Parts} {channel : Fin 40} {die : Fin 16} {group : Nat} {s : State} (p_per : mm.per = true) (p_nand : mm.nand = true) (p_cp : mm.cp = true) (p_rec_ : mm.rec_ = true) (p_md : mm.md = true) (p_pres : mm.pres = true) (p_rmq : mm.rmq = true) (p_dict : mm.dict = true) (p_freeCtr : mm.freeCtr = true) (p_fmap : mm.fmap = true) (p_groups : mm.groups = true) (p_media : mm.media = true) (p_twin : mm.twin = true) (p_mode : mm.mode = true) : outside mm (doOrphanReclaim channel die group s) = outside mm s := by
  simp [doOrphanReclaim, *]
@[simp] theorem outside_openAdmission {mm : Parts} {s : State} (p_host : mm.host = true) (p_rc : mm.rc = true) (p_per : mm.per = true) (p_eng : mm.eng = true) (p_tier : mm.tier = true) (p_cs : mm.cs = true) (p_dram : mm.dram = true) (p_nand : mm.nand = true) (p_fix : mm.fix = true) (p_cp : mm.cp = true) (p_rec_ : mm.rec_ = true) (p_snap : mm.snap = true) (p_md : mm.md = true) (p_fieth : mm.fieth = true) (p_pres : mm.pres = true) (p_rmq : mm.rmq = true) (p_dict : mm.dict = true) (p_freeCtr : mm.freeCtr = true) (p_outbox : mm.outbox = true) (p_tenants : mm.tenants = true) (p_hosts : mm.hosts = true) (p_regions : mm.regions = true) (p_keyTable : mm.keyTable = true) (p_quotas : mm.quotas = true) (p_dir : mm.dir = true) (p_fmap : mm.fmap = true) (p_groups : mm.groups = true) (p_images : mm.images = true) (p_snaps : mm.snaps = true) (p_standing : mm.standing = true) (p_mem : mm.mem = true) (p_media : mm.media = true) (p_plates : mm.plates = true) (p_twin : mm.twin = true) (p_mode : mm.mode = true) (p_config : mm.config = true) : outside mm (openAdmission s) = outside mm s := by
  simp [openAdmission, *]
@[simp] theorem outside_doServingInstant {mm : Parts} {s : State} (p_host : mm.host = true) (p_rc : mm.rc = true) (p_per : mm.per = true) (p_eng : mm.eng = true) (p_tier : mm.tier = true) (p_cs : mm.cs = true) (p_dram : mm.dram = true) (p_nand : mm.nand = true) (p_fix : mm.fix = true) (p_cp : mm.cp = true) (p_rec_ : mm.rec_ = true) (p_snap : mm.snap = true) (p_md : mm.md = true) (p_fieth : mm.fieth = true) (p_pres : mm.pres = true) (p_rmq : mm.rmq = true) (p_dict : mm.dict = true) (p_freeCtr : mm.freeCtr = true) (p_outbox : mm.outbox = true) (p_tenants : mm.tenants = true) (p_hosts : mm.hosts = true) (p_regions : mm.regions = true) (p_keyTable : mm.keyTable = true) (p_quotas : mm.quotas = true) (p_dir : mm.dir = true) (p_fmap : mm.fmap = true) (p_groups : mm.groups = true) (p_images : mm.images = true) (p_snaps : mm.snaps = true) (p_standing : mm.standing = true) (p_mem : mm.mem = true) (p_media : mm.media = true) (p_plates : mm.plates = true) (p_twin : mm.twin = true) (p_mode : mm.mode = true) (p_config : mm.config = true) : outside mm (doServingInstant s) = outside mm s := by
  simp [doServingInstant, *]
@[simp] theorem outside_doFirstFormatDone {mm : Parts} {s : State} (p_host : mm.host = true) (p_rc : mm.rc = true) (p_per : mm.per = true) (p_eng : mm.eng = true) (p_tier : mm.tier = true) (p_cs : mm.cs = true) (p_dram : mm.dram = true) (p_nand : mm.nand = true) (p_fix : mm.fix = true) (p_cp : mm.cp = true) (p_rec_ : mm.rec_ = true) (p_snap : mm.snap = true) (p_md : mm.md = true) (p_keys : mm.keys = true) (p_fieth : mm.fieth = true) (p_pres : mm.pres = true) (p_rmq : mm.rmq = true) (p_dict : mm.dict = true) (p_freeCtr : mm.freeCtr = true) (p_outbox : mm.outbox = true) (p_tenants : mm.tenants = true) (p_hosts : mm.hosts = true) (p_regions : mm.regions = true) (p_keyTable : mm.keyTable = true) (p_quotas : mm.quotas = true) (p_dir : mm.dir = true) (p_fmap : mm.fmap = true) (p_groups : mm.groups = true) (p_images : mm.images = true) (p_snaps : mm.snaps = true) (p_standing : mm.standing = true) (p_mem : mm.mem = true) (p_media : mm.media = true) (p_plates : mm.plates = true) (p_twin : mm.twin = true) (p_mode : mm.mode = true) (p_keySlots : mm.keySlots = true) (p_config : mm.config = true) : outside mm (doFirstFormatDone s) = outside mm s := by
  simp [doFirstFormatDone, *]

end Sys2Proof.Machine
end

