-- ==== Sys2Proof/Laws/KeepModes.lean ====
section
/-! SUPPORT. What each operation of Machine/Modes.lean leaves unchanged: everything outside the parts its hypotheses name (Outside.lean). -/
namespace Sys2Proof.Machine
open Sys2Proof
set_option linter.unusedSimpArgs false

@[simp] theorem outside_modeRequest {mm : Parts} {code : Nat} {status : State → Nat} {run : State → State} {s : State} (p_fieth : mm.fieth = true) (p_dict : mm.dict = true) (p_outbox : mm.outbox = true) (hrun : ∀ a, outside mm (run a) = outside mm a) : outside mm (modeRequest code status run s) = outside mm s := by
  simp [modeRequest, *]
@[simp] theorem outside_doPlannedShutdown {mm : Parts} {s : State} (p_per : mm.per = true) (p_tier : mm.tier = true) (p_nand : mm.nand = true) (p_fix : mm.fix = true) (p_cp : mm.cp = true) (p_snap : mm.snap = true) (p_md : mm.md = true) (p_fieth : mm.fieth = true) (p_pres : mm.pres = true) (p_rmq : mm.rmq = true) (p_rst : mm.rst = true) (p_dict : mm.dict = true) (p_freeCtr : mm.freeCtr = true) (p_outbox : mm.outbox = true) (p_quotas : mm.quotas = true) (p_dir : mm.dir = true) (p_fmap : mm.fmap = true) (p_groups : mm.groups = true) (p_snaps : mm.snaps = true) (p_media : mm.media = true) (p_mode : mm.mode = true) (p_phase : mm.phase = true) : outside mm (doPlannedShutdown s) = outside mm s := by
  simp [doPlannedShutdown, *]
@[simp] theorem outside_doEnterService {mm : Parts} {s : State} (p_per : mm.per = true) (p_nand : mm.nand = true) (p_md : mm.md = true) (p_fieth : mm.fieth = true) (p_pres : mm.pres = true) (p_rmq : mm.rmq = true) (p_dict : mm.dict = true) (p_freeCtr : mm.freeCtr = true) (p_outbox : mm.outbox = true) (p_fmap : mm.fmap = true) (p_groups : mm.groups = true) (p_media : mm.media = true) (p_mode : mm.mode = true) : outside mm (doEnterService s) = outside mm s := by
  simp [doEnterService, *]
@[simp] theorem outside_endService {mm : Parts} {s : State} (p_per : mm.per = true) (p_nand : mm.nand = true) (p_md : mm.md = true) (p_pres : mm.pres = true) (p_rmq : mm.rmq = true) (p_dict : mm.dict = true) (p_freeCtr : mm.freeCtr = true) (p_fmap : mm.fmap = true) (p_groups : mm.groups = true) (p_media : mm.media = true) (p_mode : mm.mode = true) : outside mm (endService s) = outside mm s := by
  simp [endService, *]
@[simp] theorem outside_doLeaveService {mm : Parts} {s : State} (p_per : mm.per = true) (p_nand : mm.nand = true) (p_md : mm.md = true) (p_fieth : mm.fieth = true) (p_pres : mm.pres = true) (p_rmq : mm.rmq = true) (p_dict : mm.dict = true) (p_freeCtr : mm.freeCtr = true) (p_outbox : mm.outbox = true) (p_fmap : mm.fmap = true) (p_groups : mm.groups = true) (p_media : mm.media = true) (p_mode : mm.mode = true) : outside mm (doLeaveService s) = outside mm s := by
  simp [doLeaveService, *]
@[simp] theorem outside_doAcceptKeep {mm : Parts} {s : State} (p_per : mm.per = true) (p_nand : mm.nand = true) (p_cp : mm.cp = true) (p_md : mm.md = true) (p_fieth : mm.fieth = true) (p_pres : mm.pres = true) (p_rmq : mm.rmq = true) (p_dict : mm.dict = true) (p_freeCtr : mm.freeCtr = true) (p_outbox : mm.outbox = true) (p_fmap : mm.fmap = true) (p_groups : mm.groups = true) (p_media : mm.media = true) (p_twin : mm.twin = true) (p_mode : mm.mode = true) : outside mm (doAcceptKeep s) = outside mm s := by
  simp [doAcceptKeep, *]
@[simp] theorem outside_doForceKeep {mm : Parts} {s : State} (p_md : mm.md = true) (p_fieth : mm.fieth = true) (p_dict : mm.dict = true) (p_outbox : mm.outbox = true) : outside mm (doForceKeep s) = outside mm s := by
  unfold doForceKeep; (repeat' split) <;> (try simp [p_md, p_fieth, p_dict, p_outbox]) <;> simp (disch := (intros; first | (simp [p_md, p_fieth, p_dict, p_outbox]; done) | ((repeat' split) <;> try simp [p_md, p_fieth, p_dict, p_outbox]))) [*]
@[simp] theorem outside_doForceStandDown {mm : Parts} {s : State} (p_host : mm.host = true) (p_per : mm.per = true) (p_eng : mm.eng = true) (p_tier : mm.tier = true) (p_nand : mm.nand = true) (p_fix : mm.fix = true) (p_cp : mm.cp = true) (p_snap : mm.snap = true) (p_md : mm.md = true) (p_fieth : mm.fieth = true) (p_pres : mm.pres = true) (p_rmq : mm.rmq = true) (p_rst : mm.rst = true) (p_dict : mm.dict = true) (p_freeCtr : mm.freeCtr = true) (p_outbox : mm.outbox = true) (p_quotas : mm.quotas = true) (p_dir : mm.dir = true) (p_fmap : mm.fmap = true) (p_groups : mm.groups = true) (p_snaps : mm.snaps = true) (p_standing : mm.standing = true) (p_media : mm.media = true) (p_twin : mm.twin = true) (p_mode : mm.mode = true) (p_phase : mm.phase = true) : outside mm (doForceStandDown s) = outside mm s := by
  unfold doForceStandDown; (repeat' split) <;> (try simp [p_host, p_per, p_eng, p_tier, p_nand, p_fix, p_cp, p_snap, p_md, p_fieth, p_pres, p_rmq, p_rst, p_dict, p_freeCtr, p_outbox, p_quotas, p_dir, p_fmap, p_groups, p_snaps, p_standing, p_media, p_twin, p_mode, p_phase]) <;> simp (disch := (intros; first | (simp [p_host, p_per, p_eng, p_tier, p_nand, p_fix, p_cp, p_snap, p_md, p_fieth, p_pres, p_rmq, p_rst, p_dict, p_freeCtr, p_outbox, p_quotas, p_dir, p_fmap, p_groups, p_snaps, p_standing, p_media, p_twin, p_mode, p_phase]; done) | ((repeat' split) <;> try simp [p_host, p_per, p_eng, p_tier, p_nand, p_fix, p_cp, p_snap, p_md, p_fieth, p_pres, p_rmq, p_rst, p_dict, p_freeCtr, p_outbox, p_quotas, p_dir, p_fmap, p_groups, p_snaps, p_standing, p_media, p_twin, p_mode, p_phase]))) [*]
@[simp] theorem outside_unknownRequest {mm : Parts} {code : Nat} {s : State} (p_fieth : mm.fieth = true) (p_dict : mm.dict = true) (p_outbox : mm.outbox = true) : outside mm (unknownRequest code s) = outside mm s := by
  simp [unknownRequest, *]
@[simp] theorem outside_doProfileWrite {mm : Parts} {profile : Nat} {s : State} (p_per : mm.per = true) (p_nand : mm.nand = true) (p_cp : mm.cp = true) (p_md : mm.md = true) (p_fieth : mm.fieth = true) (p_pres : mm.pres = true) (p_rmq : mm.rmq = true) (p_dict : mm.dict = true) (p_freeCtr : mm.freeCtr = true) (p_outbox : mm.outbox = true) (p_fmap : mm.fmap = true) (p_groups : mm.groups = true) (p_media : mm.media = true) (p_twin : mm.twin = true) (p_mode : mm.mode = true) (p_config : mm.config = true) : outside mm (doProfileWrite profile s) = outside mm s := by
  simp [doProfileWrite, *]
@[simp] theorem outside_doTempThreshold {mm : Parts} {celsius : Int} {s : State} (p_per : mm.per = true) (p_tier : mm.tier = true) (p_nand : mm.nand = true) (p_fix : mm.fix = true) (p_cp : mm.cp = true) (p_snap : mm.snap = true) (p_md : mm.md = true) (p_pres : mm.pres = true) (p_rmq : mm.rmq = true) (p_rst : mm.rst = true) (p_dict : mm.dict = true) (p_freeCtr : mm.freeCtr = true) (p_outbox : mm.outbox = true) (p_quotas : mm.quotas = true) (p_dir : mm.dir = true) (p_fmap : mm.fmap = true) (p_groups : mm.groups = true) (p_snaps : mm.snaps = true) (p_media : mm.media = true) (p_mode : mm.mode = true) (p_phase : mm.phase = true) : outside mm (doTempThreshold celsius s) = outside mm s := by
  simp [doTempThreshold, *]
@[simp] theorem outside_doTempClearTimeout {mm : Parts} {celsius : Int} {s : State} (p_per : mm.per = true) (p_nand : mm.nand = true) (p_cp : mm.cp = true) (p_md : mm.md = true) (p_pres : mm.pres = true) (p_rmq : mm.rmq = true) (p_dict : mm.dict = true) (p_freeCtr : mm.freeCtr = true) (p_fmap : mm.fmap = true) (p_groups : mm.groups = true) (p_media : mm.media = true) (p_twin : mm.twin = true) (p_mode : mm.mode = true) : outside mm (doTempClearTimeout celsius s) = outside mm s := by
  simp [doTempClearTimeout, *]
@[simp] theorem outside_failPort {mm : Parts} {p : Nat} {s : State} (p_host : mm.host = true) (p_rc : mm.rc = true) (p_md : mm.md = true) (p_ports : mm.ports = true) : outside mm (failPort p s) = outside mm s := by
  simp [failPort, *]
@[simp] theorem outside_failPorts {mm : Parts} {ports : List Nat} {s : State} (p_host : mm.host = true) (p_rc : mm.rc = true) (p_md : mm.md = true) (p_ports : mm.ports = true) (p_pres : mm.pres = true) (p_rmq : mm.rmq = true) (p_dict : mm.dict = true) (p_freeCtr : mm.freeCtr = true) : outside mm (failPorts ports s) = outside mm s := by
  simp [failPorts, *]
@[simp] theorem outside_failGroup {mm : Parts} {g : Nat} {s : State} (p_host : mm.host = true) (p_rc : mm.rc = true) (p_md : mm.md = true) (p_ports : mm.ports = true) (p_pres : mm.pres = true) (p_rmq : mm.rmq = true) (p_rst : mm.rst = true) (p_dict : mm.dict = true) (p_freeCtr : mm.freeCtr = true) : outside mm (failGroup g s) = outside mm s := by
  simp [failGroup, *]
@[simp] theorem outside_doPortFailure {mm : Parts} {port : Fin 128} {wholeGroup : Bool} {s : State} (p_host : mm.host = true) (p_rc : mm.rc = true) (p_md : mm.md = true) (p_ports : mm.ports = true) (p_pres : mm.pres = true) (p_rmq : mm.rmq = true) (p_rst : mm.rst = true) (p_dict : mm.dict = true) (p_freeCtr : mm.freeCtr = true) : outside mm (doPortFailure port wholeGroup s) = outside mm s := by
  simp [doPortFailure, *]
@[simp] theorem outside_doProxyStopTimer {mm : Parts} {port : Fin 128} {s : State} (p_md : mm.md = true) (p_ports : mm.ports = true) : outside mm (doProxyStopTimer port s) = outside mm s := by
  simp [doProxyStopTimer, *]

end Sys2Proof.Machine
end

