-- ==== Sys2Proof/Laws/KeepRecords.lean ====
section
/-! SUPPORT. What each operation of Machine/Records.lean leaves unchanged: everything outside the parts its hypotheses name (Outside.lean). -/
namespace Sys2Proof.Machine
open Sys2Proof
set_option linter.unusedSimpArgs false

@[simp] theorem outside_sendEvent {mm : Parts} {n : Nat} {r : Rcd} {s : State} (p_fieth : mm.fieth = true) (p_dict : mm.dict = true) (p_outbox : mm.outbox = true) : outside mm (sendEvent n r s) = outside mm s := by
  simp [sendEvent, *]
@[simp] theorem outside_sendEvents {mm : Parts} {r : Rcd} {s : State} (p_fieth : mm.fieth = true) (p_dict : mm.dict = true) (p_outbox : mm.outbox = true) : outside mm (sendEvents r s) = outside mm s := by
  simp [sendEvents, *]
@[simp] theorem outside_putRecord {mm : Parts} {d : Draft} {s : State} (p_fieth : mm.fieth = true) (p_rmq : mm.rmq = true) (p_dict : mm.dict = true) (p_outbox : mm.outbox = true) (p_ring : mm.ring = true) : outside mm (putRecord d s) = outside mm s := by
  simp [putRecord, *]
@[simp] theorem outside_flushRecords {mm : Parts} {sealed : Bool} {s0 : State} (p_fieth : mm.fieth = true) (p_rmq : mm.rmq = true) (p_dict : mm.dict = true) (p_freeCtr : mm.freeCtr = true) (p_outbox : mm.outbox = true) (p_ring : mm.ring = true) : outside mm (flushRecords sealed s0) = outside mm s0 := by
  simp [flushRecords, *]
@[simp] theorem outside_flushWaiting {mm : Parts} {sealed : Bool} {s : State} (p_fieth : mm.fieth = true) (p_rmq : mm.rmq = true) (p_dict : mm.dict = true) (p_freeCtr : mm.freeCtr = true) (p_outbox : mm.outbox = true) (p_ring : mm.ring = true) : outside mm (flushWaiting sealed s) = outside mm s := by
  simp [flushWaiting, *]

end Sys2Proof.Machine
end

