-- ==== Sys2Proof/Laws/KeepKeys.lean ====
section
/-! SUPPORT. What each operation of Machine/Keys.lean leaves unchanged: everything outside the parts its hypotheses name (Outside.lean). -/
namespace Sys2Proof.Machine
open Sys2Proof
set_option linter.unusedSimpArgs false

@[simp] theorem outside_keyStatus {mm : Parts} {status result : Nat} {s : State} (p_dict : mm.dict = true) : outside mm (keyStatus status result s) = outside mm s := by
  simp [keyStatus, *]
@[simp] theorem outside_swapSlot {mm : Parts} {n : Nat} {s : State} (p_keys : mm.keys = true) (p_dict : mm.dict = true) (p_keySlots : mm.keySlots = true) : outside mm (swapSlot n s) = outside mm s := by
  unfold swapSlot; (repeat' split) <;> (try simp [p_keys, p_dict, p_keySlots]) <;> (repeat' split) <;> (try simp_all) <;> simp (disch := (intros; first | (simp [p_keys, p_dict, p_keySlots]; done) | ((repeat' split) <;> try simp [p_keys, p_dict, p_keySlots]))) [*]
@[simp] theorem outside_doKeySwap {mm : Parts} {slot : Fin 64} {s : State} (p_keys : mm.keys = true) (p_dict : mm.dict = true) (p_keySlots : mm.keySlots = true) : outside mm (doKeySwap slot s) = outside mm s := by
  simp [doKeySwap, *]
@[simp] theorem outside_grantUe {mm : Parts} {s : State} (p_keys : mm.keys = true) : outside mm (grantUe s) = outside mm s := by
  unfold grantUe; (repeat' split) <;> simp [*]
@[simp] theorem outside_claimUe {mm : Parts} {client : Nat} {s : State} (p_keys : mm.keys = true) : outside mm (claimUe client s) = outside mm s := by
  simp [claimUe, *]
@[simp] theorem outside_endKeyJob {mm : Parts} {s : State} (p_keys : mm.keys = true) (p_dict : mm.dict = true) (p_keySlots : mm.keySlots = true) : outside mm (endKeyJob s) = outside mm s := by
  unfold endKeyJob; (repeat' split) <;> simp [*]
@[simp] theorem outside_failUe {mm : Parts} {s : State} (p_keys : mm.keys = true) (p_fieth : mm.fieth = true) (p_rmq : mm.rmq = true) (p_dict : mm.dict = true) (p_freeCtr : mm.freeCtr = true) (p_outbox : mm.outbox = true) (p_ring : mm.ring = true) : outside mm (failUe s) = outside mm s := by
  unfold failUe; (repeat' split) <;> simp [*]
@[simp] theorem outside_keyCommand {mm : Parts} {code slot kind : Nat} {status : State → Option Nat} {run : State → State} {s : State} (p_keys : mm.keys = true) (p_fieth : mm.fieth = true) (p_dict : mm.dict = true) (p_outbox : mm.outbox = true) (hrun : ∀ a, outside mm (run a) = outside mm a) : outside mm (keyCommand code slot kind status run s) = outside mm s := by
  unfold keyCommand; (repeat' split) <;> (try simp [p_keys, p_fieth, p_dict, p_outbox, hrun]) <;> simp (disch := (intros; first | (simp [p_keys, p_fieth, p_dict, p_outbox, hrun]; done) | ((repeat' split) <;> try simp [p_keys, p_fieth, p_dict, p_outbox, hrun]))) [*]
@[simp] theorem outside_loadKey {mm : Parts} {j : KeyJob} {s : State} (p_keys : mm.keys = true) (p_dict : mm.dict = true) : outside mm (loadKey j s) = outside mm s := by
  simp [loadKey, *]
@[simp] theorem outside_doKeyGenerate {mm : Parts} {slot kind : Nat} {s : State} (p_keys : mm.keys = true) (p_fieth : mm.fieth = true) (p_dict : mm.dict = true) (p_freeCtr : mm.freeCtr = true) (p_outbox : mm.outbox = true) : outside mm (doKeyGenerate slot kind s) = outside mm s := by
  simp [doKeyGenerate, *]
@[simp] theorem outside_doKeyImport {mm : Parts} {slot kind : Nat} {s : State} (p_keys : mm.keys = true) (p_fieth : mm.fieth = true) (p_dict : mm.dict = true) (p_outbox : mm.outbox = true) : outside mm (doKeyImport slot kind s) = outside mm s := by
  simp [doKeyImport, *]
@[simp] theorem outside_doKeyErase {mm : Parts} {slot : Nat} {s : State} (p_keys : mm.keys = true) (p_fieth : mm.fieth = true) (p_dict : mm.dict = true) (p_outbox : mm.outbox = true) (p_keySlots : mm.keySlots = true) : outside mm (doKeyErase slot s) = outside mm s := by
  simp [doKeyErase, *]
@[simp] theorem outside_doKeyMigrate {mm : Parts} {slot : Nat} {s : State} (p_per : mm.per = true) (p_nand : mm.nand = true) (p_cp : mm.cp = true) (p_md : mm.md = true) (p_keys : mm.keys = true) (p_fieth : mm.fieth = true) (p_pres : mm.pres = true) (p_rmq : mm.rmq = true) (p_dict : mm.dict = true) (p_freeCtr : mm.freeCtr = true) (p_outbox : mm.outbox = true) (p_fmap : mm.fmap = true) (p_groups : mm.groups = true) (p_images : mm.images = true) (p_snaps : mm.snaps = true) (p_media : mm.media = true) (p_twin : mm.twin = true) (p_mode : mm.mode = true) : outside mm (doKeyMigrate slot s) = outside mm s := by
  simp [doKeyMigrate, *]
@[simp] theorem outside_unknownKeyCommand {mm : Parts} {code slot kind : Nat} {s : State} (p_keys : mm.keys = true) (p_fieth : mm.fieth = true) (p_dict : mm.dict = true) (p_outbox : mm.outbox = true) : outside mm (unknownKeyCommand code slot kind s) = outside mm s := by
  simp [unknownKeyCommand, *]
@[simp] theorem outside_doWriteSlotWrite {mm : Parts} {slot : Nat} {s : State} (p_fieth : mm.fieth = true) (p_dict : mm.dict = true) (p_outbox : mm.outbox = true) (p_config : mm.config = true) : outside mm (doWriteSlotWrite slot s) = outside mm s := by
  simp [doWriteSlotWrite, *]
@[simp] theorem outside_fenceGcm {mm : Parts} {n : Nat} {s : State} (p_host : mm.host = true) (p_rc : mm.rc = true) (p_per : mm.per = true) (p_eng : mm.eng = true) (p_tier : mm.tier = true) (p_cs : mm.cs = true) (p_dram : mm.dram = true) (p_nand : mm.nand = true) (p_fix : mm.fix = true) (p_cp : mm.cp = true) (p_rec_ : mm.rec_ = true) (p_snap : mm.snap = true) (p_md : mm.md = true) (p_keys : mm.keys = true) (p_fieth : mm.fieth = true) (p_pres : mm.pres = true) (p_rmq : mm.rmq = true) (p_rst : mm.rst = true) (p_dict : mm.dict = true) (p_freeCtr : mm.freeCtr = true) (p_outbox : mm.outbox = true) (p_tenants : mm.tenants = true) (p_hosts : mm.hosts = true) (p_regions : mm.regions = true) (p_keyTable : mm.keyTable = true) (p_quotas : mm.quotas = true) (p_dir : mm.dir = true) (p_fmap : mm.fmap = true) (p_groups : mm.groups = true) (p_images : mm.images = true) (p_snaps : mm.snaps = true) (p_standing : mm.standing = true) (p_mem : mm.mem = true) (p_media : mm.media = true) (p_plates : mm.plates = true) (p_twin : mm.twin = true) (p_mode : mm.mode = true) (p_phase : mm.phase = true) (p_config : mm.config = true) : outside mm (fenceGcm n s) = outside mm s := by
  simp [fenceGcm, *]
@[simp] theorem outside_ueMismatch {mm : Parts} {s : State} (p_keys : mm.keys = true) (p_fieth : mm.fieth = true) (p_pres : mm.pres = true) (p_rmq : mm.rmq = true) (p_dict : mm.dict = true) (p_freeCtr : mm.freeCtr = true) (p_outbox : mm.outbox = true) (p_ring : mm.ring = true) : outside mm (ueMismatch s) = outside mm s := by
  simp [ueMismatch, *]
@[simp] theorem outside_doUeLockClaim {mm : Parts} {client : Nat} {s : State} (p_keys : mm.keys = true) : outside mm (doUeLockClaim client s) = outside mm s := by
  simp [doUeLockClaim, *]
@[simp] theorem outside_doUeLockRelease {mm : Parts} {client : Nat} {s : State} (p_keys : mm.keys = true) (p_fieth : mm.fieth = true) (p_pres : mm.pres = true) (p_rmq : mm.rmq = true) (p_dict : mm.dict = true) (p_freeCtr : mm.freeCtr = true) (p_outbox : mm.outbox = true) (p_keySlots : mm.keySlots = true) (p_ring : mm.ring = true) : outside mm (doUeLockRelease client s) = outside mm s := by
  unfold doUeLockRelease
  split
  · rfl
  · split
    · rename_i p hp
      have := (outside_fireRecorded hp p_pres p_rmq p_dict)
      simp [this, p_keys, p_fieth, p_pres, p_rmq, p_dict, p_freeCtr, p_outbox, p_keySlots, p_ring]
    · dsimp only
      have h1 : outside mm (((fireRecorded 0x0901 6 [1] s).map (fun p => bump 0x701c01 p.2)).getD s) = outside mm s := by
        cases hf : fireRecorded 0x0901 6 [1] s with
        | none => rfl
        | some p =>
          have := (outside_fireRecorded hf p_pres p_rmq p_dict)
          simp [this, p_keys, p_fieth, p_pres, p_rmq, p_dict, p_freeCtr, p_outbox, p_keySlots, p_ring]
      (repeat' split) <;> simp [h1, p_keys, p_fieth, p_pres, p_rmq, p_dict, p_freeCtr, p_outbox, p_keySlots, p_ring]
@[simp] theorem outside_doUeLockTimeout {mm : Parts} {s : State} (p_keys : mm.keys = true) (p_fieth : mm.fieth = true) (p_rmq : mm.rmq = true) (p_dict : mm.dict = true) (p_freeCtr : mm.freeCtr = true) (p_outbox : mm.outbox = true) (p_ring : mm.ring = true) : outside mm (doUeLockTimeout s) = outside mm s := by
  simp [doUeLockTimeout, *]
@[simp] theorem outside_doCipherMismatch {mm : Parts} {engine : Fin 7} {second : Bool} {s : State} (p_host : mm.host = true) (p_rc : mm.rc = true) (p_per : mm.per = true) (p_eng : mm.eng = true) (p_tier : mm.tier = true) (p_cs : mm.cs = true) (p_dram : mm.dram = true) (p_nand : mm.nand = true) (p_fix : mm.fix = true) (p_cp : mm.cp = true) (p_rec_ : mm.rec_ = true) (p_snap : mm.snap = true) (p_md : mm.md = true) (p_keys : mm.keys = true) (p_fieth : mm.fieth = true) (p_pres : mm.pres = true) (p_rmq : mm.rmq = true) (p_rst : mm.rst = true) (p_dict : mm.dict = true) (p_freeCtr : mm.freeCtr = true) (p_outbox : mm.outbox = true) (p_tenants : mm.tenants = true) (p_hosts : mm.hosts = true) (p_regions : mm.regions = true) (p_keyTable : mm.keyTable = true) (p_quotas : mm.quotas = true) (p_dir : mm.dir = true) (p_fmap : mm.fmap = true) (p_groups : mm.groups = true) (p_images : mm.images = true) (p_snaps : mm.snaps = true) (p_standing : mm.standing = true) (p_mem : mm.mem = true) (p_media : mm.media = true) (p_plates : mm.plates = true) (p_twin : mm.twin = true) (p_mode : mm.mode = true) (p_ring : mm.ring = true) (p_phase : mm.phase = true) (p_config : mm.config = true) : outside mm (doCipherMismatch engine second s) = outside mm s := by
  simp [doCipherMismatch, *]
@[simp] theorem outside_setBank {mm : Parts} {n : Nat} {f : Bank → Bank} {s : State} (p_keys : mm.keys = true) : outside mm (setBank n f s) = outside mm s := by
  simp [setBank, *]
@[simp] theorem outside_doFirmwareBankWrite {mm : Parts} {bank : Fin 2} {off : Nat} {data : Bytes} {s : State} (p_keys : mm.keys = true) (p_fieth : mm.fieth = true) (p_dict : mm.dict = true) (p_outbox : mm.outbox = true) : outside mm (doFirmwareBankWrite bank off data s) = outside mm s := by
  simp [doFirmwareBankWrite, *]
@[simp] theorem outside_judgeBank {mm : Parts} {n : Nat} {sigOk : Bool} {s : State} (p_keys : mm.keys = true) (p_rmq : mm.rmq = true) : outside mm (judgeBank n sigOk s) = outside mm s := by
  simp [judgeBank, *]
@[simp] theorem outside_doFirmwareVerifyDone {mm : Parts} {bank : Fin 2} {sigOk : Bool} {s : State} (p_keys : mm.keys = true) (p_rmq : mm.rmq = true) : outside mm (doFirmwareVerifyDone bank sigOk s) = outside mm s := by
  simp [doFirmwareVerifyDone, *]
@[simp] theorem outside_doSvnCommit {mm : Parts} {value : Nat} {s : State} (p_keys : mm.keys = true) (p_fieth : mm.fieth = true) (p_dict : mm.dict = true) (p_outbox : mm.outbox = true) (p_svn : mm.svn = true) : outside mm (doSvnCommit value s) = outside mm s := by
  simp [doSvnCommit, *]

end Sys2Proof.Machine
end

