-- ==== Sys2Proof/Laws/KeepRecorder.lean ====
section
/-! SUPPORT. What each operation of Machine/Recorder.lean leaves unchanged: everything outside the parts its hypotheses name (Outside.lean). -/
namespace Sys2Proof.Machine
open Sys2Proof
set_option linter.unusedSimpArgs false

@[simp] theorem outside_beginFlush {mm : Parts} {s : State} (p_keys : mm.keys = true) (p_fieth : mm.fieth = true) (p_rmq : mm.rmq = true) (p_dict : mm.dict = true) (p_freeCtr : mm.freeCtr = true) (p_outbox : mm.outbox = true) (p_ring : mm.ring = true) : outside mm (beginFlush s) = outside mm s := by
  simp [beginFlush, *]
@[simp] theorem outside_doRecordAccept {mm : Parts} {s : State} (p_keys : mm.keys = true) (p_fieth : mm.fieth = true) (p_rmq : mm.rmq = true) (p_dict : mm.dict = true) (p_freeCtr : mm.freeCtr = true) (p_outbox : mm.outbox = true) (p_ring : mm.ring = true) : outside mm (doRecordAccept s) = outside mm s := by
  unfold doRecordAccept; (repeat' split) <;> simp [*]
@[simp] theorem outside_doRecorderFlushTick {mm : Parts} {ok : Bool} {s : State} (p_md : mm.md = true) (p_keys : mm.keys = true) (p_fieth : mm.fieth = true) (p_rmq : mm.rmq = true) (p_dict : mm.dict = true) (p_freeCtr : mm.freeCtr = true) (p_outbox : mm.outbox = true) (p_ring : mm.ring = true) : outside mm (doRecorderFlushTick ok s) = outside mm s := by
  simp [doRecorderFlushTick, *]
@[simp] theorem outside_doRecorderLockTimeout {mm : Parts} {s : State} (p_keys : mm.keys = true) (p_fieth : mm.fieth = true) (p_rmq : mm.rmq = true) (p_dict : mm.dict = true) (p_freeCtr : mm.freeCtr = true) (p_outbox : mm.outbox = true) (p_ring : mm.ring = true) : outside mm (doRecorderLockTimeout s) = outside mm s := by
  simp [doRecorderLockTimeout, *]
@[simp] theorem outside_doRecorderSealCheck {mm : Parts} {failing : Nat} {s : State} (p_rmq : mm.rmq = true) (p_dict : mm.dict = true) : outside mm (doRecorderSealCheck failing s) = outside mm s := by
  simp [doRecorderSealCheck, *]

end Sys2Proof.Machine
end

