-- ==== Sys2Proof/Laws/KeepCatalogue.lean ====
section
/-! SUPPORT. What each operation of Machine/Catalogue.lean leaves unchanged: everything outside the parts its hypotheses name (Outside.lean). -/
namespace Sys2Proof.Machine
open Sys2Proof
set_option linter.unusedSimpArgs false

@[simp] theorem outside_clearDict {mm : Parts} {reset : Level} {s : State} (p_dict : mm.dict = true) (p_config : mm.config = true) : outside mm (clearDict reset s) = outside mm s := by
  simp [clearDict, *]

end Sys2Proof.Machine
end

