-- ==== Sys2Proof/Laws/KeepReset.lean ====
section
/-! SUPPORT. What each operation of Machine/Reset.lean leaves unchanged: everything outside the parts its hypotheses name (Outside.lean). -/
namespace Sys2Proof.Machine
open Sys2Proof
set_option linter.unusedSimpArgs false

@[simp] theorem outside_nextIncarnation {mm : Parts} {s : State} (p_cp : mm.cp = true) (p_rmq : mm.rmq = true) (p_dict : mm.dict = true) (p_freeCtr : mm.freeCtr = true) (p_incFuses : mm.incFuses = true) : outside mm (nextIncarnation s) = outside mm s := by
  simp [nextIncarnation, *]
@[simp] theorem outside_enterRecall {mm : Parts} {s : State} (p_per : mm.per = true) (p_nand : mm.nand = true) (p_cp : mm.cp = true) (p_md : mm.md = true) (p_pres : mm.pres = true) (p_rmq : mm.rmq = true) (p_dict : mm.dict = true) (p_freeCtr : mm.freeCtr = true) (p_fmap : mm.fmap = true) (p_groups : mm.groups = true) (p_media : mm.media = true) (p_incFuses : mm.incFuses = true) (p_mode : mm.mode = true) : outside mm (enterRecall s) = outside mm s := by
  simp [enterRecall, *]
@[simp] theorem outside_resetSlices {mm : Parts} {power : Bool} {s : State} (p_cs : mm.cs = true) : outside mm (resetSlices power s) = outside mm s := by
  simp [resetSlices, *]
@[simp] theorem outside_resetDram {mm : Parts} {power : Bool} {s : State} (p_dram : mm.dram = true) (p_mem : mm.mem = true) : outside mm (resetDram power s) = outside mm s := by
  simp [resetDram, *]
@[simp] theorem outside_resetNand {mm : Parts} {power : Bool} {s : State} (p_nand : mm.nand = true) (p_fix : mm.fix = true) : outside mm (resetNand power s) = outside mm s := by
  simp [resetNand, *]
@[simp] theorem outside_resetEngines {mm : Parts} {s : State} (p_per : mm.per = true) (p_eng : mm.eng = true) (p_tier : mm.tier = true) (p_cs : mm.cs = true) (p_fix : mm.fix = true) (p_snap : mm.snap = true) (p_dict : mm.dict = true) (p_dir : mm.dir = true) : outside mm (resetEngines s) = outside mm s := by
  simp [resetEngines, *]
@[simp] theorem outside_resetTwin {mm : Parts} {s : State} (p_cp : mm.cp = true) (p_twin : mm.twin = true) : outside mm (resetTwin s) = outside mm s := by
  simp [resetTwin, *]
@[simp] theorem outside_resetRecall {mm : Parts} {power : Bool} {s : State} (p_rec_ : mm.rec_ = true) : outside mm (resetRecall power s) = outside mm s := by
  simp [resetRecall, *]
@[simp] theorem outside_resetPorts {mm : Parts} {s : State} (p_md : mm.md = true) (p_ports : mm.ports = true) : outside mm (resetPorts s) = outside mm s := by
  simp [resetPorts, *]
@[simp] theorem outside_resetKeys {mm : Parts} {power : Bool} {s : State} (p_keys : mm.keys = true) (p_keySlots : mm.keySlots = true) : outside mm (resetKeys power s) = outside mm s := by
  simp [resetKeys, *]
@[simp] theorem outside_resetFieth {mm : Parts} {power : Bool} {s : State} (p_fieth : mm.fieth = true) : outside mm (resetFieth power s) = outside mm s := by
  simp [resetFieth, *]
@[simp] theorem outside_resetRecorder {mm : Parts} {power : Bool} {s : State} (p_rmq : mm.rmq = true) (p_ring : mm.ring = true) : outside mm (resetRecorder power s) = outside mm s := by
  simp [resetRecorder, *]
@[simp] theorem outside_resetDictionary {mm : Parts} {power : Bool} {s : State} (p_md : mm.md = true) (p_dict : mm.dict = true) (p_force : mm.force = true) (p_config : mm.config = true) : outside mm (resetDictionary power s) = outside mm s := by
  simp [resetDictionary, *]
@[simp] theorem outside_clearUnits {mm : Parts} {power : Bool} {s : State} (p_host : mm.host = true) (p_rc : mm.rc = true) (p_per : mm.per = true) (p_eng : mm.eng = true) (p_tier : mm.tier = true) (p_cs : mm.cs = true) (p_dram : mm.dram = true) (p_nand : mm.nand = true) (p_fix : mm.fix = true) (p_cp : mm.cp = true) (p_rec_ : mm.rec_ = true) (p_snap : mm.snap = true) (p_md : mm.md = true) (p_keys : mm.keys = true) (p_fieth : mm.fieth = true) (p_ports : mm.ports = true) (p_pres : mm.pres = true) (p_rmq : mm.rmq = true) (p_dict : mm.dict = true) (p_force : mm.force = true) (p_slots : mm.slots = true) (p_replay : mm.replay = true) (p_dir : mm.dir = true) (p_mem : mm.mem = true) (p_twin : mm.twin = true) (p_keySlots : mm.keySlots = true) (p_ring : mm.ring = true) (p_config : mm.config = true) : outside mm (clearUnits power s) = outside mm s := by
  simp [clearUnits, *]
@[simp] theorem outside_assertReset {mm : Parts} {s : State} (p_md : mm.md = true) (p_rst : mm.rst = true) (p_outbox : mm.outbox = true) : outside mm (assertReset s) = outside mm s := by
  simp [assertReset, *]
@[simp] theorem outside_powerReset {mm : Parts} {phase : ResetPhase} {cause causes : Nat} {s : State} (p_host : mm.host = true) (p_rc : mm.rc = true) (p_per : mm.per = true) (p_eng : mm.eng = true) (p_tier : mm.tier = true) (p_cs : mm.cs = true) (p_dram : mm.dram = true) (p_nand : mm.nand = true) (p_fix : mm.fix = true) (p_cp : mm.cp = true) (p_rec_ : mm.rec_ = true) (p_snap : mm.snap = true) (p_md : mm.md = true) (p_keys : mm.keys = true) (p_fieth : mm.fieth = true) (p_ports : mm.ports = true) (p_pres : mm.pres = true) (p_rmq : mm.rmq = true) (p_rst : mm.rst = true) (p_dict : mm.dict = true) (p_force : mm.force = true) (p_outbox : mm.outbox = true) (p_slots : mm.slots = true) (p_replay : mm.replay = true) (p_tenants : mm.tenants = true) (p_hosts : mm.hosts = true) (p_regions : mm.regions = true) (p_keyTable : mm.keyTable = true) (p_quotas : mm.quotas = true) (p_dir : mm.dir = true) (p_fmap : mm.fmap = true) (p_groups : mm.groups = true) (p_images : mm.images = true) (p_snaps : mm.snaps = true) (p_standing : mm.standing = true) (p_mem : mm.mem = true) (p_twin : mm.twin = true) (p_keySlots : mm.keySlots = true) (p_window : mm.window = true) (p_ring : mm.ring = true) (p_phase : mm.phase = true) (p_config : mm.config = true) : outside mm (powerReset phase cause causes s) = outside mm s := by
  simp [powerReset, *]
@[simp] theorem outside_acceptCore {mm : Parts} {bit : Nat} {s : State} (p_rst : mm.rst = true) : outside mm (acceptCore bit s) = outside mm s := by
  simp [acceptCore, *]
@[simp] theorem outside_holdMcc {mm : Parts} {s : State} (p_cs : mm.cs = true) (p_keys : mm.keys = true) (p_fieth : mm.fieth = true) (p_dict : mm.dict = true) (p_config : mm.config = true) : outside mm (holdMcc s) = outside mm s := by
  simp [holdMcc, *]

end Sys2Proof.Machine
end

