-- ==== Sys2Proof/Laws/KeepPower.lean ====
section
/-! SUPPORT. What each operation of Machine/Power.lean leaves unchanged: everything outside the parts its hypotheses name (Outside.lean). -/
namespace Sys2Proof.Machine
open Sys2Proof
set_option linter.unusedSimpArgs false

@[simp] theorem outside_burnSeal {mm : Parts} {s : State} (p_pres : mm.pres = true) (p_rmq : mm.rmq = true) (p_freeCtr : mm.freeCtr = true) (p_sealFuse : mm.sealFuse = true) : outside mm (burnSeal s) = outside mm s := by
  simp [burnSeal, *]
@[simp] theorem outside_sealOpening {mm : Parts} {loop : Nat} {s : State} (p_pres : mm.pres = true) (p_rmq : mm.rmq = true) (p_dict : mm.dict = true) (p_freeCtr : mm.freeCtr = true) (p_sealBroken : mm.sealBroken = true) (p_sealFuse : mm.sealFuse = true) : outside mm (sealOpening loop s) = outside mm s := by
  simp [sealOpening, *]
@[simp] theorem outside_doPwrgdAssert {mm : Parts} {s : State} (p_rst : mm.rst = true) (p_phase : mm.phase = true) : outside mm (doPwrgdAssert s) = outside mm s := by
  simp [doPwrgdAssert, *]
@[simp] theorem outside_doPwrgdDeassert {mm : Parts} {s : State} (p_host : mm.host = true) (p_rc : mm.rc = true) (p_per : mm.per = true) (p_eng : mm.eng = true) (p_tier : mm.tier = true) (p_cs : mm.cs = true) (p_dram : mm.dram = true) (p_nand : mm.nand = true) (p_fix : mm.fix = true) (p_cp : mm.cp = true) (p_rec_ : mm.rec_ = true) (p_snap : mm.snap = true) (p_md : mm.md = true) (p_keys : mm.keys = true) (p_fieth : mm.fieth = true) (p_ports : mm.ports = true) (p_pres : mm.pres = true) (p_rmq : mm.rmq = true) (p_rst : mm.rst = true) (p_dict : mm.dict = true) (p_force : mm.force = true) (p_outbox : mm.outbox = true) (p_slots : mm.slots = true) (p_replay : mm.replay = true) (p_tenants : mm.tenants = true) (p_hosts : mm.hosts = true) (p_regions : mm.regions = true) (p_keyTable : mm.keyTable = true) (p_quotas : mm.quotas = true) (p_dir : mm.dir = true) (p_fmap : mm.fmap = true) (p_groups : mm.groups = true) (p_images : mm.images = true) (p_snaps : mm.snaps = true) (p_standing : mm.standing = true) (p_mem : mm.mem = true) (p_twin : mm.twin = true) (p_keySlots : mm.keySlots = true) (p_window : mm.window = true) (p_ring : mm.ring = true) (p_phase : mm.phase = true) (p_config : mm.config = true) : outside mm (doPwrgdDeassert s) = outside mm s := by
  simp [doPwrgdDeassert, *]
@[simp] theorem outside_doPorstAssert {mm : Parts} {s : State} (p_host : mm.host = true) (p_rc : mm.rc = true) (p_per : mm.per = true) (p_eng : mm.eng = true) (p_tier : mm.tier = true) (p_cs : mm.cs = true) (p_dram : mm.dram = true) (p_nand : mm.nand = true) (p_fix : mm.fix = true) (p_cp : mm.cp = true) (p_rec_ : mm.rec_ = true) (p_snap : mm.snap = true) (p_md : mm.md = true) (p_keys : mm.keys = true) (p_fieth : mm.fieth = true) (p_ports : mm.ports = true) (p_pres : mm.pres = true) (p_rmq : mm.rmq = true) (p_rst : mm.rst = true) (p_dict : mm.dict = true) (p_force : mm.force = true) (p_outbox : mm.outbox = true) (p_slots : mm.slots = true) (p_replay : mm.replay = true) (p_tenants : mm.tenants = true) (p_hosts : mm.hosts = true) (p_regions : mm.regions = true) (p_keyTable : mm.keyTable = true) (p_quotas : mm.quotas = true) (p_dir : mm.dir = true) (p_fmap : mm.fmap = true) (p_groups : mm.groups = true) (p_images : mm.images = true) (p_snaps : mm.snaps = true) (p_standing : mm.standing = true) (p_mem : mm.mem = true) (p_twin : mm.twin = true) (p_keySlots : mm.keySlots = true) (p_window : mm.window = true) (p_ring : mm.ring = true) (p_phase : mm.phase = true) (p_config : mm.config = true) : outside mm (doPorstAssert s) = outside mm s := by
  simp [doPorstAssert, *]
@[simp] theorem outside_beginLoad {mm : Parts} {s : State} (p_per : mm.per = true) (p_nand : mm.nand = true) (p_cp : mm.cp = true) (p_md : mm.md = true) (p_pres : mm.pres = true) (p_rmq : mm.rmq = true) (p_rst : mm.rst = true) (p_dict : mm.dict = true) (p_freeCtr : mm.freeCtr = true) (p_fmap : mm.fmap = true) (p_groups : mm.groups = true) (p_media : mm.media = true) (p_incFuses : mm.incFuses = true) (p_mode : mm.mode = true) (p_phase : mm.phase = true) : outside mm (beginLoad s) = outside mm s := by
  simp [beginLoad, *]
@[simp] theorem outside_doPowerOnResetEnd {mm : Parts} {node : Fin 128} {s : State} (p_per : mm.per = true) (p_dram : mm.dram = true) (p_nand : mm.nand = true) (p_cp : mm.cp = true) (p_md : mm.md = true) (p_fieth : mm.fieth = true) (p_pres : mm.pres = true) (p_rmq : mm.rmq = true) (p_rst : mm.rst = true) (p_dict : mm.dict = true) (p_freeCtr : mm.freeCtr = true) (p_fmap : mm.fmap = true) (p_groups : mm.groups = true) (p_media : mm.media = true) (p_incFuses : mm.incFuses = true) (p_mode : mm.mode = true) (p_sealBroken : mm.sealBroken = true) (p_sealFuse : mm.sealFuse = true) (p_node : mm.node = true) (p_phase : mm.phase = true) : outside mm (doPowerOnResetEnd node s) = outside mm s := by
  simp [doPowerOnResetEnd, *]
@[simp] theorem outside_doVddAonLow {mm : Parts} {s : State} (p_host : mm.host = true) (p_rc : mm.rc = true) (p_per : mm.per = true) (p_eng : mm.eng = true) (p_tier : mm.tier = true) (p_cs : mm.cs = true) (p_dram : mm.dram = true) (p_nand : mm.nand = true) (p_fix : mm.fix = true) (p_cp : mm.cp = true) (p_rec_ : mm.rec_ = true) (p_snap : mm.snap = true) (p_md : mm.md = true) (p_keys : mm.keys = true) (p_fieth : mm.fieth = true) (p_ports : mm.ports = true) (p_pres : mm.pres = true) (p_rmq : mm.rmq = true) (p_rst : mm.rst = true) (p_dict : mm.dict = true) (p_force : mm.force = true) (p_rtc : mm.rtc = true) (p_outbox : mm.outbox = true) (p_slots : mm.slots = true) (p_replay : mm.replay = true) (p_tenants : mm.tenants = true) (p_hosts : mm.hosts = true) (p_regions : mm.regions = true) (p_keyTable : mm.keyTable = true) (p_quotas : mm.quotas = true) (p_dir : mm.dir = true) (p_fmap : mm.fmap = true) (p_groups : mm.groups = true) (p_images : mm.images = true) (p_snaps : mm.snaps = true) (p_standing : mm.standing = true) (p_mem : mm.mem = true) (p_twin : mm.twin = true) (p_keySlots : mm.keySlots = true) (p_window : mm.window = true) (p_ring : mm.ring = true) (p_phase : mm.phase = true) (p_config : mm.config = true) : outside mm (doVddAonLow s) = outside mm s := by
  simp [doVddAonLow, *]
@[simp] theorem outside_doSysrstAssert {mm : Parts} {s : State} (p_rec_ : mm.rec_ = true) (p_rst : mm.rst = true) (p_phase : mm.phase = true) : outside mm (doSysrstAssert s) = outside mm s := by
  simp [doSysrstAssert, *]
@[simp] theorem outside_doSystemResetWindowEnd {mm : Parts} {s : State} (p_host : mm.host = true) (p_rc : mm.rc = true) (p_per : mm.per = true) (p_eng : mm.eng = true) (p_tier : mm.tier = true) (p_cs : mm.cs = true) (p_dram : mm.dram = true) (p_nand : mm.nand = true) (p_fix : mm.fix = true) (p_cp : mm.cp = true) (p_rec_ : mm.rec_ = true) (p_snap : mm.snap = true) (p_md : mm.md = true) (p_keys : mm.keys = true) (p_fieth : mm.fieth = true) (p_ports : mm.ports = true) (p_pres : mm.pres = true) (p_rmq : mm.rmq = true) (p_rst : mm.rst = true) (p_dict : mm.dict = true) (p_force : mm.force = true) (p_outbox : mm.outbox = true) (p_slots : mm.slots = true) (p_replay : mm.replay = true) (p_dir : mm.dir = true) (p_mem : mm.mem = true) (p_twin : mm.twin = true) (p_keySlots : mm.keySlots = true) (p_ring : mm.ring = true) (p_phase : mm.phase = true) (p_config : mm.config = true) : outside mm (doSystemResetWindowEnd s) = outside mm s := by
  simp [doSystemResetWindowEnd, *]
@[simp] theorem outside_doSystemResetRelease {mm : Parts} {s : State} (p_per : mm.per = true) (p_nand : mm.nand = true) (p_cp : mm.cp = true) (p_md : mm.md = true) (p_pres : mm.pres = true) (p_rmq : mm.rmq = true) (p_rst : mm.rst = true) (p_dict : mm.dict = true) (p_freeCtr : mm.freeCtr = true) (p_fmap : mm.fmap = true) (p_groups : mm.groups = true) (p_media : mm.media = true) (p_incFuses : mm.incFuses = true) (p_mode : mm.mode = true) (p_phase : mm.phase = true) : outside mm (doSystemResetRelease s) = outside mm s := by
  simp [doSystemResetRelease, *]
@[simp] theorem outside_doSysrstDeassert {mm : Parts} {s : State} (p_per : mm.per = true) (p_nand : mm.nand = true) (p_cp : mm.cp = true) (p_md : mm.md = true) (p_pres : mm.pres = true) (p_rmq : mm.rmq = true) (p_rst : mm.rst = true) (p_dict : mm.dict = true) (p_freeCtr : mm.freeCtr = true) (p_fmap : mm.fmap = true) (p_groups : mm.groups = true) (p_media : mm.media = true) (p_incFuses : mm.incFuses = true) (p_mode : mm.mode = true) (p_phase : mm.phase = true) : outside mm (doSysrstDeassert s) = outside mm s := by
  simp [doSysrstDeassert, *]
@[simp] theorem outside_resetRequest {mm : Parts} {run : State → State} {s : State} (p_fieth : mm.fieth = true) (p_dict : mm.dict = true) (p_outbox : mm.outbox = true) (hrun : ∀ a, outside mm (run a) = outside mm a) : outside mm (resetRequest run s) = outside mm s := by
  simp [resetRequest, *]
@[simp] theorem outside_doCoreResetRequest {mm : Parts} {s : State} (p_fieth : mm.fieth = true) (p_rst : mm.rst = true) (p_dict : mm.dict = true) (p_outbox : mm.outbox = true) : outside mm (doCoreResetRequest s) = outside mm s := by
  simp [doCoreResetRequest, *]
@[simp] theorem outside_doSystemResetRequest {mm : Parts} {s : State} (p_rec_ : mm.rec_ = true) (p_fieth : mm.fieth = true) (p_rst : mm.rst = true) (p_dict : mm.dict = true) (p_outbox : mm.outbox = true) (p_phase : mm.phase = true) : outside mm (doSystemResetRequest s) = outside mm s := by
  simp [doSystemResetRequest, *]
@[simp] theorem outside_doResetCauseClear {mm : Parts} {mask : Nat} {s : State} (p_fieth : mm.fieth = true) (p_rst : mm.rst = true) (p_dict : mm.dict = true) (p_outbox : mm.outbox = true) : outside mm (doResetCauseClear mask s) = outside mm s := by
  simp [doResetCauseClear, *]
@[simp] theorem outside_doCoreResetDrainEnd {mm : Parts} {s : State} (p_cs : mm.cs = true) (p_keys : mm.keys = true) (p_fieth : mm.fieth = true) (p_rst : mm.rst = true) (p_dict : mm.dict = true) (p_config : mm.config = true) : outside mm (doCoreResetDrainEnd s) = outside mm s := by
  simp [doCoreResetDrainEnd, *]
@[simp] theorem outside_doMccResetRelease {mm : Parts} {bankAok bankBok : Bool} {s : State} (p_keys : mm.keys = true) (p_fieth : mm.fieth = true) (p_rmq : mm.rmq = true) : outside mm (doMccResetRelease bankAok bankBok s) = outside mm s := by
  simp [doMccResetRelease, *]
@[simp] theorem outside_doMccWatchdogExpiry {mm : Parts} {s : State} (p_rst : mm.rst = true) : outside mm (doMccWatchdogExpiry s) = outside mm s := by
  simp [doMccWatchdogExpiry, *]
@[simp] theorem outside_doMccClockLoss {mm : Parts} {s : State} (p_fieth : mm.fieth = true) (p_rst : mm.rst = true) : outside mm (doMccClockLoss s) = outside mm s := by
  simp [doMccClockLoss, *]
@[simp] theorem outside_doMccClockReturn {mm : Parts} {s : State} (p_rst : mm.rst = true) : outside mm (doMccClockReturn s) = outside mm s := by
  simp [doMccClockReturn, *]
@[simp] theorem outside_homeSliceLines {mm : Parts} {n : Nat} {s : State} (p_per : mm.per = true) (p_cs : mm.cs = true) (p_dram : mm.dram = true) (p_nand : mm.nand = true) (p_dir : mm.dir = true) (p_mem : mm.mem = true) : outside mm (homeSliceLines n s) = outside mm s := by
  simp [homeSliceLines, *]
@[simp] theorem outside_dropFrames {mm : Parts} {g : Nat} {s : State} (p_rc : mm.rc = true) : outside mm (dropFrames g s) = outside mm s := by
  simp [dropFrames, *]
@[simp] theorem outside_windowBlock {mm : Parts} {block : Nat} {s : State} (p_dram : mm.dram = true) (p_rec_ : mm.rec_ = true) (p_rst : mm.rst = true) : outside mm (windowBlock block s) = outside mm s := by
  simp [windowBlock, *]
@[simp] theorem outside_blockOff {mm : Parts} {block : Nat} {s : State} (p_rst : mm.rst = true) : outside mm (blockOff block s) = outside mm s := by
  simp [blockOff, *]
@[simp] theorem outside_doBlockIdleReport {mm : Parts} {block : Nat} {s : State} (p_per : mm.per = true) (p_cs : mm.cs = true) (p_dram : mm.dram = true) (p_nand : mm.nand = true) (p_rec_ : mm.rec_ = true) (p_rst : mm.rst = true) (p_dir : mm.dir = true) (p_mem : mm.mem = true) : outside mm (doBlockIdleReport block s) = outside mm s := by
  simp [doBlockIdleReport, *]
@[simp] theorem outside_doBlockIdleTimeout {mm : Parts} {block : Nat} {s : State} (p_rc : mm.rc = true) (p_dram : mm.dram = true) (p_rec_ : mm.rec_ = true) (p_rst : mm.rst = true) : outside mm (doBlockIdleTimeout block s) = outside mm s := by
  simp [doBlockIdleTimeout, *]
@[simp] theorem outside_doBlockWatchdogExpiry {mm : Parts} {block : Nat} {s : State} (p_host : mm.host = true) (p_rc : mm.rc = true) (p_per : mm.per = true) (p_tier : mm.tier = true) (p_cs : mm.cs = true) (p_dram : mm.dram = true) (p_nand : mm.nand = true) (p_cp : mm.cp = true) (p_rec_ : mm.rec_ = true) (p_snap : mm.snap = true) (p_md : mm.md = true) (p_ports : mm.ports = true) (p_pres : mm.pres = true) (p_rmq : mm.rmq = true) (p_rst : mm.rst = true) (p_dict : mm.dict = true) (p_freeCtr : mm.freeCtr = true) (p_quotas : mm.quotas = true) (p_dir : mm.dir = true) : outside mm (doBlockWatchdogExpiry block s) = outside mm s := by
  simp [doBlockWatchdogExpiry, *]
@[simp] theorem outside_doPortGroupRepower {mm : Parts} {group : Fin 16} {s : State} (p_ports : mm.ports = true) (p_rst : mm.rst = true) : outside mm (doPortGroupRepower group s) = outside mm s := by
  simp [doPortGroupRepower, *]
@[simp] theorem outside_loseSlot {mm : Parts} {n : Nat} {s : State} (p_md : mm.md = true) (p_keys : mm.keys = true) (p_rmq : mm.rmq = true) (p_keySlots : mm.keySlots = true) : outside mm (loseSlot n s) = outside mm s := by
  simp [loseSlot, *]
@[simp] theorem outside_releaseBlocks {mm : Parts} {s : State} (p_cs : mm.cs = true) (p_dram : mm.dram = true) (p_nand : mm.nand = true) (p_cp : mm.cp = true) (p_ports : mm.ports = true) (p_rst : mm.rst = true) (p_force : mm.force = true) : outside mm (releaseBlocks s) = outside mm s := by
  simp [releaseBlocks, *]
@[simp] theorem outside_doOptionLoadDone {mm : Parts} {o : OptionFields} {valid : Bool} {lost : List Nat} {s : State} (p_per : mm.per = true) (p_cs : mm.cs = true) (p_dram : mm.dram = true) (p_nand : mm.nand = true) (p_cp : mm.cp = true) (p_md : mm.md = true) (p_keys : mm.keys = true) (p_fieth : mm.fieth = true) (p_ports : mm.ports = true) (p_pres : mm.pres = true) (p_rmq : mm.rmq = true) (p_rst : mm.rst = true) (p_dict : mm.dict = true) (p_force : mm.force = true) (p_freeCtr : mm.freeCtr = true) (p_outbox : mm.outbox = true) (p_fmap : mm.fmap = true) (p_groups : mm.groups = true) (p_media : mm.media = true) (p_twin : mm.twin = true) (p_mode : mm.mode = true) (p_keySlots : mm.keySlots = true) (p_sealFuse : mm.sealFuse = true) (p_options : mm.options = true) (p_phase : mm.phase = true) (p_config : mm.config = true) : outside mm (doOptionLoadDone o valid lost s) = outside mm s := by
  simp [doOptionLoadDone, *]
@[simp] theorem outside_switchOff {mm : Parts} {k : Nat} {a : State} (p_host : mm.host = true) (p_rc : mm.rc = true) (p_per : mm.per = true) (p_eng : mm.eng = true) (p_tier : mm.tier = true) (p_cs : mm.cs = true) (p_dram : mm.dram = true) (p_nand : mm.nand = true) (p_fix : mm.fix = true) (p_cp : mm.cp = true) (p_rec_ : mm.rec_ = true) (p_snap : mm.snap = true) (p_md : mm.md = true) (p_fieth : mm.fieth = true) (p_pres : mm.pres = true) (p_rmq : mm.rmq = true) (p_rst : mm.rst = true) (p_dict : mm.dict = true) (p_freeCtr : mm.freeCtr = true) (p_outbox : mm.outbox = true) (p_tenants : mm.tenants = true) (p_hosts : mm.hosts = true) (p_regions : mm.regions = true) (p_keyTable : mm.keyTable = true) (p_quotas : mm.quotas = true) (p_dir : mm.dir = true) (p_fmap : mm.fmap = true) (p_groups : mm.groups = true) (p_images : mm.images = true) (p_snaps : mm.snaps = true) (p_standing : mm.standing = true) (p_mem : mm.mem = true) (p_media : mm.media = true) (p_plates : mm.plates = true) (p_twin : mm.twin = true) (p_mode : mm.mode = true) (p_phase : mm.phase = true) (p_config : mm.config = true) : outside mm (switchOff k a) = outside mm a := by
  simp [switchOff, *]
@[simp] theorem outside_switchOn {mm : Parts} {k : Nat} {a : State} (p_cs : mm.cs = true) (p_dram : mm.dram = true) (p_cp : mm.cp = true) (p_ports : mm.ports = true) (p_rst : mm.rst = true) (p_force : mm.force = true) : outside mm (switchOn k a) = outside mm a := by
  simp [switchOn, *]
theorem outside_domainChange {mm : Parts} {off : Bool} {k : Nat} {a : State} {t : State} (h : domainChange off k a = some t) (p_host : mm.host = true) (p_rc : mm.rc = true) (p_per : mm.per = true) (p_eng : mm.eng = true) (p_tier : mm.tier = true) (p_cs : mm.cs = true) (p_dram : mm.dram = true) (p_nand : mm.nand = true) (p_fix : mm.fix = true) (p_cp : mm.cp = true) (p_rec_ : mm.rec_ = true) (p_snap : mm.snap = true) (p_md : mm.md = true) (p_fieth : mm.fieth = true) (p_ports : mm.ports = true) (p_pres : mm.pres = true) (p_rmq : mm.rmq = true) (p_rst : mm.rst = true) (p_dict : mm.dict = true) (p_force : mm.force = true) (p_freeCtr : mm.freeCtr = true) (p_outbox : mm.outbox = true) (p_tenants : mm.tenants = true) (p_hosts : mm.hosts = true) (p_regions : mm.regions = true) (p_keyTable : mm.keyTable = true) (p_quotas : mm.quotas = true) (p_dir : mm.dir = true) (p_fmap : mm.fmap = true) (p_groups : mm.groups = true) (p_images : mm.images = true) (p_snaps : mm.snaps = true) (p_standing : mm.standing = true) (p_mem : mm.mem = true) (p_media : mm.media = true) (p_plates : mm.plates = true) (p_twin : mm.twin = true) (p_mode : mm.mode = true) (p_phase : mm.phase = true) (p_config : mm.config = true) : outside mm t = outside mm a := by
  (unfold domainChange at h; (try dsimp only at h); (repeat' split at h) <;> first | (simp only [Option.some.injEq, Prod.mk.injEq] at h; simp [← h, p_host, p_rc, p_per, p_eng, p_tier, p_cs, p_dram, p_nand, p_fix, p_cp, p_rec_, p_snap, p_md, p_fieth, p_ports, p_pres, p_rmq, p_rst, p_dict, p_force, p_freeCtr, p_outbox, p_tenants, p_hosts, p_regions, p_keyTable, p_quotas, p_dir, p_fmap, p_groups, p_images, p_snaps, p_standing, p_mem, p_media, p_plates, p_twin, p_mode, p_phase, p_config]; done) | (cases h; done) | (simp only [Option.some.injEq, Prod.mk.injEq] at h; simp_all; done) | (simp_all; done))
@[simp] theorem outside_domainWrite {mm : Parts} {l : List (Nat × Bool)} {s : State} (p_host : mm.host = true) (p_rc : mm.rc = true) (p_per : mm.per = true) (p_eng : mm.eng = true) (p_tier : mm.tier = true) (p_cs : mm.cs = true) (p_dram : mm.dram = true) (p_nand : mm.nand = true) (p_fix : mm.fix = true) (p_cp : mm.cp = true) (p_rec_ : mm.rec_ = true) (p_snap : mm.snap = true) (p_md : mm.md = true) (p_fieth : mm.fieth = true) (p_ports : mm.ports = true) (p_pres : mm.pres = true) (p_rmq : mm.rmq = true) (p_rst : mm.rst = true) (p_dict : mm.dict = true) (p_force : mm.force = true) (p_freeCtr : mm.freeCtr = true) (p_outbox : mm.outbox = true) (p_tenants : mm.tenants = true) (p_hosts : mm.hosts = true) (p_regions : mm.regions = true) (p_keyTable : mm.keyTable = true) (p_quotas : mm.quotas = true) (p_dir : mm.dir = true) (p_fmap : mm.fmap = true) (p_groups : mm.groups = true) (p_images : mm.images = true) (p_snaps : mm.snaps = true) (p_standing : mm.standing = true) (p_mem : mm.mem = true) (p_media : mm.media = true) (p_plates : mm.plates = true) (p_twin : mm.twin = true) (p_mode : mm.mode = true) (p_phase : mm.phase = true) (p_config : mm.config = true) : outside mm (domainWrite l s) = outside mm s := by
  unfold domainWrite
  refine outside_dictGuard p_fieth p_dict p_outbox (fun a => ?_)
  split
  · rename_i b hb
    split at hb
    · cases hb
    · rw [outside_dictDone p_fieth p_dict p_outbox]
      exact outside_foldl_bind mm (fun a p => domainChange p.2 p.1 a) (fun a p t h => (outside_domainChange h p_host p_rc p_per p_eng p_tier p_cs p_dram p_nand p_fix p_cp p_rec_ p_snap p_md p_fieth p_ports p_pres p_rmq p_rst p_dict p_force p_freeCtr p_outbox p_tenants p_hosts p_regions p_keyTable p_quotas p_dir p_fmap p_groups p_images p_snaps p_standing p_mem p_media p_plates p_twin p_mode p_phase p_config)) l a b hb
  · simp [p_host, p_rc, p_per, p_eng, p_tier, p_cs, p_dram, p_nand, p_fix, p_cp, p_rec_, p_snap, p_md, p_fieth, p_ports, p_pres, p_rmq, p_rst, p_dict, p_force, p_freeCtr, p_outbox, p_tenants, p_hosts, p_regions, p_keyTable, p_quotas, p_dir, p_fmap, p_groups, p_images, p_snaps, p_standing, p_mem, p_media, p_plates, p_twin, p_mode, p_phase, p_config]
@[simp] theorem outside_doDomainOffRequest {mm : Parts} {domain : Fin 112} {s : State} (p_host : mm.host = true) (p_rc : mm.rc = true) (p_per : mm.per = true) (p_eng : mm.eng = true) (p_tier : mm.tier = true) (p_cs : mm.cs = true) (p_dram : mm.dram = true) (p_nand : mm.nand = true) (p_fix : mm.fix = true) (p_cp : mm.cp = true) (p_rec_ : mm.rec_ = true) (p_snap : mm.snap = true) (p_md : mm.md = true) (p_fieth : mm.fieth = true) (p_ports : mm.ports = true) (p_pres : mm.pres = true) (p_rmq : mm.rmq = true) (p_rst : mm.rst = true) (p_dict : mm.dict = true) (p_force : mm.force = true) (p_freeCtr : mm.freeCtr = true) (p_outbox : mm.outbox = true) (p_tenants : mm.tenants = true) (p_hosts : mm.hosts = true) (p_regions : mm.regions = true) (p_keyTable : mm.keyTable = true) (p_quotas : mm.quotas = true) (p_dir : mm.dir = true) (p_fmap : mm.fmap = true) (p_groups : mm.groups = true) (p_images : mm.images = true) (p_snaps : mm.snaps = true) (p_standing : mm.standing = true) (p_mem : mm.mem = true) (p_media : mm.media = true) (p_plates : mm.plates = true) (p_twin : mm.twin = true) (p_mode : mm.mode = true) (p_phase : mm.phase = true) (p_config : mm.config = true) : outside mm (doDomainOffRequest domain s) = outside mm s := by
  simp [doDomainOffRequest, *]
@[simp] theorem outside_doDomainOnRequest {mm : Parts} {domain : Fin 112} {s : State} (p_host : mm.host = true) (p_rc : mm.rc = true) (p_per : mm.per = true) (p_eng : mm.eng = true) (p_tier : mm.tier = true) (p_cs : mm.cs = true) (p_dram : mm.dram = true) (p_nand : mm.nand = true) (p_fix : mm.fix = true) (p_cp : mm.cp = true) (p_rec_ : mm.rec_ = true) (p_snap : mm.snap = true) (p_md : mm.md = true) (p_fieth : mm.fieth = true) (p_ports : mm.ports = true) (p_pres : mm.pres = true) (p_rmq : mm.rmq = true) (p_rst : mm.rst = true) (p_dict : mm.dict = true) (p_force : mm.force = true) (p_freeCtr : mm.freeCtr = true) (p_outbox : mm.outbox = true) (p_tenants : mm.tenants = true) (p_hosts : mm.hosts = true) (p_regions : mm.regions = true) (p_keyTable : mm.keyTable = true) (p_quotas : mm.quotas = true) (p_dir : mm.dir = true) (p_fmap : mm.fmap = true) (p_groups : mm.groups = true) (p_images : mm.images = true) (p_snaps : mm.snaps = true) (p_standing : mm.standing = true) (p_mem : mm.mem = true) (p_media : mm.media = true) (p_plates : mm.plates = true) (p_twin : mm.twin = true) (p_mode : mm.mode = true) (p_phase : mm.phase = true) (p_config : mm.config = true) : outside mm (doDomainOnRequest domain s) = outside mm s := by
  simp [doDomainOnRequest, *]
@[simp] theorem outside_doPllLockLost {mm : Parts} {pll : Nat} {s : State} (p_host : mm.host = true) (p_rc : mm.rc = true) (p_per : mm.per = true) (p_eng : mm.eng = true) (p_tier : mm.tier = true) (p_cs : mm.cs = true) (p_dram : mm.dram = true) (p_nand : mm.nand = true) (p_fix : mm.fix = true) (p_cp : mm.cp = true) (p_rec_ : mm.rec_ = true) (p_snap : mm.snap = true) (p_md : mm.md = true) (p_fieth : mm.fieth = true) (p_ports : mm.ports = true) (p_pres : mm.pres = true) (p_rmq : mm.rmq = true) (p_rst : mm.rst = true) (p_dict : mm.dict = true) (p_freeCtr : mm.freeCtr = true) (p_outbox : mm.outbox = true) (p_tenants : mm.tenants = true) (p_hosts : mm.hosts = true) (p_regions : mm.regions = true) (p_keyTable : mm.keyTable = true) (p_quotas : mm.quotas = true) (p_dir : mm.dir = true) (p_fmap : mm.fmap = true) (p_groups : mm.groups = true) (p_images : mm.images = true) (p_snaps : mm.snaps = true) (p_standing : mm.standing = true) (p_mem : mm.mem = true) (p_media : mm.media = true) (p_plates : mm.plates = true) (p_twin : mm.twin = true) (p_mode : mm.mode = true) (p_phase : mm.phase = true) (p_config : mm.config = true) : outside mm (doPllLockLost pll s) = outside mm s := by
  simp [doPllLockLost, *]
@[simp] theorem outside_clockAction {mm : Parts} {bit : Nat} {s : State} (p_host : mm.host = true) (p_rc : mm.rc = true) (p_per : mm.per = true) (p_eng : mm.eng = true) (p_tier : mm.tier = true) (p_cs : mm.cs = true) (p_dram : mm.dram = true) (p_nand : mm.nand = true) (p_fix : mm.fix = true) (p_cp : mm.cp = true) (p_rec_ : mm.rec_ = true) (p_snap : mm.snap = true) (p_md : mm.md = true) (p_fieth : mm.fieth = true) (p_ports : mm.ports = true) (p_pres : mm.pres = true) (p_rmq : mm.rmq = true) (p_rst : mm.rst = true) (p_dict : mm.dict = true) (p_freeCtr : mm.freeCtr = true) (p_outbox : mm.outbox = true) (p_tenants : mm.tenants = true) (p_hosts : mm.hosts = true) (p_regions : mm.regions = true) (p_keyTable : mm.keyTable = true) (p_quotas : mm.quotas = true) (p_dir : mm.dir = true) (p_fmap : mm.fmap = true) (p_groups : mm.groups = true) (p_images : mm.images = true) (p_snaps : mm.snaps = true) (p_standing : mm.standing = true) (p_mem : mm.mem = true) (p_media : mm.media = true) (p_plates : mm.plates = true) (p_twin : mm.twin = true) (p_mode : mm.mode = true) (p_phase : mm.phase = true) (p_config : mm.config = true) : outside mm (clockAction bit s) = outside mm s := by
  simp [clockAction, *]
@[simp] theorem outside_doClockMonitorWindow {mm : Parts} {status : Nat} {s : State} (p_host : mm.host = true) (p_rc : mm.rc = true) (p_per : mm.per = true) (p_eng : mm.eng = true) (p_tier : mm.tier = true) (p_cs : mm.cs = true) (p_dram : mm.dram = true) (p_nand : mm.nand = true) (p_fix : mm.fix = true) (p_cp : mm.cp = true) (p_rec_ : mm.rec_ = true) (p_snap : mm.snap = true) (p_md : mm.md = true) (p_fieth : mm.fieth = true) (p_ports : mm.ports = true) (p_pres : mm.pres = true) (p_rmq : mm.rmq = true) (p_rst : mm.rst = true) (p_dict : mm.dict = true) (p_freeCtr : mm.freeCtr = true) (p_outbox : mm.outbox = true) (p_tenants : mm.tenants = true) (p_hosts : mm.hosts = true) (p_regions : mm.regions = true) (p_keyTable : mm.keyTable = true) (p_quotas : mm.quotas = true) (p_dir : mm.dir = true) (p_fmap : mm.fmap = true) (p_groups : mm.groups = true) (p_images : mm.images = true) (p_snaps : mm.snaps = true) (p_standing : mm.standing = true) (p_mem : mm.mem = true) (p_media : mm.media = true) (p_plates : mm.plates = true) (p_twin : mm.twin = true) (p_mode : mm.mode = true) (p_phase : mm.phase = true) (p_config : mm.config = true) : outside mm (doClockMonitorWindow status s) = outside mm s := by
  simp [doClockMonitorWindow, *]
@[simp] theorem outside_railReading {mm : Parts} {rail millivolts : Nat} {s : State} (p_host : mm.host = true) (p_rc : mm.rc = true) (p_per : mm.per = true) (p_eng : mm.eng = true) (p_tier : mm.tier = true) (p_cs : mm.cs = true) (p_dram : mm.dram = true) (p_nand : mm.nand = true) (p_fix : mm.fix = true) (p_cp : mm.cp = true) (p_rec_ : mm.rec_ = true) (p_snap : mm.snap = true) (p_md : mm.md = true) (p_keys : mm.keys = true) (p_fieth : mm.fieth = true) (p_ports : mm.ports = true) (p_pres : mm.pres = true) (p_rmq : mm.rmq = true) (p_rst : mm.rst = true) (p_dict : mm.dict = true) (p_force : mm.force = true) (p_rtc : mm.rtc = true) (p_freeCtr : mm.freeCtr = true) (p_outbox : mm.outbox = true) (p_slots : mm.slots = true) (p_replay : mm.replay = true) (p_tenants : mm.tenants = true) (p_hosts : mm.hosts = true) (p_regions : mm.regions = true) (p_keyTable : mm.keyTable = true) (p_quotas : mm.quotas = true) (p_dir : mm.dir = true) (p_fmap : mm.fmap = true) (p_groups : mm.groups = true) (p_images : mm.images = true) (p_snaps : mm.snaps = true) (p_standing : mm.standing = true) (p_mem : mm.mem = true) (p_media : mm.media = true) (p_twin : mm.twin = true) (p_mode : mm.mode = true) (p_keySlots : mm.keySlots = true) (p_window : mm.window = true) (p_ring : mm.ring = true) (p_phase : mm.phase = true) (p_config : mm.config = true) : outside mm (railReading rail millivolts s) = outside mm s := by
  simp [railReading, *]
@[simp] theorem outside_doCoreFabricError {mm : Parts} {s : State} (p_per : mm.per = true) (p_tier : mm.tier = true) (p_nand : mm.nand = true) (p_fix : mm.fix = true) (p_cp : mm.cp = true) (p_snap : mm.snap = true) (p_md : mm.md = true) (p_pres : mm.pres = true) (p_rmq : mm.rmq = true) (p_rst : mm.rst = true) (p_dict : mm.dict = true) (p_freeCtr : mm.freeCtr = true) (p_outbox : mm.outbox = true) (p_quotas : mm.quotas = true) (p_dir : mm.dir = true) (p_fmap : mm.fmap = true) (p_groups : mm.groups = true) (p_snaps : mm.snaps = true) (p_media : mm.media = true) (p_mode : mm.mode = true) (p_phase : mm.phase = true) : outside mm (doCoreFabricError s) = outside mm s := by
  simp [doCoreFabricError, *]
@[simp] theorem outside_doPdMainWatchdogExpiry {mm : Parts} {s : State} (p_per : mm.per = true) (p_tier : mm.tier = true) (p_nand : mm.nand = true) (p_fix : mm.fix = true) (p_cp : mm.cp = true) (p_snap : mm.snap = true) (p_md : mm.md = true) (p_pres : mm.pres = true) (p_rmq : mm.rmq = true) (p_rst : mm.rst = true) (p_dict : mm.dict = true) (p_freeCtr : mm.freeCtr = true) (p_outbox : mm.outbox = true) (p_quotas : mm.quotas = true) (p_dir : mm.dir = true) (p_fmap : mm.fmap = true) (p_groups : mm.groups = true) (p_snaps : mm.snaps = true) (p_media : mm.media = true) (p_mode : mm.mode = true) (p_phase : mm.phase = true) : outside mm (doPdMainWatchdogExpiry s) = outside mm s := by
  simp [doPdMainWatchdogExpiry, *]
@[simp] theorem outside_doPortLinkUp {mm : Parts} {port : Fin 128} {s : State} (p_ports : mm.ports = true) : outside mm (doPortLinkUp port s) = outside mm s := by
  simp [doPortLinkUp, *]
@[simp] theorem outside_doPfcPauseFrame {mm : Parts} {port : Fin 128} {priorities : Nat} {pause : Bool} {s : State} (p_ports : mm.ports = true) (p_dict : mm.dict = true) : outside mm (doPfcPauseFrame port priorities pause s) = outside mm s := by
  simp [doPfcPauseFrame, *]

end Sys2Proof.Machine
end

