-- ==== Sys2Proof/Laws/KeepPresence.lean ====
section
/-! SUPPORT. What each operation of Machine/Presence.lean leaves unchanged: everything outside the parts its hypotheses name (Outside.lean). -/
namespace Sys2Proof.Machine
open Sys2Proof
set_option linter.unusedSimpArgs false

@[simp] theorem outside_doPresenceOpen {mm : Parts} {s : State} (p_pres : mm.pres = true) (p_rmq : mm.rmq = true) (p_dict : mm.dict = true) (p_window : mm.window = true) : outside mm (doPresenceOpen s) = outside mm s := by
  simp [doPresenceOpen, *]
@[simp] theorem outside_closeWindow {mm : Parts} {s : State} (p_pres : mm.pres = true) (p_rmq : mm.rmq = true) (p_window : mm.window = true) : outside mm (closeWindow s) = outside mm s := by
  simp [closeWindow, *]
@[simp] theorem outside_doButtonStuck {mm : Parts} {s : State} (p_pres : mm.pres = true) (p_rmq : mm.rmq = true) : outside mm (doButtonStuck s) = outside mm s := by
  simp [doButtonStuck, *]
@[simp] theorem outside_doButtonReleaseTimeout {mm : Parts} {s : State} (p_pres : mm.pres = true) : outside mm (doButtonReleaseTimeout s) = outside mm s := by
  simp [doButtonReleaseTimeout, *]
@[simp] theorem outside_doPresenceWindowExpire {mm : Parts} {s : State} (p_pres : mm.pres = true) (p_rmq : mm.rmq = true) (p_window : mm.window = true) : outside mm (doPresenceWindowExpire s) = outside mm s := by
  simp [doPresenceWindowExpire, *]
@[simp] theorem outside_doPresenceCloseWrite {mm : Parts} {s : State} (p_fieth : mm.fieth = true) (p_pres : mm.pres = true) (p_rmq : mm.rmq = true) (p_dict : mm.dict = true) (p_outbox : mm.outbox = true) (p_window : mm.window = true) : outside mm (doPresenceCloseWrite s) = outside mm s := by
  simp [doPresenceCloseWrite, *]
@[simp] theorem outside_doSealLoopOpen {mm : Parts} {loopB : Bool} {s : State} (p_pres : mm.pres = true) (p_rmq : mm.rmq = true) (p_dict : mm.dict = true) (p_freeCtr : mm.freeCtr = true) (p_sealBroken : mm.sealBroken = true) (p_sealFuse : mm.sealFuse = true) : outside mm (doSealLoopOpen loopB s) = outside mm s := by
  unfold doSealLoopOpen; (repeat' split) <;> simp [*]
@[simp] theorem outside_jumperGone {mm : Parts} {s : State} (p_per : mm.per = true) (p_nand : mm.nand = true) (p_cp : mm.cp = true) (p_md : mm.md = true) (p_pres : mm.pres = true) (p_rmq : mm.rmq = true) (p_dict : mm.dict = true) (p_freeCtr : mm.freeCtr = true) (p_fmap : mm.fmap = true) (p_groups : mm.groups = true) (p_media : mm.media = true) (p_twin : mm.twin = true) (p_mode : mm.mode = true) : outside mm (jumperGone s) = outside mm s := by
  simp [jumperGone, *]
@[simp] theorem outside_doSvcJmpRemoved {mm : Parts} {s : State} (p_per : mm.per = true) (p_nand : mm.nand = true) (p_cp : mm.cp = true) (p_md : mm.md = true) (p_pres : mm.pres = true) (p_rmq : mm.rmq = true) (p_dict : mm.dict = true) (p_freeCtr : mm.freeCtr = true) (p_fmap : mm.fmap = true) (p_groups : mm.groups = true) (p_media : mm.media = true) (p_twin : mm.twin = true) (p_mode : mm.mode = true) : outside mm (doSvcJmpRemoved s) = outside mm s := by
  simp [doSvcJmpRemoved, *]
@[simp] theorem outside_doJtagDebugInstruction {mm : Parts} {code : Nat} {s : State} (p_pres : mm.pres = true) : outside mm (doJtagDebugInstruction code s) = outside mm s := by
  simp [doJtagDebugInstruction, *]
@[simp] theorem outside_doJtagResetRequest {mm : Parts} {s : State} (p_rec_ : mm.rec_ = true) (p_rst : mm.rst = true) (p_phase : mm.phase = true) : outside mm (doJtagResetRequest s) = outside mm s := by
  simp [doJtagResetRequest, *]
@[simp] theorem outside_doJtagBoundaryScan {mm : Parts} {code : Nat} {s : State} (p_pres : mm.pres = true) : outside mm (doJtagBoundaryScan code s) = outside mm s := by
  simp [doJtagBoundaryScan, *]
@[simp] theorem outside_pausePort {mm : Parts} {p : Nat} {s : State} (p_ports : mm.ports = true) (p_dict : mm.dict = true) : outside mm (pausePort p s) = outside mm s := by
  simp [pausePort, *]
@[simp] theorem outside_monitorFault {mm : Parts} {point i variant : Nat} {s : State} (p_host : mm.host = true) (p_rc : mm.rc = true) (p_per : mm.per = true) (p_eng : mm.eng = true) (p_tier : mm.tier = true) (p_cs : mm.cs = true) (p_dram : mm.dram = true) (p_nand : mm.nand = true) (p_fix : mm.fix = true) (p_cp : mm.cp = true) (p_rec_ : mm.rec_ = true) (p_snap : mm.snap = true) (p_md : mm.md = true) (p_fieth : mm.fieth = true) (p_ports : mm.ports = true) (p_pres : mm.pres = true) (p_rmq : mm.rmq = true) (p_rst : mm.rst = true) (p_dict : mm.dict = true) (p_freeCtr : mm.freeCtr = true) (p_outbox : mm.outbox = true) (p_tenants : mm.tenants = true) (p_hosts : mm.hosts = true) (p_regions : mm.regions = true) (p_keyTable : mm.keyTable = true) (p_quotas : mm.quotas = true) (p_dir : mm.dir = true) (p_fmap : mm.fmap = true) (p_groups : mm.groups = true) (p_images : mm.images = true) (p_snaps : mm.snaps = true) (p_standing : mm.standing = true) (p_mem : mm.mem = true) (p_media : mm.media = true) (p_plates : mm.plates = true) (p_twin : mm.twin = true) (p_mode : mm.mode = true) (p_phase : mm.phase = true) (p_config : mm.config = true) : outside mm (monitorFault point i variant s) = outside mm s := by
  unfold monitorFault; (repeat' split) <;> simp [*]
@[simp] theorem outside_fireMonitor {mm : Parts} {point i variant : Nat} {s : State} (p_host : mm.host = true) (p_rc : mm.rc = true) (p_per : mm.per = true) (p_eng : mm.eng = true) (p_tier : mm.tier = true) (p_cs : mm.cs = true) (p_dram : mm.dram = true) (p_nand : mm.nand = true) (p_fix : mm.fix = true) (p_cp : mm.cp = true) (p_rec_ : mm.rec_ = true) (p_snap : mm.snap = true) (p_md : mm.md = true) (p_fieth : mm.fieth = true) (p_ports : mm.ports = true) (p_pres : mm.pres = true) (p_rmq : mm.rmq = true) (p_rst : mm.rst = true) (p_dict : mm.dict = true) (p_freeCtr : mm.freeCtr = true) (p_outbox : mm.outbox = true) (p_tenants : mm.tenants = true) (p_hosts : mm.hosts = true) (p_regions : mm.regions = true) (p_keyTable : mm.keyTable = true) (p_quotas : mm.quotas = true) (p_dir : mm.dir = true) (p_fmap : mm.fmap = true) (p_groups : mm.groups = true) (p_images : mm.images = true) (p_snaps : mm.snaps = true) (p_standing : mm.standing = true) (p_mem : mm.mem = true) (p_media : mm.media = true) (p_plates : mm.plates = true) (p_twin : mm.twin = true) (p_mode : mm.mode = true) (p_phase : mm.phase = true) (p_config : mm.config = true) : outside mm (fireMonitor point i variant s) = outside mm s := by
  unfold fireMonitor
  split
  · rename_i v s1 h
    have hs : outside mm s1 = outside mm s := by
      split at h
      · exact (outside_fire h p_pres p_rmq p_dict)
      · exact (outside_fireRecorded h p_pres p_rmq p_dict)
    rw [← hs]
    simp [p_host, p_rc, p_per, p_eng, p_tier, p_cs, p_dram, p_nand, p_fix, p_cp, p_rec_, p_snap, p_md, p_fieth, p_ports, p_pres, p_rmq, p_rst, p_dict, p_freeCtr, p_outbox, p_tenants, p_hosts, p_regions, p_keyTable, p_quotas, p_dir, p_fmap, p_groups, p_images, p_snaps, p_standing, p_mem, p_media, p_plates, p_twin, p_mode, p_phase, p_config]
  · rfl
@[simp] theorem outside_injectionCommand {mm : Parts} {block : Nat} {status : State → Nat} {run : State → State} {s : State} (p_fieth : mm.fieth = true) (p_dict : mm.dict = true) (p_outbox : mm.outbox = true) (hrun : ∀ a, outside mm (run a) = outside mm a) : outside mm (injectionCommand block status run s) = outside mm s := by
  unfold injectionCommand; (repeat' split) <;> (try simp [p_fieth, p_dict, p_outbox, hrun]) <;> simp (disch := (intros; first | (simp [p_fieth, p_dict, p_outbox, hrun]; done) | ((repeat' split) <;> try simp [p_fieth, p_dict, p_outbox, hrun]))) [*]
@[simp] theorem outside_arm {mm : Parts} {a : Armed} {s : State} (p_host : mm.host = true) (p_rc : mm.rc = true) (p_per : mm.per = true) (p_eng : mm.eng = true) (p_tier : mm.tier = true) (p_cs : mm.cs = true) (p_dram : mm.dram = true) (p_nand : mm.nand = true) (p_fix : mm.fix = true) (p_cp : mm.cp = true) (p_rec_ : mm.rec_ = true) (p_snap : mm.snap = true) (p_md : mm.md = true) (p_fieth : mm.fieth = true) (p_ports : mm.ports = true) (p_pres : mm.pres = true) (p_rmq : mm.rmq = true) (p_rst : mm.rst = true) (p_dict : mm.dict = true) (p_freeCtr : mm.freeCtr = true) (p_outbox : mm.outbox = true) (p_tenants : mm.tenants = true) (p_hosts : mm.hosts = true) (p_regions : mm.regions = true) (p_keyTable : mm.keyTable = true) (p_quotas : mm.quotas = true) (p_dir : mm.dir = true) (p_fmap : mm.fmap = true) (p_groups : mm.groups = true) (p_images : mm.images = true) (p_snaps : mm.snaps = true) (p_standing : mm.standing = true) (p_mem : mm.mem = true) (p_media : mm.media = true) (p_plates : mm.plates = true) (p_twin : mm.twin = true) (p_mode : mm.mode = true) (p_phase : mm.phase = true) (p_config : mm.config = true) : outside mm (arm a s) = outside mm s := by
  simp [arm, *]
@[simp] theorem outside_doInjectOnce {mm : Parts} {point inst variant : Nat} {s : State} (p_host : mm.host = true) (p_rc : mm.rc = true) (p_per : mm.per = true) (p_eng : mm.eng = true) (p_tier : mm.tier = true) (p_cs : mm.cs = true) (p_dram : mm.dram = true) (p_nand : mm.nand = true) (p_fix : mm.fix = true) (p_cp : mm.cp = true) (p_rec_ : mm.rec_ = true) (p_snap : mm.snap = true) (p_md : mm.md = true) (p_fieth : mm.fieth = true) (p_ports : mm.ports = true) (p_pres : mm.pres = true) (p_rmq : mm.rmq = true) (p_rst : mm.rst = true) (p_dict : mm.dict = true) (p_freeCtr : mm.freeCtr = true) (p_outbox : mm.outbox = true) (p_tenants : mm.tenants = true) (p_hosts : mm.hosts = true) (p_regions : mm.regions = true) (p_keyTable : mm.keyTable = true) (p_quotas : mm.quotas = true) (p_dir : mm.dir = true) (p_fmap : mm.fmap = true) (p_groups : mm.groups = true) (p_images : mm.images = true) (p_snaps : mm.snaps = true) (p_standing : mm.standing = true) (p_mem : mm.mem = true) (p_media : mm.media = true) (p_plates : mm.plates = true) (p_twin : mm.twin = true) (p_mode : mm.mode = true) (p_phase : mm.phase = true) (p_config : mm.config = true) : outside mm (doInjectOnce point inst variant s) = outside mm s := by
  simp [doInjectOnce, *]
@[simp] theorem outside_doInjectRepeatedly {mm : Parts} {point inst variant count interval : Nat} {s : State} (p_host : mm.host = true) (p_rc : mm.rc = true) (p_per : mm.per = true) (p_eng : mm.eng = true) (p_tier : mm.tier = true) (p_cs : mm.cs = true) (p_dram : mm.dram = true) (p_nand : mm.nand = true) (p_fix : mm.fix = true) (p_cp : mm.cp = true) (p_rec_ : mm.rec_ = true) (p_snap : mm.snap = true) (p_md : mm.md = true) (p_fieth : mm.fieth = true) (p_ports : mm.ports = true) (p_pres : mm.pres = true) (p_rmq : mm.rmq = true) (p_rst : mm.rst = true) (p_dict : mm.dict = true) (p_freeCtr : mm.freeCtr = true) (p_outbox : mm.outbox = true) (p_tenants : mm.tenants = true) (p_hosts : mm.hosts = true) (p_regions : mm.regions = true) (p_keyTable : mm.keyTable = true) (p_quotas : mm.quotas = true) (p_dir : mm.dir = true) (p_fmap : mm.fmap = true) (p_groups : mm.groups = true) (p_images : mm.images = true) (p_snaps : mm.snaps = true) (p_standing : mm.standing = true) (p_mem : mm.mem = true) (p_media : mm.media = true) (p_plates : mm.plates = true) (p_twin : mm.twin = true) (p_mode : mm.mode = true) (p_phase : mm.phase = true) (p_config : mm.config = true) : outside mm (doInjectRepeatedly point inst variant count interval s) = outside mm s := by
  simp [doInjectRepeatedly, *]
@[simp] theorem outside_doDisarmPoint {mm : Parts} {point inst variant : Nat} {s : State} (p_fieth : mm.fieth = true) (p_pres : mm.pres = true) (p_rmq : mm.rmq = true) (p_dict : mm.dict = true) (p_outbox : mm.outbox = true) : outside mm (doDisarmPoint point inst variant s) = outside mm s := by
  unfold doDisarmPoint; (repeat' split) <;> (try simp [p_fieth, p_pres, p_rmq, p_dict, p_outbox]) <;> simp (disch := (intros; first | (simp [p_fieth, p_pres, p_rmq, p_dict, p_outbox]; done) | ((repeat' split) <;> try simp [p_fieth, p_pres, p_rmq, p_dict, p_outbox]))) [*]
@[simp] theorem outside_doDisarmEveryPoint {mm : Parts} {s : State} (p_fieth : mm.fieth = true) (p_pres : mm.pres = true) (p_rmq : mm.rmq = true) (p_dict : mm.dict = true) (p_outbox : mm.outbox = true) : outside mm (doDisarmEveryPoint s) = outside mm s := by
  simp [doDisarmEveryPoint, *]
@[simp] theorem outside_unknownInjection {mm : Parts} {block : Nat} {s : State} (p_fieth : mm.fieth = true) (p_dict : mm.dict = true) (p_outbox : mm.outbox = true) : outside mm (unknownInjection block s) = outside mm s := by
  simp [unknownInjection, *]
@[simp] theorem outside_doInjectionInterval {mm : Parts} {point inst variant : Nat} {s : State} (p_host : mm.host = true) (p_rc : mm.rc = true) (p_per : mm.per = true) (p_eng : mm.eng = true) (p_tier : mm.tier = true) (p_cs : mm.cs = true) (p_dram : mm.dram = true) (p_nand : mm.nand = true) (p_fix : mm.fix = true) (p_cp : mm.cp = true) (p_rec_ : mm.rec_ = true) (p_snap : mm.snap = true) (p_md : mm.md = true) (p_fieth : mm.fieth = true) (p_ports : mm.ports = true) (p_pres : mm.pres = true) (p_rmq : mm.rmq = true) (p_rst : mm.rst = true) (p_dict : mm.dict = true) (p_freeCtr : mm.freeCtr = true) (p_outbox : mm.outbox = true) (p_tenants : mm.tenants = true) (p_hosts : mm.hosts = true) (p_regions : mm.regions = true) (p_keyTable : mm.keyTable = true) (p_quotas : mm.quotas = true) (p_dir : mm.dir = true) (p_fmap : mm.fmap = true) (p_groups : mm.groups = true) (p_images : mm.images = true) (p_snaps : mm.snaps = true) (p_standing : mm.standing = true) (p_mem : mm.mem = true) (p_media : mm.media = true) (p_plates : mm.plates = true) (p_twin : mm.twin = true) (p_mode : mm.mode = true) (p_phase : mm.phase = true) (p_config : mm.config = true) : outside mm (doInjectionInterval point inst variant s) = outside mm s := by
  simp [doInjectionInterval, *]

end Sys2Proof.Machine
end

