-- ==== Sys2Proof/Laws/KeepDict.lean ====
section
/-! SUPPORT. What each operation of Machine/Dict.lean leaves unchanged: everything outside the parts its hypotheses name (Outside.lean). -/
namespace Sys2Proof.Machine
open Sys2Proof
set_option linter.unusedSimpArgs false

@[simp] theorem outside_doPortConfigWrite {mm : Parts} {port : Fin 128} {sub value : Nat} {s : State} (p_fieth : mm.fieth = true) (p_dict : mm.dict = true) (p_outbox : mm.outbox = true) (p_config : mm.config = true) : outside mm (doPortConfigWrite port sub value s) = outside mm s := by
  unfold doPortConfigWrite
  refine outside_dictGuard p_fieth p_dict p_outbox (fun a => ?_)
  split
  · simp [p_fieth, p_dict, p_outbox, p_config]
  · split
    · simp [p_fieth, p_dict, p_outbox, p_config]
    · refine outside_dictGuard p_fieth p_dict p_outbox (fun b => ?_)
      split
      · simp [p_fieth, p_dict, p_outbox, p_config]
      · simp [p_fieth, p_dict, p_outbox, p_config]
@[simp] theorem outside_doCanRateWrite {mm : Parts} {channel : Fin 2} {data : Bool} {code : Nat} {s : State} (p_fieth : mm.fieth = true) (p_dict : mm.dict = true) (p_outbox : mm.outbox = true) (p_config : mm.config = true) : outside mm (doCanRateWrite channel data code s) = outside mm s := by
  simp [doCanRateWrite, *]
@[simp] theorem outside_doCanChannelEnableWrite {mm : Parts} {value : Nat} {s : State} (p_fieth : mm.fieth = true) (p_dict : mm.dict = true) (p_outbox : mm.outbox = true) (p_config : mm.config = true) : outside mm (doCanChannelEnableWrite value s) = outside mm s := by
  simp [doCanChannelEnableWrite, *]
@[simp] theorem outside_doClearStatistics {mm : Parts} {s : State} (p_fieth : mm.fieth = true) (p_dict : mm.dict = true) (p_outbox : mm.outbox = true) (p_config : mm.config = true) : outside mm (doClearStatistics s) = outside mm s := by
  simp [doClearStatistics, *]
@[simp] theorem outside_storeValue {mm : Parts} {e : Entry} {idx sub v : Nat} {s : State} (p_fieth : mm.fieth = true) (p_dict : mm.dict = true) (p_outbox : mm.outbox = true) (p_config : mm.config = true) : outside mm (storeValue e idx sub v s) = outside mm s := by
  unfold storeValue; (repeat' split) <;> simp [*]
@[simp] theorem outside_writeRegionBlock {mm : Parts} {b : Bytes} {s : State} (p_rc : mm.rc = true) (p_per : mm.per = true) (p_eng : mm.eng = true) (p_tier : mm.tier = true) (p_cs : mm.cs = true) (p_nand : mm.nand = true) (p_fix : mm.fix = true) (p_cp : mm.cp = true) (p_rec_ : mm.rec_ = true) (p_snap : mm.snap = true) (p_fieth : mm.fieth = true) (p_rmq : mm.rmq = true) (p_dict : mm.dict = true) (p_freeCtr : mm.freeCtr = true) (p_outbox : mm.outbox = true) (p_tenants : mm.tenants = true) (p_hosts : mm.hosts = true) (p_regions : mm.regions = true) (p_keyTable : mm.keyTable = true) (p_quotas : mm.quotas = true) (p_dir : mm.dir = true) (p_fmap : mm.fmap = true) (p_images : mm.images = true) (p_snaps : mm.snaps = true) (p_config : mm.config = true) : outside mm (writeRegionBlock b s) = outside mm s := by
  simp [writeRegionBlock, *]
@[simp] theorem outside_writeMaintenance {mm : Parts} {b : Bytes} {s : State} (p_cs : mm.cs = true) (p_nand : mm.nand = true) (p_fieth : mm.fieth = true) (p_dict : mm.dict = true) (p_outbox : mm.outbox = true) : outside mm (writeMaintenance b s) = outside mm s := by
  unfold writeMaintenance; (repeat' split) <;> (try simp [p_cs, p_nand, p_fieth, p_dict, p_outbox]) <;> (repeat' split) <;> (try simp_all) <;> simp (disch := (intros; first | (simp [p_cs, p_nand, p_fieth, p_dict, p_outbox]; done) | ((repeat' split) <;> try simp [p_cs, p_nand, p_fieth, p_dict, p_outbox]))) [*]
@[simp] theorem outside_writeStateBlock {mm : Parts} {b : Bytes} {s : State} (p_rc : mm.rc = true) (p_per : mm.per = true) (p_eng : mm.eng = true) (p_tier : mm.tier = true) (p_cs : mm.cs = true) (p_nand : mm.nand = true) (p_fix : mm.fix = true) (p_cp : mm.cp = true) (p_rec_ : mm.rec_ = true) (p_snap : mm.snap = true) (p_fieth : mm.fieth = true) (p_rmq : mm.rmq = true) (p_dict : mm.dict = true) (p_freeCtr : mm.freeCtr = true) (p_outbox : mm.outbox = true) (p_tenants : mm.tenants = true) (p_hosts : mm.hosts = true) (p_regions : mm.regions = true) (p_keyTable : mm.keyTable = true) (p_quotas : mm.quotas = true) (p_dir : mm.dir = true) (p_fmap : mm.fmap = true) (p_images : mm.images = true) (p_snaps : mm.snaps = true) (p_config : mm.config = true) : outside mm (writeStateBlock b s) = outside mm s := by
  simp [writeStateBlock, *]
@[simp] theorem outside_writeKeyBlock {mm : Parts} {b : Bytes} {s : State} (p_per : mm.per = true) (p_nand : mm.nand = true) (p_cp : mm.cp = true) (p_md : mm.md = true) (p_keys : mm.keys = true) (p_fieth : mm.fieth = true) (p_pres : mm.pres = true) (p_rmq : mm.rmq = true) (p_dict : mm.dict = true) (p_freeCtr : mm.freeCtr = true) (p_outbox : mm.outbox = true) (p_fmap : mm.fmap = true) (p_groups : mm.groups = true) (p_images : mm.images = true) (p_snaps : mm.snaps = true) (p_media : mm.media = true) (p_twin : mm.twin = true) (p_mode : mm.mode = true) (p_keySlots : mm.keySlots = true) : outside mm (writeKeyBlock b s) = outside mm s := by
  unfold writeKeyBlock; (repeat' split) <;> (try simp [p_per, p_nand, p_cp, p_md, p_keys, p_fieth, p_pres, p_rmq, p_dict, p_freeCtr, p_outbox, p_fmap, p_groups, p_images, p_snaps, p_media, p_twin, p_mode, p_keySlots]) <;> (repeat' split) <;> (try simp_all) <;> simp (disch := (intros; first | (simp [p_per, p_nand, p_cp, p_md, p_keys, p_fieth, p_pres, p_rmq, p_dict, p_freeCtr, p_outbox, p_fmap, p_groups, p_images, p_snaps, p_media, p_twin, p_mode, p_keySlots]; done) | ((repeat' split) <;> try simp [p_per, p_nand, p_cp, p_md, p_keys, p_fieth, p_pres, p_rmq, p_dict, p_freeCtr, p_outbox, p_fmap, p_groups, p_images, p_snaps, p_media, p_twin, p_mode, p_keySlots]))) [*]
@[simp] theorem outside_writeInjectionBlock {mm : Parts} {b : Bytes} {s : State} (p_host : mm.host = true) (p_rc : mm.rc = true) (p_per : mm.per = true) (p_eng : mm.eng = true) (p_tier : mm.tier = true) (p_cs : mm.cs = true) (p_dram : mm.dram = true) (p_nand : mm.nand = true) (p_fix : mm.fix = true) (p_cp : mm.cp = true) (p_rec_ : mm.rec_ = true) (p_snap : mm.snap = true) (p_md : mm.md = true) (p_fieth : mm.fieth = true) (p_ports : mm.ports = true) (p_pres : mm.pres = true) (p_rmq : mm.rmq = true) (p_rst : mm.rst = true) (p_dict : mm.dict = true) (p_freeCtr : mm.freeCtr = true) (p_outbox : mm.outbox = true) (p_tenants : mm.tenants = true) (p_hosts : mm.hosts = true) (p_regions : mm.regions = true) (p_keyTable : mm.keyTable = true) (p_quotas : mm.quotas = true) (p_dir : mm.dir = true) (p_fmap : mm.fmap = true) (p_groups : mm.groups = true) (p_images : mm.images = true) (p_snaps : mm.snaps = true) (p_standing : mm.standing = true) (p_mem : mm.mem = true) (p_media : mm.media = true) (p_plates : mm.plates = true) (p_twin : mm.twin = true) (p_mode : mm.mode = true) (p_phase : mm.phase = true) (p_config : mm.config = true) : outside mm (writeInjectionBlock b s) = outside mm s := by
  unfold writeInjectionBlock; (repeat' split) <;> (try simp [p_host, p_rc, p_per, p_eng, p_tier, p_cs, p_dram, p_nand, p_fix, p_cp, p_rec_, p_snap, p_md, p_fieth, p_ports, p_pres, p_rmq, p_rst, p_dict, p_freeCtr, p_outbox, p_tenants, p_hosts, p_regions, p_keyTable, p_quotas, p_dir, p_fmap, p_groups, p_images, p_snaps, p_standing, p_mem, p_media, p_plates, p_twin, p_mode, p_phase, p_config]) <;> (repeat' split) <;> (try simp_all) <;> simp (disch := (intros; first | (simp [p_host, p_rc, p_per, p_eng, p_tier, p_cs, p_dram, p_nand, p_fix, p_cp, p_rec_, p_snap, p_md, p_fieth, p_ports, p_pres, p_rmq, p_rst, p_dict, p_freeCtr, p_outbox, p_tenants, p_hosts, p_regions, p_keyTable, p_quotas, p_dir, p_fmap, p_groups, p_images, p_snaps, p_standing, p_mem, p_media, p_plates, p_twin, p_mode, p_phase, p_config]; done) | ((repeat' split) <;> try simp [p_host, p_rc, p_per, p_eng, p_tier, p_cs, p_dram, p_nand, p_fix, p_cp, p_rec_, p_snap, p_md, p_fieth, p_ports, p_pres, p_rmq, p_rst, p_dict, p_freeCtr, p_outbox, p_tenants, p_hosts, p_regions, p_keyTable, p_quotas, p_dir, p_fmap, p_groups, p_images, p_snaps, p_standing, p_mem, p_media, p_plates, p_twin, p_mode, p_phase, p_config]))) [*]
@[simp] theorem outside_writeModeRequest {mm : Parts} {v : Nat} {s : State} (p_host : mm.host = true) (p_per : mm.per = true) (p_eng : mm.eng = true) (p_tier : mm.tier = true) (p_nand : mm.nand = true) (p_fix : mm.fix = true) (p_cp : mm.cp = true) (p_snap : mm.snap = true) (p_md : mm.md = true) (p_fieth : mm.fieth = true) (p_pres : mm.pres = true) (p_rmq : mm.rmq = true) (p_rst : mm.rst = true) (p_dict : mm.dict = true) (p_freeCtr : mm.freeCtr = true) (p_outbox : mm.outbox = true) (p_quotas : mm.quotas = true) (p_dir : mm.dir = true) (p_fmap : mm.fmap = true) (p_groups : mm.groups = true) (p_snaps : mm.snaps = true) (p_standing : mm.standing = true) (p_media : mm.media = true) (p_twin : mm.twin = true) (p_mode : mm.mode = true) (p_phase : mm.phase = true) : outside mm (writeModeRequest v s) = outside mm s := by
  unfold writeModeRequest; (repeat' split) <;> simp [*]
@[simp] theorem outside_writeDomains {mm : Parts} {off : Nat} {b : Bytes} {s : State} (p_host : mm.host = true) (p_rc : mm.rc = true) (p_per : mm.per = true) (p_eng : mm.eng = true) (p_tier : mm.tier = true) (p_cs : mm.cs = true) (p_dram : mm.dram = true) (p_nand : mm.nand = true) (p_fix : mm.fix = true) (p_cp : mm.cp = true) (p_rec_ : mm.rec_ = true) (p_snap : mm.snap = true) (p_md : mm.md = true) (p_fieth : mm.fieth = true) (p_ports : mm.ports = true) (p_pres : mm.pres = true) (p_rmq : mm.rmq = true) (p_rst : mm.rst = true) (p_dict : mm.dict = true) (p_force : mm.force = true) (p_freeCtr : mm.freeCtr = true) (p_outbox : mm.outbox = true) (p_tenants : mm.tenants = true) (p_hosts : mm.hosts = true) (p_regions : mm.regions = true) (p_keyTable : mm.keyTable = true) (p_quotas : mm.quotas = true) (p_dir : mm.dir = true) (p_fmap : mm.fmap = true) (p_groups : mm.groups = true) (p_images : mm.images = true) (p_snaps : mm.snaps = true) (p_standing : mm.standing = true) (p_mem : mm.mem = true) (p_media : mm.media = true) (p_plates : mm.plates = true) (p_twin : mm.twin = true) (p_mode : mm.mode = true) (p_phase : mm.phase = true) (p_config : mm.config = true) : outside mm (writeDomains off b s) = outside mm s := by
  simp [writeDomains, *]
@[simp] theorem outside_writeFactory {mm : Parts} {e : Entry} {sub off : Nat} {b : Bytes} {s : State} (p_fieth : mm.fieth = true) (p_dict : mm.dict = true) (p_outbox : mm.outbox = true) (p_config : mm.config = true) : outside mm (writeFactory e sub off b s) = outside mm s := by
  simp [writeFactory, *]
@[simp] theorem outside_writeStart {mm : Parts} {idx sub v : Nat} {run : State → State} {s : State} (p_fieth : mm.fieth = true) (p_dict : mm.dict = true) (p_outbox : mm.outbox = true) (hrun : ∀ a, outside mm (run a) = outside mm a) : outside mm (writeStart idx sub v run s) = outside mm s := by
  simp [writeStart, *]
@[simp] theorem outside_writeEntry {mm : Parts} {e : Entry} {idx sub off : Nat} {b : Bytes} {s : State} (p_host : mm.host = true) (p_rc : mm.rc = true) (p_per : mm.per = true) (p_eng : mm.eng = true) (p_tier : mm.tier = true) (p_cs : mm.cs = true) (p_dram : mm.dram = true) (p_nand : mm.nand = true) (p_fix : mm.fix = true) (p_cp : mm.cp = true) (p_rec_ : mm.rec_ = true) (p_snap : mm.snap = true) (p_md : mm.md = true) (p_keys : mm.keys = true) (p_fieth : mm.fieth = true) (p_ports : mm.ports = true) (p_pres : mm.pres = true) (p_rmq : mm.rmq = true) (p_rst : mm.rst = true) (p_dict : mm.dict = true) (p_force : mm.force = true) (p_freeCtr : mm.freeCtr = true) (p_outbox : mm.outbox = true) (p_tenants : mm.tenants = true) (p_hosts : mm.hosts = true) (p_regions : mm.regions = true) (p_keyTable : mm.keyTable = true) (p_quotas : mm.quotas = true) (p_dir : mm.dir = true) (p_fmap : mm.fmap = true) (p_groups : mm.groups = true) (p_images : mm.images = true) (p_snaps : mm.snaps = true) (p_standing : mm.standing = true) (p_mem : mm.mem = true) (p_media : mm.media = true) (p_plates : mm.plates = true) (p_twin : mm.twin = true) (p_mode : mm.mode = true) (p_keySlots : mm.keySlots = true) (p_svn : mm.svn = true) (p_window : mm.window = true) (p_phase : mm.phase = true) (p_config : mm.config = true) : outside mm (writeEntry e idx sub off b s) = outside mm s := by
  unfold writeEntry
  dsimp only
  generalize Fin.ofNat 128 (idx - 0x2000) = p
  generalize Fin.ofNat 32 (idx - 0x3200) = c
  (repeat' split) <;> simp [*]
@[simp] theorem outside_applyWrite {mm : Parts} {idx sub off : Nat} {value : Bytes} {s : State} (p_host : mm.host = true) (p_rc : mm.rc = true) (p_per : mm.per = true) (p_eng : mm.eng = true) (p_tier : mm.tier = true) (p_cs : mm.cs = true) (p_dram : mm.dram = true) (p_nand : mm.nand = true) (p_fix : mm.fix = true) (p_cp : mm.cp = true) (p_rec_ : mm.rec_ = true) (p_snap : mm.snap = true) (p_md : mm.md = true) (p_keys : mm.keys = true) (p_fieth : mm.fieth = true) (p_ports : mm.ports = true) (p_pres : mm.pres = true) (p_rmq : mm.rmq = true) (p_rst : mm.rst = true) (p_dict : mm.dict = true) (p_force : mm.force = true) (p_freeCtr : mm.freeCtr = true) (p_outbox : mm.outbox = true) (p_tenants : mm.tenants = true) (p_hosts : mm.hosts = true) (p_regions : mm.regions = true) (p_keyTable : mm.keyTable = true) (p_quotas : mm.quotas = true) (p_dir : mm.dir = true) (p_fmap : mm.fmap = true) (p_groups : mm.groups = true) (p_images : mm.images = true) (p_snaps : mm.snaps = true) (p_standing : mm.standing = true) (p_mem : mm.mem = true) (p_media : mm.media = true) (p_plates : mm.plates = true) (p_twin : mm.twin = true) (p_mode : mm.mode = true) (p_keySlots : mm.keySlots = true) (p_svn : mm.svn = true) (p_window : mm.window = true) (p_phase : mm.phase = true) (p_config : mm.config = true) : outside mm (applyWrite idx sub off value s) = outside mm s := by
  unfold applyWrite; (repeat' split) <;> simp [*]
@[simp] theorem outside_doDictWrite {mm : Parts} {index sub off : Nat} {value : Bytes} {s : State} (p_host : mm.host = true) (p_rc : mm.rc = true) (p_per : mm.per = true) (p_eng : mm.eng = true) (p_tier : mm.tier = true) (p_cs : mm.cs = true) (p_dram : mm.dram = true) (p_nand : mm.nand = true) (p_fix : mm.fix = true) (p_cp : mm.cp = true) (p_rec_ : mm.rec_ = true) (p_snap : mm.snap = true) (p_md : mm.md = true) (p_keys : mm.keys = true) (p_fieth : mm.fieth = true) (p_ports : mm.ports = true) (p_pres : mm.pres = true) (p_rmq : mm.rmq = true) (p_rst : mm.rst = true) (p_dict : mm.dict = true) (p_force : mm.force = true) (p_freeCtr : mm.freeCtr = true) (p_outbox : mm.outbox = true) (p_tenants : mm.tenants = true) (p_hosts : mm.hosts = true) (p_regions : mm.regions = true) (p_keyTable : mm.keyTable = true) (p_quotas : mm.quotas = true) (p_dir : mm.dir = true) (p_fmap : mm.fmap = true) (p_groups : mm.groups = true) (p_images : mm.images = true) (p_snaps : mm.snaps = true) (p_standing : mm.standing = true) (p_mem : mm.mem = true) (p_media : mm.media = true) (p_plates : mm.plates = true) (p_twin : mm.twin = true) (p_mode : mm.mode = true) (p_keySlots : mm.keySlots = true) (p_svn : mm.svn = true) (p_window : mm.window = true) (p_phase : mm.phase = true) (p_config : mm.config = true) : outside mm (doDictWrite index sub off value s) = outside mm s := by
  simp [doDictWrite, *]

end Sys2Proof.Machine
end

