-- ==== Sys2Proof/Laws/KeepFieth.lean ====
section
/-! SUPPORT. What each operation of Machine/Fieth.lean leaves unchanged: everything outside the parts its hypotheses name (Outside.lean). -/
namespace Sys2Proof.Machine
open Sys2Proof
set_option linter.unusedSimpArgs false

@[simp] theorem outside_reject {mm : Parts} {ch : Nat} {f : FiethFrame} {code : Nat} {s : State} (p_dict : mm.dict = true) (p_outbox : mm.outbox = true) : outside mm (reject ch f code s) = outside mm s := by
  simp [reject, *]
@[simp] theorem outside_setXfer {mm : Parts} {ch : Nat} {t : Option Transfer} {s : State} (p_fieth : mm.fieth = true) : outside mm (setXfer ch t s) = outside mm s := by
  simp [setXfer, *]
@[simp] theorem outside_keepRecord {mm : Parts} {h : FHead} {o : FOutcome} {s : State} (p_fieth : mm.fieth = true) : outside mm (keepRecord h o s) = outside mm s := by
  simp [keepRecord, *]
@[simp] theorem outside_sendFiethAck {mm : Parts} {ch tag next : Nat} {s : State} (p_outbox : mm.outbox = true) : outside mm (sendFiethAck ch tag next s) = outside mm s := by
  simp [sendFiethAck, *]
@[simp] theorem outside_runRead {mm : Parts} {ch : Nat} {h : FHead} {s : State} (p_fieth : mm.fieth = true) (p_dict : mm.dict = true) (p_freeCtr : mm.freeCtr = true) (p_outbox : mm.outbox = true) : outside mm (runRead ch h s) = outside mm s := by
  unfold runRead; (repeat' split) <;> simp [*]
@[simp] theorem outside_runWrite {mm : Parts} {ch : Nat} {h : FHead} {value : Bytes} {s : State} (p_host : mm.host = true) (p_rc : mm.rc = true) (p_per : mm.per = true) (p_eng : mm.eng = true) (p_tier : mm.tier = true) (p_cs : mm.cs = true) (p_dram : mm.dram = true) (p_nand : mm.nand = true) (p_fix : mm.fix = true) (p_cp : mm.cp = true) (p_rec_ : mm.rec_ = true) (p_snap : mm.snap = true) (p_md : mm.md = true) (p_keys : mm.keys = true) (p_fieth : mm.fieth = true) (p_ports : mm.ports = true) (p_pres : mm.pres = true) (p_rmq : mm.rmq = true) (p_rst : mm.rst = true) (p_dict : mm.dict = true) (p_force : mm.force = true) (p_freeCtr : mm.freeCtr = true) (p_outbox : mm.outbox = true) (p_tenants : mm.tenants = true) (p_hosts : mm.hosts = true) (p_regions : mm.regions = true) (p_keyTable : mm.keyTable = true) (p_quotas : mm.quotas = true) (p_dir : mm.dir = true) (p_fmap : mm.fmap = true) (p_groups : mm.groups = true) (p_images : mm.images = true) (p_snaps : mm.snaps = true) (p_standing : mm.standing = true) (p_mem : mm.mem = true) (p_media : mm.media = true) (p_plates : mm.plates = true) (p_twin : mm.twin = true) (p_mode : mm.mode = true) (p_keySlots : mm.keySlots = true) (p_svn : mm.svn = true) (p_window : mm.window = true) (p_phase : mm.phase = true) (p_config : mm.config = true) : outside mm (runWrite ch h value s) = outside mm s := by
  simp [runWrite, *]
@[simp] theorem outside_openWrite {mm : Parts} {ch : Nat} {h : FHead} {s : State} (p_keys : mm.keys = true) (p_fieth : mm.fieth = true) (p_dict : mm.dict = true) (p_outbox : mm.outbox = true) : outside mm (openWrite ch h s) = outside mm s := by
  unfold openWrite; (repeat' split) <;> simp [*]
@[simp] theorem outside_answerOpening {mm : Parts} {ch : Nat} {moved : Bool} {t : Transfer} {s : State} (p_fieth : mm.fieth = true) (p_outbox : mm.outbox = true) : outside mm (answerOpening ch moved t s) = outside mm s := by
  simp [answerOpening, *]
@[simp] theorem outside_takeRequest {mm : Parts} {ch : Nat} {f : FiethFrame} {s : State} (p_host : mm.host = true) (p_rc : mm.rc = true) (p_per : mm.per = true) (p_eng : mm.eng = true) (p_tier : mm.tier = true) (p_cs : mm.cs = true) (p_dram : mm.dram = true) (p_nand : mm.nand = true) (p_fix : mm.fix = true) (p_cp : mm.cp = true) (p_rec_ : mm.rec_ = true) (p_snap : mm.snap = true) (p_md : mm.md = true) (p_keys : mm.keys = true) (p_fieth : mm.fieth = true) (p_ports : mm.ports = true) (p_pres : mm.pres = true) (p_rmq : mm.rmq = true) (p_rst : mm.rst = true) (p_dict : mm.dict = true) (p_force : mm.force = true) (p_freeCtr : mm.freeCtr = true) (p_outbox : mm.outbox = true) (p_tenants : mm.tenants = true) (p_hosts : mm.hosts = true) (p_regions : mm.regions = true) (p_keyTable : mm.keyTable = true) (p_quotas : mm.quotas = true) (p_dir : mm.dir = true) (p_fmap : mm.fmap = true) (p_groups : mm.groups = true) (p_images : mm.images = true) (p_snaps : mm.snaps = true) (p_standing : mm.standing = true) (p_mem : mm.mem = true) (p_media : mm.media = true) (p_plates : mm.plates = true) (p_twin : mm.twin = true) (p_mode : mm.mode = true) (p_keySlots : mm.keySlots = true) (p_svn : mm.svn = true) (p_window : mm.window = true) (p_phase : mm.phase = true) (p_config : mm.config = true) : outside mm (takeRequest ch f s) = outside mm s := by
  unfold takeRequest; (repeat' split) <;> (try simp [p_host, p_rc, p_per, p_eng, p_tier, p_cs, p_dram, p_nand, p_fix, p_cp, p_rec_, p_snap, p_md, p_keys, p_fieth, p_ports, p_pres, p_rmq, p_rst, p_dict, p_force, p_freeCtr, p_outbox, p_tenants, p_hosts, p_regions, p_keyTable, p_quotas, p_dir, p_fmap, p_groups, p_images, p_snaps, p_standing, p_mem, p_media, p_plates, p_twin, p_mode, p_keySlots, p_svn, p_window, p_phase, p_config]) <;> (repeat' split) <;> (try simp_all) <;> simp (disch := (intros; first | (simp [p_host, p_rc, p_per, p_eng, p_tier, p_cs, p_dram, p_nand, p_fix, p_cp, p_rec_, p_snap, p_md, p_keys, p_fieth, p_ports, p_pres, p_rmq, p_rst, p_dict, p_force, p_freeCtr, p_outbox, p_tenants, p_hosts, p_regions, p_keyTable, p_quotas, p_dir, p_fmap, p_groups, p_images, p_snaps, p_standing, p_mem, p_media, p_plates, p_twin, p_mode, p_keySlots, p_svn, p_window, p_phase, p_config]; done) | ((repeat' split) <;> try simp [p_host, p_rc, p_per, p_eng, p_tier, p_cs, p_dram, p_nand, p_fix, p_cp, p_rec_, p_snap, p_md, p_keys, p_fieth, p_ports, p_pres, p_rmq, p_rst, p_dict, p_force, p_freeCtr, p_outbox, p_tenants, p_hosts, p_regions, p_keyTable, p_quotas, p_dir, p_fmap, p_groups, p_images, p_snaps, p_standing, p_mem, p_media, p_plates, p_twin, p_mode, p_keySlots, p_svn, p_window, p_phase, p_config]))) [*]
@[simp] theorem outside_request {mm : Parts} {cmd : Nat} {channel : Fin 2} {f : FiethFrame} {s : State} (p_host : mm.host = true) (p_rc : mm.rc = true) (p_per : mm.per = true) (p_eng : mm.eng = true) (p_tier : mm.tier = true) (p_cs : mm.cs = true) (p_dram : mm.dram = true) (p_nand : mm.nand = true) (p_fix : mm.fix = true) (p_cp : mm.cp = true) (p_rec_ : mm.rec_ = true) (p_snap : mm.snap = true) (p_md : mm.md = true) (p_keys : mm.keys = true) (p_fieth : mm.fieth = true) (p_ports : mm.ports = true) (p_pres : mm.pres = true) (p_rmq : mm.rmq = true) (p_rst : mm.rst = true) (p_dict : mm.dict = true) (p_force : mm.force = true) (p_freeCtr : mm.freeCtr = true) (p_outbox : mm.outbox = true) (p_tenants : mm.tenants = true) (p_hosts : mm.hosts = true) (p_regions : mm.regions = true) (p_keyTable : mm.keyTable = true) (p_quotas : mm.quotas = true) (p_dir : mm.dir = true) (p_fmap : mm.fmap = true) (p_groups : mm.groups = true) (p_images : mm.images = true) (p_snaps : mm.snaps = true) (p_standing : mm.standing = true) (p_mem : mm.mem = true) (p_media : mm.media = true) (p_plates : mm.plates = true) (p_twin : mm.twin = true) (p_mode : mm.mode = true) (p_keySlots : mm.keySlots = true) (p_svn : mm.svn = true) (p_window : mm.window = true) (p_phase : mm.phase = true) (p_config : mm.config = true) : outside mm (request cmd channel f s) = outside mm s := by
  simp [request, *]
@[simp] theorem outside_doFiethRead {mm : Parts} {channel : Fin 2} {f : FiethFrame} {s : State} (p_host : mm.host = true) (p_rc : mm.rc = true) (p_per : mm.per = true) (p_eng : mm.eng = true) (p_tier : mm.tier = true) (p_cs : mm.cs = true) (p_dram : mm.dram = true) (p_nand : mm.nand = true) (p_fix : mm.fix = true) (p_cp : mm.cp = true) (p_rec_ : mm.rec_ = true) (p_snap : mm.snap = true) (p_md : mm.md = true) (p_keys : mm.keys = true) (p_fieth : mm.fieth = true) (p_ports : mm.ports = true) (p_pres : mm.pres = true) (p_rmq : mm.rmq = true) (p_rst : mm.rst = true) (p_dict : mm.dict = true) (p_force : mm.force = true) (p_freeCtr : mm.freeCtr = true) (p_outbox : mm.outbox = true) (p_tenants : mm.tenants = true) (p_hosts : mm.hosts = true) (p_regions : mm.regions = true) (p_keyTable : mm.keyTable = true) (p_quotas : mm.quotas = true) (p_dir : mm.dir = true) (p_fmap : mm.fmap = true) (p_groups : mm.groups = true) (p_images : mm.images = true) (p_snaps : mm.snaps = true) (p_standing : mm.standing = true) (p_mem : mm.mem = true) (p_media : mm.media = true) (p_plates : mm.plates = true) (p_twin : mm.twin = true) (p_mode : mm.mode = true) (p_keySlots : mm.keySlots = true) (p_svn : mm.svn = true) (p_window : mm.window = true) (p_phase : mm.phase = true) (p_config : mm.config = true) : outside mm (doFiethRead channel f s) = outside mm s := by
  simp [doFiethRead, *]
@[simp] theorem outside_doFiethWrite {mm : Parts} {channel : Fin 2} {f : FiethFrame} {s : State} (p_host : mm.host = true) (p_rc : mm.rc = true) (p_per : mm.per = true) (p_eng : mm.eng = true) (p_tier : mm.tier = true) (p_cs : mm.cs = true) (p_dram : mm.dram = true) (p_nand : mm.nand = true) (p_fix : mm.fix = true) (p_cp : mm.cp = true) (p_rec_ : mm.rec_ = true) (p_snap : mm.snap = true) (p_md : mm.md = true) (p_keys : mm.keys = true) (p_fieth : mm.fieth = true) (p_ports : mm.ports = true) (p_pres : mm.pres = true) (p_rmq : mm.rmq = true) (p_rst : mm.rst = true) (p_dict : mm.dict = true) (p_force : mm.force = true) (p_freeCtr : mm.freeCtr = true) (p_outbox : mm.outbox = true) (p_tenants : mm.tenants = true) (p_hosts : mm.hosts = true) (p_regions : mm.regions = true) (p_keyTable : mm.keyTable = true) (p_quotas : mm.quotas = true) (p_dir : mm.dir = true) (p_fmap : mm.fmap = true) (p_groups : mm.groups = true) (p_images : mm.images = true) (p_snaps : mm.snaps = true) (p_standing : mm.standing = true) (p_mem : mm.mem = true) (p_media : mm.media = true) (p_plates : mm.plates = true) (p_twin : mm.twin = true) (p_mode : mm.mode = true) (p_keySlots : mm.keySlots = true) (p_svn : mm.svn = true) (p_window : mm.window = true) (p_phase : mm.phase = true) (p_config : mm.config = true) : outside mm (doFiethWrite channel f s) = outside mm s := by
  simp [doFiethWrite, *]
@[simp] theorem outside_endTransfer {mm : Parts} {ch : Nat} {t : Transfer} {code : Nat} {s : State} (p_fieth : mm.fieth = true) (p_dict : mm.dict = true) (p_outbox : mm.outbox = true) : outside mm (endTransfer ch t code s) = outside mm s := by
  simp [endTransfer, *]
@[simp] theorem outside_doSegment {mm : Parts} {channel : Fin 2} {tag seq : Nat} {data : Bytes} {s : State} (p_host : mm.host = true) (p_rc : mm.rc = true) (p_per : mm.per = true) (p_eng : mm.eng = true) (p_tier : mm.tier = true) (p_cs : mm.cs = true) (p_dram : mm.dram = true) (p_nand : mm.nand = true) (p_fix : mm.fix = true) (p_cp : mm.cp = true) (p_rec_ : mm.rec_ = true) (p_snap : mm.snap = true) (p_md : mm.md = true) (p_keys : mm.keys = true) (p_fieth : mm.fieth = true) (p_ports : mm.ports = true) (p_pres : mm.pres = true) (p_rmq : mm.rmq = true) (p_rst : mm.rst = true) (p_dict : mm.dict = true) (p_force : mm.force = true) (p_freeCtr : mm.freeCtr = true) (p_outbox : mm.outbox = true) (p_tenants : mm.tenants = true) (p_hosts : mm.hosts = true) (p_regions : mm.regions = true) (p_keyTable : mm.keyTable = true) (p_quotas : mm.quotas = true) (p_dir : mm.dir = true) (p_fmap : mm.fmap = true) (p_groups : mm.groups = true) (p_images : mm.images = true) (p_snaps : mm.snaps = true) (p_standing : mm.standing = true) (p_mem : mm.mem = true) (p_media : mm.media = true) (p_plates : mm.plates = true) (p_twin : mm.twin = true) (p_mode : mm.mode = true) (p_keySlots : mm.keySlots = true) (p_svn : mm.svn = true) (p_window : mm.window = true) (p_phase : mm.phase = true) (p_config : mm.config = true) : outside mm (doSegment channel tag seq data s) = outside mm s := by
  unfold doSegment; (repeat' split) <;> (try simp [p_host, p_rc, p_per, p_eng, p_tier, p_cs, p_dram, p_nand, p_fix, p_cp, p_rec_, p_snap, p_md, p_keys, p_fieth, p_ports, p_pres, p_rmq, p_rst, p_dict, p_force, p_freeCtr, p_outbox, p_tenants, p_hosts, p_regions, p_keyTable, p_quotas, p_dir, p_fmap, p_groups, p_images, p_snaps, p_standing, p_mem, p_media, p_plates, p_twin, p_mode, p_keySlots, p_svn, p_window, p_phase, p_config]) <;> (repeat' split) <;> (try simp_all) <;> simp (disch := (intros; first | (simp [p_host, p_rc, p_per, p_eng, p_tier, p_cs, p_dram, p_nand, p_fix, p_cp, p_rec_, p_snap, p_md, p_keys, p_fieth, p_ports, p_pres, p_rmq, p_rst, p_dict, p_force, p_freeCtr, p_outbox, p_tenants, p_hosts, p_regions, p_keyTable, p_quotas, p_dir, p_fmap, p_groups, p_images, p_snaps, p_standing, p_mem, p_media, p_plates, p_twin, p_mode, p_keySlots, p_svn, p_window, p_phase, p_config]; done) | ((repeat' split) <;> try simp [p_host, p_rc, p_per, p_eng, p_tier, p_cs, p_dram, p_nand, p_fix, p_cp, p_rec_, p_snap, p_md, p_keys, p_fieth, p_ports, p_pres, p_rmq, p_rst, p_dict, p_force, p_freeCtr, p_outbox, p_tenants, p_hosts, p_regions, p_keyTable, p_quotas, p_dir, p_fmap, p_groups, p_images, p_snaps, p_standing, p_mem, p_media, p_plates, p_twin, p_mode, p_keySlots, p_svn, p_window, p_phase, p_config]))) [*]
@[simp] theorem outside_doFiethAck {mm : Parts} {channel : Fin 2} {tag next : Nat} {s : State} (p_fieth : mm.fieth = true) (p_dict : mm.dict = true) (p_outbox : mm.outbox = true) : outside mm (doFiethAck channel tag next s) = outside mm s := by
  unfold doFiethAck; (repeat' split) <;> (try simp [p_fieth, p_dict, p_outbox]) <;> (repeat' split) <;> (try simp_all) <;> simp (disch := (intros; first | (simp [p_fieth, p_dict, p_outbox]; done) | ((repeat' split) <;> try simp [p_fieth, p_dict, p_outbox]))) [*]
@[simp] theorem outside_doFiethAbort {mm : Parts} {channel : Fin 2} {tag _code : Nat} {s : State} (p_fieth : mm.fieth = true) : outside mm (doFiethAbort channel tag _code s) = outside mm s := by
  simp [doFiethAbort, *]
@[simp] theorem outside_doTransferIdleTimeout {mm : Parts} {channel : Fin 2} {s : State} (p_fieth : mm.fieth = true) (p_dict : mm.dict = true) (p_outbox : mm.outbox = true) : outside mm (doTransferIdleTimeout channel s) = outside mm s := by
  unfold doTransferIdleTimeout; (repeat' split) <;> (try simp [p_fieth, p_dict, p_outbox]) <;> (repeat' split) <;> (try simp_all) <;> simp (disch := (intros; first | (simp [p_fieth, p_dict, p_outbox]; done) | ((repeat' split) <;> try simp [p_fieth, p_dict, p_outbox]))) [*]
@[simp] theorem outside_doDupRecordExpire {mm : Parts} {f : FiethFrame} {s : State} (p_fieth : mm.fieth = true) : outside mm (doDupRecordExpire f s) = outside mm s := by
  simp [doDupRecordExpire, *]
@[simp] theorem outside_beat {mm : Parts} {ch : Nat} {s : State} (p_fieth : mm.fieth = true) (p_outbox : mm.outbox = true) : outside mm (beat ch s) = outside mm s := by
  simp [beat, *]
@[simp] theorem outside_doFiethHeartbeat {mm : Parts} {s : State} (p_fieth : mm.fieth = true) (p_outbox : mm.outbox = true) : outside mm (doFiethHeartbeat s) = outside mm s := by
  simp [doFiethHeartbeat, *]
@[simp] theorem outside_doDuplicateNode {mm : Parts} {channel : Fin 2} {ident : Nat} {s : State} (p_fieth : mm.fieth = true) (p_rmq : mm.rmq = true) (p_dict : mm.dict = true) : outside mm (doDuplicateNode channel ident s) = outside mm s := by
  simp [doDuplicateNode, *]
@[simp] theorem outside_doCanBusOff {mm : Parts} {channel : Fin 2} {s : State} (p_fieth : mm.fieth = true) (p_dict : mm.dict = true) : outside mm (doCanBusOff channel s) = outside mm s := by
  simp [doCanBusOff, *]
@[simp] theorem outside_doCanBusOffRecovery {mm : Parts} {channel : Fin 2} {s : State} (p_fieth : mm.fieth = true) : outside mm (doCanBusOffRecovery channel s) = outside mm s := by
  simp [doCanBusOffRecovery, *]

end Sys2Proof.Machine
end

