-- ==== Sys2Proof/Laws/KeepTick.lean ====
section
/-! SUPPORT. What each operation of Machine/Tick.lean leaves unchanged: everything outside the parts its hypotheses name (Outside.lean). -/
namespace Sys2Proof.Machine
open Sys2Proof
set_option linter.unusedSimpArgs false

@[simp] theorem outside_keepTime {mm : Parts} {s : State} (p_md : mm.md = true) (p_dict : mm.dict = true) : outside mm (keepTime s) = outside mm s := by
  simp [keepTime, *]
@[simp] theorem outside_tick {mm : Parts} {s : State} (p_per : mm.per = true) (p_md : mm.md = true) (p_ports : mm.ports = true) (p_dict : mm.dict = true) (p_rtc : mm.rtc = true) : outside mm (tick s) = outside mm s := by
  unfold tick
  dsimp only
  simp only [outside_startLogWrite, outside_keepTime, p_per, p_md, p_ports, p_dict, p_rtc]
  have e : ∀ x y, configOf { s with rtc := x, ports := y } = configOf s := fun _ _ => rfl
  simp [outside, seen, e, p_per, p_md, p_ports, p_dict, p_rtc]

end Sys2Proof.Machine
end

