-- ==== Sys2Proof/Laws/Steady.lean ====
section
/-! SUPPORT. The steady part of the state: what hardly any command changes: the real-time counter, the node number, the fused
security version, the seal and its fuse, the fuses of Counterproof, the queue. -/
namespace Sys2Proof.Machine
open Sys2Proof

/-- What hardly any command changes. -/
structure Steady where
  rtc : Nat
  node : Nat
  svn : Nat
  broken : Bool
  fuse : Bool
  burned : Nat
  burnedInc : Nat
  pending : List Instr

/-- The steady part of a state. -/
def steady (s : State) : Steady :=
  ⟨s.rtc, s.rst.node, s.keys.fusedSvn, s.pres.broken, s.pres.fuse, s.cp.burned, s.cp.burnedInc, s.pending⟩

@[simp] theorem steady_updHost (f) (s : State) : steady (updHost f s) = steady s := by exact id rfl
@[simp] theorem steady_updRc (f) (s : State) : steady (updRc f s) = steady s := by exact id rfl
@[simp] theorem steady_updLive (f) (s : State) : steady (updLive f s) = steady s := by exact id rfl
@[simp] theorem steady_updEng (f) (s : State) : steady (updEng f s) = steady s := by exact id rfl
@[simp] theorem steady_updTier (f) (s : State) : steady (updTier f s) = steady s := by exact id rfl
@[simp] theorem steady_updCs (f) (s : State) : steady (updCs f s) = steady s := by exact id rfl
@[simp] theorem steady_updDram (f) (s : State) : steady (updDram f s) = steady s := by exact id rfl
@[simp] theorem steady_updNand (f) (s : State) : steady (updNand f s) = steady s := by exact id rfl
@[simp] theorem steady_updFix (f) (s : State) : steady (updFix f s) = steady s := by exact id rfl
@[simp] theorem steady_updRecall (f) (s : State) : steady (updRecall f s) = steady s := by exact id rfl
@[simp] theorem steady_updSnap (f) (s : State) : steady (updSnap f s) = steady s := by exact id rfl
@[simp] theorem steady_updMode (f) (s : State) : steady (updMode f s) = steady s := by exact id rfl
@[simp] theorem steady_updFieth (f) (s : State) : steady (updFieth f s) = steady s := by exact id rfl
@[simp] theorem steady_updRmq (f) (s : State) : steady (updRmq f s) = steady s := by exact id rfl
@[simp] theorem steady_updCp (f : CpSide → CpSide) (s : State) (h : (f s.cp).burned = s.cp.burned)
    (h' : (f s.cp).burnedInc = s.cp.burnedInc) : steady (updCp f s) = steady s := by simp [steady, updCp, h, h']
@[simp] theorem steady_updKeys (f : KeySide → KeySide) (s : State) (h : (f s.keys).fusedSvn = s.keys.fusedSvn) :
    steady (updKeys f s) = steady s := by simp [steady, updKeys, h]
@[simp] theorem steady_updPres (f : PresSide → PresSide) (s : State) (h : (f s.pres).broken = s.pres.broken)
    (h' : (f s.pres).fuse = s.pres.fuse) : steady (updPres f s) = steady s := by simp [steady, updPres, h, h']
@[simp] theorem steady_updRst (f : ResetSide → ResetSide) (s : State) (h : (f s.rst).node = s.rst.node) :
    steady (updRst f s) = steady s := by simp [steady, updRst, h]
@[simp] theorem steady_per (p : Persist) (s : State) : steady { s with per := p } = steady s := by exact id rfl
@[simp] theorem steady_freeCtr (n : Nat) (s : State) : steady { s with freeCtr := n } = steady s := by exact id rfl
@[simp] theorem steady_dict (d : Tbl Nat) (s : State) : steady { s with dict := d } = steady s := by exact id rfl

/-- A fold of changes that each keep the steady part keeps it. -/
@[simp] theorem steady_foldl {α : Type} (f : State → α → State) (h : ∀ a x, steady (f a x) = steady a) (l : List α) (s : State) :
    steady (l.foldl f s) = steady s := by
  induction l generalizing s with
  | nil => rfl
  | cons x t ih => simp [ih, h]
@[simp] theorem steady_each {α : Type} (l : List α) (f : α → State → State) (h : ∀ x a, steady (f x a) = steady a) (s : State) :
    steady (each l f s) = steady s := steady_foldl _ (fun a x => h x a) l s
@[simp] theorem steady_when (c : Bool) (f : State → State) (s : State) (h : steady (f s) = steady s) :
    steady (when_ c f s) = steady s := by unfold when_; split <;> simp_all
@[simp] theorem steady_ite (p : Prop) [Decidable p] (a b : State) : steady (if p then a else b) = if p then steady a else steady b := by
  split <;> rfl
@[simp] theorem steady_dite (s : State) (p : Prop) [Decidable p] (a : p → State) (b : ¬p → State) (ha : ∀ h, steady (a h) = steady s)
    (hb : ∀ h, steady (b h) = steady s) : steady (dite p a b) = steady s := by
  split <;> simp_all
end Sys2Proof.Machine
end

