-- ==== Sys2Proof/Laws/SteadyOps.lean ====
section
/-! SUPPORT. The operations that the rare changes of Rare.lean are built with keep the steady part: read off their frames (Outside.lean). -/
namespace Sys2Proof.Machine
open Sys2Proof

/-- Every part but those that hold the steady part. -/
def rarely : Parts where
  host := true
  rc := true
  per := true
  eng := true
  tier := true
  cs := true
  dram := true
  nand := true
  fix := true
  cp := true
  rec_ := true
  snap := true
  md := true
  keys := true
  fieth := true
  ports := true
  pres := true
  rmq := true
  rst := true
  dict := true
  force := true
  freeCtr := true
  outbox := true
  slots := true
  replay := true
  tenants := true
  hosts := true
  regions := true
  keyTable := true
  quotas := true
  dir := true
  fmap := true
  groups := true
  images := true
  snaps := true
  standing := true
  mem := true
  media := true
  plates := true
  twin := true
  mode := true
  keySlots := true
  window := true
  ring := true
  options := true
  phase := true
  config := true
theorem steady_of {s t : State} (h : outside rarely t = outside rarely s) : steady t = steady s := by
  have k := sameBut_of_outside h
  unfold steady
  rw [k.rtc rfl, k.node rfl, k.svn rfl, k.sealBroken rfl, k.sealFuse rfl, k.epochFuses rfl, k.incFuses rfl, k.pending rfl]

@[simp] theorem steady_dset (k v : Nat) (s : State) : steady (dset k v s) = steady s := by exact id rfl
@[simp] theorem steady_bump (k : Nat) (s : State) : steady (bump k s) = steady s := by exact id rfl
@[simp] theorem steady_bumpBy (k n : Nat) (s : State) : steady (bumpBy k n s) = steady s := by exact id rfl
@[simp] theorem steady_bump32 (k : Nat) (s : State) : steady (bump32 k s) = steady s := by exact id rfl
@[simp] theorem steady_bump16 (k : Nat) (s : State) : steady (bump16 k s) = steady s := by exact id rfl
@[simp] theorem steady_keepBlock (k v : Nat) (s : State) : steady (keepBlock k v s) = steady s := by exact id rfl
@[simp] theorem steady_emit {o : Out} {s : State} : steady (emit o s) = steady s := steady_of (outside_emit rfl)
@[simp] theorem steady_sendAbort {ch tag idx sub code : Nat} {s : State} : steady (sendAbort ch tag idx sub code s) = steady s := steady_of (outside_sendAbort rfl rfl)
@[simp] theorem steady_sendOutcome {ch : Nat} {h : FHead} {o : FOutcome} {s : State} : steady (sendOutcome ch h o s) = steady s := steady_of (outside_sendOutcome rfl rfl)
@[simp] theorem steady_dictDone {idx sub : Nat} {s : State} : steady (dictDone idx sub s) = steady s := steady_of (outside_dictDone rfl rfl rfl)
@[simp] theorem steady_dictRefuse {idx sub code : Nat} {s : State} : steady (dictRefuse idx sub code s) = steady s := steady_of (outside_dictRefuse rfl rfl rfl)
@[simp] theorem steady_dictGuard {idx sub : Nat} {presence : Bool} {f : State → State} {s : State} (hf : ∀ a, steady (f a) = steady a) : steady (dictGuard idx sub presence f s) = steady s := by
  unfold dictGuard; (repeat' split) <;> simp_all
@[simp] theorem steady_post {type sev inst : Nat} {detail : Bytes} {s : State} : steady (post type sev inst detail s) = steady s := steady_of (outside_post rfl)
@[simp] theorem steady_postFixed {slot type sev inst : Nat} {detail : Bytes} {s : State} : steady (postFixed slot type sev inst detail s) = steady s := steady_of (outside_postFixed rfl rfl)
@[simp] theorem steady_setHalf {n : Nat} {f : Half → Half} {s : State} : steady (setHalf n f s) = steady s := steady_of (outside_setHalf rfl)
@[simp] theorem steady_doRehomeDisplaced {s : State} : steady (doRehomeDisplaced s) = steady s := steady_of (outside_doRehomeDisplaced rfl rfl rfl rfl rfl rfl rfl rfl rfl rfl rfl rfl rfl)
@[simp] theorem steady_tableWrite {idx i : Nat} {values : List Nat} {s : State} : steady (tableWrite idx i values s) = steady s := steady_of (outside_tableWrite rfl rfl rfl rfl rfl rfl rfl rfl rfl rfl rfl rfl rfl rfl rfl rfl rfl rfl rfl rfl rfl rfl rfl rfl rfl)
@[simp] theorem steady_doReplayWindowWrite {ms : Nat} {s : State} : steady (doReplayWindowWrite ms s) = steady s := steady_of (outside_doReplayWindowWrite rfl rfl rfl rfl rfl)
@[simp] theorem steady_setMode {m : Mode} {row : Nat} {s : State} : steady (setMode m row s) = steady s := steady_of (outside_setMode rfl rfl rfl rfl rfl rfl rfl rfl rfl rfl rfl)
@[simp] theorem steady_fatal {code : Nat} {s : State} : steady (fatal code s) = steady s := steady_of (outside_fatal rfl rfl rfl rfl rfl rfl rfl rfl rfl rfl rfl rfl rfl rfl rfl rfl rfl rfl rfl rfl rfl)
@[simp] theorem steady_doRetrainRequest {channel : Fin 32} {s : State} : steady (doRetrainRequest channel s) = steady s := steady_of (outside_doRetrainRequest rfl rfl rfl rfl)
@[simp] theorem steady_reserveCauses {s : State} : steady (reserveCauses s) = steady s := steady_of (outside_reserveCauses rfl rfl rfl rfl rfl rfl rfl rfl rfl rfl rfl rfl rfl)
@[simp] theorem steady_startLogWrite {s : State} : steady (startLogWrite s) = steady s := steady_of (outside_startLogWrite rfl)
@[simp] theorem steady_lossEvent {row : Nat} {s : State} : steady (lossEvent row s) = steady s := steady_of (outside_lossEvent rfl rfl rfl rfl rfl rfl rfl rfl rfl rfl rfl rfl rfl rfl rfl rfl rfl rfl rfl rfl rfl rfl rfl rfl rfl rfl rfl rfl rfl rfl rfl rfl rfl rfl rfl rfl rfl rfl)
@[simp] theorem steady_holdupCheck {s : State} : steady (holdupCheck s) = steady s := steady_of (outside_holdupCheck rfl rfl rfl rfl rfl rfl rfl rfl rfl rfl rfl rfl rfl)
@[simp] theorem steady_doBudgetWrite {profile gib : Nat} {s : State} : steady (doBudgetWrite profile gib s) = steady s := steady_of (outside_doBudgetWrite rfl rfl rfl rfl rfl rfl rfl rfl rfl rfl rfl rfl rfl rfl rfl rfl)
@[simp] theorem steady_doHoldupEnergyWrite {joules : Nat} {s : State} : steady (doHoldupEnergyWrite joules s) = steady s := steady_of (outside_doHoldupEnergyWrite rfl rfl rfl rfl rfl rfl rfl rfl rfl rfl rfl rfl rfl rfl rfl rfl rfl)
@[simp] theorem steady_halfOff {half : Nat} {s : State} : steady (halfOff half s) = steady s := steady_of (outside_halfOff rfl rfl rfl rfl)
@[simp] theorem steady_barred {cause : Nat} {s : State} : steady (barred cause s) = steady s := steady_of (outside_barred rfl rfl rfl)
@[simp] theorem steady_doTakeOwnership {s : State} : steady (doTakeOwnership s) = steady s := steady_of (outside_doTakeOwnership rfl rfl rfl rfl rfl rfl rfl rfl rfl rfl rfl rfl rfl rfl rfl rfl rfl rfl rfl rfl rfl rfl rfl rfl rfl rfl rfl rfl rfl rfl rfl rfl rfl rfl rfl rfl)
@[simp] theorem steady_doProfileWrite {profile : Nat} {s : State} : steady (doProfileWrite profile s) = steady s := steady_of (outside_doProfileWrite rfl rfl rfl rfl rfl rfl rfl rfl rfl rfl rfl rfl rfl rfl rfl rfl)
@[simp] theorem steady_doWriteSlotWrite {slot : Nat} {s : State} : steady (doWriteSlotWrite slot s) = steady s := steady_of (outside_doWriteSlotWrite rfl rfl rfl rfl)
@[simp] theorem steady_doFirmwareBankWrite {bank : Fin 2} {off : Nat} {data : Bytes} {s : State} : steady (doFirmwareBankWrite bank off data s) = steady s := steady_of (outside_doFirmwareBankWrite rfl rfl rfl rfl)
@[simp] theorem steady_resetFieth {power : Bool} {s : State} : steady (resetFieth power s) = steady s := steady_of (outside_resetFieth rfl)
@[simp] theorem steady_powerReset {phase : ResetPhase} {cause causes : Nat} {s : State} : steady (powerReset phase cause causes s) = steady s := steady_of (outside_powerReset rfl rfl rfl rfl rfl rfl rfl rfl rfl rfl rfl rfl rfl rfl rfl rfl rfl rfl rfl rfl rfl rfl rfl rfl rfl rfl rfl rfl rfl rfl rfl rfl rfl rfl rfl rfl rfl rfl rfl rfl rfl rfl)
@[simp] theorem steady_doCoreResetRequest {s : State} : steady (doCoreResetRequest s) = steady s := steady_of (outside_doCoreResetRequest rfl rfl rfl rfl)
@[simp] theorem steady_doSystemResetRequest {s : State} : steady (doSystemResetRequest s) = steady s := steady_of (outside_doSystemResetRequest rfl rfl rfl rfl rfl rfl)
@[simp] theorem steady_doResetCauseClear {mask : Nat} {s : State} : steady (doResetCauseClear mask s) = steady s := steady_of (outside_doResetCauseClear rfl rfl rfl rfl)
@[simp] theorem steady_loseSlot {n : Nat} {s : State} : steady (loseSlot n s) = steady s := steady_of (outside_loseSlot rfl rfl rfl rfl)
@[simp] theorem steady_releaseBlocks {s : State} : steady (releaseBlocks s) = steady s := steady_of (outside_releaseBlocks rfl rfl rfl rfl rfl rfl rfl)
@[simp] theorem steady_doPresenceCloseWrite {s : State} : steady (doPresenceCloseWrite s) = steady s := steady_of (outside_doPresenceCloseWrite rfl rfl rfl rfl rfl rfl)
@[simp] theorem steady_doPortConfigWrite {port : Fin 128} {sub value : Nat} {s : State} : steady (doPortConfigWrite port sub value s) = steady s := steady_of (outside_doPortConfigWrite rfl rfl rfl rfl)
@[simp] theorem steady_doCanRateWrite {channel : Fin 2} {data : Bool} {code : Nat} {s : State} : steady (doCanRateWrite channel data code s) = steady s := steady_of (outside_doCanRateWrite rfl rfl rfl rfl)
@[simp] theorem steady_doCanChannelEnableWrite {value : Nat} {s : State} : steady (doCanChannelEnableWrite value s) = steady s := steady_of (outside_doCanChannelEnableWrite rfl rfl rfl rfl)
@[simp] theorem steady_doClearStatistics {s : State} : steady (doClearStatistics s) = steady s := steady_of (outside_doClearStatistics rfl rfl rfl rfl)
@[simp] theorem steady_storeValue {e : Entry} {idx sub v : Nat} {s : State} : steady (storeValue e idx sub v s) = steady s := steady_of (outside_storeValue rfl rfl rfl rfl)
@[simp] theorem steady_writeRegionBlock {b : Bytes} {s : State} : steady (writeRegionBlock b s) = steady s := steady_of (outside_writeRegionBlock rfl rfl rfl rfl rfl rfl rfl rfl rfl rfl rfl rfl rfl rfl rfl rfl rfl rfl rfl rfl rfl rfl rfl rfl rfl)
@[simp] theorem steady_writeMaintenance {b : Bytes} {s : State} : steady (writeMaintenance b s) = steady s := steady_of (outside_writeMaintenance rfl rfl rfl rfl rfl)
@[simp] theorem steady_writeStateBlock {b : Bytes} {s : State} : steady (writeStateBlock b s) = steady s := steady_of (outside_writeStateBlock rfl rfl rfl rfl rfl rfl rfl rfl rfl rfl rfl rfl rfl rfl rfl rfl rfl rfl rfl rfl rfl rfl rfl rfl rfl)
@[simp] theorem steady_writeKeyBlock {b : Bytes} {s : State} : steady (writeKeyBlock b s) = steady s := steady_of (outside_writeKeyBlock rfl rfl rfl rfl rfl rfl rfl rfl rfl rfl rfl rfl rfl rfl rfl rfl rfl rfl rfl)
@[simp] theorem steady_writeInjectionBlock {b : Bytes} {s : State} : steady (writeInjectionBlock b s) = steady s := steady_of (outside_writeInjectionBlock rfl rfl rfl rfl rfl rfl rfl rfl rfl rfl rfl rfl rfl rfl rfl rfl rfl rfl rfl rfl rfl rfl rfl rfl rfl rfl rfl rfl rfl rfl rfl rfl rfl rfl rfl rfl rfl rfl rfl)
@[simp] theorem steady_writeModeRequest {v : Nat} {s : State} : steady (writeModeRequest v s) = steady s := steady_of (outside_writeModeRequest rfl rfl rfl rfl rfl rfl rfl rfl rfl rfl rfl rfl rfl rfl rfl rfl rfl rfl rfl rfl rfl rfl rfl rfl rfl rfl)
@[simp] theorem steady_writeDomains {off : Nat} {b : Bytes} {s : State} : steady (writeDomains off b s) = steady s := steady_of (outside_writeDomains rfl rfl rfl rfl rfl rfl rfl rfl rfl rfl rfl rfl rfl rfl rfl rfl rfl rfl rfl rfl rfl rfl rfl rfl rfl rfl rfl rfl rfl rfl rfl rfl rfl rfl rfl rfl rfl rfl rfl rfl)
@[simp] theorem steady_writeFactory {e : Entry} {sub off : Nat} {b : Bytes} {s : State} : steady (writeFactory e sub off b s) = steady s := steady_of (outside_writeFactory rfl rfl rfl rfl)
@[simp] theorem steady_writeStart {idx sub v : Nat} {run : State → State} {s : State} (hrun : ∀ a, steady (run a) = steady a) : steady (writeStart idx sub v run s) = steady s := by
  unfold writeStart; (repeat' split) <;> simp_all
@[simp] theorem steady_reject {ch : Nat} {f : FiethFrame} {code : Nat} {s : State} : steady (reject ch f code s) = steady s := steady_of (outside_reject rfl rfl)
@[simp] theorem steady_setXfer {ch : Nat} {t : Option Transfer} {s : State} : steady (setXfer ch t s) = steady s := steady_of (outside_setXfer rfl)
@[simp] theorem steady_sendFiethAck {ch tag next : Nat} {s : State} : steady (sendFiethAck ch tag next s) = steady s := steady_of (outside_sendFiethAck rfl)
@[simp] theorem steady_runRead {ch : Nat} {h : FHead} {s : State} : steady (runRead ch h s) = steady s := steady_of (outside_runRead rfl rfl rfl rfl)
@[simp] theorem steady_openWrite {ch : Nat} {h : FHead} {s : State} : steady (openWrite ch h s) = steady s := steady_of (outside_openWrite rfl rfl rfl rfl)
@[simp] theorem steady_answerOpening {ch : Nat} {moved : Bool} {t : Transfer} {s : State} : steady (answerOpening ch moved t s) = steady s := steady_of (outside_answerOpening rfl rfl)
@[simp] theorem steady_endTransfer {ch : Nat} {t : Transfer} {code : Nat} {s : State} : steady (endTransfer ch t code s) = steady s := steady_of (outside_endTransfer rfl rfl rfl)
@[simp] theorem steady_keepTime {s : State} : steady (keepTime s) = steady s := steady_of (outside_keepTime rfl rfl)

end Sys2Proof.Machine
end

