-- ==== Sys2Proof/Laws/Rare.lean ====
section
/-! SUPPORT. The few operations that change the steady part of the state (Steady.lean), each with what it may change: the fused
security version rises (R410), a fuse counter of Counterproof burns (R324, R73), the seal breaks and its fuse burns (R461), the
straps are latched (R485), the real-time counter is lost (R520). -/
namespace Sys2Proof.Machine
open Sys2Proof

/-- Only the fused security version may differ: it rises, to 63 at most. -/
def SvnUp (a b : Steady) : Prop := b = { a with svn := b.svn } ∧ a.svn ≤ b.svn ∧ (a.svn ≤ 63 → b.svn ≤ 63)
/-- Only the epoch fuses may differ: they burn, up to 255. -/
def EpochUp (a b : Steady) : Prop := b = { a with burned := b.burned } ∧ a.burned ≤ b.burned ∧ (a.burned ≤ 255 → b.burned ≤ 255)
/-- Only the incarnation fuses may differ: they burn, up to 255. -/
def IncUp (a b : Steady) : Prop := b = { a with burnedInc := b.burnedInc } ∧ a.burnedInc ≤ b.burnedInc ∧ (a.burnedInc ≤ 255 → b.burnedInc ≤ 255)
/-- Only the seal may differ: it breaks, and its fuse burns only broken. -/
def SealUp (a b : Steady) : Prop := b = { a with broken := b.broken, fuse := b.fuse } ∧ (a.broken = true → b.broken = true) ∧
  (a.fuse = true → b.fuse = true) ∧ ((a.fuse = true → a.broken = true) → b.fuse = true → b.broken = true)

theorem SvnUp.of_eq {a b : Steady} (h : b = a) : SvnUp a b := by subst h; exact ⟨rfl, Nat.le_refl _, id⟩
theorem SvnUp.trans {a b c : Steady} (h : SvnUp a b) (k : SvnUp b c) : SvnUp a c := by
  obtain ⟨h1, h2, h3⟩ := h
  obtain ⟨k1, k2, k3⟩ := k
  refine ⟨?_, Nat.le_trans h2 k2, fun x => k3 (h3 x)⟩
  rw [k1, h1]
theorem EpochUp.of_eq {a b : Steady} (h : b = a) : EpochUp a b := by subst h; exact ⟨rfl, Nat.le_refl _, id⟩
theorem IncUp.of_eq {a b : Steady} (h : b = a) : IncUp a b := by subst h; exact ⟨rfl, Nat.le_refl _, id⟩
theorem SealUp.of_eq {a b : Steady} (h : b = a) : SealUp a b := by subst h; exact ⟨rfl, id, id, id⟩
theorem SealUp.trans {a b c : Steady} (h : SealUp a b) (k : SealUp b c) : SealUp a c := by
  obtain ⟨h1, h2, h3, h4⟩ := h
  obtain ⟨k1, k2, k3, k4⟩ := k
  refine ⟨?_, fun x => k2 (h2 x), fun x => k3 (h3 x), fun x => k4 (h4 x)⟩
  rw [k1, h1]

/-! ## Epochs and incarnations -/

theorem epochUp_takeEpoch (p : Nat × Bool) (s : State) (w : Bool) (h : nextEpochOf s w = some p) : EpochUp (steady s) (steady (takeEpoch p s)) := by
  unfold takeEpoch
  split
  · rename_i hb
    rw [steady_postFixed]
    unfold nextEpochOf at h
    have hlt : s.cp.burned < 255 := by
      repeat' split at h
      all_goals first | (cases h; done) | assumption | (injection h with h; subst h; cases hb)
    exact ⟨rfl, Nat.le_succ _, fun _ => hlt⟩
  · exact EpochUp.of_eq rfl
theorem epochUp_congr {s s' t t' : State} (h : EpochUp (steady s) (steady t)) (hs : steady s' = steady s) (ht : steady t' = steady t) :
    EpochUp (steady s') (steady t') := by rw [hs, ht]; exact h
theorem epochUp_doLaneTrainingDone (half : Fin 2) (ok w : Bool) (s : State) : EpochUp (steady s) (steady (doLaneTrainingDone half ok w s)) := by
  unfold doLaneTrainingDone
  split
  · exact EpochUp.of_eq rfl
  split
  · exact EpochUp.of_eq (by simp)
  dsimp only
  generalize hs1 : setHalf half.val _ s = s1
  have hs : steady s1 = steady s := by rw [← hs1]; simp
  have hn1 : nextEpochOf s1 w = nextEpochOf s w := by rw [← hs1]; rfl
  split
  · exact EpochUp.of_eq hs
  split
  · exact EpochUp.of_eq hs
  split
  · exact EpochUp.of_eq (by simp [hs])
  split
  · exact EpochUp.of_eq (by simp [hs])
  · rename_i p hp
    have hn : nextEpochOf s1 w = some p := by
      split at hp
      · cases hp
      · rw [hn1]; exact hp
    exact epochUp_congr (epochUp_takeEpoch p s1 w hn) hs.symm (by simp)
theorem epochUp_doCounterLimit (w : Bool) (s : State) : EpochUp (steady s) (steady (doCounterLimit w s)) := by
  unfold doCounterLimit
  split
  · exact EpochUp.of_eq rfl
  split
  · rename_i p hp
    have hn : nextEpochOf s w = some p := by
      split at hp
      · cases hp
      · exact hp
    exact epochUp_congr (epochUp_takeEpoch p s w hn) rfl (by simp)
  · exact EpochUp.of_eq (by simp)

theorem incUp_nextIncarnation (s : State) : IncUp (steady s) (steady (nextIncarnation s)) := by
  unfold nextIncarnation
  dsimp only
  split
  · exact IncUp.of_eq (by simp)
  · split
    · rename_i h
      rw [steady_postFixed, steady_dset]
      refine ⟨rfl, ?_, fun _ => h⟩
      exact Nat.le_succ_of_le (Nat.le_max_right _ _)
    · exact IncUp.of_eq rfl
theorem incUp_enterRecall (s : State) : IncUp (steady s) (steady (enterRecall s)) := by
  have h : steady (enterRecall s) = steady (nextIncarnation s) := by
    unfold enterRecall
    simp
  rw [h]
  exact incUp_nextIncarnation s
theorem incUp_beginLoad (s : State) : IncUp (steady s) (steady (beginLoad s)) := by
  unfold beginLoad
  split
  · exact IncUp.of_eq (by simp)
  · have := incUp_enterRecall (updRst (fun r => { r with phase := .load, due := false }) s)
    simpa using this
theorem incUp_doSystemResetRelease (s : State) : IncUp (steady s) (steady (doSystemResetRelease s)) := by
  unfold doSystemResetRelease
  split
  · exact IncUp.of_eq rfl
  · exact incUp_beginLoad s
theorem incUp_doSysrstDeassert (s : State) : IncUp (steady s) (steady (doSysrstDeassert s)) := by
  unfold doSysrstDeassert
  dsimp only
  split
  · have := incUp_beginLoad (updPres (fun p => { p with scan := none }) (updRst (fun r => { r with sysrst := false }) s))
    simpa using this
  · exact IncUp.of_eq (by simp)

/-! ## The seal -/

theorem sealUp_burnSeal (s : State) (h : s.pres.broken = true) : SealUp (steady s) (steady (burnSeal s)) := by
  unfold burnSeal
  rw [steady_postFixed]
  exact ⟨rfl, id, fun _ => rfl, fun _ _ => h⟩
theorem sealUp_sealOpening (loop : Nat) (s : State) : SealUp (steady s) (steady (sealOpening loop s)) := by
  unfold sealOpening
  dsimp only
  split
  · exact SealUp.of_eq (by simp)
  · rename_i hb
    have h1 : SealUp (steady s) (steady (updPres (fun p => { p with broken := true, brokenAt := s.rtc, brokenLoop := loop }) (bump32 0x701e03 s))) :=
      ⟨rfl, fun _ => rfl, id, fun _ _ => rfl⟩
    split
    · exact h1
    · exact h1.trans (sealUp_burnSeal _ rfl)
theorem sealUp_doSealLoopOpen (loopB : Bool) (s : State) : SealUp (steady s) (steady (doSealLoopOpen loopB s)) := by
  unfold doSealLoopOpen
  have h : steady (updPres (fun p => if loopB then { p with loopB := false } else { p with loopA := false }) s) = steady s := by
    cases loopB <;> simp
  rw [← h]
  exact sealUp_sealOpening _ _
theorem sealUp_doOptionLoadDone (o : OptionFields) (valid : Bool) (lost : List Nat) (s : State) :
    SealUp (steady s) (steady (doOptionLoadDone o valid lost s)) := by
  unfold doOptionLoadDone
  split
  · exact SealUp.of_eq rfl
  split
  · exact SealUp.of_eq (by simp)
  · dsimp only
    rw [steady_reserveCauses, steady_holdupCheck]
    generalize hz : each (lost.filter (· < 64)) loseSlot _ = z
    have hs : steady z = steady s := by rw [← hz]; simp
    split
    · rename_i hb
      rw [← hs]
      simp only [Bool.and_eq_true] at hb
      exact sealUp_burnSeal z hb.1
    · exact SealUp.of_eq hs

/-! ## Power-on reset -/

theorem steady_doVddAonLow (s : State) : steady (doVddAonLow s) = steady s ∨ steady (doVddAonLow s) = { steady s with rtc := 0 } := by
  unfold doVddAonLow
  split
  · exact .inl rfl
  · right
    have h : steady (powerReset .powerOn 0 1 s) = steady s := steady_powerReset
    calc steady { powerReset .powerOn 0 1 s with rtc := 0 } = { steady (powerReset .powerOn 0 1 s) with rtc := 0 } := by rfl
      _ = _ := by rw [h]
theorem steady_railReading (rail mv : Nat) (s : State) :
    steady (railReading rail mv s) = steady s ∨ steady (railReading rail mv s) = { steady s with rtc := 0 } := by
  unfold railReading
  dsimp only
  split
  · have := steady_doVddAonLow (updRst (fun r => { r with rails := r.rails.set rail mv }) s)
    simpa using this
  · left
    split <;> simp
/-- R485: the straps are latched; a loop found open breaks the seal; Recall takes an incarnation. -/
theorem steady_doPowerOnResetEnd (node : Fin 128) (s : State) : steady (doPowerOnResetEnd node s) = steady s ∨
    ∃ m, SealUp { steady s with node := node.val } m ∧ IncUp m (steady (doPowerOnResetEnd node s)) := by
  unfold doPowerOnResetEnd
  split
  · exact .inl rfl
  · right
    dsimp only
    generalize hs1 : resetFieth true (updRst (fun r => { r with porst := false, node := node.val }) s) = s1
    have h1 : steady s1 = { steady s with node := node.val } := by
      rw [← hs1, steady_resetFieth]
      rfl
    generalize hs2 : when_ (!s1.pres.loopB) (sealOpening 1) (when_ (!s1.pres.loopA) (sealOpening 0) s1) = s2
    have h2 : SealUp (steady s1) (steady s2) := by
      rw [← hs2]
      have hw : ∀ (c : Bool) (n : Nat) (a : State), SealUp (steady a) (steady (when_ c (sealOpening n) a)) := by
        intro c n a
        unfold when_
        split
        · exact sealUp_sealOpening n a
        · exact SealUp.of_eq rfl
      exact (hw _ 0 s1).trans (hw _ 1 _)
    refine ⟨steady s2, h1 ▸ h2, ?_⟩
    generalize hs3 : when_ (node.val = 0) (post 0x0705 2 0 (leBytes 1 2)) s2 = s3
    have h3 : steady s3 = steady s2 := by rw [← hs3]; exact steady_when _ _ _ (by simp)
    have := incUp_beginLoad (updDram (fun d => { d with hpprRun := s3.rec_.maint }) s3)
    simpa [h3] using this

/-! ## The fused security version -/

theorem svnUp_dictGuard (idx sub : Nat) (pr : Bool) (f : State → State) (s : State) (h : ∀ a, SvnUp (steady a) (steady (f a))) :
    SvnUp (steady s) (steady (dictGuard idx sub pr f s)) := by
  unfold dictGuard
  split
  · exact SvnUp.of_eq rfl
  split
  · exact SvnUp.of_eq (by simp)
  split
  · exact SvnUp.of_eq (by simp)
  · exact h s
theorem svnUp_doSvnCommit (value : Nat) (s : State) : SvnUp (steady s) (steady (doSvnCommit value s)) := by
  unfold doSvnCommit
  refine svnUp_dictGuard _ _ _ _ _ (fun a => ?_)
  dsimp only
  by_cases h63 : value > 63
  · rw [if_pos h63]
    exact SvnUp.of_eq (by simp)
  · rw [if_neg h63]
    repeat' split
    all_goals first
      | (refine SvnUp.of_eq ?_; simp; done)
      | (rename_i hle
         rw [steady_dictDone]
         simp only [Bool.or_eq_true, decide_eq_true_eq, not_or, Nat.not_le, Nat.not_lt] at hle
         exact ⟨rfl, Nat.le_of_lt hle.1, fun _ => Nat.le_of_not_lt h63⟩)
theorem svnUp_writeEntry (e : Entry) (idx sub off : Nat) (b : Bytes) (s : State) : SvnUp (steady s) (steady (writeEntry e idx sub off b s)) := by
  unfold writeEntry
  dsimp only
  generalize Fin.ofNat 128 (idx - 0x2000) = p
  generalize Fin.ofNat 32 (idx - 0x3200) = c
  split
  · exact SvnUp.of_eq (by simp)
  split
  · exact SvnUp.of_eq (by simp)
  split
  · exact SvnUp.of_eq (by simp)
  split
  · exact SvnUp.of_eq (by simp)
  split
  · exact SvnUp.of_eq (by simp)
  split
  all_goals first
    | (refine SvnUp.of_eq ?_; simp; done)
    | exact svnUp_doSvnCommit _ _
    | (refine SvnUp.of_eq ?_; (repeat' split) <;> simp; done)
theorem svnUp_applyWrite (idx sub off : Nat) (v : Bytes) (s : State) : SvnUp (steady s) (steady (applyWrite idx sub off v s)) := by
  unfold applyWrite
  split
  · exact SvnUp.of_eq (by simp)
  · exact svnUp_writeEntry _ _ _ _ _ _
theorem svnUp_doDictWrite (idx sub off : Nat) (v : Bytes) (s : State) : SvnUp (steady s) (steady (doDictWrite idx sub off v s)) := by
  unfold doDictWrite
  split
  · exact SvnUp.of_eq rfl
  · exact svnUp_applyWrite _ _ _ _ _
theorem svnUp_runWrite (ch : Nat) (h : FHead) (v : Bytes) (s : State) : SvnUp (steady s) (steady (runWrite ch h v s)) := by
  unfold runWrite
  dsimp only
  rw [steady_updFieth]
  have := svnUp_applyWrite h.idx h.sub h.off v (updFieth (fun f => { f with dups := ⟨h, none, [ch]⟩ :: f.dups }) s)
  simpa using this
theorem svnUp_takeRequest (ch : Nat) (f : FiethFrame) (s : State) : SvnUp (steady s) (steady (takeRequest ch f s)) := by
  unfold takeRequest
  dsimp only
  repeat' split
  all_goals first
    | (refine SvnUp.of_eq ?_; simp; done)
    | exact svnUp_runWrite _ _ _ _
theorem svnUp_request (cmd : Nat) (ch : Fin 2) (f : FiethFrame) (s : State) : SvnUp (steady s) (steady (request cmd ch f s)) := by
  unfold request
  repeat' split
  all_goals first
    | (refine SvnUp.of_eq ?_; simp; done)
    | exact svnUp_takeRequest _ _ _
theorem svnUp_doSegment (ch : Fin 2) (tag seq : Nat) (data : Bytes) (s : State) : SvnUp (steady s) (steady (doSegment ch tag seq data s)) := by
  unfold doSegment
  dsimp only
  split
  · exact SvnUp.of_eq rfl
  split
  · exact SvnUp.of_eq (by simp)
  repeat' split
  all_goals first
    | (refine SvnUp.of_eq ?_; simp; done)
    | (rename_i t _ _ _ _
       have := svnUp_runWrite ch.val t.head (t.data ++ data.take (min 60 (t.head.len - t.data.length))) (setXfer ch.val none s)
       simpa using this)

end Sys2Proof.Machine
end

