-- ==== Sys2Proof/Laws/Whole.lean ====
section
/-! SUPPORT. The frame of every command: what lies outside the parts that `touches` names stays. All but a few commands keep the
steady part (Steady.lean). -/
namespace Sys2Proof.Machine
open Sys2Proof

theorem next_outside {m : Parts} {s t u : State} (h : (.next u : Result) = .next t) (k : outside m u = outside m s) : outside m t = outside m s := by
  injection h with h; exact h ▸ k
theorem railMonitorEvent_next {rail : Fin 10} {mv : Nat} {s t : State} (h : exec (.railMonitorEvent rail mv) s = .next t) :
    t = railReading rail.val mv s := by
  have h' : execRailMonitorEvent rail mv s = .next t := h
  unfold execRailMonitorEvent at h'
  split at h'
  · cases h'
  · injection h' with h'; exact h'.symm
/-- What a command does not touch stays as it was. -/
theorem outside_exec (c : Instr) (s t : State) (h : exec c s = .next t) : outside (touches c) t = outside (touches c) s := by
  cases c with
  | stippleRead _ => exact next_outside h (outside_doStippleRead rfl rfl rfl rfl rfl rfl rfl rfl rfl rfl rfl rfl rfl rfl rfl rfl rfl)
  | stippleWrite _ => exact next_outside h (outside_doStippleWrite rfl rfl rfl rfl rfl rfl rfl rfl rfl rfl rfl rfl rfl rfl rfl rfl rfl)
  | stippleAdd _ => exact next_outside h (outside_doStippleAdd rfl rfl rfl rfl rfl rfl rfl rfl rfl rfl rfl rfl rfl rfl rfl rfl rfl)
  | stippleCas _ => exact next_outside h (outside_doStippleCas rfl rfl rfl rfl rfl rfl rfl rfl rfl rfl rfl rfl rfl rfl rfl rfl rfl)
  | stippleFence _ => exact next_outside h (outside_doStippleFence rfl rfl rfl rfl rfl rfl rfl rfl rfl rfl rfl rfl rfl rfl rfl rfl rfl)
  | stipplePlace _ => exact next_outside h (outside_doStipplePlace rfl rfl rfl rfl rfl rfl rfl rfl rfl rfl rfl rfl rfl rfl rfl rfl rfl)
  | stippleDiscard _ => exact next_outside h (outside_doStippleDiscard rfl rfl rfl rfl rfl rfl rfl rfl rfl rfl rfl rfl rfl rfl rfl rfl rfl)
  | readBatch _ => exact next_outside h (outside_doReadBatch rfl rfl rfl rfl rfl rfl rfl rfl rfl rfl rfl rfl rfl rfl rfl rfl rfl)
  | homeSliceRequest _ => exact next_outside h (outside_doHomeSliceRequest rfl rfl rfl rfl rfl rfl rfl rfl rfl rfl rfl rfl rfl rfl rfl rfl rfl rfl rfl)
  | fillReturn _ _ => exact next_outside h (outside_doFillReturn rfl rfl rfl rfl rfl rfl rfl rfl rfl rfl rfl rfl rfl rfl rfl rfl)
  | completionRelease _ => exact next_outside h (outside_doCompletionRelease rfl rfl rfl rfl rfl rfl rfl rfl rfl rfl rfl rfl rfl rfl rfl rfl rfl)
  | replayEntryExpire _ _ _ => exact next_outside h (outside_doReplayEntryExpire rfl rfl rfl)
  | fenceTimeout _ => exact next_outside h (outside_doFenceTimeout rfl rfl rfl rfl rfl rfl rfl rfl rfl)
  | configApplyAtIdle _ => exact next_outside h (outside_doConfigApplyAtIdle rfl rfl rfl rfl)
  | rdmaWrite _ => exact next_outside h (outside_doRdmaWrite rfl rfl rfl rfl rfl rfl rfl rfl rfl rfl rfl rfl rfl rfl rfl)
  | rdmaReadRequest _ => exact next_outside h (outside_doRdmaReadRequest rfl rfl rfl rfl rfl rfl rfl rfl rfl rfl rfl rfl rfl rfl rfl)
  | compareSwap _ => exact next_outside h (outside_doCompareSwap rfl rfl rfl rfl rfl rfl rfl rfl rfl rfl rfl rfl rfl rfl rfl)
  | fetchAdd _ => exact next_outside h (outside_doFetchAdd rfl rfl rfl rfl rfl rfl rfl rfl rfl rfl rfl rfl rfl rfl rfl)
  | sprayWrite _ => exact next_outside h (outside_doSprayWrite rfl rfl rfl rfl rfl rfl rfl rfl rfl rfl rfl rfl rfl rfl rfl)
  | keepalive _ => exact next_outside h (outside_doKeepalive rfl rfl rfl rfl rfl rfl rfl rfl rfl rfl rfl rfl rfl rfl rfl)
  | release _ => exact next_outside h (outside_doRelease rfl rfl rfl rfl rfl rfl rfl rfl rfl rfl rfl rfl rfl rfl rfl)
  | contextFetchDone _ => exact next_outside h (outside_doContextFetchDone rfl rfl rfl rfl rfl rfl rfl rfl rfl rfl rfl rfl rfl rfl rfl)
  | cnpReceive _ => exact next_outside h (outside_doCnpReceive rfl rfl rfl)
  | cmRtu _ => exact next_outside h (outside_doCmRtu rfl rfl rfl)
  | ackTimer _ => exact next_outside h (outside_doAckTimer rfl rfl rfl rfl rfl rfl)
  | sprayAckTimer _ => exact next_outside h (outside_doSprayAckTimer rfl rfl rfl rfl rfl rfl)
  | readResponseSend _ => exact next_outside h (outside_doReadResponseSend rfl rfl rfl rfl rfl rfl)
  | cmDreq _ => exact next_outside h (outside_doCmDreq rfl rfl rfl rfl rfl rfl)
  | rateAlphaTick _ => exact next_outside h (outside_doRateAlphaTick rfl)
  | rateIncreaseTick _ => exact next_outside h (outside_doRateIncreaseTick rfl)
  | cmReq _ => exact next_outside h (outside_doCmReq rfl rfl rfl rfl rfl)
  | qpHeldRecord _ => exact next_outside h (outside_doQpHeldRecord rfl rfl rfl rfl rfl)
  | cmDrep _ => exact next_outside h (outside_doCmDrep rfl rfl rfl rfl)
  | connectTimeout _ => exact next_outside h (outside_doConnectTimeout rfl rfl rfl)
  | drepTimeout _ => exact next_outside h (outside_doDrepTimeout rfl rfl rfl)
  | qpIdleTimeout _ => exact next_outside h (outside_doQpIdleTimeout rfl rfl rfl rfl)
  | create _ => exact next_outside h (outside_doCreate rfl rfl rfl rfl rfl rfl rfl rfl rfl rfl rfl rfl rfl rfl rfl rfl rfl rfl rfl rfl rfl rfl rfl rfl rfl)
  | delete _ => exact next_outside h (outside_doDelete rfl rfl rfl rfl rfl rfl rfl rfl rfl rfl rfl rfl rfl rfl rfl rfl rfl rfl rfl rfl rfl rfl rfl rfl rfl)
  | resize _ => exact next_outside h (outside_doResize rfl rfl rfl rfl rfl rfl rfl rfl rfl rfl rfl rfl rfl rfl rfl rfl rfl rfl rfl rfl rfl rfl rfl rfl rfl)
  | issueKey _ => exact next_outside h (outside_doIssueKey rfl rfl rfl rfl rfl rfl rfl rfl rfl rfl rfl rfl rfl rfl rfl rfl rfl rfl rfl rfl rfl rfl rfl rfl rfl)
  | revokeKey _ => exact next_outside h (outside_doRevokeKey rfl rfl rfl rfl rfl rfl rfl rfl rfl rfl rfl rfl rfl rfl rfl rfl rfl rfl rfl rfl rfl rfl rfl rfl rfl)
  | revokeRegion _ => exact next_outside h (outside_doRevokeRegion rfl rfl rfl rfl rfl rfl rfl rfl rfl rfl rfl rfl rfl rfl rfl rfl rfl rfl rfl rfl rfl rfl rfl rfl rfl)
  | setOwner _ => exact next_outside h (outside_doSetOwner rfl rfl rfl rfl rfl rfl rfl rfl rfl rfl rfl rfl rfl rfl rfl rfl rfl rfl rfl rfl rfl rfl rfl rfl rfl)
  | tenantTableWrite _ _ => exact next_outside h (outside_doTenantTableWrite rfl rfl rfl rfl rfl rfl rfl rfl rfl rfl rfl rfl rfl rfl rfl rfl rfl rfl rfl rfl rfl rfl rfl rfl rfl)
  | quotaTableWrite _ _ => exact next_outside h (outside_doQuotaTableWrite rfl rfl rfl rfl rfl rfl rfl rfl rfl rfl rfl rfl rfl rfl rfl rfl rfl rfl rfl rfl rfl rfl rfl rfl rfl)
  | hostTableWrite _ _ => exact next_outside h (outside_doHostTableWrite rfl rfl rfl rfl rfl rfl rfl rfl rfl rfl rfl rfl rfl rfl rfl rfl rfl rfl rfl rfl rfl rfl rfl rfl rfl)
  | tableVerdict _ => exact next_outside h (outside_doTableVerdict rfl rfl rfl rfl rfl rfl rfl rfl rfl rfl rfl rfl rfl rfl rfl rfl rfl rfl rfl rfl rfl rfl rfl rfl rfl)
  | cut _ => exact next_outside h (outside_doCut rfl rfl rfl rfl rfl rfl rfl rfl rfl rfl rfl rfl rfl rfl rfl rfl rfl rfl rfl rfl rfl rfl rfl rfl rfl)
  | stateDelete _ => exact next_outside h (outside_doStateDelete rfl rfl rfl rfl rfl rfl rfl rfl rfl rfl rfl rfl rfl rfl rfl rfl rfl rfl rfl rfl rfl rfl rfl rfl rfl)
  | clone _ => exact next_outside h (outside_doClone rfl rfl rfl rfl rfl rfl rfl rfl rfl rfl rfl rfl rfl rfl rfl rfl rfl rfl rfl rfl rfl rfl rfl rfl rfl)
  | setRetain _ => exact next_outside h (outside_doSetRetain rfl rfl rfl rfl rfl rfl rfl rfl rfl rfl rfl rfl rfl rfl rfl rfl rfl rfl rfl rfl rfl rfl rfl rfl rfl)
  | fencePoint => exact next_outside h (outside_doFencePoint rfl rfl rfl rfl rfl rfl rfl rfl rfl)
  | fenceDrainEnd => exact next_outside h (outside_doFenceDrainEnd rfl rfl rfl rfl rfl rfl rfl rfl rfl rfl rfl rfl rfl rfl rfl rfl rfl rfl rfl)
  | fenceCancelDeadline => exact next_outside h (outside_doFenceCancelDeadline rfl rfl rfl)
  | replayWindowWrite _ => exact next_outside h (outside_doReplayWindowWrite rfl rfl rfl rfl rfl)
  | moveCopyDone _ => exact next_outside h (outside_doMoveCopyDone rfl rfl rfl rfl rfl rfl rfl rfl rfl rfl rfl rfl rfl rfl rfl rfl rfl rfl rfl rfl)
  | rehomeDisplaced => exact next_outside h (outside_doRehomeDisplaced rfl rfl rfl rfl rfl rfl rfl rfl rfl rfl rfl rfl rfl)
  | cleanAddr _ => exact next_outside h (outside_doCleanAddr rfl rfl rfl rfl rfl)
  | flushAddr _ => exact next_outside h (outside_doFlushAddr rfl rfl rfl rfl rfl)
  | invalidateAddr _ => exact next_outside h (outside_doInvalidateAddr rfl rfl rfl rfl rfl)
  | cleanSlice _ => exact next_outside h (outside_doCleanSlice rfl rfl rfl rfl)
  | flushSlice _ => exact next_outside h (outside_doFlushSlice rfl rfl rfl rfl)
  | disable _ => exact next_outside h (outside_doDisable rfl rfl rfl rfl)
  | invalidateSlice _ => exact next_outside h (outside_doInvalidateSlice rfl rfl rfl rfl)
  | enable _ => exact next_outside h (outside_doEnable rfl rfl rfl rfl)
  | sliceWalkDone _ => exact next_outside h (outside_doSliceWalkDone rfl rfl rfl)
  | sliceSramError _ _ _ _ => exact next_outside h (outside_doSliceSramError rfl rfl rfl rfl rfl rfl rfl rfl rfl rfl)
  | sliceFail _ _ _ => exact next_outside h (outside_doSliceFail rfl rfl rfl rfl rfl rfl rfl rfl rfl rfl)
  | dramReadDone _ _ => exact next_outside h (outside_doDramReadDone rfl rfl rfl rfl rfl rfl rfl rfl rfl rfl rfl rfl rfl rfl rfl)
  | burnisherScrub _ _ => exact next_outside h (outside_doBurnisherScrub rfl rfl rfl rfl rfl rfl rfl rfl rfl rfl rfl rfl rfl rfl rfl)
  | refreshDue _ _ => exact next_outside h (outside_doRefreshDue rfl rfl)
  | panicRaise _ _ => exact next_outside h (outside_doPanicRaise rfl rfl)
  | retrainStart _ _ => exact next_outside h (outside_doRetrainStart rfl rfl)
  | hpprProgrammingDone => exact next_outside h (outside_doHpprProgrammingDone rfl rfl)
  | refreshCatchup _ _ => exact next_outside h (outside_doRefreshCatchup rfl)
  | panicClear _ _ => exact next_outside h (outside_doPanicClear rfl)
  | rankIdleTimeout _ _ => exact next_outside h (outside_doRankIdleTimeout rfl)
  | zqCalibrationTick _ => exact next_outside h (outside_doZqCalibrationTick rfl)
  | dqsOscillatorTick _ _ => exact next_outside h (outside_doDqsOscillatorTick rfl)
  | reserveRebuildDone _ => exact next_outside h (outside_doReserveRebuildDone rfl)
  | dramTrainingDone _ _ _ _ => exact next_outside h (outside_doDramTrainingDone rfl rfl)
  | trainingDeadline => exact next_outside h (outside_doTrainingDeadline rfl rfl rfl rfl rfl rfl rfl rfl rfl rfl rfl rfl rfl rfl rfl rfl)
  | retrainDone _ _ _ _ => exact next_outside h (outside_doRetrainDone rfl rfl rfl rfl rfl rfl rfl rfl rfl rfl rfl rfl rfl rfl rfl rfl)
  | retrainRequest _ => exact next_outside h (outside_doRetrainRequest rfl rfl rfl rfl)
  | nandChannelReady _ _ _ => exact next_outside h (outside_doNandChannelReady rfl rfl rfl rfl rfl rfl rfl rfl rfl rfl rfl rfl rfl rfl rfl rfl rfl rfl rfl rfl)
  | nandReadDone _ _ => exact next_outside h (outside_doNandReadDone rfl rfl rfl rfl rfl rfl rfl rfl rfl rfl rfl rfl rfl rfl rfl rfl rfl rfl rfl rfl rfl rfl rfl rfl rfl)
  | nandProgramDone _ _ _ _ => exact next_outside h (outside_doNandProgramDone rfl rfl rfl rfl rfl rfl rfl rfl rfl rfl rfl rfl rfl rfl rfl rfl rfl rfl rfl rfl rfl rfl rfl rfl rfl rfl)
  | nandEraseDone _ _ _ _ _ => exact next_outside h (outside_doNandEraseDone rfl rfl rfl rfl rfl rfl rfl rfl rfl rfl rfl rfl rfl rfl rfl rfl rfl rfl rfl rfl rfl rfl rfl)
  | tracerVerifyDone _ _ _ _ _ _ => exact next_outside h (outside_doTracerVerifyDone rfl rfl rfl rfl rfl rfl rfl rfl rfl rfl rfl rfl rfl rfl rfl rfl rfl rfl rfl rfl rfl rfl rfl)
  | wordlineWaitTimeout _ _ => exact next_outside h (outside_doWordlineWaitTimeout rfl)
  | tracerVerifyStart _ _ _ => exact next_outside h (outside_doTracerVerifyStart rfl)
  | mapLogDurable => exact next_outside h (outside_doMapLogDurable rfl rfl rfl rfl rfl rfl rfl rfl rfl rfl rfl rfl rfl rfl rfl rfl)
  | checkpointRoundStart => exact next_outside h (outside_doCheckpointRoundStart rfl)
  | checkpointRoundDone => exact next_outside h (outside_doCheckpointRoundDone rfl rfl)
  | parityPadTimeout _ => exact next_outside h (outside_doParityPadTimeout rfl rfl rfl rfl rfl rfl rfl)
  | tracerPatrol _ _ _ _ _ => exact next_outside h (outside_doTracerPatrol rfl rfl rfl rfl rfl rfl rfl rfl rfl)
  | dieRetire _ _ _ => exact next_outside h (outside_doDieRetire rfl rfl rfl rfl rfl rfl rfl rfl rfl rfl rfl rfl rfl rfl rfl rfl rfl rfl rfl)
  | gcStallTimeout => exact next_outside h (outside_doGcStallTimeout rfl)
  | journalTick => exact next_outside h (outside_doJournalTick rfl rfl rfl rfl rfl rfl rfl rfl rfl rfl rfl rfl rfl rfl rfl rfl rfl rfl rfl rfl rfl rfl)
  | journalImageDone _ _ => exact next_outside h (outside_doJournalImageDone rfl rfl rfl rfl rfl rfl rfl rfl rfl rfl rfl rfl rfl rfl rfl rfl rfl rfl rfl rfl rfl rfl)
  | imageEligible _ => exact next_outside h (outside_doImageEligible rfl rfl rfl)
  | stateSettle _ => exact next_outside h (outside_doStateSettle rfl rfl rfl)
  | budgetWrite _ _ => exact next_outside h (outside_doBudgetWrite rfl rfl rfl rfl rfl rfl rfl rfl rfl rfl rfl rfl rfl rfl rfl rfl)
  | profileWrite _ => exact next_outside h (outside_doProfileWrite rfl rfl rfl rfl rfl rfl rfl rfl rfl rfl rfl rfl rfl rfl rfl rfl)
  | pfailFall _ => exact next_outside h (outside_doPfailFall rfl rfl rfl rfl rfl rfl rfl rfl rfl rfl rfl rfl rfl rfl rfl rfl rfl rfl rfl rfl)
  | quiesceDeadline => exact next_outside h (outside_doQuiesceDeadline rfl rfl rfl rfl rfl rfl rfl rfl rfl rfl rfl rfl rfl rfl rfl rfl rfl rfl rfl)
  | dumpSealed _ _ => exact next_outside h (outside_doDumpSealed rfl rfl rfl rfl rfl rfl rfl rfl)
  | pfailRise => exact next_outside h (outside_doPfailRise rfl rfl rfl)
  | jtagResetRequest => exact next_outside h (outside_doJtagResetRequest rfl rfl rfl)
  | sysrstAssert => exact next_outside h (outside_doSysrstAssert rfl rfl rfl)
  | holdupEnergyWrite _ => exact next_outside h (outside_doHoldupEnergyWrite rfl rfl rfl rfl rfl rfl rfl rfl rfl rfl rfl rfl rfl rfl rfl rfl rfl)
  | holdupReportTimeout => exact next_outside h (outside_doHoldupReportTimeout rfl rfl rfl rfl rfl rfl rfl rfl rfl rfl rfl rfl rfl rfl)
  | dataFrame _ _ => exact next_outside h (outside_doDataFrame rfl rfl rfl rfl rfl rfl rfl rfl rfl rfl rfl rfl rfl rfl rfl rfl rfl rfl rfl rfl rfl rfl rfl rfl rfl rfl rfl rfl rfl rfl rfl rfl rfl rfl rfl rfl rfl rfl rfl)
  | frameCloseTimer _ => exact next_outside h (outside_doFrameCloseTimer rfl rfl rfl rfl rfl rfl rfl rfl rfl rfl rfl rfl rfl rfl rfl rfl rfl rfl rfl rfl rfl rfl rfl rfl rfl rfl rfl rfl rfl rfl rfl rfl rfl rfl rfl rfl rfl rfl rfl)
  | ackFrame _ => exact next_outside h (outside_doAckFrame rfl rfl rfl)
  | heartbeatFrame _ _ => exact next_outside h (outside_doHeartbeatFrame rfl rfl rfl)
  | fetchRecord _ _ => exact next_outside h (outside_doFetchRecord rfl rfl rfl)
  | resyncStart _ => exact next_outside h (outside_doResyncStart rfl rfl rfl)
  | tablesDone _ => exact next_outside h (outside_doTablesDone rfl rfl rfl)
  | failoverReply _ => exact next_outside h (outside_doFailoverReply rfl rfl rfl)
  | resendTimeout _ => exact next_outside h (outside_doResendTimeout rfl rfl rfl)
  | helloFrame _ _ => exact next_outside h (outside_doHelloFrame rfl rfl rfl rfl rfl rfl rfl rfl rfl rfl rfl rfl rfl rfl rfl rfl rfl rfl rfl rfl rfl rfl rfl rfl rfl rfl rfl rfl rfl rfl rfl rfl rfl)
  | writeRecord _ => exact next_outside h (outside_doWriteRecord rfl rfl rfl rfl rfl rfl rfl rfl rfl rfl rfl rfl rfl rfl rfl rfl)
  | zeroRecord _ => exact next_outside h (outside_doZeroRecord rfl rfl rfl rfl rfl rfl rfl rfl rfl rfl rfl rfl rfl rfl rfl)
  | copyRecord _ => exact next_outside h (outside_doCopyRecord rfl rfl rfl rfl rfl rfl rfl rfl rfl rfl rfl rfl rfl rfl rfl)
  | atomicRecord _ => exact next_outside h (outside_doAtomicRecord rfl rfl rfl rfl rfl rfl rfl rfl rfl rfl rfl rfl rfl rfl rfl rfl rfl rfl)
  | fetchDataRecord _ => exact next_outside h (outside_doFetchDataRecord rfl rfl rfl rfl rfl rfl rfl rfl rfl rfl rfl rfl rfl rfl rfl rfl rfl rfl rfl rfl rfl rfl rfl rfl rfl)
  | fetchFailRecord _ => exact next_outside h (outside_doFetchFailRecord rfl rfl rfl rfl rfl rfl rfl rfl rfl rfl rfl rfl rfl rfl rfl rfl rfl rfl rfl rfl rfl rfl rfl rfl)
  | forwardRecord _ => exact next_outside h (outside_doForwardRecord rfl rfl rfl rfl rfl rfl rfl rfl rfl rfl rfl rfl rfl rfl)
  | forwardDoneRecord _ => exact next_outside h (outside_doForwardDoneRecord rfl rfl rfl rfl)
  | tableRecord _ => exact next_outside h (outside_doTableRecord rfl rfl rfl rfl rfl rfl rfl rfl rfl rfl rfl rfl rfl rfl rfl rfl rfl rfl rfl rfl rfl rfl rfl)
  | fenceMarkRecord _ => exact next_outside h (outside_doFenceMarkRecord rfl rfl rfl rfl rfl rfl rfl)
  | fenceConfirmRecord _ => exact next_outside h (outside_doFenceConfirmRecord rfl rfl rfl rfl rfl rfl rfl rfl rfl rfl rfl rfl rfl rfl rfl rfl rfl rfl rfl rfl)
  | ownerHandover _ => exact next_outside h (outside_doOwnerHandover rfl rfl rfl rfl rfl rfl)
  | ownerConfirm _ => exact next_outside h (outside_doOwnerConfirm rfl rfl rfl rfl rfl rfl rfl rfl rfl rfl rfl rfl rfl rfl rfl)
  | ownerRequest _ => exact next_outside h (outside_doOwnerRequest rfl rfl rfl rfl)
  | claim _ => exact next_outside h (outside_doClaim rfl rfl rfl rfl)
  | placeStartRecord _ => exact next_outside h (outside_doPlaceStartRecord rfl rfl rfl rfl rfl rfl rfl rfl rfl rfl rfl rfl)
  | placeDoneRecord _ => exact next_outside h (outside_doPlaceDoneRecord rfl rfl rfl rfl rfl rfl rfl)
  | placeOutcomeRecord _ => exact next_outside h (outside_doPlaceOutcomeRecord rfl rfl rfl rfl rfl rfl rfl rfl rfl)
  | qpShadowRecord _ => exact next_outside h (outside_doQpShadowRecord rfl rfl rfl rfl)
  | qpFreeRecord _ => exact next_outside h (outside_doQpFreeRecord rfl rfl rfl rfl)
  | replayRecord _ => exact next_outside h (outside_doReplayRecord rfl rfl rfl rfl rfl)
  | imageRequestRecord _ => exact next_outside h (outside_doImageRequestRecord rfl rfl rfl rfl rfl rfl)
  | imageDoneRecord _ => exact next_outside h (outside_doImageDoneRecord rfl rfl rfl rfl rfl rfl rfl rfl rfl rfl rfl rfl rfl rfl rfl rfl rfl rfl rfl rfl rfl rfl rfl)
  | discardUnitRecord _ => exact next_outside h (outside_doDiscardUnitRecord rfl rfl rfl rfl rfl rfl rfl)
  | stateBeginRecord _ => exact next_outside h (outside_doStateBeginRecord rfl rfl rfl rfl)
  | stateConfirmRecord _ => exact next_outside h (outside_doStateConfirmRecord rfl rfl rfl rfl rfl rfl rfl rfl rfl)
  | statePointRecord _ => exact next_outside h (outside_doStatePointRecord rfl rfl rfl rfl rfl rfl rfl)
  | claimGrant _ => exact next_outside h (outside_doClaimGrant rfl rfl rfl rfl rfl rfl rfl rfl rfl rfl rfl rfl rfl rfl rfl rfl rfl rfl rfl rfl rfl rfl rfl rfl)
  | claimRefuse _ => exact next_outside h (outside_doClaimRefuse rfl rfl rfl rfl rfl)
  | claimRelease _ => exact next_outside h (outside_doClaimRelease rfl rfl rfl rfl rfl rfl rfl rfl)
  | cutPointsReported _ => exact next_outside h (outside_doCutPointsReported rfl rfl rfl rfl rfl rfl rfl rfl)
  | resyncMarks _ => exact next_outside h (outside_doResyncMarks rfl rfl rfl rfl rfl rfl rfl rfl rfl rfl rfl rfl rfl rfl rfl rfl)
  | sync _ => exact next_outside h (outside_doSync rfl rfl rfl rfl rfl rfl rfl rfl rfl rfl rfl rfl rfl rfl rfl)
  | syncAck _ => exact next_outside h (outside_doSyncAck rfl rfl rfl rfl rfl rfl rfl rfl rfl rfl rfl rfl rfl rfl rfl)
  | resyncCopyBlock => exact next_outside h (outside_doResyncCopyBlock rfl rfl rfl rfl)
  | noticeDrain _ => exact next_outside h (outside_doNoticeDrain rfl rfl rfl rfl rfl rfl rfl rfl rfl rfl rfl rfl rfl rfl rfl rfl rfl rfl rfl rfl rfl rfl rfl rfl rfl rfl rfl rfl rfl rfl rfl rfl rfl rfl rfl rfl rfl rfl)
  | noticeKeep _ => exact next_outside h (outside_doNoticeKeep rfl rfl rfl rfl rfl rfl rfl rfl rfl rfl rfl rfl rfl rfl rfl rfl rfl rfl rfl rfl rfl rfl rfl rfl rfl rfl rfl rfl rfl rfl rfl rfl rfl rfl rfl rfl rfl rfl)
  | noticeBarred _ => exact next_outside h (outside_doNoticeBarred rfl rfl rfl rfl rfl rfl rfl rfl rfl rfl rfl rfl rfl rfl rfl rfl rfl rfl rfl rfl rfl rfl rfl rfl rfl rfl rfl rfl rfl rfl rfl rfl rfl rfl rfl rfl rfl rfl)
  | noticeLoss _ => exact next_outside h (outside_doNoticeLoss rfl rfl rfl rfl rfl rfl rfl rfl rfl rfl rfl rfl rfl rfl rfl rfl rfl rfl rfl rfl rfl rfl rfl rfl rfl rfl rfl rfl rfl rfl rfl rfl rfl rfl rfl rfl rfl rfl)
  | linkLossTimeout => exact next_outside h (outside_doLinkLossTimeout rfl rfl rfl rfl rfl rfl rfl rfl rfl rfl rfl rfl rfl rfl rfl rfl rfl rfl rfl rfl rfl rfl rfl rfl rfl rfl rfl rfl rfl rfl rfl rfl rfl rfl rfl rfl rfl rfl)
  | halfFail _ _ => exact next_outside h (outside_doHalfFail rfl rfl rfl rfl rfl rfl rfl rfl rfl rfl rfl rfl rfl rfl rfl rfl rfl rfl rfl rfl rfl rfl rfl rfl rfl rfl rfl rfl rfl rfl rfl rfl rfl rfl rfl rfl rfl rfl)
  | noticeDeclareTimeout => exact next_outside h (outside_doNoticeDeclareTimeout rfl rfl rfl rfl rfl rfl rfl rfl rfl rfl rfl rfl rfl rfl rfl rfl rfl rfl rfl rfl rfl rfl rfl rfl rfl rfl rfl rfl rfl rfl rfl rfl rfl rfl rfl rfl rfl rfl)
  | twinAnswerTimeout => exact next_outside h (outside_doTwinAnswerTimeout rfl rfl rfl rfl rfl rfl rfl rfl rfl rfl rfl rfl rfl rfl rfl rfl rfl rfl rfl rfl rfl rfl rfl rfl rfl rfl rfl rfl rfl rfl rfl rfl rfl rfl rfl rfl rfl rfl)
  | noticeFailover _ => exact next_outside h (outside_doNoticeFailover rfl rfl rfl rfl rfl rfl)
  | heartbeatSendTimer _ => exact next_outside h (outside_doHeartbeatSendTimer rfl rfl)
  | halfRetrainTick _ => exact next_outside h (outside_doHalfRetrainTick rfl rfl)
  | laneTrainingDone _ _ _ => exact next_outside h (outside_doLaneTrainingDone rfl rfl rfl rfl rfl rfl rfl rfl rfl)
  | twinPresentChange _ => exact next_outside h (outside_doTwinPresentChange rfl rfl rfl rfl rfl rfl rfl rfl rfl rfl rfl rfl rfl rfl rfl rfl rfl rfl rfl rfl rfl rfl rfl rfl rfl rfl rfl rfl rfl rfl rfl rfl rfl rfl rfl rfl rfl)
  | settleTimeout => exact next_outside h (outside_doSettleTimeout rfl rfl)
  | budgetShareTick => exact next_outside h (outside_doBudgetShareTick rfl rfl)
  | counterLimit _ => exact next_outside h (outside_doCounterLimit rfl rfl rfl rfl rfl rfl rfl rfl rfl rfl rfl rfl rfl rfl rfl rfl rfl rfl rfl rfl rfl rfl rfl rfl rfl rfl rfl rfl rfl rfl rfl rfl rfl rfl rfl rfl rfl rfl rfl)
  | takeOwnership => exact next_outside h (outside_doTakeOwnership rfl rfl rfl rfl rfl rfl rfl rfl rfl rfl rfl rfl rfl rfl rfl rfl rfl rfl rfl rfl rfl rfl rfl rfl rfl rfl rfl rfl rfl rfl rfl rfl rfl rfl rfl rfl)
  | servingInstant => exact next_outside h (outside_doServingInstant rfl rfl rfl rfl rfl rfl rfl rfl rfl rfl rfl rfl rfl rfl rfl rfl rfl rfl rfl rfl rfl rfl rfl rfl rfl rfl rfl rfl rfl rfl rfl rfl rfl rfl rfl rfl)
  | mapDirectoryLoaded _ => exact next_outside h (outside_doMapDirectoryLoaded rfl rfl rfl rfl rfl rfl rfl rfl rfl rfl rfl rfl rfl rfl rfl rfl rfl rfl rfl rfl rfl rfl rfl rfl)
  | dumpIndexed => exact next_outside h (outside_doDumpIndexed rfl rfl rfl rfl rfl rfl rfl rfl rfl rfl rfl rfl rfl rfl rfl rfl rfl rfl rfl)
  | restoreOrdersRead => exact next_outside h (outside_doRestoreOrdersRead rfl rfl rfl rfl rfl rfl rfl rfl rfl rfl rfl rfl rfl rfl rfl rfl rfl rfl rfl rfl rfl rfl rfl)
  | restorePageDone _ _ => exact next_outside h (outside_doRestorePageDone rfl rfl rfl rfl rfl rfl rfl rfl rfl rfl rfl rfl rfl rfl rfl rfl rfl rfl rfl rfl rfl rfl rfl rfl)
  | segmentLoadDone _ => exact next_outside h (outside_doSegmentLoadDone rfl rfl)
  | orphanReclaim _ _ _ => exact next_outside h (outside_doOrphanReclaim rfl rfl rfl rfl rfl rfl rfl rfl rfl rfl rfl rfl rfl rfl)
  | traceWindowEnd _ => exact next_outside h (outside_doTraceWindowEnd rfl rfl rfl rfl rfl rfl rfl rfl rfl rfl rfl rfl)
  | cutMarksReported => exact next_outside h (outside_doCutMarksReported rfl rfl rfl rfl rfl rfl)
  | stateCaptureDone _ _ _ => exact next_outside h (outside_doStateCaptureDone rfl rfl rfl rfl rfl rfl rfl rfl rfl rfl rfl rfl rfl)
  | stateRetentionExpire _ => exact next_outside h (outside_doStateRetentionExpire rfl rfl rfl rfl rfl)
  | clonePageCopy _ => exact next_outside h (outside_doClonePageCopy rfl rfl rfl rfl rfl rfl rfl rfl rfl rfl rfl rfl)
  | plannedShutdown => exact next_outside h (outside_doPlannedShutdown rfl rfl rfl rfl rfl rfl rfl rfl rfl rfl rfl rfl rfl rfl rfl rfl rfl rfl rfl rfl rfl rfl)
  | enterService => exact next_outside h (outside_doEnterService rfl rfl rfl rfl rfl rfl rfl rfl rfl rfl rfl rfl rfl)
  | leaveService => exact next_outside h (outside_doLeaveService rfl rfl rfl rfl rfl rfl rfl rfl rfl rfl rfl rfl rfl)
  | acceptKeep => exact next_outside h (outside_doAcceptKeep rfl rfl rfl rfl rfl rfl rfl rfl rfl rfl rfl rfl rfl rfl rfl)
  | forceKeep => exact next_outside h (outside_doForceKeep rfl rfl rfl rfl)
  | forceStandDown => exact next_outside h (outside_doForceStandDown rfl rfl rfl rfl rfl rfl rfl rfl rfl rfl rfl rfl rfl rfl rfl rfl rfl rfl rfl rfl rfl rfl rfl rfl rfl rfl)
  | tempThreshold _ => exact next_outside h (outside_doTempThreshold rfl rfl rfl rfl rfl rfl rfl rfl rfl rfl rfl rfl rfl rfl rfl rfl rfl rfl rfl rfl rfl)
  | coreFabricError => exact next_outside h (outside_doCoreFabricError rfl rfl rfl rfl rfl rfl rfl rfl rfl rfl rfl rfl rfl rfl rfl rfl rfl rfl rfl rfl rfl)
  | pdMainWatchdogExpiry => exact next_outside h (outside_doPdMainWatchdogExpiry rfl rfl rfl rfl rfl rfl rfl rfl rfl rfl rfl rfl rfl rfl rfl rfl rfl rfl rfl rfl rfl)
  | tempClearTimeout _ => exact next_outside h (outside_doTempClearTimeout rfl rfl rfl rfl rfl rfl rfl rfl rfl rfl rfl rfl rfl)
  | svcJmpRemoved => exact next_outside h (outside_doSvcJmpRemoved rfl rfl rfl rfl rfl rfl rfl rfl rfl rfl rfl rfl rfl)
  | portFailure _ _ => exact next_outside h (outside_doPortFailure rfl rfl rfl rfl rfl rfl rfl rfl rfl)
  | proxyStopTimer _ => exact next_outside h (outside_doProxyStopTimer rfl rfl)
  | keyGenerate _ _ => exact next_outside h (outside_doKeyGenerate rfl rfl rfl rfl rfl)
  | keyImport _ _ => exact next_outside h (outside_doKeyImport rfl rfl rfl rfl)
  | firmwareBankWrite _ _ _ => exact next_outside h (outside_doFirmwareBankWrite rfl rfl rfl rfl)
  | keyErase _ => exact next_outside h (outside_doKeyErase rfl rfl rfl rfl rfl)
  | keyMigrate _ => exact next_outside h (outside_doKeyMigrate rfl rfl rfl rfl rfl rfl rfl rfl rfl rfl rfl rfl rfl rfl rfl rfl rfl rfl)
  | keySwap _ => exact next_outside h (outside_doKeySwap rfl rfl rfl)
  | writeSlotWrite _ => exact next_outside h (outside_doWriteSlotWrite rfl rfl rfl rfl)
  | canRateWrite _ _ _ => exact next_outside h (outside_doCanRateWrite rfl rfl rfl rfl)
  | canChannelEnableWrite _ => exact next_outside h (outside_doCanChannelEnableWrite rfl rfl rfl rfl)
  | clearStatistics => exact next_outside h (outside_doClearStatistics rfl rfl rfl rfl)
  | portConfigWrite _ _ _ => exact next_outside h (outside_doPortConfigWrite rfl rfl rfl rfl)
  | cipherMismatch _ _ => exact next_outside h (outside_doCipherMismatch rfl rfl rfl rfl rfl rfl rfl rfl rfl rfl rfl rfl rfl rfl rfl rfl rfl rfl rfl rfl rfl rfl rfl rfl rfl rfl rfl rfl rfl rfl rfl rfl rfl rfl rfl rfl rfl rfl rfl rfl)
  | ueLockClaim _ => exact next_outside h (outside_doUeLockClaim rfl)
  | ueLockRelease _ => exact next_outside h (outside_doUeLockRelease rfl rfl rfl rfl rfl rfl rfl rfl rfl)
  | ueLockTimeout => exact next_outside h (outside_doUeLockTimeout rfl rfl rfl rfl rfl rfl rfl)
  | recordAccept => exact next_outside h (outside_doRecordAccept rfl rfl rfl rfl rfl rfl rfl)
  | recorderLockTimeout => exact next_outside h (outside_doRecorderLockTimeout rfl rfl rfl rfl rfl rfl rfl)
  | firmwareVerifyDone _ _ => exact next_outside h (outside_doFirmwareVerifyDone rfl rfl)
  | svnCommit _ => exact next_outside h (outside_doSvnCommit rfl rfl rfl rfl rfl)
  | fiethRead _ _ => exact next_outside h (outside_doFiethRead rfl rfl rfl rfl rfl rfl rfl rfl rfl rfl rfl rfl rfl rfl rfl rfl rfl rfl rfl rfl rfl rfl rfl rfl rfl rfl rfl rfl rfl rfl rfl rfl rfl rfl rfl rfl rfl rfl rfl rfl rfl rfl rfl rfl)
  | fiethWrite _ _ => exact next_outside h (outside_doFiethWrite rfl rfl rfl rfl rfl rfl rfl rfl rfl rfl rfl rfl rfl rfl rfl rfl rfl rfl rfl rfl rfl rfl rfl rfl rfl rfl rfl rfl rfl rfl rfl rfl rfl rfl rfl rfl rfl rfl rfl rfl rfl rfl rfl rfl)
  | segment _ _ _ _ => exact next_outside h (outside_doSegment rfl rfl rfl rfl rfl rfl rfl rfl rfl rfl rfl rfl rfl rfl rfl rfl rfl rfl rfl rfl rfl rfl rfl rfl rfl rfl rfl rfl rfl rfl rfl rfl rfl rfl rfl rfl rfl rfl rfl rfl rfl rfl rfl rfl)
  | dictWrite _ _ _ _ => exact next_outside h (outside_doDictWrite rfl rfl rfl rfl rfl rfl rfl rfl rfl rfl rfl rfl rfl rfl rfl rfl rfl rfl rfl rfl rfl rfl rfl rfl rfl rfl rfl rfl rfl rfl rfl rfl rfl rfl rfl rfl rfl rfl rfl rfl rfl rfl rfl rfl)
  | fiethAck _ _ _ => exact next_outside h (outside_doFiethAck rfl rfl rfl)
  | transferIdleTimeout _ => exact next_outside h (outside_doTransferIdleTimeout rfl rfl rfl)
  | fiethAbort _ _ _ => exact next_outside h (outside_doFiethAbort rfl)
  | dupRecordExpire _ => exact next_outside h (outside_doDupRecordExpire rfl)
  | canBusOffRecovery _ => exact next_outside h (outside_doCanBusOffRecovery rfl)
  | fiethHeartbeat => exact next_outside h (outside_doFiethHeartbeat rfl rfl)
  | duplicateNode _ _ => exact next_outside h (outside_doDuplicateNode rfl rfl rfl)
  | canBusOff _ => exact next_outside h (outside_doCanBusOff rfl rfl)
  | resetCauseClear _ => exact next_outside h (outside_doResetCauseClear rfl rfl rfl rfl)
  | coreResetRequest => exact next_outside h (outside_doCoreResetRequest rfl rfl rfl rfl)
  | systemResetRequest => exact next_outside h (outside_doSystemResetRequest rfl rfl rfl rfl rfl rfl)
  | domainOffRequest _ => exact next_outside h (outside_doDomainOffRequest rfl rfl rfl rfl rfl rfl rfl rfl rfl rfl rfl rfl rfl rfl rfl rfl rfl rfl rfl rfl rfl rfl rfl rfl rfl rfl rfl rfl rfl rfl rfl rfl rfl rfl rfl rfl rfl rfl rfl rfl)
  | domainOnRequest _ => exact next_outside h (outside_doDomainOnRequest rfl rfl rfl rfl rfl rfl rfl rfl rfl rfl rfl rfl rfl rfl rfl rfl rfl rfl rfl rfl rfl rfl rfl rfl rfl rfl rfl rfl rfl rfl rfl rfl rfl rfl rfl rfl rfl rfl rfl rfl)
  | presenceCloseWrite => exact next_outside h (outside_doPresenceCloseWrite rfl rfl rfl rfl rfl rfl)
  | injectOnce _ _ _ => exact next_outside h (outside_doInjectOnce rfl rfl rfl rfl rfl rfl rfl rfl rfl rfl rfl rfl rfl rfl rfl rfl rfl rfl rfl rfl rfl rfl rfl rfl rfl rfl rfl rfl rfl rfl rfl rfl rfl rfl rfl rfl rfl rfl rfl)
  | injectRepeatedly _ _ _ _ _ => exact next_outside h (outside_doInjectRepeatedly rfl rfl rfl rfl rfl rfl rfl rfl rfl rfl rfl rfl rfl rfl rfl rfl rfl rfl rfl rfl rfl rfl rfl rfl rfl rfl rfl rfl rfl rfl rfl rfl rfl rfl rfl rfl rfl rfl rfl)
  | injectionInterval _ _ _ => exact next_outside h (outside_doInjectionInterval rfl rfl rfl rfl rfl rfl rfl rfl rfl rfl rfl rfl rfl rfl rfl rfl rfl rfl rfl rfl rfl rfl rfl rfl rfl rfl rfl rfl rfl rfl rfl rfl rfl rfl rfl rfl rfl rfl rfl)
  | pllLockLost _ => exact next_outside h (outside_doPllLockLost rfl rfl rfl rfl rfl rfl rfl rfl rfl rfl rfl rfl rfl rfl rfl rfl rfl rfl rfl rfl rfl rfl rfl rfl rfl rfl rfl rfl rfl rfl rfl rfl rfl rfl rfl rfl rfl rfl rfl)
  | clockMonitorWindow _ => exact next_outside h (outside_doClockMonitorWindow rfl rfl rfl rfl rfl rfl rfl rfl rfl rfl rfl rfl rfl rfl rfl rfl rfl rfl rfl rfl rfl rfl rfl rfl rfl rfl rfl rfl rfl rfl rfl rfl rfl rfl rfl rfl rfl rfl rfl)
  | disarmPoint _ _ _ => exact next_outside h (outside_doDisarmPoint rfl rfl rfl rfl rfl)
  | disarmEveryPoint => exact next_outside h (outside_doDisarmEveryPoint rfl rfl rfl rfl rfl)
  | presenceOpen => exact next_outside h (outside_doPresenceOpen rfl rfl rfl rfl)
  | buttonStuck => exact next_outside h (outside_doButtonStuck rfl rfl)
  | buttonReleaseTimeout => exact next_outside h (outside_doButtonReleaseTimeout rfl)
  | jtagDebugInstruction _ => exact next_outside h (outside_doJtagDebugInstruction rfl)
  | jtagBoundaryScan _ => exact next_outside h (outside_doJtagBoundaryScan rfl)
  | presenceWindowExpire => exact next_outside h (outside_doPresenceWindowExpire rfl rfl rfl)
  | sealLoopOpen _ => exact next_outside h (outside_doSealLoopOpen rfl rfl rfl rfl rfl rfl)
  | recorderFlushTick _ => exact next_outside h (outside_doRecorderFlushTick rfl rfl rfl rfl rfl rfl rfl rfl)
  | recorderSealCheck _ => exact next_outside h (outside_doRecorderSealCheck rfl rfl)
  | pwrgdAssert => exact next_outside h (outside_doPwrgdAssert rfl rfl)
  | pwrgdDeassert => exact next_outside h (outside_doPwrgdDeassert rfl rfl rfl rfl rfl rfl rfl rfl rfl rfl rfl rfl rfl rfl rfl rfl rfl rfl rfl rfl rfl rfl rfl rfl rfl rfl rfl rfl rfl rfl rfl rfl rfl rfl rfl rfl rfl rfl rfl rfl rfl rfl)
  | porstAssert => exact next_outside h (outside_doPorstAssert rfl rfl rfl rfl rfl rfl rfl rfl rfl rfl rfl rfl rfl rfl rfl rfl rfl rfl rfl rfl rfl rfl rfl rfl rfl rfl rfl rfl rfl rfl rfl rfl rfl rfl rfl rfl rfl rfl rfl rfl rfl rfl)
  | powerOnResetEnd _ => exact next_outside h (outside_doPowerOnResetEnd rfl rfl rfl rfl rfl rfl rfl rfl rfl rfl rfl rfl rfl rfl rfl rfl rfl rfl rfl rfl)
  | vddAonLow => exact next_outside h (outside_doVddAonLow rfl rfl rfl rfl rfl rfl rfl rfl rfl rfl rfl rfl rfl rfl rfl rfl rfl rfl rfl rfl rfl rfl rfl rfl rfl rfl rfl rfl rfl rfl rfl rfl rfl rfl rfl rfl rfl rfl rfl rfl rfl rfl rfl)
  | systemResetWindowEnd => exact next_outside h (outside_doSystemResetWindowEnd rfl rfl rfl rfl rfl rfl rfl rfl rfl rfl rfl rfl rfl rfl rfl rfl rfl rfl rfl rfl rfl rfl rfl rfl rfl rfl rfl rfl rfl rfl rfl)
  | systemResetRelease => exact next_outside h (outside_doSystemResetRelease rfl rfl rfl rfl rfl rfl rfl rfl rfl rfl rfl rfl rfl rfl rfl)
  | sysrstDeassert => exact next_outside h (outside_doSysrstDeassert rfl rfl rfl rfl rfl rfl rfl rfl rfl rfl rfl rfl rfl rfl rfl)
  | coreResetDrainEnd => exact next_outside h (outside_doCoreResetDrainEnd rfl rfl rfl rfl rfl rfl)
  | mccResetRelease _ _ => exact next_outside h (outside_doMccResetRelease rfl rfl rfl)
  | mccWatchdogExpiry => exact next_outside h (outside_doMccWatchdogExpiry rfl)
  | mccClockReturn => exact next_outside h (outside_doMccClockReturn rfl)
  | mccClockLoss => exact next_outside h (outside_doMccClockLoss rfl rfl)
  | blockIdleReport _ => exact next_outside h (outside_doBlockIdleReport rfl rfl rfl rfl rfl rfl rfl rfl)
  | blockIdleTimeout _ => exact next_outside h (outside_doBlockIdleTimeout rfl rfl rfl rfl)
  | blockWatchdogExpiry _ => exact next_outside h (outside_doBlockWatchdogExpiry rfl rfl rfl rfl rfl rfl rfl rfl rfl rfl rfl rfl rfl rfl rfl rfl rfl rfl rfl)
  | portGroupRepower _ => exact next_outside h (outside_doPortGroupRepower rfl rfl)
  | optionLoadDone _ _ _ => exact next_outside h (outside_doOptionLoadDone rfl rfl rfl rfl rfl rfl rfl rfl rfl rfl rfl rfl rfl rfl rfl rfl rfl rfl rfl rfl rfl rfl rfl rfl rfl rfl)
  | railMonitorEvent r v => rw [railMonitorEvent_next h]; exact outside_railReading rfl rfl rfl rfl rfl rfl rfl rfl rfl rfl rfl rfl rfl rfl rfl rfl rfl rfl rfl rfl rfl rfl rfl rfl rfl rfl rfl rfl rfl rfl rfl rfl rfl rfl rfl rfl rfl rfl rfl rfl rfl rfl rfl rfl rfl rfl
  | portLinkUp _ => exact next_outside h (outside_doPortLinkUp rfl)
  | firstFormatDone => exact next_outside h (outside_doFirstFormatDone rfl rfl rfl rfl rfl rfl rfl rfl rfl rfl rfl rfl rfl rfl rfl rfl rfl rfl rfl rfl rfl rfl rfl rfl rfl rfl rfl rfl rfl rfl rfl rfl rfl rfl rfl rfl rfl rfl)
  | dramWriteDone _ _ => exact next_outside h (outside_doDramWriteDone rfl rfl rfl rfl rfl rfl rfl)
  | pfcPauseFrame _ _ _ => exact next_outside h (outside_doPfcPauseFrame rfl rfl)
/-- The commands that may change the steady part. -/
def rare : Instr → Bool
  | .laneTrainingDone .. | .counterLimit .. | .svnCommit .. | .fiethRead .. | .fiethWrite .. | .segment .. | .dictWrite .. |
    .sealLoopOpen .. | .powerOnResetEnd .. | .vddAonLow | .systemResetRelease | .optionLoadDone .. | .railMonitorEvent .. |
    .sysrstDeassert => true
  | _ => false
theorem rare_touches (c : Instr) (h : rare c = false) : (touches c).rtc = false ∧ (touches c).node = false ∧ (touches c).svn = false ∧
    (touches c).sealBroken = false ∧ (touches c).sealFuse = false ∧ (touches c).epochFuses = false ∧ (touches c).incFuses = false ∧
    (touches c).pending = false := by
  cases c <;> first | exact ⟨rfl, rfl, rfl, rfl, rfl, rfl, rfl, rfl⟩ | cases h
/-- Every command that is not rare keeps the steady part. -/
theorem steady_exec (c : Instr) (s t : State) (h : exec c s = .next t) (hc : rare c = false) : steady t = steady s := by
  have k := sameBut_of_outside (outside_exec c s t h)
  obtain ⟨h1, h2, h3, h4, h5, h6, h7, h8⟩ := rare_touches c hc
  unfold steady
  rw [k.rtc h1, k.node h2, k.svn h3, k.sealBroken h4, k.sealFuse h5, k.epochFuses h6, k.incFuses h7, k.pending h8]
theorem next_rel {R : Steady → Steady → Prop} {s t u : State} (h : (.next u : Result) = .next t) (k : R (steady s) (steady u)) :
    R (steady s) (steady t) := by
  injection h with h; exact h ▸ k

end Sys2Proof.Machine
end

