-- ==== Sys2Proof/Laws/Later.lean ====
section
/-! SUPPORT. The rules of the whole machine about the steady part: what every command, and every step, may do to it at most. -/
namespace Sys2Proof.Machine
open Sys2Proof

/-- What one command may do at most: the queue stays; versions, seal and fuses only go up, within their limits; the node number stays
a strap value; the real-time counter stays, or is lost. -/
structure Later (a b : Steady) : Prop where
  pending : b.pending = a.pending
  svn : a.svn ≤ b.svn
  svnMax : a.svn ≤ 63 → b.svn ≤ 63
  broken : a.broken = true → b.broken = true
  fuse : a.fuse = true → b.fuse = true
  fuseBroken : (a.fuse = true → a.broken = true) → b.fuse = true → b.broken = true
  burned : a.burned ≤ b.burned
  burnedMax : a.burned ≤ 255 → b.burned ≤ 255
  burnedInc : a.burnedInc ≤ b.burnedInc
  burnedIncMax : a.burnedInc ≤ 255 → b.burnedInc ≤ 255
  node : b.node = a.node ∨ b.node < 128
  rtc : b.rtc = a.rtc ∨ b.rtc = 0

theorem Later.of_eq {a b : Steady} (h : b = a) : Later a b := by
  subst h
  exact ⟨rfl, Nat.le_refl _, id, id, id, id, Nat.le_refl _, id, Nat.le_refl _, id, .inl rfl, .inl rfl⟩
theorem Later.trans {a b c : Steady} (h : Later a b) (k : Later b c) : Later a c where
  pending := k.pending.trans h.pending
  svn := Nat.le_trans h.svn k.svn
  svnMax x := k.svnMax (h.svnMax x)
  broken x := k.broken (h.broken x)
  fuse x := k.fuse (h.fuse x)
  fuseBroken x := k.fuseBroken (h.fuseBroken x)
  burned := Nat.le_trans h.burned k.burned
  burnedMax x := k.burnedMax (h.burnedMax x)
  burnedInc := Nat.le_trans h.burnedInc k.burnedInc
  burnedIncMax x := k.burnedIncMax (h.burnedIncMax x)
  node := by
    rcases k.node with e | e
    · rw [e]; exact h.node
    · exact .inr e
  rtc := by
    rcases k.rtc with e | e
    · rw [e]; exact h.rtc
    · exact .inr e

theorem SvnUp.later {a b : Steady} (h : SvnUp a b) : Later a b := by
  obtain ⟨h1, h2, h3⟩ := h
  rw [h1]
  exact ⟨rfl, h2, h3, id, id, id, Nat.le_refl _, id, Nat.le_refl _, id, .inl rfl, .inl rfl⟩
theorem EpochUp.later {a b : Steady} (h : EpochUp a b) : Later a b := by
  obtain ⟨h1, h2, h3⟩ := h
  rw [h1]
  exact ⟨rfl, Nat.le_refl _, id, id, id, id, h2, h3, Nat.le_refl _, id, .inl rfl, .inl rfl⟩
theorem IncUp.later {a b : Steady} (h : IncUp a b) : Later a b := by
  obtain ⟨h1, h2, h3⟩ := h
  rw [h1]
  exact ⟨rfl, Nat.le_refl _, id, id, id, id, Nat.le_refl _, id, h2, h3, .inl rfl, .inl rfl⟩
theorem SealUp.later {a b : Steady} (h : SealUp a b) : Later a b := by
  obtain ⟨h1, h2, h3, h4⟩ := h
  rw [h1]
  exact ⟨rfl, Nat.le_refl _, id, h2, h3, h4, Nat.le_refl _, id, Nat.le_refl _, id, .inl rfl, .inl rfl⟩
theorem later_node (a : Steady) (n : Fin 128) : Later a { a with node := n.val } :=
  ⟨rfl, Nat.le_refl _, id, id, id, id, Nat.le_refl _, id, Nat.le_refl _, id, .inr n.isLt, .inl rfl⟩
theorem later_rtc (a : Steady) : Later a { a with rtc := 0 } :=
  ⟨rfl, Nat.le_refl _, id, id, id, id, Nat.le_refl _, id, Nat.le_refl _, id, .inl rfl, .inr rfl⟩

theorem later_doPowerOnResetEnd (node : Fin 128) (s : State) : Later (steady s) (steady (doPowerOnResetEnd node s)) := by
  rcases steady_doPowerOnResetEnd node s with h | ⟨m, h1, h2⟩
  · exact .of_eq h
  · exact (later_node (steady s) node).trans (h1.later.trans h2.later)
theorem later_of_rtc {s t : State} (h : steady t = steady s ∨ steady t = { steady s with rtc := 0 }) : Later (steady s) (steady t) := by
  rcases h with h | h
  · exact .of_eq h
  · rw [h]; exact later_rtc _

/-- Every command answers a later state. -/
theorem later_exec (c : Instr) (s t : State) (h : exec c s = .next t) : Later (steady s) (steady t) := by
  by_cases hc : rare c = false
  · exact .of_eq (steady_exec c s t h hc)
  · cases c with
    | laneTrainingDone a b d => exact next_rel h (epochUp_doLaneTrainingDone a b d s).later
    | counterLimit a => exact next_rel h (epochUp_doCounterLimit a s).later
    | svnCommit v => exact next_rel h (svnUp_doSvnCommit v s).later
    | fiethRead a f => exact next_rel h (svnUp_request 1 a f s).later
    | fiethWrite a f => exact next_rel h (svnUp_request 2 a f s).later
    | segment a b d e => exact next_rel h (svnUp_doSegment a b d e s).later
    | dictWrite a b d e => exact next_rel h (svnUp_doDictWrite a b d e s).later
    | sealLoopOpen a => exact next_rel h (sealUp_doSealLoopOpen a s).later
    | powerOnResetEnd n => exact next_rel h (later_doPowerOnResetEnd n s)
    | vddAonLow => exact next_rel h (later_of_rtc (steady_doVddAonLow s))
    | systemResetRelease => exact next_rel h (incUp_doSystemResetRelease s).later
    | optionLoadDone a b d => exact next_rel h (sealUp_doOptionLoadDone a b d s).later
    | railMonitorEvent r v => rw [railMonitorEvent_next h]; exact later_of_rtc (steady_railReading r.val v s)
    | sysrstDeassert => exact next_rel h (incUp_doSysrstDeassert s).later
    | _ => exact absurd rfl hc

/-- The passing of a millisecond changes the real-time counter alone. -/
theorem steady_tick (s : State) : steady (tick s) = { steady s with rtc := (s.rtc + 1) % 2 ^ 32 } := by
  unfold tick
  rw [steady_startLogWrite, steady_keepTime]
  rfl

end Sys2Proof.Machine
end

