-- ==== Sys2Proof/Laws/Memory.lean ====
section
/-! SUPPORT. Byte memories: every operation keeps the canonical form, and what a byte reads as after each. -/
namespace Sys2Proof.Machine
open Sys2Proof

/-- The canonical form said of all cells at once. -/
theorem wf_iff (m : Mem) : Memory.wf m = true ↔ m.Pairwise (fun c d => c.1 < d.1) ∧ ∀ c ∈ m, c.2 ≠ 0 := by
  induction m with
  | nil => simp [Memory.wf]
  | cons c t ih =>
    cases t with
    | nil => simp [Memory.wf]
    | cons d r =>
      rw [show Memory.wf (c :: d :: r) = (c.2 ≠ 0 && c.1 < d.1 && Memory.wf (d :: r)) from rfl]
      simp only [Bool.and_eq_true, decide_eq_true_eq, ih, List.pairwise_cons, List.mem_cons]
      constructor
      · rintro ⟨⟨h0, h1⟩, ⟨h2, h3⟩, h4⟩
        refine ⟨⟨?_, h2, h3⟩, ?_⟩
        · rintro x (rfl | hx)
          · exact h1
          · exact Nat.lt_trans h1 (h2 x hx)
        · rintro x (rfl | hx)
          · exact h0
          · exact h4 x hx
      · rintro ⟨⟨h1, h2, h3⟩, h4⟩
        exact ⟨⟨h4 c (.inl rfl), h1 d (.inl rfl)⟩, ⟨h2, h3⟩, fun x hx => h4 x (.inr hx)⟩
theorem wf_nil : Memory.wf [] = true := rfl
theorem wf_filter {m : Mem} (h : Memory.wf m = true) (p : Host.Cell → Bool) : Memory.wf (m.filter p) = true := by
  rw [wf_iff] at h ⊢
  exact ⟨h.1.filter p, fun c hc => h.2 c (List.mem_filter.mp hc).1⟩
theorem wf_shiftUp {m : Mem} (h : Memory.wf m = true) (a : Nat) : Memory.wf (m.map (fun c => (c.1 + a, c.2))) = true := by
  rw [wf_iff] at h ⊢
  refine ⟨List.pairwise_map.mpr (h.1.imp (fun hlt => Nat.add_lt_add_right hlt a)), ?_⟩
  intro c hc
  obtain ⟨d, hd, rfl⟩ := List.mem_map.mp hc
  exact h.2 d hd
theorem wf_append {m n : Mem} (hm : Memory.wf m = true) (hn : Memory.wf n = true) (h : ∀ c ∈ m, ∀ d ∈ n, c.1 < d.1) :
    Memory.wf (m ++ n) = true := by
  rw [wf_iff] at hm hn ⊢
  refine ⟨List.pairwise_append.mpr ⟨hm.1, hn.1, h⟩, ?_⟩
  intro c hc
  rcases List.mem_append.mp hc with hc | hc
  · exact hm.2 c hc
  · exact hn.2 c hc
/-- A slice of a memory is canonical. -/
theorem wf_mslice {m : Mem} (h : Memory.wf m = true) (a len : Nat) : Memory.wf (mslice m a len) = true := by
  unfold mslice
  have hf := wf_filter h (fun c => a ≤ c.1 ∧ c.1 < a + len)
  rw [wf_iff] at hf ⊢
  refine ⟨List.pairwise_map.mpr ?_, ?_⟩
  · refine List.Pairwise.imp_of_mem ?_ hf.1
    intro c d hc _ hlt
    have := (List.mem_filter.mp hc).2
    simp only [decide_eq_true_eq] at this
    show c.1 - a < d.1 - a
    omega
  · intro c hc
    obtain ⟨d, hd, rfl⟩ := List.mem_map.mp hc
    exact hf.2 d hd
/-- A byte string as a memory is canonical. -/
theorem wf_memOf (b : Bytes) (a : Nat) : Memory.wf (memOf a b) = true ∧ ∀ c ∈ memOf a b, a ≤ c.1 ∧ c.1 < a + b.length := by
  induction b generalizing a with
  | nil => exact ⟨rfl, by intro c hc; cases hc⟩
  | cons x t ih =>
    obtain ⟨h1, h2⟩ := ih (a + 1)
    unfold memOf
    split
    · refine ⟨h1, fun c hc => ?_⟩
      have := h2 c hc
      rw [List.length_cons]
      omega
    · rename_i hx
      refine ⟨?_, ?_⟩
      · rw [show (a, x) :: memOf (a + 1) t = [(a, x)] ++ memOf (a + 1) t from rfl]
        refine wf_append ((wf_iff _).mpr ⟨List.pairwise_singleton _ _, ?_⟩) h1 ?_
        · intro c hc
          rw [List.mem_singleton.mp hc]
          exact hx
        · intro c hc d hd
          rw [List.mem_singleton.mp hc]
          exact (h2 d hd).1
      · intro c hc
        rw [List.length_cons]
        rcases List.mem_cons.mp hc with rfl | hc
        · exact ⟨Nat.le_refl _, by show a < a + (t.length + 1); omega⟩
        · have := h2 c hc
          omega
/-- Replacing a range keeps the canonical form. -/
theorem wf_mpaste {m p : Mem} (hm : Memory.wf m = true) (hp : Memory.wf p = true) (a len : Nat) : Memory.wf (mpaste m a len p) = true := by
  unfold mpaste
  refine wf_append (wf_append (wf_filter hm _) (wf_shiftUp (wf_filter hp _) a) ?_) (wf_filter hm _) ?_
  · intro c hc d hd
    have h1 := (List.mem_filter.mp hc).2
    obtain ⟨e, _, rfl⟩ := List.mem_map.mp hd
    simp only [decide_eq_true_eq] at h1
    show c.1 < e.1 + a
    omega
  · intro c hc d hd
    have h2 := (List.mem_filter.mp hd).2
    simp only [decide_eq_true_eq] at h2
    rcases List.mem_append.mp hc with hc | hc
    · have h1 := (List.mem_filter.mp hc).2
      simp only [decide_eq_true_eq] at h1
      omega
    · obtain ⟨e, he, rfl⟩ := List.mem_map.mp hc
      have h1 := (List.mem_filter.mp he).2
      simp only [decide_eq_true_eq] at h1
      show e.1 + a < d.1
      omega
/-- Writing bytes keeps the canonical form. -/
theorem wf_mput {m : Mem} (h : Memory.wf m = true) (a : Nat) (b : Bytes) : Memory.wf (mput m a b) = true :=
  wf_mpaste h (wf_memOf b 0).1 a b.length

/-! ## Reads -/

/-- A cell listed is what its address reads as. -/
theorem mget_of_mem {m : Mem} (h : Memory.wf m = true) {c : Host.Cell} (hc : c ∈ m) : mget m c.1 = c.2 := by
  have hp := ((wf_iff m).mp h).1
  clear h
  unfold mget
  induction m with
  | nil => cases hc
  | cons d t ih =>
    rw [List.pairwise_cons] at hp
    unfold tget
    rcases List.mem_cons.mp hc with rfl | hc
    · simp
    · have := hp.1 c hc
      rw [if_neg (by omega), if_neg (by omega)]
      exact ih hc hp.2
/-- An address not listed reads as zero. -/
theorem mget_of_not_mem {m : Mem} {x : Nat} (h : ∀ c ∈ m, c.1 ≠ x) : mget m x = 0 := by
  unfold mget
  induction m with
  | nil => rfl
  | cons d t ih =>
    unfold tget
    rw [if_neg (fun e => h d (List.mem_cons_self ..) e.symm)]
    split
    · rfl
    · exact ih (fun c hc => h c (List.mem_cons_of_mem d hc))
/-- Two canonical memories that list the same cells at an address read the same there. -/
theorem mget_congr {m n : Mem} (hm : Memory.wf m = true) (hn : Memory.wf n = true) (x y : Nat)
    (h : ∀ b : Byte, (x, b) ∈ m ↔ (y, b) ∈ n) : mget m x = mget n y := by
  by_cases hx : ∃ b, (x, b) ∈ m
  · obtain ⟨b, hb⟩ := hx
    rw [mget_of_mem hm hb, mget_of_mem hn ((h b).mp hb)]
  · rw [mget_of_not_mem, mget_of_not_mem]
    · rintro ⟨k, b⟩ hc rfl
      exact hx ⟨b, (h b).mpr hc⟩
    · rintro ⟨k, b⟩ hc rfl
      exact hx ⟨b, hc⟩
/-- What a byte reads as after a range was replaced. -/
theorem mget_mpaste {m p : Mem} (hm : Memory.wf m = true) (hp : Memory.wf p = true) (a len x : Nat) :
    mget (mpaste m a len p) x = if a ≤ x ∧ x < a + len then mget p (x - a) else mget m x := by
  have hw := wf_mpaste hm hp a len
  split
  · rename_i hr
    refine mget_congr hw hp x (x - a) (fun b => ?_)
    unfold mpaste
    simp only [List.mem_append, List.mem_filter, List.mem_map, decide_eq_true_eq, Prod.mk.injEq, Prod.exists]
    constructor
    · rintro ((⟨_, h⟩ | ⟨k, v, ⟨hk, _⟩, he, rfl⟩) | ⟨_, h⟩)
      · omega
      · rwa [show x - a = k by omega]
      · omega
    · intro hb
      exact .inl (.inr ⟨x - a, b, ⟨hb, by omega⟩, by omega, rfl⟩)
  · rename_i hr
    refine mget_congr hw hm x x (fun b => ?_)
    unfold mpaste
    simp only [List.mem_append, List.mem_filter, List.mem_map, decide_eq_true_eq, Prod.mk.injEq, Prod.exists]
    constructor
    · rintro ((⟨h, _⟩ | ⟨k, v, ⟨_, hl⟩, he, rfl⟩) | ⟨h, _⟩)
      · exact h
      · omega
      · exact h
    · intro hb
      by_cases hx : x < a
      · exact .inl (.inl ⟨hb, hx⟩)
      · exact .inr ⟨hb, by omega⟩
/-- What a byte of a string's memory reads as. -/
theorem mget_memOf (b : Bytes) (a x : Nat) : mget (memOf a b) x = if a ≤ x then b.getD (x - a) 0 else 0 := by
  induction b generalizing a with
  | nil => simp [memOf, mget, tget]
  | cons v t ih =>
    have hlow : ∀ y, y ≤ a → mget (memOf (a + 1) t) y = 0 := by
      intro y hy
      exact mget_of_not_mem (fun c hc => by have := ((wf_memOf t (a + 1)).2 c hc).1; omega)
    unfold memOf
    split
    · rename_i hv
      rw [ih]
      by_cases hx : a + 1 ≤ x
      · rw [if_pos hx, if_pos (by omega), show x - a = (x - (a + 1)) + 1 by omega]
        rfl
      · rw [if_neg hx]
        split
        · rw [show x - a = 0 by omega, hv]; rfl
        · rfl
    · have hstep : mget ((a, v) :: memOf (a + 1) t) x = if x = a then v else if x < a then 0 else mget (memOf (a + 1) t) x := rfl
      rw [hstep]
      split
      · rename_i hx
        subst hx
        simp
      · split
        · rw [if_neg (by omega)]
        · rw [ih, if_pos (by omega), if_pos (by omega), show x - a = (x - (a + 1)) + 1 by omega]
          rfl
/-- What a byte reads as after bytes were written. -/
theorem mget_mput {m : Mem} (h : Memory.wf m = true) (a : Nat) (b : Bytes) (x : Nat) :
    mget (mput m a b) x = if a ≤ x ∧ x < a + b.length then b.getD (x - a) 0 else mget m x := by
  unfold mput
  rw [mget_mpaste h (wf_memOf b 0).1]
  split
  · rw [mget_memOf]; simp
  · rfl
/-- Reading bytes just written gives them. -/
theorem mbytes_mput {m : Mem} (h : Memory.wf m = true) (a : Nat) (b : Bytes) : mbytes (mput m a b) a b.length = b := by
  unfold mbytes
  refine List.ext_getElem (by simp) (fun i h1 h2 => ?_)
  simp only [List.getElem_map, List.getElem_range]
  rw [mget_mput h, if_pos ⟨by omega, by omega⟩, show a + i - a = i by omega]
  simp [List.getD_eq_getElem?_getD, h2]

end Sys2Proof.Machine
end

