-- ==== Sys2Proof/Laws/State.lean ====
section
/-! SUPPORT. One lemma per field and update of the state, each true by computation, so that no proof unfolds a record update. -/
namespace Sys2Proof.Machine
open Sys2Proof

@[simp] theorem updHost_host (f) (s : State) : (updHost f s).host = f s.host := rfl
@[simp] theorem updHost_rc (f) (s : State) : (updHost f s).rc = s.rc := rfl
@[simp] theorem updHost_per (f) (s : State) : (updHost f s).per = s.per := rfl
@[simp] theorem updHost_eng (f) (s : State) : (updHost f s).eng = s.eng := rfl
@[simp] theorem updHost_tier (f) (s : State) : (updHost f s).tier = s.tier := rfl
@[simp] theorem updHost_cs (f) (s : State) : (updHost f s).cs = s.cs := rfl
@[simp] theorem updHost_dram (f) (s : State) : (updHost f s).dram = s.dram := rfl
@[simp] theorem updHost_nand (f) (s : State) : (updHost f s).nand = s.nand := rfl
@[simp] theorem updHost_fix (f) (s : State) : (updHost f s).fix = s.fix := rfl
@[simp] theorem updHost_cp (f) (s : State) : (updHost f s).cp = s.cp := rfl
@[simp] theorem updHost_rec_ (f) (s : State) : (updHost f s).rec_ = s.rec_ := rfl
@[simp] theorem updHost_snap (f) (s : State) : (updHost f s).snap = s.snap := rfl
@[simp] theorem updHost_md (f) (s : State) : (updHost f s).md = s.md := rfl
@[simp] theorem updHost_keys (f) (s : State) : (updHost f s).keys = s.keys := rfl
@[simp] theorem updHost_fieth (f) (s : State) : (updHost f s).fieth = s.fieth := rfl
@[simp] theorem updHost_ports (f) (s : State) : (updHost f s).ports = s.ports := rfl
@[simp] theorem updHost_pres (f) (s : State) : (updHost f s).pres = s.pres := rfl
@[simp] theorem updHost_rmq (f) (s : State) : (updHost f s).rmq = s.rmq := rfl
@[simp] theorem updHost_rst (f) (s : State) : (updHost f s).rst = s.rst := rfl
@[simp] theorem updHost_dict (f) (s : State) : (updHost f s).dict = s.dict := rfl
@[simp] theorem updHost_force (f) (s : State) : (updHost f s).force = s.force := rfl
@[simp] theorem updHost_rtc (f) (s : State) : (updHost f s).rtc = s.rtc := rfl
@[simp] theorem updHost_freeCtr (f) (s : State) : (updHost f s).freeCtr = s.freeCtr := rfl
@[simp] theorem updHost_outbox (f) (s : State) : (updHost f s).outbox = s.outbox := rfl
@[simp] theorem updHost_pending (f) (s : State) : (updHost f s).pending = s.pending := rfl
@[simp] theorem updRc_host (f) (s : State) : (updRc f s).host = s.host := rfl
@[simp] theorem updRc_rc (f) (s : State) : (updRc f s).rc = f s.rc := rfl
@[simp] theorem updRc_per (f) (s : State) : (updRc f s).per = s.per := rfl
@[simp] theorem updRc_eng (f) (s : State) : (updRc f s).eng = s.eng := rfl
@[simp] theorem updRc_tier (f) (s : State) : (updRc f s).tier = s.tier := rfl
@[simp] theorem updRc_cs (f) (s : State) : (updRc f s).cs = s.cs := rfl
@[simp] theorem updRc_dram (f) (s : State) : (updRc f s).dram = s.dram := rfl
@[simp] theorem updRc_nand (f) (s : State) : (updRc f s).nand = s.nand := rfl
@[simp] theorem updRc_fix (f) (s : State) : (updRc f s).fix = s.fix := rfl
@[simp] theorem updRc_cp (f) (s : State) : (updRc f s).cp = s.cp := rfl
@[simp] theorem updRc_rec_ (f) (s : State) : (updRc f s).rec_ = s.rec_ := rfl
@[simp] theorem updRc_snap (f) (s : State) : (updRc f s).snap = s.snap := rfl
@[simp] theorem updRc_md (f) (s : State) : (updRc f s).md = s.md := rfl
@[simp] theorem updRc_keys (f) (s : State) : (updRc f s).keys = s.keys := rfl
@[simp] theorem updRc_fieth (f) (s : State) : (updRc f s).fieth = s.fieth := rfl
@[simp] theorem updRc_ports (f) (s : State) : (updRc f s).ports = s.ports := rfl
@[simp] theorem updRc_pres (f) (s : State) : (updRc f s).pres = s.pres := rfl
@[simp] theorem updRc_rmq (f) (s : State) : (updRc f s).rmq = s.rmq := rfl
@[simp] theorem updRc_rst (f) (s : State) : (updRc f s).rst = s.rst := rfl
@[simp] theorem updRc_dict (f) (s : State) : (updRc f s).dict = s.dict := rfl
@[simp] theorem updRc_force (f) (s : State) : (updRc f s).force = s.force := rfl
@[simp] theorem updRc_rtc (f) (s : State) : (updRc f s).rtc = s.rtc := rfl
@[simp] theorem updRc_freeCtr (f) (s : State) : (updRc f s).freeCtr = s.freeCtr := rfl
@[simp] theorem updRc_outbox (f) (s : State) : (updRc f s).outbox = s.outbox := rfl
@[simp] theorem updRc_pending (f) (s : State) : (updRc f s).pending = s.pending := rfl
@[simp] theorem updLive_host (f) (s : State) : (updLive f s).host = s.host := rfl
@[simp] theorem updLive_rc (f) (s : State) : (updLive f s).rc = s.rc := rfl
@[simp] theorem updLive_per (f) (s : State) : (updLive f s).per = { s.per with live := f s.per.live } := rfl
@[simp] theorem updLive_eng (f) (s : State) : (updLive f s).eng = s.eng := rfl
@[simp] theorem updLive_tier (f) (s : State) : (updLive f s).tier = s.tier := rfl
@[simp] theorem updLive_cs (f) (s : State) : (updLive f s).cs = s.cs := rfl
@[simp] theorem updLive_dram (f) (s : State) : (updLive f s).dram = s.dram := rfl
@[simp] theorem updLive_nand (f) (s : State) : (updLive f s).nand = s.nand := rfl
@[simp] theorem updLive_fix (f) (s : State) : (updLive f s).fix = s.fix := rfl
@[simp] theorem updLive_cp (f) (s : State) : (updLive f s).cp = s.cp := rfl
@[simp] theorem updLive_rec_ (f) (s : State) : (updLive f s).rec_ = s.rec_ := rfl
@[simp] theorem updLive_snap (f) (s : State) : (updLive f s).snap = s.snap := rfl
@[simp] theorem updLive_md (f) (s : State) : (updLive f s).md = s.md := rfl
@[simp] theorem updLive_keys (f) (s : State) : (updLive f s).keys = s.keys := rfl
@[simp] theorem updLive_fieth (f) (s : State) : (updLive f s).fieth = s.fieth := rfl
@[simp] theorem updLive_ports (f) (s : State) : (updLive f s).ports = s.ports := rfl
@[simp] theorem updLive_pres (f) (s : State) : (updLive f s).pres = s.pres := rfl
@[simp] theorem updLive_rmq (f) (s : State) : (updLive f s).rmq = s.rmq := rfl
@[simp] theorem updLive_rst (f) (s : State) : (updLive f s).rst = s.rst := rfl
@[simp] theorem updLive_dict (f) (s : State) : (updLive f s).dict = s.dict := rfl
@[simp] theorem updLive_force (f) (s : State) : (updLive f s).force = s.force := rfl
@[simp] theorem updLive_rtc (f) (s : State) : (updLive f s).rtc = s.rtc := rfl
@[simp] theorem updLive_freeCtr (f) (s : State) : (updLive f s).freeCtr = s.freeCtr := rfl
@[simp] theorem updLive_outbox (f) (s : State) : (updLive f s).outbox = s.outbox := rfl
@[simp] theorem updLive_pending (f) (s : State) : (updLive f s).pending = s.pending := rfl
@[simp] theorem updEng_host (f) (s : State) : (updEng f s).host = s.host := rfl
@[simp] theorem updEng_rc (f) (s : State) : (updEng f s).rc = s.rc := rfl
@[simp] theorem updEng_per (f) (s : State) : (updEng f s).per = s.per := rfl
@[simp] theorem updEng_eng (f) (s : State) : (updEng f s).eng = f s.eng := rfl
@[simp] theorem updEng_tier (f) (s : State) : (updEng f s).tier = s.tier := rfl
@[simp] theorem updEng_cs (f) (s : State) : (updEng f s).cs = s.cs := rfl
@[simp] theorem updEng_dram (f) (s : State) : (updEng f s).dram = s.dram := rfl
@[simp] theorem updEng_nand (f) (s : State) : (updEng f s).nand = s.nand := rfl
@[simp] theorem updEng_fix (f) (s : State) : (updEng f s).fix = s.fix := rfl
@[simp] theorem updEng_cp (f) (s : State) : (updEng f s).cp = s.cp := rfl
@[simp] theorem updEng_rec_ (f) (s : State) : (updEng f s).rec_ = s.rec_ := rfl
@[simp] theorem updEng_snap (f) (s : State) : (updEng f s).snap = s.snap := rfl
@[simp] theorem updEng_md (f) (s : State) : (updEng f s).md = s.md := rfl
@[simp] theorem updEng_keys (f) (s : State) : (updEng f s).keys = s.keys := rfl
@[simp] theorem updEng_fieth (f) (s : State) : (updEng f s).fieth = s.fieth := rfl
@[simp] theorem updEng_ports (f) (s : State) : (updEng f s).ports = s.ports := rfl
@[simp] theorem updEng_pres (f) (s : State) : (updEng f s).pres = s.pres := rfl
@[simp] theorem updEng_rmq (f) (s : State) : (updEng f s).rmq = s.rmq := rfl
@[simp] theorem updEng_rst (f) (s : State) : (updEng f s).rst = s.rst := rfl
@[simp] theorem updEng_dict (f) (s : State) : (updEng f s).dict = s.dict := rfl
@[simp] theorem updEng_force (f) (s : State) : (updEng f s).force = s.force := rfl
@[simp] theorem updEng_rtc (f) (s : State) : (updEng f s).rtc = s.rtc := rfl
@[simp] theorem updEng_freeCtr (f) (s : State) : (updEng f s).freeCtr = s.freeCtr := rfl
@[simp] theorem updEng_outbox (f) (s : State) : (updEng f s).outbox = s.outbox := rfl
@[simp] theorem updEng_pending (f) (s : State) : (updEng f s).pending = s.pending := rfl
@[simp] theorem updTier_host (f) (s : State) : (updTier f s).host = s.host := rfl
@[simp] theorem updTier_rc (f) (s : State) : (updTier f s).rc = s.rc := rfl
@[simp] theorem updTier_per (f) (s : State) : (updTier f s).per = s.per := rfl
@[simp] theorem updTier_eng (f) (s : State) : (updTier f s).eng = s.eng := rfl
@[simp] theorem updTier_tier (f) (s : State) : (updTier f s).tier = f s.tier := rfl
@[simp] theorem updTier_cs (f) (s : State) : (updTier f s).cs = s.cs := rfl
@[simp] theorem updTier_dram (f) (s : State) : (updTier f s).dram = s.dram := rfl
@[simp] theorem updTier_nand (f) (s : State) : (updTier f s).nand = s.nand := rfl
@[simp] theorem updTier_fix (f) (s : State) : (updTier f s).fix = s.fix := rfl
@[simp] theorem updTier_cp (f) (s : State) : (updTier f s).cp = s.cp := rfl
@[simp] theorem updTier_rec_ (f) (s : State) : (updTier f s).rec_ = s.rec_ := rfl
@[simp] theorem updTier_snap (f) (s : State) : (updTier f s).snap = s.snap := rfl
@[simp] theorem updTier_md (f) (s : State) : (updTier f s).md = s.md := rfl
@[simp] theorem updTier_keys (f) (s : State) : (updTier f s).keys = s.keys := rfl
@[simp] theorem updTier_fieth (f) (s : State) : (updTier f s).fieth = s.fieth := rfl
@[simp] theorem updTier_ports (f) (s : State) : (updTier f s).ports = s.ports := rfl
@[simp] theorem updTier_pres (f) (s : State) : (updTier f s).pres = s.pres := rfl
@[simp] theorem updTier_rmq (f) (s : State) : (updTier f s).rmq = s.rmq := rfl
@[simp] theorem updTier_rst (f) (s : State) : (updTier f s).rst = s.rst := rfl
@[simp] theorem updTier_dict (f) (s : State) : (updTier f s).dict = s.dict := rfl
@[simp] theorem updTier_force (f) (s : State) : (updTier f s).force = s.force := rfl
@[simp] theorem updTier_rtc (f) (s : State) : (updTier f s).rtc = s.rtc := rfl
@[simp] theorem updTier_freeCtr (f) (s : State) : (updTier f s).freeCtr = s.freeCtr := rfl
@[simp] theorem updTier_outbox (f) (s : State) : (updTier f s).outbox = s.outbox := rfl
@[simp] theorem updTier_pending (f) (s : State) : (updTier f s).pending = s.pending := rfl
@[simp] theorem updCs_host (f) (s : State) : (updCs f s).host = s.host := rfl
@[simp] theorem updCs_rc (f) (s : State) : (updCs f s).rc = s.rc := rfl
@[simp] theorem updCs_per (f) (s : State) : (updCs f s).per = s.per := rfl
@[simp] theorem updCs_eng (f) (s : State) : (updCs f s).eng = s.eng := rfl
@[simp] theorem updCs_tier (f) (s : State) : (updCs f s).tier = s.tier := rfl
@[simp] theorem updCs_cs (f) (s : State) : (updCs f s).cs = f s.cs := rfl
@[simp] theorem updCs_dram (f) (s : State) : (updCs f s).dram = s.dram := rfl
@[simp] theorem updCs_nand (f) (s : State) : (updCs f s).nand = s.nand := rfl
@[simp] theorem updCs_fix (f) (s : State) : (updCs f s).fix = s.fix := rfl
@[simp] theorem updCs_cp (f) (s : State) : (updCs f s).cp = s.cp := rfl
@[simp] theorem updCs_rec_ (f) (s : State) : (updCs f s).rec_ = s.rec_ := rfl
@[simp] theorem updCs_snap (f) (s : State) : (updCs f s).snap = s.snap := rfl
@[simp] theorem updCs_md (f) (s : State) : (updCs f s).md = s.md := rfl
@[simp] theorem updCs_keys (f) (s : State) : (updCs f s).keys = s.keys := rfl
@[simp] theorem updCs_fieth (f) (s : State) : (updCs f s).fieth = s.fieth := rfl
@[simp] theorem updCs_ports (f) (s : State) : (updCs f s).ports = s.ports := rfl
@[simp] theorem updCs_pres (f) (s : State) : (updCs f s).pres = s.pres := rfl
@[simp] theorem updCs_rmq (f) (s : State) : (updCs f s).rmq = s.rmq := rfl
@[simp] theorem updCs_rst (f) (s : State) : (updCs f s).rst = s.rst := rfl
@[simp] theorem updCs_dict (f) (s : State) : (updCs f s).dict = s.dict := rfl
@[simp] theorem updCs_force (f) (s : State) : (updCs f s).force = s.force := rfl
@[simp] theorem updCs_rtc (f) (s : State) : (updCs f s).rtc = s.rtc := rfl
@[simp] theorem updCs_freeCtr (f) (s : State) : (updCs f s).freeCtr = s.freeCtr := rfl
@[simp] theorem updCs_outbox (f) (s : State) : (updCs f s).outbox = s.outbox := rfl
@[simp] theorem updCs_pending (f) (s : State) : (updCs f s).pending = s.pending := rfl
@[simp] theorem updDram_host (f) (s : State) : (updDram f s).host = s.host := rfl
@[simp] theorem updDram_rc (f) (s : State) : (updDram f s).rc = s.rc := rfl
@[simp] theorem updDram_per (f) (s : State) : (updDram f s).per = s.per := rfl
@[simp] theorem updDram_eng (f) (s : State) : (updDram f s).eng = s.eng := rfl
@[simp] theorem updDram_tier (f) (s : State) : (updDram f s).tier = s.tier := rfl
@[simp] theorem updDram_cs (f) (s : State) : (updDram f s).cs = s.cs := rfl
@[simp] theorem updDram_dram (f) (s : State) : (updDram f s).dram = f s.dram := rfl
@[simp] theorem updDram_nand (f) (s : State) : (updDram f s).nand = s.nand := rfl
@[simp] theorem updDram_fix (f) (s : State) : (updDram f s).fix = s.fix := rfl
@[simp] theorem updDram_cp (f) (s : State) : (updDram f s).cp = s.cp := rfl
@[simp] theorem updDram_rec_ (f) (s : State) : (updDram f s).rec_ = s.rec_ := rfl
@[simp] theorem updDram_snap (f) (s : State) : (updDram f s).snap = s.snap := rfl
@[simp] theorem updDram_md (f) (s : State) : (updDram f s).md = s.md := rfl
@[simp] theorem updDram_keys (f) (s : State) : (updDram f s).keys = s.keys := rfl
@[simp] theorem updDram_fieth (f) (s : State) : (updDram f s).fieth = s.fieth := rfl
@[simp] theorem updDram_ports (f) (s : State) : (updDram f s).ports = s.ports := rfl
@[simp] theorem updDram_pres (f) (s : State) : (updDram f s).pres = s.pres := rfl
@[simp] theorem updDram_rmq (f) (s : State) : (updDram f s).rmq = s.rmq := rfl
@[simp] theorem updDram_rst (f) (s : State) : (updDram f s).rst = s.rst := rfl
@[simp] theorem updDram_dict (f) (s : State) : (updDram f s).dict = s.dict := rfl
@[simp] theorem updDram_force (f) (s : State) : (updDram f s).force = s.force := rfl
@[simp] theorem updDram_rtc (f) (s : State) : (updDram f s).rtc = s.rtc := rfl
@[simp] theorem updDram_freeCtr (f) (s : State) : (updDram f s).freeCtr = s.freeCtr := rfl
@[simp] theorem updDram_outbox (f) (s : State) : (updDram f s).outbox = s.outbox := rfl
@[simp] theorem updDram_pending (f) (s : State) : (updDram f s).pending = s.pending := rfl
@[simp] theorem updNand_host (f) (s : State) : (updNand f s).host = s.host := rfl
@[simp] theorem updNand_rc (f) (s : State) : (updNand f s).rc = s.rc := rfl
@[simp] theorem updNand_per (f) (s : State) : (updNand f s).per = s.per := rfl
@[simp] theorem updNand_eng (f) (s : State) : (updNand f s).eng = s.eng := rfl
@[simp] theorem updNand_tier (f) (s : State) : (updNand f s).tier = s.tier := rfl
@[simp] theorem updNand_cs (f) (s : State) : (updNand f s).cs = s.cs := rfl
@[simp] theorem updNand_dram (f) (s : State) : (updNand f s).dram = s.dram := rfl
@[simp] theorem updNand_nand (f) (s : State) : (updNand f s).nand = f s.nand := rfl
@[simp] theorem updNand_fix (f) (s : State) : (updNand f s).fix = s.fix := rfl
@[simp] theorem updNand_cp (f) (s : State) : (updNand f s).cp = s.cp := rfl
@[simp] theorem updNand_rec_ (f) (s : State) : (updNand f s).rec_ = s.rec_ := rfl
@[simp] theorem updNand_snap (f) (s : State) : (updNand f s).snap = s.snap := rfl
@[simp] theorem updNand_md (f) (s : State) : (updNand f s).md = s.md := rfl
@[simp] theorem updNand_keys (f) (s : State) : (updNand f s).keys = s.keys := rfl
@[simp] theorem updNand_fieth (f) (s : State) : (updNand f s).fieth = s.fieth := rfl
@[simp] theorem updNand_ports (f) (s : State) : (updNand f s).ports = s.ports := rfl
@[simp] theorem updNand_pres (f) (s : State) : (updNand f s).pres = s.pres := rfl
@[simp] theorem updNand_rmq (f) (s : State) : (updNand f s).rmq = s.rmq := rfl
@[simp] theorem updNand_rst (f) (s : State) : (updNand f s).rst = s.rst := rfl
@[simp] theorem updNand_dict (f) (s : State) : (updNand f s).dict = s.dict := rfl
@[simp] theorem updNand_force (f) (s : State) : (updNand f s).force = s.force := rfl
@[simp] theorem updNand_rtc (f) (s : State) : (updNand f s).rtc = s.rtc := rfl
@[simp] theorem updNand_freeCtr (f) (s : State) : (updNand f s).freeCtr = s.freeCtr := rfl
@[simp] theorem updNand_outbox (f) (s : State) : (updNand f s).outbox = s.outbox := rfl
@[simp] theorem updNand_pending (f) (s : State) : (updNand f s).pending = s.pending := rfl
@[simp] theorem updFix_host (f) (s : State) : (updFix f s).host = s.host := rfl
@[simp] theorem updFix_rc (f) (s : State) : (updFix f s).rc = s.rc := rfl
@[simp] theorem updFix_per (f) (s : State) : (updFix f s).per = s.per := rfl
@[simp] theorem updFix_eng (f) (s : State) : (updFix f s).eng = s.eng := rfl
@[simp] theorem updFix_tier (f) (s : State) : (updFix f s).tier = s.tier := rfl
@[simp] theorem updFix_cs (f) (s : State) : (updFix f s).cs = s.cs := rfl
@[simp] theorem updFix_dram (f) (s : State) : (updFix f s).dram = s.dram := rfl
@[simp] theorem updFix_nand (f) (s : State) : (updFix f s).nand = s.nand := rfl
@[simp] theorem updFix_fix (f) (s : State) : (updFix f s).fix = f s.fix := rfl
@[simp] theorem updFix_cp (f) (s : State) : (updFix f s).cp = s.cp := rfl
@[simp] theorem updFix_rec_ (f) (s : State) : (updFix f s).rec_ = s.rec_ := rfl
@[simp] theorem updFix_snap (f) (s : State) : (updFix f s).snap = s.snap := rfl
@[simp] theorem updFix_md (f) (s : State) : (updFix f s).md = s.md := rfl
@[simp] theorem updFix_keys (f) (s : State) : (updFix f s).keys = s.keys := rfl
@[simp] theorem updFix_fieth (f) (s : State) : (updFix f s).fieth = s.fieth := rfl
@[simp] theorem updFix_ports (f) (s : State) : (updFix f s).ports = s.ports := rfl
@[simp] theorem updFix_pres (f) (s : State) : (updFix f s).pres = s.pres := rfl
@[simp] theorem updFix_rmq (f) (s : State) : (updFix f s).rmq = s.rmq := rfl
@[simp] theorem updFix_rst (f) (s : State) : (updFix f s).rst = s.rst := rfl
@[simp] theorem updFix_dict (f) (s : State) : (updFix f s).dict = s.dict := rfl
@[simp] theorem updFix_force (f) (s : State) : (updFix f s).force = s.force := rfl
@[simp] theorem updFix_rtc (f) (s : State) : (updFix f s).rtc = s.rtc := rfl
@[simp] theorem updFix_freeCtr (f) (s : State) : (updFix f s).freeCtr = s.freeCtr := rfl
@[simp] theorem updFix_outbox (f) (s : State) : (updFix f s).outbox = s.outbox := rfl
@[simp] theorem updFix_pending (f) (s : State) : (updFix f s).pending = s.pending := rfl
@[simp] theorem updCp_host (f) (s : State) : (updCp f s).host = s.host := rfl
@[simp] theorem updCp_rc (f) (s : State) : (updCp f s).rc = s.rc := rfl
@[simp] theorem updCp_per (f) (s : State) : (updCp f s).per = s.per := rfl
@[simp] theorem updCp_eng (f) (s : State) : (updCp f s).eng = s.eng := rfl
@[simp] theorem updCp_tier (f) (s : State) : (updCp f s).tier = s.tier := rfl
@[simp] theorem updCp_cs (f) (s : State) : (updCp f s).cs = s.cs := rfl
@[simp] theorem updCp_dram (f) (s : State) : (updCp f s).dram = s.dram := rfl
@[simp] theorem updCp_nand (f) (s : State) : (updCp f s).nand = s.nand := rfl
@[simp] theorem updCp_fix (f) (s : State) : (updCp f s).fix = s.fix := rfl
@[simp] theorem updCp_cp (f) (s : State) : (updCp f s).cp = f s.cp := rfl
@[simp] theorem updCp_rec_ (f) (s : State) : (updCp f s).rec_ = s.rec_ := rfl
@[simp] theorem updCp_snap (f) (s : State) : (updCp f s).snap = s.snap := rfl
@[simp] theorem updCp_md (f) (s : State) : (updCp f s).md = s.md := rfl
@[simp] theorem updCp_keys (f) (s : State) : (updCp f s).keys = s.keys := rfl
@[simp] theorem updCp_fieth (f) (s : State) : (updCp f s).fieth = s.fieth := rfl
@[simp] theorem updCp_ports (f) (s : State) : (updCp f s).ports = s.ports := rfl
@[simp] theorem updCp_pres (f) (s : State) : (updCp f s).pres = s.pres := rfl
@[simp] theorem updCp_rmq (f) (s : State) : (updCp f s).rmq = s.rmq := rfl
@[simp] theorem updCp_rst (f) (s : State) : (updCp f s).rst = s.rst := rfl
@[simp] theorem updCp_dict (f) (s : State) : (updCp f s).dict = s.dict := rfl
@[simp] theorem updCp_force (f) (s : State) : (updCp f s).force = s.force := rfl
@[simp] theorem updCp_rtc (f) (s : State) : (updCp f s).rtc = s.rtc := rfl
@[simp] theorem updCp_freeCtr (f) (s : State) : (updCp f s).freeCtr = s.freeCtr := rfl
@[simp] theorem updCp_outbox (f) (s : State) : (updCp f s).outbox = s.outbox := rfl
@[simp] theorem updCp_pending (f) (s : State) : (updCp f s).pending = s.pending := rfl
@[simp] theorem updRecall_host (f) (s : State) : (updRecall f s).host = s.host := rfl
@[simp] theorem updRecall_rc (f) (s : State) : (updRecall f s).rc = s.rc := rfl
@[simp] theorem updRecall_per (f) (s : State) : (updRecall f s).per = s.per := rfl
@[simp] theorem updRecall_eng (f) (s : State) : (updRecall f s).eng = s.eng := rfl
@[simp] theorem updRecall_tier (f) (s : State) : (updRecall f s).tier = s.tier := rfl
@[simp] theorem updRecall_cs (f) (s : State) : (updRecall f s).cs = s.cs := rfl
@[simp] theorem updRecall_dram (f) (s : State) : (updRecall f s).dram = s.dram := rfl
@[simp] theorem updRecall_nand (f) (s : State) : (updRecall f s).nand = s.nand := rfl
@[simp] theorem updRecall_fix (f) (s : State) : (updRecall f s).fix = s.fix := rfl
@[simp] theorem updRecall_cp (f) (s : State) : (updRecall f s).cp = s.cp := rfl
@[simp] theorem updRecall_rec_ (f) (s : State) : (updRecall f s).rec_ = f s.rec_ := rfl
@[simp] theorem updRecall_snap (f) (s : State) : (updRecall f s).snap = s.snap := rfl
@[simp] theorem updRecall_md (f) (s : State) : (updRecall f s).md = s.md := rfl
@[simp] theorem updRecall_keys (f) (s : State) : (updRecall f s).keys = s.keys := rfl
@[simp] theorem updRecall_fieth (f) (s : State) : (updRecall f s).fieth = s.fieth := rfl
@[simp] theorem updRecall_ports (f) (s : State) : (updRecall f s).ports = s.ports := rfl
@[simp] theorem updRecall_pres (f) (s : State) : (updRecall f s).pres = s.pres := rfl
@[simp] theorem updRecall_rmq (f) (s : State) : (updRecall f s).rmq = s.rmq := rfl
@[simp] theorem updRecall_rst (f) (s : State) : (updRecall f s).rst = s.rst := rfl
@[simp] theorem updRecall_dict (f) (s : State) : (updRecall f s).dict = s.dict := rfl
@[simp] theorem updRecall_force (f) (s : State) : (updRecall f s).force = s.force := rfl
@[simp] theorem updRecall_rtc (f) (s : State) : (updRecall f s).rtc = s.rtc := rfl
@[simp] theorem updRecall_freeCtr (f) (s : State) : (updRecall f s).freeCtr = s.freeCtr := rfl
@[simp] theorem updRecall_outbox (f) (s : State) : (updRecall f s).outbox = s.outbox := rfl
@[simp] theorem updRecall_pending (f) (s : State) : (updRecall f s).pending = s.pending := rfl
@[simp] theorem updSnap_host (f) (s : State) : (updSnap f s).host = s.host := rfl
@[simp] theorem updSnap_rc (f) (s : State) : (updSnap f s).rc = s.rc := rfl
@[simp] theorem updSnap_per (f) (s : State) : (updSnap f s).per = s.per := rfl
@[simp] theorem updSnap_eng (f) (s : State) : (updSnap f s).eng = s.eng := rfl
@[simp] theorem updSnap_tier (f) (s : State) : (updSnap f s).tier = s.tier := rfl
@[simp] theorem updSnap_cs (f) (s : State) : (updSnap f s).cs = s.cs := rfl
@[simp] theorem updSnap_dram (f) (s : State) : (updSnap f s).dram = s.dram := rfl
@[simp] theorem updSnap_nand (f) (s : State) : (updSnap f s).nand = s.nand := rfl
@[simp] theorem updSnap_fix (f) (s : State) : (updSnap f s).fix = s.fix := rfl
@[simp] theorem updSnap_cp (f) (s : State) : (updSnap f s).cp = s.cp := rfl
@[simp] theorem updSnap_rec_ (f) (s : State) : (updSnap f s).rec_ = s.rec_ := rfl
@[simp] theorem updSnap_snap (f) (s : State) : (updSnap f s).snap = f s.snap := rfl
@[simp] theorem updSnap_md (f) (s : State) : (updSnap f s).md = s.md := rfl
@[simp] theorem updSnap_keys (f) (s : State) : (updSnap f s).keys = s.keys := rfl
@[simp] theorem updSnap_fieth (f) (s : State) : (updSnap f s).fieth = s.fieth := rfl
@[simp] theorem updSnap_ports (f) (s : State) : (updSnap f s).ports = s.ports := rfl
@[simp] theorem updSnap_pres (f) (s : State) : (updSnap f s).pres = s.pres := rfl
@[simp] theorem updSnap_rmq (f) (s : State) : (updSnap f s).rmq = s.rmq := rfl
@[simp] theorem updSnap_rst (f) (s : State) : (updSnap f s).rst = s.rst := rfl
@[simp] theorem updSnap_dict (f) (s : State) : (updSnap f s).dict = s.dict := rfl
@[simp] theorem updSnap_force (f) (s : State) : (updSnap f s).force = s.force := rfl
@[simp] theorem updSnap_rtc (f) (s : State) : (updSnap f s).rtc = s.rtc := rfl
@[simp] theorem updSnap_freeCtr (f) (s : State) : (updSnap f s).freeCtr = s.freeCtr := rfl
@[simp] theorem updSnap_outbox (f) (s : State) : (updSnap f s).outbox = s.outbox := rfl
@[simp] theorem updSnap_pending (f) (s : State) : (updSnap f s).pending = s.pending := rfl
@[simp] theorem updMode_host (f) (s : State) : (updMode f s).host = s.host := rfl
@[simp] theorem updMode_rc (f) (s : State) : (updMode f s).rc = s.rc := rfl
@[simp] theorem updMode_per (f) (s : State) : (updMode f s).per = s.per := rfl
@[simp] theorem updMode_eng (f) (s : State) : (updMode f s).eng = s.eng := rfl
@[simp] theorem updMode_tier (f) (s : State) : (updMode f s).tier = s.tier := rfl
@[simp] theorem updMode_cs (f) (s : State) : (updMode f s).cs = s.cs := rfl
@[simp] theorem updMode_dram (f) (s : State) : (updMode f s).dram = s.dram := rfl
@[simp] theorem updMode_nand (f) (s : State) : (updMode f s).nand = s.nand := rfl
@[simp] theorem updMode_fix (f) (s : State) : (updMode f s).fix = s.fix := rfl
@[simp] theorem updMode_cp (f) (s : State) : (updMode f s).cp = s.cp := rfl
@[simp] theorem updMode_rec_ (f) (s : State) : (updMode f s).rec_ = s.rec_ := rfl
@[simp] theorem updMode_snap (f) (s : State) : (updMode f s).snap = s.snap := rfl
@[simp] theorem updMode_md (f) (s : State) : (updMode f s).md = f s.md := rfl
@[simp] theorem updMode_keys (f) (s : State) : (updMode f s).keys = s.keys := rfl
@[simp] theorem updMode_fieth (f) (s : State) : (updMode f s).fieth = s.fieth := rfl
@[simp] theorem updMode_ports (f) (s : State) : (updMode f s).ports = s.ports := rfl
@[simp] theorem updMode_pres (f) (s : State) : (updMode f s).pres = s.pres := rfl
@[simp] theorem updMode_rmq (f) (s : State) : (updMode f s).rmq = s.rmq := rfl
@[simp] theorem updMode_rst (f) (s : State) : (updMode f s).rst = s.rst := rfl
@[simp] theorem updMode_dict (f) (s : State) : (updMode f s).dict = s.dict := rfl
@[simp] theorem updMode_force (f) (s : State) : (updMode f s).force = s.force := rfl
@[simp] theorem updMode_rtc (f) (s : State) : (updMode f s).rtc = s.rtc := rfl
@[simp] theorem updMode_freeCtr (f) (s : State) : (updMode f s).freeCtr = s.freeCtr := rfl
@[simp] theorem updMode_outbox (f) (s : State) : (updMode f s).outbox = s.outbox := rfl
@[simp] theorem updMode_pending (f) (s : State) : (updMode f s).pending = s.pending := rfl
@[simp] theorem updKeys_host (f) (s : State) : (updKeys f s).host = s.host := rfl
@[simp] theorem updKeys_rc (f) (s : State) : (updKeys f s).rc = s.rc := rfl
@[simp] theorem updKeys_per (f) (s : State) : (updKeys f s).per = s.per := rfl
@[simp] theorem updKeys_eng (f) (s : State) : (updKeys f s).eng = s.eng := rfl
@[simp] theorem updKeys_tier (f) (s : State) : (updKeys f s).tier = s.tier := rfl
@[simp] theorem updKeys_cs (f) (s : State) : (updKeys f s).cs = s.cs := rfl
@[simp] theorem updKeys_dram (f) (s : State) : (updKeys f s).dram = s.dram := rfl
@[simp] theorem updKeys_nand (f) (s : State) : (updKeys f s).nand = s.nand := rfl
@[simp] theorem updKeys_fix (f) (s : State) : (updKeys f s).fix = s.fix := rfl
@[simp] theorem updKeys_cp (f) (s : State) : (updKeys f s).cp = s.cp := rfl
@[simp] theorem updKeys_rec_ (f) (s : State) : (updKeys f s).rec_ = s.rec_ := rfl
@[simp] theorem updKeys_snap (f) (s : State) : (updKeys f s).snap = s.snap := rfl
@[simp] theorem updKeys_md (f) (s : State) : (updKeys f s).md = s.md := rfl
@[simp] theorem updKeys_keys (f) (s : State) : (updKeys f s).keys = f s.keys := rfl
@[simp] theorem updKeys_fieth (f) (s : State) : (updKeys f s).fieth = s.fieth := rfl
@[simp] theorem updKeys_ports (f) (s : State) : (updKeys f s).ports = s.ports := rfl
@[simp] theorem updKeys_pres (f) (s : State) : (updKeys f s).pres = s.pres := rfl
@[simp] theorem updKeys_rmq (f) (s : State) : (updKeys f s).rmq = s.rmq := rfl
@[simp] theorem updKeys_rst (f) (s : State) : (updKeys f s).rst = s.rst := rfl
@[simp] theorem updKeys_dict (f) (s : State) : (updKeys f s).dict = s.dict := rfl
@[simp] theorem updKeys_force (f) (s : State) : (updKeys f s).force = s.force := rfl
@[simp] theorem updKeys_rtc (f) (s : State) : (updKeys f s).rtc = s.rtc := rfl
@[simp] theorem updKeys_freeCtr (f) (s : State) : (updKeys f s).freeCtr = s.freeCtr := rfl
@[simp] theorem updKeys_outbox (f) (s : State) : (updKeys f s).outbox = s.outbox := rfl
@[simp] theorem updKeys_pending (f) (s : State) : (updKeys f s).pending = s.pending := rfl
@[simp] theorem updFieth_host (f) (s : State) : (updFieth f s).host = s.host := rfl
@[simp] theorem updFieth_rc (f) (s : State) : (updFieth f s).rc = s.rc := rfl
@[simp] theorem updFieth_per (f) (s : State) : (updFieth f s).per = s.per := rfl
@[simp] theorem updFieth_eng (f) (s : State) : (updFieth f s).eng = s.eng := rfl
@[simp] theorem updFieth_tier (f) (s : State) : (updFieth f s).tier = s.tier := rfl
@[simp] theorem updFieth_cs (f) (s : State) : (updFieth f s).cs = s.cs := rfl
@[simp] theorem updFieth_dram (f) (s : State) : (updFieth f s).dram = s.dram := rfl
@[simp] theorem updFieth_nand (f) (s : State) : (updFieth f s).nand = s.nand := rfl
@[simp] theorem updFieth_fix (f) (s : State) : (updFieth f s).fix = s.fix := rfl
@[simp] theorem updFieth_cp (f) (s : State) : (updFieth f s).cp = s.cp := rfl
@[simp] theorem updFieth_rec_ (f) (s : State) : (updFieth f s).rec_ = s.rec_ := rfl
@[simp] theorem updFieth_snap (f) (s : State) : (updFieth f s).snap = s.snap := rfl
@[simp] theorem updFieth_md (f) (s : State) : (updFieth f s).md = s.md := rfl
@[simp] theorem updFieth_keys (f) (s : State) : (updFieth f s).keys = s.keys := rfl
@[simp] theorem updFieth_fieth (f) (s : State) : (updFieth f s).fieth = f s.fieth := rfl
@[simp] theorem updFieth_ports (f) (s : State) : (updFieth f s).ports = s.ports := rfl
@[simp] theorem updFieth_pres (f) (s : State) : (updFieth f s).pres = s.pres := rfl
@[simp] theorem updFieth_rmq (f) (s : State) : (updFieth f s).rmq = s.rmq := rfl
@[simp] theorem updFieth_rst (f) (s : State) : (updFieth f s).rst = s.rst := rfl
@[simp] theorem updFieth_dict (f) (s : State) : (updFieth f s).dict = s.dict := rfl
@[simp] theorem updFieth_force (f) (s : State) : (updFieth f s).force = s.force := rfl
@[simp] theorem updFieth_rtc (f) (s : State) : (updFieth f s).rtc = s.rtc := rfl
@[simp] theorem updFieth_freeCtr (f) (s : State) : (updFieth f s).freeCtr = s.freeCtr := rfl
@[simp] theorem updFieth_outbox (f) (s : State) : (updFieth f s).outbox = s.outbox := rfl
@[simp] theorem updFieth_pending (f) (s : State) : (updFieth f s).pending = s.pending := rfl
@[simp] theorem updPres_host (f) (s : State) : (updPres f s).host = s.host := rfl
@[simp] theorem updPres_rc (f) (s : State) : (updPres f s).rc = s.rc := rfl
@[simp] theorem updPres_per (f) (s : State) : (updPres f s).per = s.per := rfl
@[simp] theorem updPres_eng (f) (s : State) : (updPres f s).eng = s.eng := rfl
@[simp] theorem updPres_tier (f) (s : State) : (updPres f s).tier = s.tier := rfl
@[simp] theorem updPres_cs (f) (s : State) : (updPres f s).cs = s.cs := rfl
@[simp] theorem updPres_dram (f) (s : State) : (updPres f s).dram = s.dram := rfl
@[simp] theorem updPres_nand (f) (s : State) : (updPres f s).nand = s.nand := rfl
@[simp] theorem updPres_fix (f) (s : State) : (updPres f s).fix = s.fix := rfl
@[simp] theorem updPres_cp (f) (s : State) : (updPres f s).cp = s.cp := rfl
@[simp] theorem updPres_rec_ (f) (s : State) : (updPres f s).rec_ = s.rec_ := rfl
@[simp] theorem updPres_snap (f) (s : State) : (updPres f s).snap = s.snap := rfl
@[simp] theorem updPres_md (f) (s : State) : (updPres f s).md = s.md := rfl
@[simp] theorem updPres_keys (f) (s : State) : (updPres f s).keys = s.keys := rfl
@[simp] theorem updPres_fieth (f) (s : State) : (updPres f s).fieth = s.fieth := rfl
@[simp] theorem updPres_ports (f) (s : State) : (updPres f s).ports = s.ports := rfl
@[simp] theorem updPres_pres (f) (s : State) : (updPres f s).pres = f s.pres := rfl
@[simp] theorem updPres_rmq (f) (s : State) : (updPres f s).rmq = s.rmq := rfl
@[simp] theorem updPres_rst (f) (s : State) : (updPres f s).rst = s.rst := rfl
@[simp] theorem updPres_dict (f) (s : State) : (updPres f s).dict = s.dict := rfl
@[simp] theorem updPres_force (f) (s : State) : (updPres f s).force = s.force := rfl
@[simp] theorem updPres_rtc (f) (s : State) : (updPres f s).rtc = s.rtc := rfl
@[simp] theorem updPres_freeCtr (f) (s : State) : (updPres f s).freeCtr = s.freeCtr := rfl
@[simp] theorem updPres_outbox (f) (s : State) : (updPres f s).outbox = s.outbox := rfl
@[simp] theorem updPres_pending (f) (s : State) : (updPres f s).pending = s.pending := rfl
@[simp] theorem updRmq_host (f) (s : State) : (updRmq f s).host = s.host := rfl
@[simp] theorem updRmq_rc (f) (s : State) : (updRmq f s).rc = s.rc := rfl
@[simp] theorem updRmq_per (f) (s : State) : (updRmq f s).per = s.per := rfl
@[simp] theorem updRmq_eng (f) (s : State) : (updRmq f s).eng = s.eng := rfl
@[simp] theorem updRmq_tier (f) (s : State) : (updRmq f s).tier = s.tier := rfl
@[simp] theorem updRmq_cs (f) (s : State) : (updRmq f s).cs = s.cs := rfl
@[simp] theorem updRmq_dram (f) (s : State) : (updRmq f s).dram = s.dram := rfl
@[simp] theorem updRmq_nand (f) (s : State) : (updRmq f s).nand = s.nand := rfl
@[simp] theorem updRmq_fix (f) (s : State) : (updRmq f s).fix = s.fix := rfl
@[simp] theorem updRmq_cp (f) (s : State) : (updRmq f s).cp = s.cp := rfl
@[simp] theorem updRmq_rec_ (f) (s : State) : (updRmq f s).rec_ = s.rec_ := rfl
@[simp] theorem updRmq_snap (f) (s : State) : (updRmq f s).snap = s.snap := rfl
@[simp] theorem updRmq_md (f) (s : State) : (updRmq f s).md = s.md := rfl
@[simp] theorem updRmq_keys (f) (s : State) : (updRmq f s).keys = s.keys := rfl
@[simp] theorem updRmq_fieth (f) (s : State) : (updRmq f s).fieth = s.fieth := rfl
@[simp] theorem updRmq_ports (f) (s : State) : (updRmq f s).ports = s.ports := rfl
@[simp] theorem updRmq_pres (f) (s : State) : (updRmq f s).pres = s.pres := rfl
@[simp] theorem updRmq_rmq (f) (s : State) : (updRmq f s).rmq = f s.rmq := rfl
@[simp] theorem updRmq_rst (f) (s : State) : (updRmq f s).rst = s.rst := rfl
@[simp] theorem updRmq_dict (f) (s : State) : (updRmq f s).dict = s.dict := rfl
@[simp] theorem updRmq_force (f) (s : State) : (updRmq f s).force = s.force := rfl
@[simp] theorem updRmq_rtc (f) (s : State) : (updRmq f s).rtc = s.rtc := rfl
@[simp] theorem updRmq_freeCtr (f) (s : State) : (updRmq f s).freeCtr = s.freeCtr := rfl
@[simp] theorem updRmq_outbox (f) (s : State) : (updRmq f s).outbox = s.outbox := rfl
@[simp] theorem updRmq_pending (f) (s : State) : (updRmq f s).pending = s.pending := rfl
@[simp] theorem updRst_host (f) (s : State) : (updRst f s).host = s.host := rfl
@[simp] theorem updRst_rc (f) (s : State) : (updRst f s).rc = s.rc := rfl
@[simp] theorem updRst_per (f) (s : State) : (updRst f s).per = s.per := rfl
@[simp] theorem updRst_eng (f) (s : State) : (updRst f s).eng = s.eng := rfl
@[simp] theorem updRst_tier (f) (s : State) : (updRst f s).tier = s.tier := rfl
@[simp] theorem updRst_cs (f) (s : State) : (updRst f s).cs = s.cs := rfl
@[simp] theorem updRst_dram (f) (s : State) : (updRst f s).dram = s.dram := rfl
@[simp] theorem updRst_nand (f) (s : State) : (updRst f s).nand = s.nand := rfl
@[simp] theorem updRst_fix (f) (s : State) : (updRst f s).fix = s.fix := rfl
@[simp] theorem updRst_cp (f) (s : State) : (updRst f s).cp = s.cp := rfl
@[simp] theorem updRst_rec_ (f) (s : State) : (updRst f s).rec_ = s.rec_ := rfl
@[simp] theorem updRst_snap (f) (s : State) : (updRst f s).snap = s.snap := rfl
@[simp] theorem updRst_md (f) (s : State) : (updRst f s).md = s.md := rfl
@[simp] theorem updRst_keys (f) (s : State) : (updRst f s).keys = s.keys := rfl
@[simp] theorem updRst_fieth (f) (s : State) : (updRst f s).fieth = s.fieth := rfl
@[simp] theorem updRst_ports (f) (s : State) : (updRst f s).ports = s.ports := rfl
@[simp] theorem updRst_pres (f) (s : State) : (updRst f s).pres = s.pres := rfl
@[simp] theorem updRst_rmq (f) (s : State) : (updRst f s).rmq = s.rmq := rfl
@[simp] theorem updRst_rst (f) (s : State) : (updRst f s).rst = f s.rst := rfl
@[simp] theorem updRst_dict (f) (s : State) : (updRst f s).dict = s.dict := rfl
@[simp] theorem updRst_force (f) (s : State) : (updRst f s).force = s.force := rfl
@[simp] theorem updRst_rtc (f) (s : State) : (updRst f s).rtc = s.rtc := rfl
@[simp] theorem updRst_freeCtr (f) (s : State) : (updRst f s).freeCtr = s.freeCtr := rfl
@[simp] theorem updRst_outbox (f) (s : State) : (updRst f s).outbox = s.outbox := rfl
@[simp] theorem updRst_pending (f) (s : State) : (updRst f s).pending = s.pending := rfl
@[simp] theorem emit_host (o : Out) (s : State) : (emit o s).host = s.host := rfl
@[simp] theorem emit_rc (o : Out) (s : State) : (emit o s).rc = s.rc := rfl
@[simp] theorem emit_per (o : Out) (s : State) : (emit o s).per = s.per := rfl
@[simp] theorem emit_eng (o : Out) (s : State) : (emit o s).eng = s.eng := rfl
@[simp] theorem emit_tier (o : Out) (s : State) : (emit o s).tier = s.tier := rfl
@[simp] theorem emit_cs (o : Out) (s : State) : (emit o s).cs = s.cs := rfl
@[simp] theorem emit_dram (o : Out) (s : State) : (emit o s).dram = s.dram := rfl
@[simp] theorem emit_nand (o : Out) (s : State) : (emit o s).nand = s.nand := rfl
@[simp] theorem emit_fix (o : Out) (s : State) : (emit o s).fix = s.fix := rfl
@[simp] theorem emit_cp (o : Out) (s : State) : (emit o s).cp = s.cp := rfl
@[simp] theorem emit_rec_ (o : Out) (s : State) : (emit o s).rec_ = s.rec_ := rfl
@[simp] theorem emit_snap (o : Out) (s : State) : (emit o s).snap = s.snap := rfl
@[simp] theorem emit_md (o : Out) (s : State) : (emit o s).md = s.md := rfl
@[simp] theorem emit_keys (o : Out) (s : State) : (emit o s).keys = s.keys := rfl
@[simp] theorem emit_fieth (o : Out) (s : State) : (emit o s).fieth = s.fieth := rfl
@[simp] theorem emit_ports (o : Out) (s : State) : (emit o s).ports = s.ports := rfl
@[simp] theorem emit_pres (o : Out) (s : State) : (emit o s).pres = s.pres := rfl
@[simp] theorem emit_rmq (o : Out) (s : State) : (emit o s).rmq = s.rmq := rfl
@[simp] theorem emit_rst (o : Out) (s : State) : (emit o s).rst = s.rst := rfl
@[simp] theorem emit_dict (o : Out) (s : State) : (emit o s).dict = s.dict := rfl
@[simp] theorem emit_force (o : Out) (s : State) : (emit o s).force = s.force := rfl
@[simp] theorem emit_rtc (o : Out) (s : State) : (emit o s).rtc = s.rtc := rfl
@[simp] theorem emit_freeCtr (o : Out) (s : State) : (emit o s).freeCtr = s.freeCtr := rfl
@[simp] theorem emit_pending (o : Out) (s : State) : (emit o s).pending = s.pending := rfl
@[simp] theorem dset_host (k v : Nat) (s : State) : (dset k v s).host = s.host := rfl
@[simp] theorem dset_rc (k v : Nat) (s : State) : (dset k v s).rc = s.rc := rfl
@[simp] theorem dset_per (k v : Nat) (s : State) : (dset k v s).per = s.per := rfl
@[simp] theorem dset_eng (k v : Nat) (s : State) : (dset k v s).eng = s.eng := rfl
@[simp] theorem dset_tier (k v : Nat) (s : State) : (dset k v s).tier = s.tier := rfl
@[simp] theorem dset_cs (k v : Nat) (s : State) : (dset k v s).cs = s.cs := rfl
@[simp] theorem dset_dram (k v : Nat) (s : State) : (dset k v s).dram = s.dram := rfl
@[simp] theorem dset_nand (k v : Nat) (s : State) : (dset k v s).nand = s.nand := rfl
@[simp] theorem dset_fix (k v : Nat) (s : State) : (dset k v s).fix = s.fix := rfl
@[simp] theorem dset_cp (k v : Nat) (s : State) : (dset k v s).cp = s.cp := rfl
@[simp] theorem dset_rec_ (k v : Nat) (s : State) : (dset k v s).rec_ = s.rec_ := rfl
@[simp] theorem dset_snap (k v : Nat) (s : State) : (dset k v s).snap = s.snap := rfl
@[simp] theorem dset_md (k v : Nat) (s : State) : (dset k v s).md = s.md := rfl
@[simp] theorem dset_keys (k v : Nat) (s : State) : (dset k v s).keys = s.keys := rfl
@[simp] theorem dset_fieth (k v : Nat) (s : State) : (dset k v s).fieth = s.fieth := rfl
@[simp] theorem dset_ports (k v : Nat) (s : State) : (dset k v s).ports = s.ports := rfl
@[simp] theorem dset_pres (k v : Nat) (s : State) : (dset k v s).pres = s.pres := rfl
@[simp] theorem dset_rmq (k v : Nat) (s : State) : (dset k v s).rmq = s.rmq := rfl
@[simp] theorem dset_rst (k v : Nat) (s : State) : (dset k v s).rst = s.rst := rfl
@[simp] theorem dset_force (k v : Nat) (s : State) : (dset k v s).force = s.force := rfl
@[simp] theorem dset_rtc (k v : Nat) (s : State) : (dset k v s).rtc = s.rtc := rfl
@[simp] theorem dset_freeCtr (k v : Nat) (s : State) : (dset k v s).freeCtr = s.freeCtr := rfl
@[simp] theorem dset_outbox (k v : Nat) (s : State) : (dset k v s).outbox = s.outbox := rfl
@[simp] theorem dset_pending (k v : Nat) (s : State) : (dset k v s).pending = s.pending := rfl
@[simp] theorem fset_host (k unit v : Nat) (s : State) : (fset k unit v s).host = s.host := rfl
@[simp] theorem fset_rc (k unit v : Nat) (s : State) : (fset k unit v s).rc = s.rc := rfl
@[simp] theorem fset_per (k unit v : Nat) (s : State) : (fset k unit v s).per = s.per := rfl
@[simp] theorem fset_eng (k unit v : Nat) (s : State) : (fset k unit v s).eng = s.eng := rfl
@[simp] theorem fset_tier (k unit v : Nat) (s : State) : (fset k unit v s).tier = s.tier := rfl
@[simp] theorem fset_cs (k unit v : Nat) (s : State) : (fset k unit v s).cs = s.cs := rfl
@[simp] theorem fset_dram (k unit v : Nat) (s : State) : (fset k unit v s).dram = s.dram := rfl
@[simp] theorem fset_nand (k unit v : Nat) (s : State) : (fset k unit v s).nand = s.nand := rfl
@[simp] theorem fset_fix (k unit v : Nat) (s : State) : (fset k unit v s).fix = s.fix := rfl
@[simp] theorem fset_cp (k unit v : Nat) (s : State) : (fset k unit v s).cp = s.cp := rfl
@[simp] theorem fset_rec_ (k unit v : Nat) (s : State) : (fset k unit v s).rec_ = s.rec_ := rfl
@[simp] theorem fset_snap (k unit v : Nat) (s : State) : (fset k unit v s).snap = s.snap := rfl
@[simp] theorem fset_md (k unit v : Nat) (s : State) : (fset k unit v s).md = s.md := rfl
@[simp] theorem fset_keys (k unit v : Nat) (s : State) : (fset k unit v s).keys = s.keys := rfl
@[simp] theorem fset_fieth (k unit v : Nat) (s : State) : (fset k unit v s).fieth = s.fieth := rfl
@[simp] theorem fset_ports (k unit v : Nat) (s : State) : (fset k unit v s).ports = s.ports := rfl
@[simp] theorem fset_pres (k unit v : Nat) (s : State) : (fset k unit v s).pres = s.pres := rfl
@[simp] theorem fset_rmq (k unit v : Nat) (s : State) : (fset k unit v s).rmq = s.rmq := rfl
@[simp] theorem fset_rst (k unit v : Nat) (s : State) : (fset k unit v s).rst = s.rst := rfl
@[simp] theorem fset_dict (k unit v : Nat) (s : State) : (fset k unit v s).dict = s.dict := rfl
@[simp] theorem fset_rtc (k unit v : Nat) (s : State) : (fset k unit v s).rtc = s.rtc := rfl
@[simp] theorem fset_freeCtr (k unit v : Nat) (s : State) : (fset k unit v s).freeCtr = s.freeCtr := rfl
@[simp] theorem fset_outbox (k unit v : Nat) (s : State) : (fset k unit v s).outbox = s.outbox := rfl
@[simp] theorem fset_pending (k unit v : Nat) (s : State) : (fset k unit v s).pending = s.pending := rfl
@[simp] theorem draw_host (s : State) : (draw s).host = s.host := rfl
@[simp] theorem draw_rc (s : State) : (draw s).rc = s.rc := rfl
@[simp] theorem draw_per (s : State) : (draw s).per = s.per := rfl
@[simp] theorem draw_eng (s : State) : (draw s).eng = s.eng := rfl
@[simp] theorem draw_tier (s : State) : (draw s).tier = s.tier := rfl
@[simp] theorem draw_cs (s : State) : (draw s).cs = s.cs := rfl
@[simp] theorem draw_dram (s : State) : (draw s).dram = s.dram := rfl
@[simp] theorem draw_nand (s : State) : (draw s).nand = s.nand := rfl
@[simp] theorem draw_fix (s : State) : (draw s).fix = s.fix := rfl
@[simp] theorem draw_cp (s : State) : (draw s).cp = s.cp := rfl
@[simp] theorem draw_rec_ (s : State) : (draw s).rec_ = s.rec_ := rfl
@[simp] theorem draw_snap (s : State) : (draw s).snap = s.snap := rfl
@[simp] theorem draw_md (s : State) : (draw s).md = s.md := rfl
@[simp] theorem draw_keys (s : State) : (draw s).keys = s.keys := rfl
@[simp] theorem draw_fieth (s : State) : (draw s).fieth = s.fieth := rfl
@[simp] theorem draw_ports (s : State) : (draw s).ports = s.ports := rfl
@[simp] theorem draw_pres (s : State) : (draw s).pres = s.pres := rfl
@[simp] theorem draw_rmq (s : State) : (draw s).rmq = s.rmq := rfl
@[simp] theorem draw_rst (s : State) : (draw s).rst = s.rst := rfl
@[simp] theorem draw_dict (s : State) : (draw s).dict = s.dict := rfl
@[simp] theorem draw_force (s : State) : (draw s).force = s.force := rfl
@[simp] theorem draw_rtc (s : State) : (draw s).rtc = s.rtc := rfl
@[simp] theorem draw_outbox (s : State) : (draw s).outbox = s.outbox := rfl
@[simp] theorem draw_pending (s : State) : (draw s).pending = s.pending := rfl
@[simp] theorem logRecs_host (n : Nat) (s : State) : (logRecs n s).host = s.host := rfl
@[simp] theorem logRecs_rc (n : Nat) (s : State) : (logRecs n s).rc = s.rc := rfl
@[simp] theorem logRecs_eng (n : Nat) (s : State) : (logRecs n s).eng = s.eng := rfl
@[simp] theorem logRecs_tier (n : Nat) (s : State) : (logRecs n s).tier = s.tier := rfl
@[simp] theorem logRecs_cs (n : Nat) (s : State) : (logRecs n s).cs = s.cs := rfl
@[simp] theorem logRecs_dram (n : Nat) (s : State) : (logRecs n s).dram = s.dram := rfl
@[simp] theorem logRecs_nand (n : Nat) (s : State) : (logRecs n s).nand = s.nand := rfl
@[simp] theorem logRecs_fix (n : Nat) (s : State) : (logRecs n s).fix = s.fix := rfl
@[simp] theorem logRecs_cp (n : Nat) (s : State) : (logRecs n s).cp = s.cp := rfl
@[simp] theorem logRecs_rec_ (n : Nat) (s : State) : (logRecs n s).rec_ = s.rec_ := rfl
@[simp] theorem logRecs_snap (n : Nat) (s : State) : (logRecs n s).snap = s.snap := rfl
@[simp] theorem logRecs_md (n : Nat) (s : State) : (logRecs n s).md = s.md := rfl
@[simp] theorem logRecs_keys (n : Nat) (s : State) : (logRecs n s).keys = s.keys := rfl
@[simp] theorem logRecs_fieth (n : Nat) (s : State) : (logRecs n s).fieth = s.fieth := rfl
@[simp] theorem logRecs_ports (n : Nat) (s : State) : (logRecs n s).ports = s.ports := rfl
@[simp] theorem logRecs_pres (n : Nat) (s : State) : (logRecs n s).pres = s.pres := rfl
@[simp] theorem logRecs_rmq (n : Nat) (s : State) : (logRecs n s).rmq = s.rmq := rfl
@[simp] theorem logRecs_rst (n : Nat) (s : State) : (logRecs n s).rst = s.rst := rfl
@[simp] theorem logRecs_dict (n : Nat) (s : State) : (logRecs n s).dict = s.dict := rfl
@[simp] theorem logRecs_force (n : Nat) (s : State) : (logRecs n s).force = s.force := rfl
@[simp] theorem logRecs_rtc (n : Nat) (s : State) : (logRecs n s).rtc = s.rtc := rfl
@[simp] theorem logRecs_freeCtr (n : Nat) (s : State) : (logRecs n s).freeCtr = s.freeCtr := rfl
@[simp] theorem logRecs_outbox (n : Nat) (s : State) : (logRecs n s).outbox = s.outbox := rfl
@[simp] theorem logRecs_pending (n : Nat) (s : State) : (logRecs n s).pending = s.pending := rfl
@[simp] theorem emit_outbox (o : Out) (s : State) : (emit o s).outbox = s.outbox ++ [o] := rfl
@[simp] theorem draw_freeCtr (s : State) : (draw s).freeCtr = s.freeCtr + 1 := rfl

end Sys2Proof.Machine
end

