-- ==== Sys2Proof/Laws/Table.lean ====
section
/-! SUPPORT. Sparse tables: what a key reads as after a change. -/
namespace Sys2Proof.Machine
open Sys2Proof

@[simp] theorem tget_tput_self {α : Type} (d : α) (t : Tbl α) (i : Nat) (v : α) : tget d (tput t i v) i = v := by
  induction t with
  | nil => simp [tput, tget]
  | cons p r ih =>
    obtain ⟨k, w⟩ := p
    unfold tput
    split
    · simp [tget]
    · split
      · simp [tget]
      · rename_i h1 h2
        unfold tget
        rw [if_neg h1, if_neg h2, ih]
@[simp] theorem tget_tput_ne {α : Type} (d : α) (t : Tbl α) (i j : Nat) (v : α) (h : j ≠ i) : tget d (tput t i v) j = tget d t j := by
  induction t with
  | nil => simp [tput, tget, h]
  | cons p r ih =>
    obtain ⟨k, w⟩ := p
    unfold tput
    split
    · rename_i h1
      subst h1
      simp [tget, h]
    · split
      · rename_i h1 h2
        unfold tget
        rw [if_neg h]
        by_cases hj : j < i
        · rw [if_pos hj, if_neg (by omega), if_pos (by omega)]
        · rw [if_neg hj]
          rfl
      · unfold tget
        split
        · rfl
        · split
          · rfl
          · exact ih
theorem tget_tdel_self {α : Type} (d : α) (t : Tbl α) (i : Nat) : tget d (tdel t i) i = d := by
  unfold tdel
  induction t with
  | nil => rfl
  | cons p r ih =>
    rw [List.filter_cons]
    split
    · rename_i h
      simp only [ne_eq, decide_eq_true_eq] at h
      unfold tget
      rw [if_neg (fun e => h e.symm), ih]
      split <;> rfl
    · exact ih
@[simp] theorem tget_tset_self {α : Type} [DecidableEq α] (d : α) (t : Tbl α) (i : Nat) (v : α) : tget d (tset d t i v) i = v := by
  unfold tset
  split
  · rename_i h
    rw [tget_tdel_self, h]
  · exact tget_tput_self d t i v
@[simp] theorem tget_tmod_self {α : Type} (d : α) (t : Tbl α) (i : Nat) (f : α → α) :
    tget d (tmod d t i f) i = f (tget d t i) := by
  unfold tmod
  exact tget_tput_self ..
@[simp] theorem tget_tmod_ne {α : Type} (d : α) (t : Tbl α) (i j : Nat) (f : α → α) (h : j ≠ i) : tget d (tmod d t i f) j = tget d t j := by
  unfold tmod
  exact tget_tput_ne _ _ _ _ _ h

/-! ## Stored entries and counters -/

@[simp] theorem dget_dset_self (k v : Nat) (s : State) : dget (dset k v s) k = v := tget_tput_self ..
@[simp] theorem dget_dset_ne (k j v : Nat) (s : State) (h : j ≠ k) : dget (dset k v s) j = dget s j := tget_tput_ne _ _ _ _ _ h
theorem dget_of_dict {s t : State} (h : t.dict = s.dict) (k : Nat) : dget t k = dget s k := by unfold dget; rw [h]
@[simp] theorem dget_bump_self (k : Nat) (s : State) : dget (bump k s) k = (dget s k + 1) % 2 ^ 64 := dget_dset_self ..
@[simp] theorem dget_bump_ne (k j : Nat) (s : State) (h : j ≠ k) : dget (bump k s) j = dget s j := dget_dset_ne _ _ _ _ h
@[simp] theorem dget_bump32_self (k : Nat) (s : State) : dget (bump32 k s) k = min (dget s k + 1) (2 ^ 32 - 1) := dget_dset_self ..
@[simp] theorem dget_bump32_ne (k j : Nat) (s : State) (h : j ≠ k) : dget (bump32 k s) j = dget s j := dget_dset_ne _ _ _ _ h
@[simp] theorem dget_bump16_self (k : Nat) (s : State) : dget (bump16 k s) k = min (dget s k + 1) (2 ^ 16 - 1) := dget_dset_self ..
@[simp] theorem dget_bumpBy_self (k n : Nat) (s : State) : dget (bumpBy k n s) k = (dget s k + n) % 2 ^ 64 := dget_dset_self ..
@[simp] theorem dget_bumpBy_ne (k j n : Nat) (s : State) (h : j ≠ k) : dget (bumpBy k n s) j = dget s j := dget_dset_ne _ _ _ _ h

/-! ## Members of tables of the state -/

@[simp] theorem sliceOf_setSlice (n : Nat) (f : Slice → Slice) (s : State) : sliceOf (setSlice n f s) n = f (sliceOf s n) := tget_tmod_self ..
@[simp] theorem sliceOf_setSlice_ne (n k : Nat) (f : Slice → Slice) (s : State) (h : k ≠ n) : sliceOf (setSlice n f s) k = sliceOf s k := tget_tmod_ne _ _ _ _ _ h
@[simp] theorem chanOf_setChan (n : Nat) (f : Channel → Channel) (s : State) : chanOf (setChan n f s) n = f (chanOf s n) := tget_tmod_self ..
@[simp] theorem chanOf_setChan_ne (n k : Nat) (f : Channel → Channel) (s : State) (h : k ≠ n) : chanOf (setChan n f s) k = chanOf s k := tget_tmod_ne _ _ _ _ _ h
@[simp] theorem nchanOf_setNchan (n : Nat) (f : NandChan → NandChan) (s : State) : nchanOf (setNchan n f s) n = f (nchanOf s n) := tget_tmod_self ..
@[simp] theorem nchanOf_setNchan_ne (n k : Nat) (f : NandChan → NandChan) (s : State) (h : k ≠ n) : nchanOf (setNchan n f s) k = nchanOf s k := tget_tmod_ne _ _ _ _ _ h
@[simp] theorem dieOf_setDie (n : Nat) (f : Die → Die) (s : State) : dieOf (setDie n f s) n = f (dieOf s n) := tget_tmod_self ..
@[simp] theorem dieOf_setDie_ne (n k : Nat) (f : Die → Die) (s : State) (h : k ≠ n) : dieOf (setDie n f s) k = dieOf s k := tget_tmod_ne _ _ _ _ _ h
@[simp] theorem halfOf_setHalf (n : Nat) (f : Half → Half) (s : State) : halfOf (setHalf n f s) n = f (halfOf s n) := tget_tmod_self ..
@[simp] theorem halfOf_setHalf_ne (n k : Nat) (f : Half → Half) (s : State) (h : k ≠ n) : halfOf (setHalf n f s) k = halfOf s k := tget_tmod_ne _ _ _ _ _ h
@[simp] theorem portOf_setPort (n : Nat) (f : Port → Port) (s : State) : portOf (setPort n f s) n = f (portOf s n) := tget_tmod_self ..
@[simp] theorem portOf_setPort_ne (n k : Nat) (f : Port → Port) (s : State) (h : k ≠ n) : portOf (setPort n f s) k = portOf s k := tget_tmod_ne _ _ _ _ _ h
@[simp] theorem slotOf_setSlot (n : Nat) (f : HostSlot → HostSlot) (s : State) : slotOf (setSlot n f s) n = f (slotOf s n) := tget_tmod_self ..
@[simp] theorem slotOf_setSlot_ne (n k : Nat) (f : HostSlot → HostSlot) (s : State) (h : k ≠ n) : slotOf (setSlot n f s) k = slotOf s k := tget_tmod_ne _ _ _ _ _ h
@[simp] theorem keySlotOf_setKeySlot (n : Nat) (f : KeySlot → KeySlot) (s : State) : keySlotOf (setKeySlot n f s) n = f (keySlotOf s n) := tget_tmod_self ..
@[simp] theorem keySlotOf_setKeySlot_ne (n k : Nat) (f : KeySlot → KeySlot) (s : State) (h : k ≠ n) : keySlotOf (setKeySlot n f s) k = keySlotOf s k := tget_tmod_ne _ _ _ _ _ h
@[simp] theorem dirOf_setDir (n : Nat) (f : DirEntry → DirEntry) (s : State) : dirOf (setDir n f s) n = f (dirOf s n) := tget_tmod_self ..
@[simp] theorem dirOf_setDir_ne (n k : Nat) (f : DirEntry → DirEntry) (s : State) (h : k ≠ n) : dirOf (setDir n f s) k = dirOf s k := tget_tmod_ne _ _ _ _ _ h
@[simp] theorem keyOf_setKey (n : Nat) (f : KeyEntry → KeyEntry) (s : State) : keyOf (setKey n f s) n = f (keyOf s n) := tget_tmod_self ..
@[simp] theorem keyOf_setKey_ne (n k : Nat) (f : KeyEntry → KeyEntry) (s : State) (h : k ≠ n) : keyOf (setKey n f s) k = keyOf s k := tget_tmod_ne _ _ _ _ _ h
@[simp] theorem quotaOf_setQuota (n : Nat) (f : Quota → Quota) (s : State) : quotaOf (setQuota n f s) n = f (quotaOf s n) := tget_tmod_self ..
@[simp] theorem quotaOf_setQuota_ne (n k : Nat) (f : Quota → Quota) (s : State) (h : k ≠ n) : quotaOf (setQuota n f s) k = quotaOf s k := tget_tmod_ne _ _ _ _ _ h

end Sys2Proof.Machine
end

