-- ==== Sys2Proof/WellFormed.lean ====
section
/-! DEFINITION. Which commands are well formed: every operand fits the field that carries it. A refusal of a value inside its
field is the command's own effect, not a matter of form. -/
namespace Sys2Proof

/-- A number fits a field of `w` bits. -/
def below (w n : Nat) : Bool := decide (n < 2 ^ w)
/-- R58–R61: addresses by family, ports, tag and DSCP of a datagram. -/
def datagram (d : Datagram) : Bool :=
  below (if d.ipv6 then 128 else 32) d.srcIp && below (if d.ipv6 then 128 else 32) d.dstIp && below 16 d.srcUdp && below 16 d.dstUdp
    && d.vlan.all (below 16) && below 6 d.dscp
/-- R95, R96: the fields of a RoCEv2 packet. -/
def packet (p : RcPacket) : Bool :=
  below (if p.ipv6 then 128 else 32) p.srcIp && below 16 p.pkey && below 4 p.version && below 24 p.qpn && below 8 p.opcode && below 24 p.psn
    && below 64 p.va && below 32 p.rkey && below 32 p.dmaLen && below 64 p.swapAdd && below 64 p.compare && p.imm.all (below 32) && below 32 p.spray
/-- R99–R102: the fields of a REQ. -/
def connReq (m : CmReq) : Bool :=
  below (if m.ipv6 then 128 else 32) m.srcIp && below (if m.ipv6 then 128 else 32) m.dstIp && below 48 m.srcMac && below 3 m.pcp
    && m.vlan.all (below 12) && below 6 m.dscp && below 32 m.commId && below 64 m.serviceId && below 24 m.remoteQpn && below 24 m.startPsn
    && below 8 m.respRes && below 16 m.hostId
/-- Table 5.6. -/
def regionBlock (b : RegionBlock) : Bool :=
  below 8 b.tenant && below 8 b.tier && below 32 b.region && below 32 b.key && below 32 b.pages && below 7 b.owner
/-- Table 13.2. -/
def stateBlock (b : StateBlock) : Bool :=
  below 8 b.tenant && below 8 b.tier && below 16 b.stateNo && below 32 b.region && below 32 b.newRegion && below 7 b.owner && below 32 b.retain
/-- Table 11.1. -/
def frameHead (h : FrameHead) : Bool :=
  below 32 h.epoch && below 64 h.counter && below 32 h.fsn && below 32 h.ackFsn && below 3 h.mode && below 4 h.tstate && below 7 h.node && below 32 h.dirty
/-- Table 11.2. -/
def statusBody (b : StatusBody) : Bool := below 32 b.syncGen && below 32 b.tableGen && below 32 b.incarnation && below 2 b.standing
/-- An ECC word: its place (R216, Table 8.8), its verdict. -/
def dramWord (e : DramWord) : Bool :=
  below 42 e.line && below 1 e.word && below 1 e.sub && below 1 e.rank && below 3 e.bg && below 2 e.ba && below 1 e.cid && below 17 e.row
    && decide (e.verdict < 3) && decide (e.device < 10) && below 7 e.col
/-- Table 16.4. -/
def fiethFrame (f : FiethFrame) : Bool :=
  below 8 f.cmd && below 8 f.tag && below 16 f.idx && below 8 f.sub && below 8 f.flags && below 16 f.resv && below 32 f.off && below 32 f.len
    && decide (f.value.length ≤ 48)
/-- Table 20.8. -/
def optionFields (o : OptionFields) : Bool :=
  below 32 o.version && below 8 o.density && below 8 o.ranks && below 16 o.dataRate && below 8 o.dieType && below 8 o.nandRate && below 16 o.dies
    && below 16 o.holdUp && below 32 o.tlcRated && below 32 o.pslcRated && below 8 o.iface && below 48 o.macBase && below 8 o.ports

/-- A command is well formed. -/
def wellFormed (i : Instr) : Bool :=
  match i with
  | .stippleRead d => datagram d
  | .stippleWrite d => datagram d
  | .stippleAdd d => datagram d
  | .stippleCas d => datagram d
  | .stippleFence d => datagram d
  | .stipplePlace d => datagram d
  | .stippleDiscard d => datagram d
  | .readBatch d => datagram d
  | .homeSliceRequest _ => true
  | .fillReturn _ line => below 41 line
  | .completionRelease _ => true
  | .replayEntryExpire host seq _ => below 16 host && below 48 seq
  | .fenceTimeout _ => true
  | .configApplyAtIdle unit => decide (unit < 65)
  | .rdmaWrite p => packet p
  | .rdmaReadRequest p => packet p
  | .compareSwap p => packet p
  | .fetchAdd p => packet p
  | .sprayWrite p => packet p
  | .keepalive p => packet p
  | .release p => packet p
  | .cnpReceive qpn => below 24 qpn
  | .contextFetchDone qpn => below 24 qpn
  | .ackTimer qpn => below 24 qpn
  | .sprayAckTimer qpn => below 24 qpn
  | .readResponseSend qpn => below 24 qpn
  | .rateAlphaTick qpn => below 24 qpn
  | .rateIncreaseTick qpn => below 24 qpn
  | .cmReq m => connReq m
  | .cmRtu qpn => below 24 qpn
  | .cmDreq qpn => below 24 qpn
  | .cmDrep qpn => below 24 qpn
  | .connectTimeout qpn => below 24 qpn
  | .qpIdleTimeout qpn => below 24 qpn
  | .drepTimeout qpn => below 24 qpn
  | .create b => regionBlock b
  | .delete b => regionBlock b
  | .resize b => regionBlock b
  | .issueKey b => regionBlock b
  | .revokeKey b => regionBlock b
  | .revokeRegion b => regionBlock b
  | .setOwner b => regionBlock b
  | .fencePoint => true
  | .fenceDrainEnd => true
  | .fenceCancelDeadline => true
  | .tenantTableWrite _ value => below 64 value
  | .quotaTableWrite _ value => below 128 value
  | .hostTableWrite _ value => below 16 value
  | .replayWindowWrite ms => below 8 ms
  | .moveCopyDone tpn => below 32 tpn
  | .rehomeDisplaced => true
  | .cleanAddr line => below 41 line
  | .flushAddr line => below 41 line
  | .invalidateAddr line => below 41 line
  | .cleanSlice _ => true
  | .flushSlice _ => true
  | .disable _ => true
  | .invalidateSlice _ => true
  | .enable _ => true
  | .sliceWalkDone _ => true
  | .sliceSramError _ _ _ lost => lost.all (below 41)
  | .sliceFail _ cause lost => below 8 cause && lost.all (below 41)
  | .dramReadDone _ e => dramWord e
  | .refreshDue _ _ => true
  | .refreshCatchup _ _ => true
  | .panicRaise _ _ => true
  | .panicClear _ _ => true
  | .rankIdleTimeout _ _ => true
  | .dramTrainingDone _ margin _ _ => below 8 margin
  | .trainingDeadline => true
  | .zqCalibrationTick _ => true
  | .dqsOscillatorTick _ _ => true
  | .retrainStart _ _ => true
  | .retrainRequest _ => true
  | .retrainDone _ margin _ _ => below 8 margin
  | .reserveRebuildDone _ => true
  | .burnisherScrub _ e => dramWord e
  | .nandChannelReady _ _ present => below 16 present
  | .nandReadDone lunit _ => below 34 lunit
  | .nandProgramDone _ _ _ _ => true
  | .nandEraseDone _ _ group _ _ => below 11 group
  | .wordlineWaitTimeout _ _ => true
  | .mapLogDurable => true
  | .checkpointRoundStart => true
  | .checkpointRoundDone => true
  | .parityPadTimeout _ => true
  | .tracerVerifyStart _ _ group => below 11 group
  | .tracerVerifyDone _ _ group worst _ _ => below 11 group && decide (worst ≤ 100)
  | .tracerPatrol _ _ group worst _ => below 11 group && decide (worst ≤ 100)
  | .dieRetire _ _ cause => below 8 cause
  | .gcStallTimeout => true
  | .journalTick => true
  | .imageEligible tpn => below 32 tpn
  | .journalImageDone tpn _ => below 32 tpn
  | .budgetWrite profile gib => decide (profile < 4) && below 8 gib
  | .pfailFall _ => true
  | .quiesceDeadline => true
  | .dumpSealed duration units => below 32 duration && below 32 units
  | .pfailRise => true
  | .holdupEnergyWrite joules => below 16 joules
  | .holdupReportTimeout => true
  | .dataFrame h _ => frameHead h
  | .ackFrame h => frameHead h
  | .heartbeatFrame h b => frameHead h && statusBody b
  | .helloFrame h b => frameHead h && statusBody b
  | .writeRecord _ => true
  | .zeroRecord _ => true
  | .atomicRecord _ => true
  | .copyRecord _ => true
  | .fetchRecord _ _ => true
  | .fetchDataRecord _ => true
  | .fetchFailRecord _ => true
  | .forwardRecord _ => true
  | .forwardDoneRecord _ => true
  | .tableRecord _ => true
  | .tableVerdict _ => true
  | .fenceMarkRecord _ => true
  | .fenceConfirmRecord _ => true
  | .ownerHandover _ => true
  | .ownerConfirm _ => true
  | .ownerRequest _ => true
  | .placeStartRecord _ => true
  | .placeDoneRecord _ => true
  | .placeOutcomeRecord _ => true
  | .qpShadowRecord _ => true
  | .qpFreeRecord _ => true
  | .qpHeldRecord _ => true
  | .replayRecord _ => true
  | .imageRequestRecord _ => true
  | .imageDoneRecord _ => true
  | .discardUnitRecord _ => true
  | .stateBeginRecord _ => true
  | .stateConfirmRecord _ => true
  | .statePointRecord _ => true
  | .claim _ => true
  | .claimGrant _ => true
  | .claimRefuse _ => true
  | .claimRelease _ => true
  | .resyncStart _ => true
  | .resyncMarks _ => true
  | .tablesDone _ => true
  | .sync _ => true
  | .syncAck _ => true
  | .resyncCopyBlock => true
  | .noticeDrain _ => true
  | .noticeKeep _ => true
  | .noticeBarred _ => true
  | .noticeFailover _ => true
  | .failoverReply _ => true
  | .noticeLoss _ => true
  | .frameCloseTimer _ => true
  | .resendTimeout _ => true
  | .heartbeatSendTimer _ => true
  | .linkLossTimeout => true
  | .halfFail _ cause => below 8 cause
  | .halfRetrainTick _ => true
  | .laneTrainingDone _ _ _ => true
  | .noticeDeclareTimeout => true
  | .twinAnswerTimeout => true
  | .twinPresentChange _ => true
  | .settleTimeout => true
  | .budgetShareTick => true
  | .counterLimit _ => true
  | .takeOwnership => true
  | .servingInstant => true
  | .mapDirectoryLoaded rebuilt => below 32 rebuilt
  | .dumpIndexed => true
  | .restoreOrdersRead => true
  | .restorePageDone tpn _ => below 32 tpn
  | .segmentLoadDone segment => below 33 segment
  | .orphanReclaim _ _ group => below 11 group
  | .traceWindowEnd host => below 16 host
  | .cut b => stateBlock b
  | .stateDelete b => stateBlock b
  | .clone b => stateBlock b
  | .setRetain b => stateBlock b
  | .cutMarksReported => true
  | .cutPointsReported ns => below 32 ns
  | .stateCaptureDone number tpn _ => below 16 number && below 32 tpn
  | .stateSettle number => below 16 number
  | .stateRetentionExpire number => below 16 number
  | .clonePageCopy _ => true
  | .plannedShutdown => true
  | .enterService => true
  | .leaveService => true
  | .acceptKeep => true
  | .forceKeep => true
  | .forceStandDown => true
  | .profileWrite profile => below 8 profile
  | .tempThreshold _ => true
  | .tempClearTimeout _ => true
  | .portFailure _ _ => true
  | .proxyStopTimer _ => true
  | .keyGenerate slot kind => decide (slot < 64) && below 4 kind
  | .keyImport slot kind => decide (slot < 64) && below 4 kind
  | .keyErase slot => decide (slot < 64)
  | .keyMigrate slot => decide (slot < 64)
  | .keySwap _ => true
  | .writeSlotWrite slot => below 8 slot
  | .cipherMismatch _ _ => true
  | .ueLockClaim client => decide (1 ≤ client) && decide (client ≤ 5)
  | .ueLockRelease client => decide (1 ≤ client) && decide (client ≤ 5)
  | .ueLockTimeout => true
  | .firmwareBankWrite _ off data => below 23 off && decide (data.length ≤ 1048576)
  | .firmwareVerifyDone _ _ => true
  | .svnCommit value => below 8 value
  | .fiethRead _ f => fiethFrame f
  | .fiethWrite _ f => fiethFrame f
  | .segment _ tag seq data => below 8 tag && below 16 seq && decide (data.length ≤ 60)
  | .fiethAck _ tag next => below 8 tag && below 16 next
  | .fiethAbort _ tag code => below 8 tag && below 32 code
  | .dictWrite index sub off _ => below 16 index && below 8 sub && below 32 off
  | .dupRecordExpire f => fiethFrame f
  | .transferIdleTimeout _ => true
  | .fiethHeartbeat => true
  | .duplicateNode _ ident => below 11 ident
  | .canBusOff _ => true
  | .canBusOffRecovery _ => true
  | .canRateWrite _ _ code => below 8 code
  | .canChannelEnableWrite value => below 16 value
  | .clearStatistics => true
  | .portConfigWrite _ sub value => below 8 sub && below 128 value
  | .resetCauseClear mask => below 32 mask
  | .coreResetRequest => true
  | .systemResetRequest => true
  | .domainOffRequest _ => true
  | .domainOnRequest _ => true
  | .presenceCloseWrite => true
  | .injectOnce point inst variant => below 16 point && below 16 inst && below 8 variant
  | .injectRepeatedly point inst variant count interval => below 16 point && below 16 inst && below 8 variant && below 16 count && below 32 interval
  | .disarmPoint point inst variant => below 16 point && below 16 inst && below 8 variant
  | .disarmEveryPoint => true
  | .injectionInterval point inst variant => below 16 point && below 16 inst && below 8 variant
  | .presenceOpen => true
  | .buttonStuck => true
  | .buttonReleaseTimeout => true
  | .presenceWindowExpire => true
  | .sealLoopOpen _ => true
  | .svcJmpRemoved => true
  | .jtagDebugInstruction _ => true
  | .jtagResetRequest => true
  | .jtagBoundaryScan _ => true
  | .recordAccept => true
  | .recorderFlushTick _ => true
  | .recorderLockTimeout => true
  | .recorderSealCheck failing => below 32 failing
  | .pwrgdAssert => true
  | .pwrgdDeassert => true
  | .porstAssert => true
  | .powerOnResetEnd _ => true
  | .vddAonLow => true
  | .sysrstAssert => true
  | .systemResetWindowEnd => true
  | .systemResetRelease => true
  | .coreResetDrainEnd => true
  | .mccResetRelease _ _ => true
  | .mccWatchdogExpiry => true
  | .mccClockLoss => true
  | .mccClockReturn => true
  | .blockIdleReport block => decide (block < 113)
  | .blockIdleTimeout block => decide (block < 113)
  | .blockWatchdogExpiry block => decide (block < 112)
  | .portGroupRepower _ => true
  | .optionLoadDone o _ lost => optionFields o && lost.all (fun n => decide (n < 64))
  | .pllLockLost pll => decide (pll < 92)
  | .clockMonitorWindow status => below 11 status
  | .railMonitorEvent _ millivolts => below 16 millivolts
  | .portLinkUp _ => true
  | .sysrstDeassert => true
  | .hpprProgrammingDone => true
  | .firstFormatDone => true
  | .dramWriteDone _ line => below 41 line
  | .pfcPauseFrame _ priorities _ => below 8 priorities
  | .coreFabricError => true
  | .pdMainWatchdogExpiry => true

end Sys2Proof
end

