-- ==== Sys2Proof/Tests/Slice0.lean ====
section
/-! SUPPORT. Tests: an ill-formed term for each check of form, values worked out by hand from the spec, and for each clause of each
statement that has hypotheses a state and operands that meet them. -/
set_option maxRecDepth 20000
namespace Sys2Proof.Tests
open Sys2Proof Sys2Proof.Machine

/-! ## States and operands of the tests -/

/-- A Steoc that runs in Solo. -/
def up : State :=
  { State.reset with
    fieth := { mccHeld := false }
    md := { mode := .solo, left := .recall, fault := false }
    rec_ := { phase := .none, serving := true, formatted := true, dirLoaded := true, indexed := true }
    rst := { phase := .running, loadDone := true, powered := 2 ^ 112 - 1 } }
/-- A Steoc that runs in Solo with host 7 of tenant 1, region 1 of 4 pages and its key 16384, port 3 up with an address. -/
def served : State :=
  { up with
    per := { live := {
      tenants := [(1, { enable := true, maxRegions := 8 })], hosts := [(7, 0x8001)], regions := [(0, ⟨1, .active, 1, 1, 4, 0⟩)],
      keys := [(1, { st := .valid, region := 1 })], quotas := [(1, { dramQuota := 100, nandQuota := 100 })] } }
    cp := { settled := true }
    ports := [(3, { st := .up })]
    force := [(0x200304 * 256, 9), (0x210001 * 256, 4800)] }
/-- A Stipple request datagram of host 7 at port 3, its header built by Tables 3.1 and 3.5. -/
def datagram (op seq len region off key inc : Nat) (ext : Bytes) : Datagram :=
  let h := beBytes 4 (0x10000000 + op * 65536 + 7) ++ beBytes 6 seq ++ beBytes 2 len ++ beBytes 4 region ++ beBytes 8 off ++ beBytes 4 key
    ++ beBytes 4 inc ++ ext
  ⟨3, false, 1, 9, false, 4800, 4800, .good, false, none, 0, h ++ beBytes 4 (crc32c h)⟩
/-- A queue pair context of host 7, tenant 1, at port 3, that expects PSN 5. -/
def witQp : Qp := { st := .serving, pmtu := 5, respRes := 4, host := 7, tenant := 1, remoteQpn := 9, epsn := 5, ackPsn := 4, port := 3, commId := 2 }
/-- `served` with that context at QPN 65,541, cached. -/
def linked : State := { served with rc := { own := [(5, witQp)], cache := [65541] } }
/-- A RoCEv2 packet for QPN 65,541. -/
def packet (op psn key va len : Nat) (b : Bytes) : RcPacket :=
  ⟨3, false, 1, false, 0xffff, true, 0, 65541, op, psn, false, va, key, len, 1, 0, none, 0, b⟩
/-- A connection request of host 7. -/
def connReq : CmReq := ⟨3, false, 1, 9, 2, 0, none, 0, 2, 0x5a4c01, 9, 5, 4096, 4, 1, 0, 7, false⟩
/-- `served` in Duplex with its twin, node 2, in sync; a record of the twin's waits on half 0. -/
def mirroring (r : CpRec) : State :=
  { served with
    md := { mode := .duplex }
    cp := { twin := .inSync, settled := true, sessionUp := true, twinNode := 2, epoch := 16777217, rxEpoch := 16777217
            halves := [(0, { st := .service, expect := 2, rx := [⟨1, r⟩] }), (1, { st := .service })] } }

/-! ## Well-formedness: a sample of each form, and an ill-formed term for each check -/

def sampleDatagram : Datagram := datagram 1 0 0 1 0 0 1 []
def samplePacket : RcPacket := packet 10 5 0 0 0 []
def sampleBlock : RegionBlock := ⟨0, 1, 0, 1, 0, 1, 1⟩
def sampleState : StateBlock := ⟨0, true, 0, 0, 1, 0, 0, 0, 0⟩
def fhead : FrameHead := ⟨0, true, 1, 1, 1, 0, false, 2, 0, 2, 0⟩
def sbody : StatusBody := ⟨1, 1, 1, true, true, 0, true⟩
def dword : DramWord := ⟨0, 0, 0, 0, 0, 0, 0, 0, 0, 0, 0, true⟩
def fframe : FiethFrame := ⟨1, 1, 0x1000, 1, 0, 0, 0, 4, []⟩
def opts : OptionFields := ⟨1, 0, 0, 0, 0, 0, 0, 0, 0, 0, 0, 0, 0⟩

theorem test_wellFormed_samples : (wellFormed (.stippleRead sampleDatagram) && wellFormed (.keepalive samplePacket) && wellFormed (.cmReq connReq)
    && wellFormed (.create sampleBlock) && wellFormed (.cut sampleState) && wellFormed (.ackFrame fhead) && wellFormed (.helloFrame fhead sbody)
    && wellFormed (.dramReadDone 0 dword) && wellFormed (.fiethRead 0 fframe) && wellFormed (.optionLoadDone opts false [])) = true := by decide
theorem test_illformed_datagram :
    [
      { sampleDatagram with srcIp := 2 ^ 32 }, { sampleDatagram with dstIp := 2 ^ 32 }, { sampleDatagram with srcUdp := 2 ^ 16 },
      { sampleDatagram with dstUdp := 2 ^ 16 }, { sampleDatagram with vlan := some (2 ^ 16) }, { sampleDatagram with dscp := 2 ^ 6 },
      { sampleDatagram with ipv6 := true, srcIp := 2 ^ 128 }, { sampleDatagram with ipv6 := true, dstIp := 2 ^ 128 }].all (fun x => !wellFormed (.stippleRead x)) = true := by decide
theorem test_illformed_packet :
    [
      { samplePacket with srcIp := 2 ^ 32 }, { samplePacket with pkey := 2 ^ 16 }, { samplePacket with version := 2 ^ 4 },
      { samplePacket with qpn := 2 ^ 24 }, { samplePacket with opcode := 2 ^ 8 }, { samplePacket with psn := 2 ^ 24 },
      { samplePacket with va := 2 ^ 64 }, { samplePacket with rkey := 2 ^ 32 }, { samplePacket with dmaLen := 2 ^ 32 },
      { samplePacket with swapAdd := 2 ^ 64 }, { samplePacket with compare := 2 ^ 64 }, { samplePacket with imm := some (2 ^ 32) },
      { samplePacket with spray := 2 ^ 32 }].all (fun x => !wellFormed (.keepalive x)) = true := by decide
theorem test_illformed_connReq :
    [
      { connReq with srcIp := 2 ^ 32 }, { connReq with dstIp := 2 ^ 32 }, { connReq with srcMac := 2 ^ 48 },
      { connReq with pcp := 2 ^ 3 }, { connReq with vlan := some (2 ^ 12) }, { connReq with dscp := 2 ^ 6 },
      { connReq with commId := 2 ^ 32 }, { connReq with serviceId := 2 ^ 64 }, { connReq with remoteQpn := 2 ^ 24 },
      { connReq with startPsn := 2 ^ 24 }, { connReq with respRes := 2 ^ 8 }, { connReq with hostId := 2 ^ 16 }].all (fun x => !wellFormed (.cmReq x)) = true := by decide
theorem test_illformed_regionBlock :
    [
      { sampleBlock with tenant := 2 ^ 8 }, { sampleBlock with tier := 2 ^ 8 }, { sampleBlock with region := 2 ^ 32 },
      { sampleBlock with key := 2 ^ 32 }, { sampleBlock with pages := 2 ^ 32 }, { sampleBlock with owner := 2 ^ 7 }].all (fun x => !wellFormed (.create x)) = true := by decide
theorem test_illformed_stateBlock :
    [
      { sampleState with tenant := 2 ^ 8 }, { sampleState with tier := 2 ^ 8 }, { sampleState with stateNo := 2 ^ 16 },
      { sampleState with region := 2 ^ 32 }, { sampleState with newRegion := 2 ^ 32 }, { sampleState with owner := 2 ^ 7 },
      { sampleState with retain := 2 ^ 32 }].all (fun x => !wellFormed (.cut x)) = true := by decide
theorem test_illformed_frameHead :
    [
      { fhead with epoch := 2 ^ 32 }, { fhead with counter := 2 ^ 64 }, { fhead with fsn := 2 ^ 32 }, { fhead with ackFsn := 2 ^ 32 },
      { fhead with mode := 2 ^ 3 }, { fhead with tstate := 2 ^ 4 }, { fhead with node := 2 ^ 7 }, { fhead with dirty := 2 ^ 32 }].all (fun x => !wellFormed (.ackFrame x)) = true := by decide
theorem test_illformed_statusBody :
    [
      { sbody with syncGen := 2 ^ 32 }, { sbody with tableGen := 2 ^ 32 }, { sbody with incarnation := 2 ^ 32 },
      { sbody with standing := 2 ^ 2 }].all (fun x => !wellFormed (.helloFrame fhead x)) = true := by decide
theorem test_illformed_dramWord :
    [
      { dword with line := 2 ^ 42 }, { dword with word := 2 }, { dword with sub := 2 }, { dword with rank := 2 }, { dword with bg := 8 },
      { dword with ba := 4 }, { dword with cid := 2 }, { dword with row := 2 ^ 17 }, { dword with verdict := 3 },
      { dword with device := 10 }, { dword with col := 2 ^ 7 }].all (fun x => !wellFormed (.dramReadDone 0 x)) = true := by decide
theorem test_illformed_fiethFrame :
    [
      { fframe with cmd := 2 ^ 8 }, { fframe with tag := 2 ^ 8 }, { fframe with idx := 2 ^ 16 }, { fframe with sub := 2 ^ 8 },
      { fframe with flags := 2 ^ 8 }, { fframe with resv := 2 ^ 16 }, { fframe with off := 2 ^ 32 }, { fframe with len := 2 ^ 32 },
      { fframe with value := List.replicate 49 0 }].all (fun x => !wellFormed (.fiethRead 0 x)) = true := by decide
theorem test_illformed_optionFields :
    [
      { opts with version := 2 ^ 32 }, { opts with density := 2 ^ 8 }, { opts with ranks := 2 ^ 8 }, { opts with dataRate := 2 ^ 16 },
      { opts with dieType := 2 ^ 8 }, { opts with nandRate := 2 ^ 8 }, { opts with dies := 2 ^ 16 }, { opts with holdUp := 2 ^ 16 },
      { opts with tlcRated := 2 ^ 32 }, { opts with pslcRated := 2 ^ 32 }, { opts with iface := 2 ^ 8 }, { opts with macBase := 2 ^ 48 },
      { opts with ports := 2 ^ 8 }].all (fun x => !wellFormed (.optionLoadDone x false [])) = true := by decide
theorem test_illformed_operands_1 :
    ([
      .fillReturn 0 (2 ^ 41), .replayEntryExpire (2 ^ 16) 0 false, .replayEntryExpire 0 (2 ^ 48) false, .configApplyAtIdle 65,
      .cnpReceive (2 ^ 24), .contextFetchDone (2 ^ 24), .ackTimer (2 ^ 24), .sprayAckTimer (2 ^ 24), .readResponseSend (2 ^ 24),
      .rateAlphaTick (2 ^ 24), .rateIncreaseTick (2 ^ 24), .cmRtu (2 ^ 24), .cmDreq (2 ^ 24), .cmDrep (2 ^ 24), .connectTimeout (2 ^ 24),
      .qpIdleTimeout (2 ^ 24), .drepTimeout (2 ^ 24), .tenantTableWrite 0 (2 ^ 64), .quotaTableWrite 0 (2 ^ 128),
      .hostTableWrite 0 (2 ^ 16), .replayWindowWrite (2 ^ 8), .moveCopyDone (2 ^ 32), .cleanAddr (2 ^ 41), .flushAddr (2 ^ 41),
      .invalidateAddr (2 ^ 41), .sliceSramError 0 0 false [2 ^ 41], .sliceFail 0 (2 ^ 8) [], .sliceFail 0 0 [2 ^ 41],
      .dramTrainingDone 0 (2 ^ 8) false false, .retrainDone 0 (2 ^ 8) 0 none, .nandChannelReady 0 false (2 ^ 16),
      .nandReadDone (2 ^ 34) .hard, .nandEraseDone 0 0 (2 ^ 11) false 0, .tracerVerifyStart 0 0 (2 ^ 11),
      .tracerVerifyDone 0 0 (2 ^ 11) 0 false 0, .tracerVerifyDone 0 0 0 101 false 0, .tracerPatrol 0 0 (2 ^ 11) 0 false] : List Instr).all (fun x => !wellFormed x) = true := by decide
theorem test_illformed_operands_2 :
    ([
      .tracerPatrol 0 0 0 101 false, .dieRetire 0 0 (2 ^ 8), .imageEligible (2 ^ 32), .journalImageDone (2 ^ 32) false, .budgetWrite 4 0,
      .budgetWrite 0 (2 ^ 8), .dumpSealed (2 ^ 32) 0, .dumpSealed 0 (2 ^ 32), .holdupEnergyWrite (2 ^ 16), .halfFail 0 (2 ^ 8),
      .mapDirectoryLoaded (2 ^ 32), .restorePageDone (2 ^ 32) false, .segmentLoadDone (2 ^ 33), .orphanReclaim 0 0 (2 ^ 11),
      .traceWindowEnd (2 ^ 16), .cutPointsReported (2 ^ 32), .stateCaptureDone (2 ^ 16) 0 false, .stateCaptureDone 0 (2 ^ 32) false,
      .stateSettle (2 ^ 16), .stateRetentionExpire (2 ^ 16), .profileWrite (2 ^ 8), .keyGenerate 64 0, .keyGenerate 0 (2 ^ 4),
      .keyImport 64 0, .keyImport 0 (2 ^ 4), .keyErase 64, .keyMigrate 64, .writeSlotWrite (2 ^ 8), .ueLockClaim 0, .ueLockClaim 6,
      .ueLockRelease 0, .ueLockRelease 6, .firmwareBankWrite 0 (2 ^ 23) [], .svnCommit (2 ^ 8), .segment 0 (2 ^ 8) 0 [],
      .segment 0 0 (2 ^ 16) [], .segment 0 0 0 (List.replicate 61 0)] : List Instr).all (fun x => !wellFormed x) = true := by decide
theorem test_illformed_operands_3 :
    ([
      .fiethAck 0 (2 ^ 8) 0, .fiethAck 0 0 (2 ^ 16), .fiethAbort 0 (2 ^ 8) 0, .fiethAbort 0 0 (2 ^ 32), .dictWrite (2 ^ 16) 0 0 [],
      .dictWrite 0 (2 ^ 8) 0 [], .dictWrite 0 0 (2 ^ 32) [], .duplicateNode 0 (2 ^ 11), .canRateWrite 0 false (2 ^ 8),
      .canChannelEnableWrite (2 ^ 16), .portConfigWrite 0 (2 ^ 8) 0, .portConfigWrite 0 0 (2 ^ 128), .resetCauseClear (2 ^ 32),
      .injectOnce (2 ^ 16) 0 0, .injectOnce 0 (2 ^ 16) 0, .injectOnce 0 0 (2 ^ 8), .injectRepeatedly (2 ^ 16) 0 0 0 0,
      .injectRepeatedly 0 (2 ^ 16) 0 0 0, .injectRepeatedly 0 0 (2 ^ 8) 0 0, .injectRepeatedly 0 0 0 (2 ^ 16) 0,
      .injectRepeatedly 0 0 0 0 (2 ^ 32), .disarmPoint (2 ^ 16) 0 0, .disarmPoint 0 (2 ^ 16) 0, .disarmPoint 0 0 (2 ^ 8),
      .injectionInterval (2 ^ 16) 0 0, .injectionInterval 0 (2 ^ 16) 0, .injectionInterval 0 0 (2 ^ 8), .recorderSealCheck (2 ^ 32),
      .blockIdleReport 113, .blockIdleTimeout 113, .blockWatchdogExpiry 112, .optionLoadDone opts false [64], .pllLockLost 92,
      .clockMonitorWindow (2 ^ 11), .railMonitorEvent 0 (2 ^ 16), .dramWriteDone 0 (2 ^ 41), .pfcPauseFrame 0 (2 ^ 8) false] : List Instr).all (fun x => !wellFormed x) = true := by decide
theorem test_illformed_image (data : Bytes) (h : 1048576 < data.length) : wellFormed (.firmwareBankWrite 0 0 data) = false := by
  have : ¬ data.length ≤ 1048576 := by omega
  simp [wellFormed, this]

/-! The worked examples of the manual, computed by hand there. -/
/-- The gas region of the example "translating a station write" (chapter 5). -/
def gasRegion : Region := ⟨0xc31, .active, 0, 1, 262144, 0x124000⟩
/-- Chapter 5, example: 200 bytes at 0x3_0007_2a48 touch three lines, the first from byte 72. -/
theorem test_station_write_pieces : pieces gasRegion 0x300072a48 200 =
    [(0x2a800e54, 72, 56, 0), (0x2a800e55, 0, 128, 56), (0x2a800e56, 0, 16, 184)] := by decide
/-- Chapter 7, example: the fold of line 0x2a80_0e54, its slice, set and tag, and the slices of the next two lines. -/
theorem test_line_homes : (homeSlice 0x2a800e54, lineSet 0x2a800e54, lineTag 0x2a800e54, homeSlice 0x2a800e55, homeSlice 0x2a800e56)
    = (7, 641, 16579, 6, 9) := by decide
/-- Chapter 7: the set and tag of a cached line give its address back. -/
theorem test_line_of_set : lineOfSet 7 641 16579 = 0x2a800e54 := by decide
/-- Chapter 6, example: stripe set 70 is die 6 of NC4, NC14, NC24 and NC34. -/
theorem test_stripe_set : (setDieNo 70, (List.range 4).map (setChannel 70)) = (6, [4, 14, 24, 34]) := by decide
/-- Chapter 10, example: 80 J carry 34 GiB and not 35; 109 J carry 48 GiB and not 49 (chapter 21). -/
theorem test_energy_need : (energyNeed 34 ≤ 80 ∧ 80 < energyNeed 35) ∧ energyNeed 48 ≤ 109 ∧ 109 < energyNeed 49 := by decide
/-- Chapter 8, Table 8.4: a refresh that falls due in a burst at count 7 is postponed, and one at count 8 is not. -/
theorem test_refresh_due :
    ((chanOf (doRefreshDue 12 0 { up with dram := { channels := [(12, { st := .serving, panicCp := true, post := [7, 0, 0, 0] })] } }) 12).post,
      (chanOf (doRefreshDue 12 0 { up with dram := { channels := [(12, { st := .serving, panicCp := true, post := [8, 0, 0, 0] })] } }) 12).post)
      = ([8, 0, 0, 0], [8, 0, 0, 0]) := by decide
/-- Chapter 16, Table 16.11: the element 0x8003 of host 0x31 enables it in tenant 3. -/
theorem test_host_element :
    (fun s => (hostTenant s 0x31, hostEnabled s 0x31))
      { up with per := { live := { tenants := [(3, { enable := true })], hosts := [(0x31, 0x8003)] } } } = (3, true) := by decide
/-- Responses of NODE_ID 0x12 leave under identifier 0x492 (chapter 16, example), padded to a length CAN FD has. -/
theorem test_response_identifier :
    (fiethSend 0 [9] { up with fieth := { mccHeld := false, chans := [{ st := .active }, {}] }, rst := { up.rst with node := 0x12 } }).outbox
      = [.can 0 0x492 (9 :: List.replicate 15 0)] := by decide
/-- A millisecond passes on an empty queue (log entry 2). -/
theorem test_idle : step State.reset = .next (tick State.reset) := rfl
theorem test_idle_counts : (tick State.reset).rtc = 1 := by decide

/-! ## States and operands that meet the hypotheses of the statements -/

theorem witness_IdleStepCountsAMillisecond : ∃ s : State, s.pending = [] := ⟨State.reset, rfl⟩
theorem witness_EveryCommandKeepsItsFrame : ∃ (c : Instr) (s t : State), exec c s = .next t := ⟨.pwrgdAssert, State.reset, _, rfl⟩
theorem witness_ExecLeavesTheQueue : ∃ (c : Instr) (s t : State), exec c s = .next t := ⟨.pwrgdAssert, State.reset, _, rfl⟩
theorem witness_SealNeverMends : ∃ (c : Instr) (s t : State), exec c s = .next t := ⟨.pwrgdAssert, State.reset, _, rfl⟩
theorem witness_FusedVersionNeverFalls : ∃ (c : Instr) (s t : State), exec c s = .next t := ⟨.pwrgdAssert, State.reset, _, rfl⟩
theorem witness_CounterFusesOnlyBurn : ∃ (c : Instr) (s t : State), exec c s = .next t := ⟨.pwrgdAssert, State.reset, _, rfl⟩
theorem witness_NodeIsTakenAtPowerOnOnly : ∃ (c : Instr) (s t : State), exec c s = .next t ∧ ∀ n, c ≠ .powerOnResetEnd n := ⟨.pwrgdAssert, State.reset, _, rfl, fun _ h => by cases h⟩
theorem witness_ClockRunsOnlyWithTime : ∃ (c : Instr) (s t : State), exec c s = .next t ∧ c ≠ .vddAonLow ∧ ∀ r v, c ≠ .railMonitorEvent r v := ⟨.pwrgdAssert, State.reset, _, rfl, by decide, fun _ _ h => by cases h⟩
theorem witness_HostsChangeNoAdministration : ∃ (c : Instr) (s t : State), fromHosts c = true ∧ exec c s = .next t := ⟨.keepalive (packet 10 5 0 0 0 []), linked, _, rfl, rfl⟩
theorem witness_EveryStepKeepsTheInvariant : ∃ s t : State, Inv s ∧ step s = .next t := ⟨State.reset, _, ⟨by decide, by decide, by decide, by decide, by decide, by decide⟩, rfl⟩
theorem witness_NextEpochAtTheLimit_1 : ∃ (p : Nat × Bool) (s : State), (s.cp.sessionUp = true) ∧ (s.cp.nextEpoch = none) ∧
  (ueFenced s = false) ∧ (nextEpochOf s true = some p) := by
  refine ⟨(16777218, false), { (mirroring .sync) with pending := [] }, ?_⟩
  first | decide | ((repeat' apply And.intro) <;> first | decide | rfl)
theorem witness_NextEpochAtTheLimit_2 : ∃ (h : FrameHead) (e : Nat) (s : State), (authentic s h = true) ∧ (s.cp.nextEpoch = some e)
  := by
  refine ⟨⟨0, true, 16777217, 7, 0, 1, false, 2, 0, 2, 0⟩, 16777218,
    { mirroring .sync with cp := { (mirroring .sync).cp with nextEpoch := some 16777218 } }, ?_⟩
  first | decide | ((repeat' apply And.intro) <;> first | decide | rfl)
theorem witness_SequencesPrecedeSerially : ∃ a b : Nat, a < 2 ^ 48 ∧ b < 2 ^ 48 := ⟨2 ^ 48 - 1, 0, by decide, by decide⟩
theorem witness_WriteBackStoresItsLine : ∃ (slice : Fin 14) (w : WriteBack) (f : Nat) (s : State), ((sliceOf s slice).wbs = [w]) ∧
  ((dirOf s (lineTpn w.line)).home = .dram f) ∧ ((dirOf s (lineTpn w.line)).zero = false) ∧ (Memory.wf s.dram.mem = true) ∧
  (Memory.wf w.data = true) := by
  refine ⟨0, ⟨0, false, [(127, 9)]⟩, 3,
    { up with per := { live := { dir := [(0, { home := .dram 3 })] } }, cs := { slices := [(0, { wbs := [⟨0, false, [(127, 9)]⟩] })] } },
    ?_⟩
  first | decide | ((repeat' apply And.intro) <;> first | decide | rfl)
theorem witness_LossOfVddAonIsAPowerOnReset : ∃ (s : State), (s.rst.phase ≠ .off) := by
  refine ⟨up, ?_⟩
  first | decide | ((repeat' apply And.intro) <;> first | decide | rfl)
theorem witness_PresenceWindowCommands_1 : ∃ (s : State), (s.pres.stuck = false) ∧ (s.rst.phase ≠ .off) ∧ (s.rst.phase ≠ .powerOn)
  := by
  refine ⟨up, ?_⟩
  first | decide | ((repeat' apply And.intro) <;> first | decide | rfl)
theorem witness_PresenceWindowCommands_2 : ∃ (s : State), (s.pres.stuck = false) := by
  refine ⟨up, ?_⟩
  first | decide | ((repeat' apply And.intro) <;> first | decide | rfl)
theorem witness_PresenceWindowCommands_4 : ∃ (s : State), (s.pres.windowOpen = true) := by
  refine ⟨{ up with pres := { windowOpen := true, armed := [⟨false, 0x0101, 3, 1, 0, 0, 0, true⟩] } }, ?_⟩
  first | decide | ((repeat' apply And.intro) <;> first | decide | rfl)
theorem witness_PresenceWindowCommands_5 : ∃ (s : State), (Serves s) ∧ (s.pres.windowOpen = true) := by
  refine ⟨{ up with pres := { windowOpen := true, armed := [⟨false, 0x0101, 3, 1, 0, 0, 0, true⟩] } }, ?_⟩
  first | decide | ((repeat' apply And.intro) <;> first | decide | rfl)
theorem witness_SealJumperJtagCommands_1 : ∃ (loopB : Bool) (s : State), (s.pres.broken = false) ∧ (s.rst.phase ≠ .off) ∧
  (s.rst.phase ≠ .powerOn) := by
  refine ⟨true, up, ?_⟩
  first | decide | ((repeat' apply And.intro) <;> first | decide | rfl)
theorem witness_SealJumperJtagCommands_2 : ∃ (loopB : Bool) (s : State), (s.pres.broken = true) := by
  refine ⟨false, { up with pres := { broken := true } }, ?_⟩
  first | decide | ((repeat' apply And.intro) <;> first | decide | rfl)
theorem witness_SealJumperJtagCommands_3 : ∃ (s : State), (s.md.mode = .service) ∧ (s.md.entering = false) ∧ (s.md.causes = 0) := by
  refine ⟨{ up with md := { mode := .service }, pres := { jumper := true } }, ?_⟩
  first | decide | ((repeat' apply And.intro) <;> first | decide | rfl)
theorem witness_SealJumperJtagCommands_4 : ∃ (s : State), (s.md.mode ≠ .service) ∧ (s.md.causes = 0) := by
  refine ⟨{ up with pres := { jumper := true } }, ?_⟩
  first | decide | ((repeat' apply And.intro) <;> first | decide | rfl)
theorem witness_SealJumperJtagCommands_5 : ∃ (code : Nat) (s : State), (s.md.mode = .service) := by
  refine ⟨0, { up with md := { mode := .service } }, ?_⟩
  first | decide | ((repeat' apply And.intro) <;> first | decide | rfl)
theorem witness_SealJumperJtagCommands_6 : ∃ (s : State), (s.md.mode = .service) ∧ (s.rst.phase = .running) ∧ (s.rst.loadDone =
  true) ∧ (s.fix.phase ≠ .sealed) ∧ (s.fix.dumpDead = false) := by
  refine ⟨{ up with md := { mode := .service } }, ?_⟩
  first | decide | ((repeat' apply And.intro) <;> first | decide | rfl)
theorem witness_SealJumperJtagCommands_7 : ∃ (code : Nat) (s : State), (s.rst.sysrst = true) ∧ (s.pres.jumper = true) ∧ (code < 3)
  := by
  refine ⟨2, { up with rst := { sysrst := true }, pres := { jumper := true } }, ?_⟩
  first | decide | ((repeat' apply And.intro) <;> first | decide | rfl)
theorem witness_InjectionCommands_1 : ∃ (point inst variant : Nat) (s : State), (ServesPresent s) ∧ (armStatus ⟨false, point, inst,
  variant, 0, 0, 0, true⟩ true s = 0) ∧ (firesAtArming point = false) := by
  refine ⟨0x0101, 3, 1, { up with md := { mode := .service }, pres := { windowOpen := true } }, ?_⟩
  first | decide | ((repeat' apply And.intro) <;> first | decide | rfl)
theorem witness_InjectionCommands_2 : ∃ (point inst variant count interval : Nat) (s : State), (ServesPresent s) ∧ (1 ≤ interval) ∧
  (interval ≤ 10000000) ∧ (armStatus ⟨true, point, inst, variant, count, interval, 0, true⟩ true s = 0) ∧ (firesAtArming point =
  false) := by
  refine ⟨0x0101, 3, 2, 5, 10000000, { up with md := { mode := .service }, pres := { windowOpen := true } }, ?_⟩
  first | decide | ((repeat' apply And.intro) <;> first | decide | rfl)
theorem witness_InjectionCommands_3 : ∃ (point inst variant : Nat) (s : State), (ServesPresent s) ∧ (s.pres.armed.any (samePoint
  ⟨false, point, inst, variant, 0, 0, 0, true⟩) = true) ∧ (1 ≤ variant) ∧ (variant ≤ variantsOf point) := by
  refine ⟨0x0101, 3, 1,
    { up with md := { mode := .service }, pres := { windowOpen := true, armed := [⟨true, 0x0101, 3, 1, 5, 10, 0, true⟩] } }, ?_⟩
  first | decide | ((repeat' apply And.intro) <;> first | decide | rfl)
theorem witness_InjectionCommands_4 : ∃ (s : State), (ServesPresent s) := by
  refine ⟨{ up with md := { mode := .service }, pres := { windowOpen := true, armed := [⟨true, 0x0101, 3, 1, 5, 10, 0, true⟩] } },
    ?_⟩
  first | decide | ((repeat' apply And.intro) <;> first | decide | rfl)
theorem witness_InjectionCommands_5 : ∃ (point inst variant : Nat) (s : State), (s.pres.armed.any (fun b => samePoint ⟨true, point,
  inst, variant, 0, 0, 0, true⟩ b && b.repeated && !b.ready) = true) ∧ (firesAtArming point = false) := by
  refine ⟨0x0101, 3, 1, { up with pres := { armed := [⟨true, 0x0101, 3, 1, 5, 10, 1, false⟩] } }, ?_⟩
  first | decide | ((repeat' apply And.intro) <;> first | decide | rfl)
theorem witness_RecorderCommands_1 : ∃ (d : Draft) (rest : List Draft) (s : State), (s.rmq.waiting = d :: rest) ∧ (seqKnown s =
  true) ∧ (s.rst.phase ≠ .off) ∧ (s.rst.phase ≠ .powerOn) ∧ (d.sev < 2) ∧ ((dropSet s.rmq.unflushed (s.rmq.next % 32768)).length + 1
  < 16384) := by
  refine ⟨⟨0x07010000, 5, 0x0701, 0, 0, false, false, false, 1, []⟩, [],
    { up with rmq := { waiting := [⟨0x07010000, 5, 0x0701, 0, 0, false, false, false, 1, []⟩] } }, ?_⟩
  first | decide | ((repeat' apply And.intro) <;> first | decide | rfl)
theorem witness_RecorderCommands_2 : ∃ (d : Draft) (rest : List Draft) (s : State), (s.rmq.waiting = d :: rest) ∧ (s.md.mode ≠
  .drain) ∧ (s.rec_.dirLoaded = true) ∧ (s.rst.phase ≠ .off) ∧ (s.rst.phase ≠ .powerOn) ∧ (2 ≤ d.sev) ∧ (s.rmq.lockWait = false) ∧
  (bitOf s.md.causes 4 = false) ∧ (s.keys.fenced = []) ∧ (s.keys.ueOwner = 0) := by
  refine ⟨⟨0x01050000, 5, 0x0105, 3, 0, false, false, false, 1, []⟩, [],
    { up with rmq := { waiting := [⟨0x01050000, 5, 0x0105, 3, 0, false, false, false, 1, []⟩] } }, ?_⟩
  first | decide | ((repeat' apply And.intro) <;> first | decide | rfl)
theorem witness_RecorderCommands_3 : ∃ (s : State), (s.md.mode ≠ .drain) ∧ (s.rec_.dirLoaded = true) ∧ (s.rmq.unflushed.isEmpty =
  false) ∧ (s.rmq.lockWait = false) ∧ (bitOf s.md.causes 4 = false) ∧ (s.keys.fenced = []) ∧ (s.keys.ueOwner = 0) := by
  refine
    ⟨{ up with rmq := { unflushed := [0], ring := [(0, ⟨0, 1, ⟨0, 5, 0x0701, 0, 0, false, false, false, 1, []⟩⟩)], next := 1 } },
    ?_⟩
  first | decide | ((repeat' apply And.intro) <;> first | decide | rfl)
theorem witness_RecorderCommands_4 : ∃ (s : State), (s.md.mode = .solo) ∧ (s.rec_.dirLoaded = true) ∧ (s.rmq.unflushed.isEmpty =
  false) ∧ (bitOf s.md.causes 4 = false) := by
  refine ⟨{ up with rmq := { unflushed := [0] } }, ?_⟩
  first | decide | ((repeat' apply And.intro) <;> first | decide | rfl)
theorem witness_RecorderCommands_5 : ∃ (s : State), (s.rmq.lockWait = true) ∧ (s.keys.ueOwner ≠ 4) ∧ (s.md.mode ≠ .drain) ∧
  (s.rmq.unflushed.isEmpty = false) := by
  refine ⟨{ up with rmq := { unflushed := [0], lockWait := true }, keys := { ueOwner := 2, ueWait := [4] } }, ?_⟩
  first | decide | ((repeat' apply And.intro) <;> first | decide | rfl)
theorem witness_RecorderCommands_6 : ∃ (failing : Nat) (s : State), (s.rec_.phase ≠ .none) := by
  refine ⟨3, { up with rec_ := { phase := .preparing } }, ?_⟩
  first | decide | ((repeat' apply And.intro) <;> first | decide | rfl)
theorem witness_ModeRequestCommands_1 : ∃ (s : State), (Serves s) ∧ (s.pres.windowOpen = true) ∧ (dget s 0x110004 ≠ 255) ∧
  (s.md.mode = .duplex ∨ s.md.mode = .solo ∨ s.md.mode = .service ∨ s.md.mode = .keep) := by
  refine ⟨{ up with pres := { windowOpen := true } }, ?_⟩
  first | decide | ((repeat' apply And.intro) <;> first | decide | rfl)
theorem witness_ModeRequestCommands_2 : ∃ (s : State), (Serves s) ∧ (s.pres.windowOpen = true) ∧ (dget s 0x110004 ≠ 255) ∧
  (s.md.mode = .duplex ∨ s.md.mode = .solo) ∧ (s.md.entering = false) ∧ (s.pres.jumper = true) := by
  refine ⟨{ up with pres := { windowOpen := true, jumper := true } }, ?_⟩
  first | decide | ((repeat' apply And.intro) <;> first | decide | rfl)
theorem witness_ModeRequestCommands_3 : ∃ (s : State), (Serves s) ∧ (s.pres.windowOpen = true) ∧ (dget s 0x110004 ≠ 255) ∧
  (s.md.mode = .service) ∧ (s.md.entering = false) := by
  refine ⟨{ up with pres := { windowOpen := true }, md := { mode := .service } }, ?_⟩
  first | decide | ((repeat' apply And.intro) <;> first | decide | rfl)
theorem witness_ModeRequestCommands_4 : ∃ (s : State), (Serves s) ∧ (s.pres.windowOpen = true) ∧ (dget s 0x110004 ≠ 255) ∧
  (s.md.mode = .keep) ∧ (clrBit (clrBit s.md.causes 9) 12 ≠ 0) := by
  refine ⟨{ up with pres := { windowOpen := true }, md := { mode := .keep, causes := 0x0201 } }, ?_⟩
  first | decide | ((repeat' apply And.intro) <;> first | decide | rfl)
theorem witness_ModeRequestCommands_5 : ∃ (s : State), (Serves s) ∧ (s.pres.windowOpen = true) ∧ (dget s 0x110004 ≠ 255) ∧
  (s.md.mode = .keep) ∧ (clrBit (clrBit s.md.causes 9) 12 = 0) ∧ (s.rec_.phase = .none) ∧ (s.per.live.standing = .alone) := by
  refine ⟨{ up with pres := { windowOpen := true }, md := { mode := .keep, causes := 0x0200 } }, ?_⟩
  first | decide | ((repeat' apply And.intro) <;> first | decide | rfl)
theorem witness_ModeRequestCommands_6 : ∃ (s : State), (Serves s) ∧ (s.pres.windowOpen = true) ∧ (dget s 0x110004 ≠ 255) ∧
  (s.md.mode = .service) ∧ (s.md.entering = false) := by
  refine ⟨{ up with pres := { windowOpen := true }, md := { mode := .service } }, ?_⟩
  first | decide | ((repeat' apply And.intro) <;> first | decide | rfl)
theorem witness_ModeRequestCommands_7 : ∃ (s : State), (Serves s) ∧ (s.pres.windowOpen = true) ∧ (dget s 0x110004 ≠ 255) ∧
  (s.md.mode = .service) ∧ (s.md.entering = false) ∧ (s.cp.twin = .inSync) := by
  refine ⟨{ up with pres := { windowOpen := true }, md := { mode := .service }, cp := { twin := .inSync } }, ?_⟩
  first | decide | ((repeat' apply And.intro) <;> first | decide | rfl)
theorem witness_ProfileTemperaturePorts_1 : ∃ (profile : Nat) (s : State), (Serves s) ∧ (1 ≤ profile) ∧ (profile ≤ 3) ∧ (budgetFits
  s (budgetOf s profile) = true) := by
  refine ⟨2, up, ?_⟩
  first | decide | ((repeat' apply And.intro) <;> first | decide | rfl)
theorem witness_ProfileTemperaturePorts_2 : ∃ (celsius : Int) (s : State), (celsius > 115) ∧ (s.md.mode ≠ .drain) := by
  refine ⟨116, up, ?_⟩
  first | decide | ((repeat' apply And.intro) <;> first | decide | rfl)
theorem witness_ProfileTemperaturePorts_3 : ∃ (celsius : Int) (s : State), (celsius ≤ 115) ∧ ((dget s 0x110007 : Int) < celsius) ∧
  (bitOf s.md.causes 1 = false) ∧ (s.md.mode = .duplex ∨ s.md.mode = .solo ∨ s.md.mode = .service) := by
  refine ⟨106, up, ?_⟩
  first | decide | ((repeat' apply And.intro) <;> first | decide | rfl)
theorem witness_ProfileTemperaturePorts_4 : ∃ (celsius : Int) (s : State), (bitOf s.md.causes 1 = true) ∧ (celsius + 5 ≤ (dget s
  0x110007 : Int)) ∧ (s.md.mode ≠ .keep) := by
  refine ⟨100, { up with md := { mode := .solo, causes := 2 } }, ?_⟩
  first | decide | ((repeat' apply And.intro) <;> first | decide | rfl)
theorem witness_ProfileTemperaturePorts_5 : ∃ (port : Fin 128) (s : State), ((portOf s port.val).st ≠ .failed) ∧ ((portOf s
  (port.val ^^^ 8)).st ≠ .failed) ∧ ((portOf s (port.val ^^^ 8)).st ≠ .disabled) ∧ (s.pres.armed = []) := by
  refine ⟨3, up, ?_⟩
  first | decide | ((repeat' apply And.intro) <;> first | decide | rfl)
theorem witness_ProfileTemperaturePorts_6 : ∃ (port : Fin 128) (s : State), ((portOf s port.val).st = .up) ∧ ((portOf s
  port.val).proxied = true) := by
  refine ⟨3, { up with ports := [(3, { st := .up, proxied := true }), (11, { st := .up, answering := true })] }, ?_⟩
  first | decide | ((repeat' apply And.intro) <;> first | decide | rfl)
theorem witness_ProfileTemperaturePorts_8 : ∃ (unit : Nat) (s : State), (unit < 16) := by
  refine ⟨15, up, ?_⟩
  first | decide | ((repeat' apply And.intro) <;> first | decide | rfl)
theorem witness_ProfileTemperaturePorts_9 : ∃ (unit : Nat) (s : State), (33 ≤ unit) ∧ (unit < 65) := by
  refine ⟨64, up, ?_⟩
  first | decide | ((repeat' apply And.intro) <;> first | decide | rfl)
theorem witness_ProfileTemperaturePorts_10 : ∃ (group port : Nat) (s : State), (group < 16) ∧ (8 * group ≤ port) ∧ (port < 8 * group
  + 8) ∧ (dget s (0x200001 + port * 256) = 0) := by
  refine ⟨15, 127, { up with dict := [(0x207f01, 0)] }, ?_⟩
  first | decide | ((repeat' apply And.intro) <;> first | decide | rfl)
theorem witness_KeyCommands_1 : ∃ (slot kind : Nat) (s : State), (TakesKeys s) ∧ (kind = 1 ∨ kind = 2) ∧ (slotProtected s (slot %
  64) = false) ∧ (s.keys.fenced = []) := by
  refine ⟨5, 2, { up with pres := { windowOpen := true } }, ?_⟩
  first | decide | ((repeat' apply And.intro) <;> first | decide | rfl)
theorem witness_KeyCommands_2 : ∃ (slot : Nat) (m : Bytes) (s : State), (TakesKeys s) ∧ (s.keys.material = some m) ∧ (m.length = 64)
  ∧ (m.take 32 ≠ m.drop 32) ∧ (slotProtected s (slot % 64) = false) ∧ (s.keys.fenced = []) := by
  refine ⟨5, leBytes 64 1, { up with pres := { windowOpen := true }, keys := { material := some (leBytes 64 1) } }, ?_⟩
  first | decide | ((repeat' apply And.intro) <;> first | decide | rfl)
theorem witness_KeyCommands_3 : ∃ (slot : Nat) (s : State), (TakesKeys s) ∧ (slotProtected s (slot % 64) = false) ∧ (dget s 0x350104
  ≠ slot % 64) ∧ (inUse s (slot % 64) = 0) := by
  refine ⟨5, { up with pres := { windowOpen := true }, keys := { slots := [(5, { st := .loaded, kind := 2, value := 77 })] } }, ?_⟩
  first | decide | ((repeat' apply And.intro) <;> first | decide | rfl)
theorem witness_KeyCommands_4 : ∃ (slot : Nat) (s : State), (TakesKeys s) ∧ (s.keys.fenced = []) ∧ (writeSlot s ≠ slot % 64) ∧
  ((keySlotOf s (slot % 64)).st ≠ .empty) ∧ (slotUnits s (slot % 64) = 0) ∧ (s.per.live.groups = []) ∧ (s.per.live.images = []) ∧
  (bitOf s.md.causes 6 = false) := by
  refine ⟨5, { up with pres := { windowOpen := true }, keys := { slots := [(5, { st := .loaded, kind := 1, value := 77 })] } }, ?_⟩
  first | decide | ((repeat' apply And.intro) <;> first | decide | rfl)
theorem witness_KeyCommands_5 : ∃ (slot : Fin 64) (key : Nat) (s : State), ((keySlotOf s slot.val).st = .shadow) ∧ ((keySlotOf s
  slot.val).next = some key) ∧ (inUse s slot.val = 0) := by
  refine ⟨5, 9, { up with keys := { slots := [(5, { st := .shadow, kind := 1, value := 77, next := some 9, nextKind := 1 })] } },
    ?_⟩
  first | decide | ((repeat' apply And.intro) <;> first | decide | rfl)
theorem witness_KeyCommands_6 : ∃ (slot : Nat) (s : State), (Serves s) ∧ (s.pres.windowOpen = true) ∧ (slot ≤ 63) ∧ ((keySlotOf s
  slot).st = .loaded) ∧ ((keySlotOf s slot).kind = 1) := by
  refine ⟨5, { up with pres := { windowOpen := true }, keys := { slots := [(5, { st := .loaded, kind := 1, value := 77 })] } }, ?_⟩
  first | decide | ((repeat' apply And.intro) <;> first | decide | rfl)
theorem witness_EngineAndFirmwareCommands_1 : ∃ (client : Nat) (s : State), (s.keys.fenced = []) ∧ (1 ≤ client) ∧ (client ≤ 5) ∧
  (s.keys.ueOwner = 0) := by
  refine ⟨5, up, ?_⟩
  first | decide | ((repeat' apply And.intro) <;> first | decide | rfl)
theorem witness_EngineAndFirmwareCommands_2 : ∃ (client : Nat) (s : State), (s.keys.fenced = []) ∧ (1 ≤ client) ∧ (client ≤ 5) ∧
  (s.keys.ueOwner ≠ 0) ∧ (s.keys.ueOwner ≠ client) := by
  refine ⟨5, { up with keys := { ueOwner := 3 } }, ?_⟩
  first | decide | ((repeat' apply And.intro) <;> first | decide | rfl)
theorem witness_EngineAndFirmwareCommands_3 : ∃ (client : Nat) (s : State), (s.keys.ueOwner = client) ∧ (client = 1 ∨ client = 2 ∨
  client = 5) ∧ (s.keys.ueWait = []) ∧ (s.pres.armed = []) := by
  refine ⟨5, { up with keys := { ueOwner := 5 } }, ?_⟩
  first | decide | ((repeat' apply And.intro) <;> first | decide | rfl)
theorem witness_EngineAndFirmwareCommands_4 : ∃ (j : KeyJob) (s : State), (s.keys.ueOwner = 3) ∧ (s.keys.job = some j) ∧
  (s.keys.ueWait = []) ∧ (s.pres.armed = []) ∧ ((keySlotOf s j.slot).st = .empty) := by
  refine ⟨⟨5, 1, 1, 9⟩, { up with keys := { ueOwner := 3, job := some ⟨5, 1, 1, 9⟩ } }, ?_⟩
  first | decide | ((repeat' apply And.intro) <;> first | decide | rfl)
theorem witness_EngineAndFirmwareCommands_5 : ∃ (s : State), (s.keys.ueOwner ≠ 0) ∧ (s.keys.ueOwner ≠ 4) ∧ (s.keys.ueWait = []) :=
  by
  refine ⟨{ up with keys := { ueOwner := 5 } }, ?_⟩
  first | decide | ((repeat' apply And.intro) <;> first | decide | rfl)
theorem witness_EngineAndFirmwareCommands_6 : ∃ (engine : Fin 7) (s : State), (s.keys.fenced = []) ∧ (engine.val = 6 →
  s.keys.ueOwner ≠ 0) := by
  refine ⟨6, { up with keys := { ueOwner := 5 } }, ?_⟩
  first | decide | ((repeat' apply And.intro) <;> first | decide | rfl)
theorem witness_EngineAndFirmwareCommands_7 : ∃ (engine : Fin 7) (s : State), (s.keys.fenced = []) ∧ (engine.val = 4 ∨ engine.val =
  5) := by
  refine ⟨4, up, ?_⟩
  first | decide | ((repeat' apply And.intro) <;> first | decide | rfl)
theorem witness_EngineAndFirmwareCommands_8 : ∃ (bank : Fin 2) (data : Bytes) (s : State), (fiethSilent s = false) ∧ (s.fieth.boot =
  false) ∧ (s.pres.windowOpen = true) ∧ (data ≠ []) ∧ (data.length < 128) ∧ (s.keys.running ≠ some bank.val) ∧ (s.keys.banks.length
  = 2) ∧ ((bankOf s bank.val).verifying = false) := by
  refine ⟨1, [1, 2, 3], { up with pres := { windowOpen := true } }, ?_⟩
  first | decide | ((repeat' apply And.intro) <;> first | decide | rfl)
theorem witness_EngineAndFirmwareCommands_9 : ∃ (bank : Fin 2) (s : State), (s.keys.ueOwner = 5) ∧ (s.keys.ueWait = []) ∧
  (s.keys.banks.length = 2) ∧ ((bankOf s bank.val).verifying = true) ∧ (headerOk (bankOf s bank.val).image = true) := by
  refine ⟨1,
    { up with keys := { ueOwner := 5, banks := [{}, { image := mput [] 0 (leBytes 4 0x4c4e4657 ++ leBytes 4 7 ++ leBytes 4 3 ++ leBytes 4 1), verifying := true }] } },
    ?_⟩
  first | decide | ((repeat' apply And.intro) <;> first | decide | rfl)
theorem witness_EngineAndFirmwareCommands_10 : ∃ (value n : Nat) (s : State), (Serves s) ∧ (s.pres.windowOpen = true) ∧ (value ≤ 63)
  ∧ (s.keys.fusedSvn < value) ∧ (s.keys.running = some n) ∧ (value ≤ (bankOf s n).svn) := by
  refine ⟨4, 0,
    { up with pres := { windowOpen := true }, keys := { running := some 0, banks := [{ svn := 4, valid := true }, { svn := 3, valid := true }] } },
    ?_⟩
  first | decide | ((repeat' apply And.intro) <;> first | decide | rfl)
theorem witness_FiethRequestCommands_1 : ∃ (channel : Fin 2) (f : FiethFrame) (e : Entry) (s : State), (Hears s channel) ∧
  (NoTransfer s) ∧ (f.cmd = 1) ∧ (malformed f = false) ∧ (readCheck s f.idx f.sub f.off f.len = .ok e) ∧ ((readBytes s e f.idx f.sub
  f.off f.len).length ≤ 48) := by
  refine ⟨0, ⟨1, 9, 0x1080, 7, 0, 0, 0, 2, []⟩, ⟨0x1080, 1, 7, .b16, .rwp, .never, none⟩, up, ?_⟩
  first | decide | ((repeat' apply And.intro) <;> first | decide | rfl)
theorem witness_FiethRequestCommands_2 : ∃ (channel : Fin 2) (f : FiethFrame) (code : Nat) (s : State), (Hears s channel) ∧
  (NoTransfer s) ∧ (f.cmd = 1) ∧ (malformed f = false) ∧ (readCheck s f.idx f.sub f.off f.len = .error code) := by
  refine ⟨0, ⟨1, 9, 0x1080, 99, 0, 0, 0, 1, []⟩, 0x06010002, up, ?_⟩
  first | decide | ((repeat' apply And.intro) <;> first | decide | rfl)
theorem witness_FiethRequestCommands_3 : ∃ (channel : Fin 2) (f : FiethFrame) (e : Entry) (s : State), (Hears s channel) ∧
  (NoTransfer s) ∧ (f.cmd = 1) ∧ (malformed f = false) ∧ (readCheck s f.idx f.sub f.off f.len = .ok e) ∧ ((readBytes s e f.idx f.sub
  f.off f.len).length > 48) := by
  refine ⟨1, ⟨1, 9, 0x2101, 0, 0, 0, 0, 64, []⟩, ⟨0x2101, 1, 0, .domain 131072 2, .rwp, .never, none⟩, up, ?_⟩
  first | decide | ((repeat' apply And.intro) <;> first | decide | rfl)
theorem witness_FiethRequestCommands_4 : ∃ (channel : Fin 2) (f : FiethFrame) (code : Nat) (s : State), (Hears s channel) ∧
  (NoTransfer s) ∧ (f.cmd = 2) ∧ (malformed f = false) ∧ (expedited f = true) ∧ (writeCheck s f.idx f.sub f.off f.len = .error code)
  := by
  refine ⟨0, ⟨2, 9, 0x1080, 99, 1, 0, 0, 1, [1]⟩, 0x06010002, up, ?_⟩
  first | decide | ((repeat' apply And.intro) <;> first | decide | rfl)
theorem witness_FiethRequestCommands_5 : ∃ (channel : Fin 2) (f : FiethFrame) (s : State), (Hears s channel) ∧ (NoTransfer s) ∧
  (s.fieth.boot = false) ∧ (f.cmd = 2) ∧ (malformed f = false) ∧ (expedited f = true) ∧ (f.idx = 0x1080 ∧ f.sub = 8 ∧ f.off = 0 ∧
  f.len = 1 ∧ f.value = [1]) := by
  refine ⟨0, ⟨2, 9, 0x1080, 8, 1, 0, 0, 1, [1]⟩, up, ?_⟩
  first | decide | ((repeat' apply And.intro) <;> first | decide | rfl)
theorem witness_FiethRequestCommands_6 : ∃ (channel : Fin 2) (f : FiethFrame) (e : Entry) (s : State), (Hears s channel) ∧
  (NoTransfer s) ∧ (f.cmd = 2) ∧ (malformed f = false) ∧ (expedited f = false) ∧ (writeCheck s f.idx f.sub f.off f.len = .ok e) :=
  by
  refine ⟨0, ⟨2, 9, 0x1080, 8, 0, 0, 0, 1, []⟩, ⟨0x1080, 1, 8, .bool, .rw, .never, none⟩, up, ?_⟩
  first | decide | ((repeat' apply And.intro) <;> first | decide | rfl)
theorem witness_FiethRequestCommands_7 : ∃ (channel : Fin 2) (f : FiethFrame) (s : State), (Hears s channel) ∧ (f.cmd = 1) ∧
  (malformed f = true) := by
  refine ⟨0, ⟨1, 9, 0x1080, 8, 0, 1, 0, 1, []⟩, up, ?_⟩
  first | decide | ((repeat' apply And.intro) <;> first | decide | rfl)
theorem witness_FiethRequestCommands_8 : ∃ (channel : Fin 2) (f : FiethFrame) (s : State), (Hears s channel) ∧ (f.cmd ≠ 2) := by
  refine ⟨0, ⟨12, 9, 0x1080, 8, 0, 1, 0, 1, []⟩, up, ?_⟩
  first | decide | ((repeat' apply And.intro) <;> first | decide | rfl)
theorem witness_FiethTransferCommands_1 : ∃ (channel : Fin 2) (x : Transfer) (data : Bytes) (s : State), (Hears s channel) ∧ ((canOf
  s channel).xfer = some x) ∧ (x.read = false) ∧ (min 60 (x.head.len - x.data.length) ≤ data.length) ∧ (x.data.length + 60 <
  x.head.len) ∧ ((x.next + 1) % 16 ≠ 0) := by
  refine ⟨0, ⟨⟨2, 9, 0x2101, 1, 0, 0, 0, 100, []⟩, false, 0, 0, false, []⟩, List.replicate 60 7,
    { up with fieth := { mccHeld := false, chans := [{ xfer := some ⟨⟨2, 9, 0x2101, 1, 0, 0, 0, 100, []⟩, false, 0, 0, false, []⟩ }, {}] } },
    ?_⟩
  first | decide | ((repeat' apply And.intro) <;> first | decide | rfl)
theorem witness_FiethTransferCommands_2 : ∃ (channel : Fin 2) (x : Transfer) (data : Bytes) (s : State), (Hears s channel) ∧ ((canOf
  s channel).xfer = some x) ∧ (x.read = false) ∧ (min 60 (x.head.len - x.data.length) ≤ data.length) ∧ (x.data.length + 60 <
  x.head.len) ∧ ((x.next + 1) % 16 = 0) := by
  refine ⟨0, ⟨⟨2, 9, 0x2101, 1, 0, 0, 0, 1000, []⟩, false, 15, 0, false, []⟩, List.replicate 60 7,
    { up with fieth := { mccHeld := false, chans := [{ xfer := some ⟨⟨2, 9, 0x2101, 1, 0, 0, 0, 1000, []⟩, false, 15, 0, false, []⟩ }, {}] } },
    ?_⟩
  first | decide | ((repeat' apply And.intro) <;> first | decide | rfl)
theorem witness_FiethTransferCommands_3 : ∃ (channel : Fin 2) (tag seq : Nat) (data : Bytes) (s : State), (Hears s channel) ∧
  ((canOf s channel).xfer = none) := by
  refine ⟨1, 3, 0, [], up, ?_⟩
  first | decide | ((repeat' apply And.intro) <;> first | decide | rfl)
theorem witness_FiethTransferCommands_4 : ∃ (channel : Fin 2) (x : Transfer) (next : Nat) (s : State), (Hears s channel) ∧ ((canOf s
  channel).xfer = some x) ∧ (x.read = true) ∧ (segments x.data.length ≤ next) ∧ (next ≤ x.next) := by
  refine ⟨0, ⟨⟨1, 9, 0x2101, 1, 0, 0, 0, 64, []⟩, true, 2, 0, false, List.replicate 64 0⟩, 2,
    { up with fieth := { mccHeld := false, chans := [{ xfer := some ⟨⟨1, 9, 0x2101, 1, 0, 0, 0, 64, []⟩, true, 2, 0, false, List.replicate 64 0⟩ }, {}] } },
    ?_⟩
  first | decide | ((repeat' apply And.intro) <;> first | decide | rfl)
theorem witness_FiethTransferCommands_5 : ∃ (channel : Fin 2) (x : Transfer) (next : Nat) (s : State), (Hears s channel) ∧ ((canOf s
  channel).xfer = some x) ∧ (x.read = true) ∧ (next < segments x.data.length) ∧ (next ≤ x.next) := by
  refine ⟨0, ⟨⟨1, 9, 0x2101, 1, 0, 0, 0, 64, []⟩, true, 0, 0, false, List.replicate 64 0⟩, 0,
    { up with fieth := { mccHeld := false, chans := [{ xfer := some ⟨⟨1, 9, 0x2101, 1, 0, 0, 0, 64, []⟩, true, 0, 0, false, List.replicate 64 0⟩ }, {}] } },
    ?_⟩
  first | decide | ((repeat' apply And.intro) <;> first | decide | rfl)
theorem witness_FiethTransferCommands_6 : ∃ (channel : Fin 2) (x : Transfer) (code : Nat) (s : State), (Hears s channel) ∧ ((canOf s
  channel).xfer = some x) := by
  refine ⟨0, ⟨⟨1, 9, 0x2101, 1, 0, 0, 0, 64, []⟩, true, 0, 0, false, []⟩, 0,
    { up with fieth := { mccHeld := false, chans := [{ xfer := some ⟨⟨1, 9, 0x2101, 1, 0, 0, 0, 64, []⟩, true, 0, 0, false, []⟩ }, {}] } },
    ?_⟩
  first | decide | ((repeat' apply And.intro) <;> first | decide | rfl)
theorem witness_FiethTransferCommands_7 : ∃ (channel : Fin 2) (x : Transfer) (s : State), (Hears s channel) ∧ ((canOf s
  channel).xfer = some x) := by
  refine ⟨0, ⟨⟨1, 9, 0x2101, 1, 0, 0, 0, 64, []⟩, true, 0, 0, false, []⟩,
    { up with fieth := { mccHeld := false, chans := [{ xfer := some ⟨⟨1, 9, 0x2101, 1, 0, 0, 0, 64, []⟩, true, 0, 0, false, []⟩ }, {}] } },
    ?_⟩
  first | decide | ((repeat' apply And.intro) <;> first | decide | rfl)
theorem witness_FiethTransferCommands_9 : ∃ (s : State), (Serves s) ∧ (canTalks (canOf s 0) = true) ∧ (canTalks (canOf s 1) = true)
  := by
  refine ⟨up, ?_⟩
  first | decide | ((repeat' apply And.intro) <;> first | decide | rfl)
theorem witness_CanChannelCommands_1 : ∃ (channel : Fin 2) (ident : Nat) (s : State), (s.rst.node ≠ 0) ∧ (s.rst.phase = .running) ∧
  (channel.val < s.fieth.chans.length) ∧ (canTalks (canOf s channel) = true) ∧ (ident = 0x480 + s.rst.node ∨ ident = 0x600 +
  s.rst.node ∨ ident = 0x700 + s.rst.node) := by
  refine ⟨0, 0x485, { up with rst := { phase := .running, node := 5 } }, ?_⟩
  first | decide | ((repeat' apply And.intro) <;> first | decide | rfl)
theorem witness_CanChannelCommands_2 : ∃ (channel : Fin 2) (s : State), (channel.val < s.fieth.chans.length) ∧ (canTalks (canOf s
  channel) = true) := by
  refine ⟨0, up, ?_⟩
  first | decide | ((repeat' apply And.intro) <;> first | decide | rfl)
theorem witness_CanChannelCommands_3 : ∃ (channel : Fin 2) (s : State), (channel.val < s.fieth.chans.length) ∧ ((canOf s channel).st
  = .busOff) := by
  refine ⟨0, { up with fieth := { chans := [{ st := .busOff, tec := 255 }, {}] } }, ?_⟩
  first | decide | ((repeat' apply And.intro) <;> first | decide | rfl)
theorem witness_CanChannelCommands_4 : ∃ (channel : Fin 2) (data : Bool) (code : Nat) (s : State), (Serves s) ∧ (s.pres.windowOpen =
  true) ∧ (1 ≤ code) ∧ (code ≤ (if data then 4 else 2)) := by
  refine ⟨1, true, 4, { up with pres := { windowOpen := true } }, ?_⟩
  first | decide | ((repeat' apply And.intro) <;> first | decide | rfl)
theorem witness_CanChannelCommands_5 : ∃ (value : Nat) (s : State), (Serves s) ∧ (s.pres.windowOpen = true) ∧ (1 ≤ value) ∧ (value ≤
  3) ∧ (s.fieth.chans.length = 2) := by
  refine ⟨2, { up with pres := { windowOpen := true } }, ?_⟩
  first | decide | ((repeat' apply And.intro) <;> first | decide | rfl)
theorem witness_CanChannelCommands_6 : ∃ (k : Nat) (s : State), (Serves s) ∧ (s.pres.windowOpen = true) ∧ (0x700000 ≤ k) ∧ (k <
  0x800000) ∧ (levelOf k = .s) ∧ (k ≠ 0x701d01 ∧ k ≠ 0x701d02 ∧ k ≠ 0x701d03) := by
  refine ⟨0x701d05, { up with pres := { windowOpen := true } }, ?_⟩
  first | decide | ((repeat' apply And.intro) <;> first | decide | rfl)
theorem witness_CanChannelCommands_7 : ∃ (port : Fin 128) (sub value : Nat) (s : State), (Serves s) ∧ (s.pres.windowOpen = true) ∧
  (1 ≤ sub) ∧ (sub ≤ 7) ∧ (portRefusal s port.val sub value = none) := by
  refine ⟨5, 6, 9000, { up with pres := { windowOpen := true } }, ?_⟩
  first | decide | ((repeat' apply And.intro) <;> first | decide | rfl)
theorem witness_CanChannelCommands_8 : ∃ (idx sub : Nat) (value : Bytes) (e : Entry) (s : State), (Serves s) ∧ (idx = 0x1080 ∧ sub =
  8 ∨ idx = 0x3101 ∧ 1 ≤ sub ∧ sub ≤ 56) ∧ (writeCheck s idx sub 0 value.length = .ok e) ∧ (valueRefusal s e idx sub (leNat value) =
  none) := by
  refine ⟨0x1080, 8, [1], ⟨0x1080, 1, 8, .bool, .rw, .never, none⟩, up, ?_⟩
  first | decide | ((repeat' apply And.intro) <;> first | decide | rfl)
theorem witness_CanChannelCommands_9 : ∃ (idx sub off code : Nat) (value : Bytes) (s : State), (Serves s) ∧ (writeCheck s idx sub
  off value.length = .error code) := by
  refine ⟨0x9000, 1, 0, 0x06010001, [1], up, ?_⟩
  first | decide | ((repeat' apply And.intro) <;> first | decide | rfl)
theorem witness_PowerOnResetCommands_1 : ∃ (s : State), (s.rst.phase = .off) := by
  refine ⟨{ State.reset with rst := { phase := .off } }, ?_⟩
  first | decide | ((repeat' apply And.intro) <;> first | decide | rfl)
theorem witness_PowerOnResetCommands_2 : ∃ (s : State), (s.rst.phase ≠ .off) := by
  refine ⟨up, ?_⟩
  first | decide | ((repeat' apply And.intro) <;> first | decide | rfl)
theorem witness_PowerOnResetCommands_3 : ∃ (s : State), (s.rst.porst = false) ∧ (s.rst.phase ≠ .off) := by
  refine ⟨up, ?_⟩
  first | decide | ((repeat' apply And.intro) <;> first | decide | rfl)
theorem witness_PowerOnResetCommands_4 : ∃ (node : Fin 128) (s : State), (s.rst.phase = .powerOn) ∧ (s.rst.pwrgd = true) := by
  refine ⟨5, { State.reset with rst := { phase := .powerOn, pwrgd := true } }, ?_⟩
  first | decide | ((repeat' apply And.intro) <;> first | decide | rfl)
theorem witness_PowerOnResetCommands_5 : ∃ (s : State), (s.rst.phase ≠ .off) := by
  refine ⟨up, ?_⟩
  first | decide | ((repeat' apply And.intro) <;> first | decide | rfl)
theorem witness_SystemResetCommands_1 : ∃ (s : State), (s.rst.phase = .running) ∧ (s.md.mode ≠ .drain) ∧ (s.fix.phase ≠ .sealed) ∧
  (s.fix.dumpDead = false) ∧ (s.rst.loadDone = true) := by
  refine ⟨up, ?_⟩
  first | decide | ((repeat' apply And.intro) <;> first | decide | rfl)
theorem witness_SystemResetCommands_2 : ∃ (s : State), (s.rst.phase = .window) := by
  refine ⟨{ up with rst := { phase := .window } }, ?_⟩
  first | decide | ((repeat' apply And.intro) <;> first | decide | rfl)
theorem witness_SystemResetCommands_3 : ∃ (s : State), (s.rst.phase = .asserted) ∧ (s.rst.sysrst = false) := by
  refine ⟨{ up with rst := { phase := .asserted } }, ?_⟩
  first | decide | ((repeat' apply And.intro) <;> first | decide | rfl)
theorem witness_SystemResetCommands_4 : ∃ (s : State), (s.rst.phase = .asserted) ∧ (s.rst.sysrst = true) := by
  refine ⟨{ up with rst := { phase := .asserted, sysrst := true } }, ?_⟩
  first | decide | ((repeat' apply And.intro) <;> first | decide | rfl)
theorem witness_SystemResetCommands_5 : ∃ (s : State), (s.rst.phase = .asserted) ∧ (s.rst.due = true) := by
  refine ⟨{ up with rst := { phase := .asserted, sysrst := true, due := true } }, ?_⟩
  first | decide | ((repeat' apply And.intro) <;> first | decide | rfl)
theorem witness_SystemResetCommands_6 : ∃ (mask : Nat) (s : State), (Serves s) ∧ (mask < 2 ^ 11) := by
  refine ⟨6, up, ?_⟩
  first | decide | ((repeat' apply And.intro) <;> first | decide | rfl)
theorem witness_SystemResetCommands_7 : ∃ (s : State), (Serves s) ∧ (s.pres.windowOpen = true) ∧ (s.rst.phase = .running) ∧
  (s.md.mode ≠ .drain) ∧ (s.rst.coreRun = false) ∧ (s.fieth.mccHeld = false) := by
  refine ⟨{ up with pres := { windowOpen := true }, rst := { phase := .running, loadDone := true } }, ?_⟩
  first | decide | ((repeat' apply And.intro) <;> first | decide | rfl)
theorem witness_SystemResetCommands_8 : ∃ (s : State), (Serves s) ∧ (s.pres.windowOpen = true) ∧ (s.rst.phase = .running) ∧
  (s.md.mode ≠ .drain) ∧ (s.fix.phase ≠ .sealed) ∧ (s.fix.dumpDead = false) ∧ (s.rst.loadDone = true) := by
  refine ⟨{ up with pres := { windowOpen := true } }, ?_⟩
  first | decide | ((repeat' apply And.intro) <;> first | decide | rfl)
theorem witness_CoreResetCommands_1 : ∃ (s : State), (s.rst.coreRun = true) := by
  refine ⟨{ up with rst := { phase := .running, coreRun := true } }, ?_⟩
  first | decide | ((repeat' apply And.intro) <;> first | decide | rfl)
theorem witness_CoreResetCommands_2 : ∃ (bankBok : Bool) (s : State), (s.fieth.mccHeld = true) ∧ (s.rst.coreRun = false) ∧
  (s.rst.mccClock = true) ∧ (s.rst.loadDone = true) ∧ (s.rst.optFault = false) ∧ (s.keys.fenced = []) ∧ (s.keys.banks.length = 2) ∧
  (dget s 0x402103 = 0) ∧ (headerOk (bankOf s 0).image = true) ∧ (s.keys.fusedSvn ≤ headerField (bankOf s 0).image 8 1) := by
  refine ⟨true,
    { up with fieth := { mccHeld := true }, rst := { phase := .running, loadDone := true }, keys := { banks := [{ image := mput [] 0 (leBytes 4 0x4c4e4657 ++ leBytes 4 7 ++ leBytes 4 3 ++ leBytes 4 1) }, {}] } },
    ?_⟩
  first | decide | ((repeat' apply And.intro) <;> first | decide | rfl)
theorem witness_CoreResetCommands_3 : ∃ (s : State), (s.fieth.mccHeld = true) ∧ (s.rst.coreRun = false) ∧ (s.rst.mccClock = true) ∧
  (s.rst.loadDone = true) ∧ (s.rst.optFault = false) ∧ (s.keys.fenced = []) ∧ (s.keys.banks.length = 2) := by
  refine ⟨{ up with fieth := { mccHeld := true }, rst := { phase := .running, loadDone := true } }, ?_⟩
  first | decide | ((repeat' apply And.intro) <;> first | decide | rfl)
theorem witness_CoreResetCommands_4 : ∃ (s : State), (s.fieth.mccHeld = false) ∧ (s.rst.phase = .running) ∧ (s.rst.coreRun = false)
  := by
  refine ⟨{ up with rst := { phase := .running } }, ?_⟩
  first | decide | ((repeat' apply And.intro) <;> first | decide | rfl)
theorem witness_CoreResetCommands_5 : ∃ (s : State), (s.rst.mccClock = true) := by
  refine ⟨up, ?_⟩
  first | decide | ((repeat' apply And.intro) <;> first | decide | rfl)
theorem witness_BlockResetCommands_1 : ∃ (block : Nat) (s : State), (s.rst.phase = .window) ∧ (s.rst.idle.contains block = true) ∧
  (block < 48 ∨ 102 ≤ block ∧ block < 112) := by
  refine ⟨3, { up with rst := { phase := .window, idle := [3] } }, ?_⟩
  first | decide | ((repeat' apply And.intro) <;> first | decide | rfl)
theorem witness_BlockResetCommands_2 : ∃ (block : Nat) (s : State), (s.rst.phase ≠ .window) ∧ (s.rst.blockReset.contains block =
  true) := by
  refine ⟨3, { up with rst := { phase := .running, blockReset := [3] } }, ?_⟩
  first | decide | ((repeat' apply And.intro) <;> first | decide | rfl)
theorem witness_BlockResetCommands_3 : ∃ (block : Nat) (s : State), (s.rst.phase ≠ .window) ∧ (s.rst.blockReset.contains block =
  true) := by
  refine ⟨3, { up with rst := { phase := .running, blockReset := [3] } }, ?_⟩
  first | decide | ((repeat' apply And.intro) <;> first | decide | rfl)
theorem witness_BlockResetCommands_4 : ∃ (block : Nat) (s : State), (bitOf s.rst.powered block = true) ∧ (block < 16) := by
  refine ⟨3, up, ?_⟩
  first | decide | ((repeat' apply And.intro) <;> first | decide | rfl)
theorem witness_BlockResetCommands_5 : ∃ (block : Nat) (s : State), (bitOf s.rst.powered block = true) ∧ (88 ≤ block ∧ block < 104)
  ∧ ((sliceOf s (block - 88)).st = .enabled) := by
  refine ⟨90, up, ?_⟩
  first | decide | ((repeat' apply And.intro) <;> first | decide | rfl)
theorem witness_BlockResetCommands_6 : ∃ (group : Fin 16) (s : State), (s.rst.repower.contains group.val = true) := by
  refine ⟨3, { up with rst := { phase := .running, repower := [3] } }, ?_⟩
  first | decide | ((repeat' apply And.intro) <;> first | decide | rfl)
theorem witness_BlockResetCommands_7 : ∃ (o : OptionFields) (lost : List Nat) (s : State), (s.rst.phase = .load) := by
  refine ⟨⟨1, 16, 1, 4800, 1, 8, 640, 100, 3000, 60000, 1, 5, 128⟩, [], { State.reset with rst := { phase := .load } }, ?_⟩
  first | decide | ((repeat' apply And.intro) <;> first | decide | rfl)
theorem witness_BlockResetCommands_8 : ∃ (o : OptionFields) (lost : List Nat) (s : State), (s.rst.phase = .load) ∧ (optionsOk o =
  true) := by
  refine ⟨⟨1, 16, 1, 4800, 1, 8, 640, 100, 3000, 60000, 1, 5, 128⟩, [], { State.reset with rst := { phase := .load } }, ?_⟩
  first | decide | ((repeat' apply And.intro) <;> first | decide | rfl)
theorem witness_ClockAndRailCommands_1 : ∃ (s : State), (s.rst.phase = .running) ∧ (s.md.mode ≠ .drain) := by
  refine ⟨up, ?_⟩
  first | decide | ((repeat' apply And.intro) <;> first | decide | rfl)
theorem witness_ClockAndRailCommands_2 : ∃ (s : State), (s.rst.phase = .running) ∧ (s.md.mode ≠ .drain) := by
  refine ⟨up, ?_⟩
  first | decide | ((repeat' apply And.intro) <;> first | decide | rfl)
theorem witness_ClockAndRailCommands_3 : ∃ (s : State), (s.rst.phase = .running) ∧ (s.md.mode ≠ .drain) := by
  refine ⟨up, ?_⟩
  first | decide | ((repeat' apply And.intro) <;> first | decide | rfl)
theorem witness_ClockAndRailCommands_4 : ∃ (status : Nat) (s : State), (s.rst.phase = .running) ∧ (∀ b ∈ bitList 11 s.rst.clocks,
  bitOf status b = true) := by
  refine ⟨2047, up, ?_⟩
  first | decide | ((repeat' apply And.intro) <;> first | decide | rfl)
theorem witness_ClockAndRailCommands_5 : ∃ (rail : Fin 10) (millivolts : Nat) (s : State), (millivolts ≤ (railMax[rail.val]?).getD
  0) ∧ (rail = 0 → 728 ≤ millivolts ∧ millivolts ≤ 772) ∧ (rail = 1 → 776 ≤ millivolts ∧ millivolts ≤ 824) ∧ (rail = 9 → 760 ≤
  millivolts) := by
  refine ⟨3, 1800, up, ?_⟩
  first | decide | ((repeat' apply And.intro) <;> first | decide | rfl)
theorem witness_ClockAndRailCommands_6 : ∃ (port : Fin 128) (s : State), (s.rst.loadDone = true) ∧ (bitOf s.rst.powered (port / 8) =
  true) ∧ ((portOf s port).st = .training ∨ (portOf s port).st = .down ∨ (portOf s port).st = .failed) := by
  refine ⟨3, { up with ports := [(3, { st := .training })] }, ?_⟩
  first | decide | ((repeat' apply And.intro) <;> first | decide | rfl)
theorem witness_ClockAndRailCommands_7 : ∃ (port : Fin 128) (priorities : Nat) (pause : Bool) (s : State), (portOpen s port = true)
  := by
  refine ⟨3, 5, true, { up with ports := [(3, { st := .up })], dict := [(0x200301, 1)] }, ?_⟩
  first | decide | ((repeat' apply And.intro) <;> first | decide | rfl)
theorem witness_ClockAndRailCommands_8 : ∃ (domain : Fin 112) (s : State), (Serves s) ∧ (s.pres.windowOpen = true) ∧ (s.md.mode ≠
  .drain) ∧ (s.rst.phase = .running) ∧ (bitOf s.rst.offReq domain = false) ∧ (domain.val < 16 ∨ 88 ≤ domain.val ∧ domain.val < 104)
  ∧ (offAllowed s domain = true) := by
  refine ⟨90, { up with pres := { windowOpen := true }, cs := { slices := [(2, { st := .invalidated })] } }, ?_⟩
  first | decide | ((repeat' apply And.intro) <;> first | decide | rfl)
theorem witness_ClockAndRailCommands_9 : ∃ (domain : Fin 112) (s : State), (Serves s) ∧ (s.pres.windowOpen = true) ∧ (s.md.mode ≠
  .drain) ∧ (s.rst.phase = .running) ∧ (bitOf s.rst.offReq domain = true) ∧ (onAllowed s domain = true) := by
  refine ⟨3, { up with pres := { windowOpen := true }, rst := { phase := .running, offReq := 8 } }, ?_⟩
  first | decide | ((repeat' apply And.intro) <;> first | decide | rfl)
theorem witness_StippleRequestCommands_1 : ∃ (d : Datagram) (s : State), (Admits 1 d s) := by
  refine ⟨datagram 1 5 64 0 0 0 0 [], served, ?_⟩
  first | decide | ((repeat' apply And.intro) <;> first | decide | rfl)
theorem witness_StippleRequestCommands_2 : ∃ (d : Datagram) (s : State), (Admits 2 d s) := by
  refine ⟨datagram 2 5 4 1 8 16384 0 [1, 2, 3, 4], served, ?_⟩
  first | decide | ((repeat' apply And.intro) <;> first | decide | rfl)
theorem witness_StippleRequestCommands_3 : ∃ (d : Datagram) (s : State), (Admits 3 d s) := by
  refine ⟨datagram 3 5 0 1 8 16384 1 (beBytes 8 3), served, ?_⟩
  first | decide | ((repeat' apply And.intro) <;> first | decide | rfl)
theorem witness_StippleRequestCommands_4 : ∃ (d : Datagram) (s : State), (Admits 4 d s) := by
  refine ⟨datagram 4 5 0 1 8 16384 1 (beBytes 8 3 ++ beBytes 8 4), served, ?_⟩
  first | decide | ((repeat' apply And.intro) <;> first | decide | rfl)
theorem witness_StippleRequestCommands_5 : ∃ (d : Datagram) (s : State), (Admits 5 d s) := by
  refine ⟨datagram 5 5 0 0 0 0 1 (beBytes 8 2), served, ?_⟩
  first | decide | ((repeat' apply And.intro) <;> first | decide | rfl)
theorem witness_StippleRequestCommands_6 : ∃ (d : Datagram) (s : State), (Admits 6 d s) := by
  refine ⟨datagram 6 5 0 1 0 16384 1 (beBytes 8 65536 ++ beBytes 8 1), served, ?_⟩
  first | decide | ((repeat' apply And.intro) <;> first | decide | rfl)
theorem witness_StippleRequestCommands_7 : ∃ (d : Datagram) (s : State), (Admits 7 d s) := by
  refine ⟨datagram 7 5 0 1 0 16384 0 (beBytes 8 16384), served, ?_⟩
  first | decide | ((repeat' apply And.intro) <;> first | decide | rfl)
theorem witness_StippleRequestCommands_8 : ∃ (d : Datagram) (s : State), (Admits 8 d s) := by
  refine ⟨datagram 8 5 24 0 0 0 0 (beBytes 4 1 ++ beBytes 4 16384 ++ beBytes 8 0 ++ beBytes 2 64 ++ beBytes 2 0 ++ beBytes 4 0),
    served, ?_⟩
  first | decide | ((repeat' apply And.intro) <;> first | decide | rfl)
theorem witness_ReplayAndFenceCommands_1 : ∃ (host seq : Nat) (e : ReplayEntry) (s : State), (s.host.replay = [e]) ∧ (e.token =
  ⟨host, seq⟩) ∧ (e.pending = false) ∧ ((slotOf s host).nonEmpty = true) ∧ ((slotOf s host).expiredValid = false) := by
  refine ⟨7, 5, ⟨⟨7, 5⟩, false, okVal, 30, none⟩,
    { up with host := { replay := [⟨⟨7, 5⟩, false, okVal, 30, none⟩], slots := [(7, { nonEmpty := true })] } }, ?_⟩
  first | decide | ((repeat' apply And.intro) <;> first | decide | rfl)
theorem witness_ReplayAndFenceCommands_2 : ∃ (host seq : Nat) (e : ReplayEntry) (s : State), (s.host.mirror = [e]) ∧ (e.token =
  ⟨host, seq⟩) ∧ (e.pending = false) := by
  refine ⟨7, 5, ⟨⟨7, 5⟩, false, okVal, 30, none⟩, { up with host := { mirror := [⟨⟨7, 5⟩, false, okVal, 30, none⟩] } }, ?_⟩
  first | decide | ((repeat' apply And.intro) <;> first | decide | rfl)
theorem witness_ReplayAndFenceCommands_3 : ∃ (o : Op) (r : ReplyTo) (q : Nat) (l : List Nat) (s : State), (findOp s o.id = some o) ∧
  (o.kind = .fence) ∧ (o.origin = .stipple r) ∧ (missingSeqs s o = q :: l) ∧ (s.fix.quiesced = false) ∧ (s.snap.cut = none) ∧ (∀ e ∈
  s.host.replay, e.token = ⟨o.host, o.seq⟩ → e.held = none) := by
  refine
    ⟨{ id := 1, origin := .stipple ⟨3, false, 1, 9, 4800, none, 0, false, 5, 7, 5⟩, kind := .fence, host := 7, seq := 5, region := 0, key := 0, off := 0, len := 2 },
    ⟨3, false, 1, 9, 4800, none, 0, false, 5, 7, 5⟩, 3, [4],
    { up with host := { ops := [{ id := 1, origin := .stipple ⟨3, false, 1, 9, 4800, none, 0, false, 5, 7, 5⟩, kind := .fence, host := 7, seq := 5, region := 0, key := 0, off := 0, len := 2 }] } },
    ?_⟩
  first | decide | ((repeat' apply And.intro) <;> first | decide | rfl)
theorem witness_SliceRequestCommands_1 : ∃ (slice : Fin 14) (o : Op) (c : ReqClass) (line lo len dst : Nat) (p : Nat × CLine) (rest
  : List LineReq) (s : State), ((sliceOf s slice).queue = ⟨o.id, c, line, .read lo len dst⟩ :: rest) ∧ (s.pres.armed = []) ∧ (findOp
  s o.id = some o) ∧ (o.nak = none) ∧ (rcBlocked s o = false) ∧ ((dirOf s (lineTpn line)).poison = false) ∧ ((sliceOf s slice).st =
  .enabled) ∧ (cached (sliceOf s slice) line = some p) := by
  refine ⟨0,
    { id := 1, origin := .internal, kind := .read, host := 7, seq := 5, region := 1, key := 0, off := 0, len := 4, waiting := 1 },
    .host, 0, 0, 4, 0, (0, ⟨0, false, false, .host, 0, false, []⟩), [],
    { up with host := { ops := [{ id := 1, origin := .internal, kind := .read, host := 7, seq := 5, region := 1, key := 0, off := 0, len := 4, waiting := 1 }] }, cs := { slices := [(0, { queue := [⟨1, .host, 0, .read 0 4 0⟩], lines := [(0, ⟨0, false, false, .host, 0, false, []⟩)] })] } },
    ?_⟩
  first | decide | ((repeat' apply And.intro) <;> first | decide | rfl)
theorem witness_SliceRequestCommands_2 : ∃ (slice : Fin 14) (line w : Nat) (s : State), (homeSlice line = slice) ∧ ((sliceOf s
  slice).fills = [⟨line, .prefetch, false, false, []⟩]) ∧ (fillBlocked s line = false) ∧ ((sliceOf s slice).st = .enabled) ∧
  (victimWay (sliceOf s slice) (lineSet line) .prefetch = some w) ∧ (tfind (sliceOf s slice).lines (lineSet line * 16 + w) = none) ∧
  (s.cs.maintLine = none) := by
  refine ⟨0, 0, 0, { up with cs := { slices := [(0, { fills := [⟨0, .prefetch, false, false, []⟩] })] } }, ?_⟩
  first | decide | ((repeat' apply And.intro) <;> first | decide | rfl)
theorem witness_SliceRequestCommands_3 : ∃ (slice : Fin 14) (w : WriteBack) (s : State), ((sliceOf s slice).wbs = [w]) ∧ (inNand
  (dirOf s (lineTpn w.line)) = false) := by
  refine ⟨0, ⟨0, false, []⟩, { up with cs := { slices := [(0, { wbs := [⟨0, false, []⟩] })] } }, ?_⟩
  first | decide | ((repeat' apply And.intro) <;> first | decide | rfl)
theorem witness_SliceRequestCommands_4 : ∃ (slice way : Fin 16) (lost : List Nat) (s : State), (bitOf (sliceOf s slice).wayOff way =
  false) ∧ (countBits 16 (setBit (sliceOf s slice).wayOff way) < 5) := by
  refine ⟨2, 3, [], up, ?_⟩
  first | decide | ((repeat' apply And.intro) <;> first | decide | rfl)
theorem witness_SliceRequestCommands_5 : ∃ (slice way : Fin 16) (lost : List Nat) (s : State), (((recentErrs s slice).filter (fun p
  => p.1 = way.val)).length < 7) := by
  refine ⟨2, 3, [], up, ?_⟩
  first | decide | ((repeat' apply And.intro) <;> first | decide | rfl)
theorem witness_SliceRequestCommands_6 : ∃ (slice : Fin 16) (cause : Nat) (lost : List Nat) (s : State), ((sliceOf s slice).st ≠
  .failed) := by
  refine ⟨2, 3, [], up, ?_⟩
  first | decide | ((repeat' apply And.intro) <;> first | decide | rfl)
theorem witness_SliceRequestCommands_7 : ∃ (slice : Fin 16) (w : Walk) (s : State), ((sliceOf s slice).walk = some w) := by
  refine ⟨2, .flush, { up with cs := { slices := [(2, { walk := some .flush })] } }, ?_⟩
  first | decide | ((repeat' apply And.intro) <;> first | decide | rfl)
theorem witness_CacheMaintenanceCommands_1 : ∃ (line : Nat) (p : Nat × CLine) (s : State), (TakesMaintenance s) ∧ (regionOfTpn s
  (lineTpn line) ≠ none) ∧ ((sliceOf s (homeSlice line)).st = .enabled) ∧ ((sliceOf s (homeSlice line)).fills = []) ∧ (cached
  (sliceOf s (homeSlice line)) line = some p) := by
  refine ⟨0, (0, ⟨0, true, false, .host, 0, false, []⟩),
    { served with pres := { windowOpen := true }, cs := { slices := [(0, { lines := [(0, ⟨0, true, false, .host, 0, false, []⟩)] })] } },
    ?_⟩
  first | decide | ((repeat' apply And.intro) <;> first | decide | rfl)
theorem witness_CacheMaintenanceCommands_2 : ∃ (line : Nat) (p : Nat × CLine) (s : State), (TakesMaintenance s) ∧ (regionOfTpn s
  (lineTpn line) ≠ none) ∧ ((sliceOf s (homeSlice line)).st = .enabled) ∧ ((sliceOf s (homeSlice line)).fills = []) ∧ (cached
  (sliceOf s (homeSlice line)) line = some p) := by
  refine ⟨0, (0, ⟨0, true, false, .host, 0, false, []⟩),
    { served with pres := { windowOpen := true }, cs := { slices := [(0, { lines := [(0, ⟨0, true, false, .host, 0, false, []⟩)] })] } },
    ?_⟩
  first | decide | ((repeat' apply And.intro) <;> first | decide | rfl)
theorem witness_CacheMaintenanceCommands_3 : ∃ (line : Nat) (p : Nat × CLine) (s : State), (TakesMaintenance s) ∧ (regionOfTpn s
  (lineTpn line) ≠ none) ∧ ((sliceOf s (homeSlice line)).st = .enabled) ∧ ((sliceOf s (homeSlice line)).fills = []) ∧ (cached
  (sliceOf s (homeSlice line)) line = some p) := by
  refine ⟨0, (0, ⟨0, true, false, .host, 0, false, []⟩),
    { served with pres := { windowOpen := true }, cs := { slices := [(0, { lines := [(0, ⟨0, true, false, .host, 0, false, []⟩)] })] } },
    ?_⟩
  first | decide | ((repeat' apply And.intro) <;> first | decide | rfl)
theorem witness_CacheMaintenanceCommands_4 : ∃ (slice : Fin 16) (s : State), (TakesMaintenance s) ∧ (slice.val < 14) ∧ ((sliceOf s
  slice).st = .enabled) := by
  refine ⟨2, { up with pres := { windowOpen := true } }, ?_⟩
  first | decide | ((repeat' apply And.intro) <;> first | decide | rfl)
theorem witness_CacheMaintenanceCommands_5 : ∃ (slice : Fin 16) (s : State), (TakesMaintenance s) ∧ (slice.val < 14) ∧ ((sliceOf s
  slice).st = .enabled) := by
  refine ⟨2, { up with pres := { windowOpen := true } }, ?_⟩
  first | decide | ((repeat' apply And.intro) <;> first | decide | rfl)
theorem witness_CacheMaintenanceCommands_6 : ∃ (slice : Fin 16) (s : State), (TakesMaintenance s) ∧ (slice.val < 14) ∧ ((sliceOf s
  slice).st = .enabled) := by
  refine ⟨2, { up with pres := { windowOpen := true } }, ?_⟩
  first | decide | ((repeat' apply And.intro) <;> first | decide | rfl)
theorem witness_CacheMaintenanceCommands_7 : ∃ (slice : Fin 16) (s : State), (TakesMaintenance s) ∧ ((sliceOf s slice).st = .stale)
  := by
  refine ⟨2, { up with pres := { windowOpen := true }, cs := { slices := [(2, { st := .stale })] } }, ?_⟩
  first | decide | ((repeat' apply And.intro) <;> first | decide | rfl)
theorem witness_CacheMaintenanceCommands_8 : ∃ (slice : Fin 16) (s : State), (TakesMaintenance s) ∧ ((sliceOf s slice).st =
  .invalidated) := by
  refine ⟨2, { up with pres := { windowOpen := true }, cs := { slices := [(2, { st := .invalidated })] } }, ?_⟩
  first | decide | ((repeat' apply And.intro) <;> first | decide | rfl)
theorem witness_TierCommands_1 : ∃ (tpn f : Nat) (c : MoveCause) (s : State), (s.tier.moves = [⟨tpn, c, .dram f⟩]) ∧ (TierIdle s) ∧
  (s.md.mode ≠ .drain) ∧ (tpn ∉ s.rec_.unrestored) ∧ (countedDirty s < dirtyLimit s) ∧ ((dirOf s tpn).held = false) := by
  refine ⟨0, 1048576, .frame, { served with tier := { moves := [⟨0, .frame, .dram 1048576⟩] } }, ?_⟩
  first | decide | ((repeat' apply And.intro) <;> first | decide | rfl)
theorem witness_TierCommands_2 : ∃ (s : State), (Serves s) ∧ (TierIdle s) ∧ ((live s).dir.filter (fun p => p.2.displaced) = []) :=
  by
  refine ⟨served, ?_⟩
  first | decide | ((repeat' apply And.intro) <;> first | decide | rfl)
theorem witness_RcPacketCommands_1 : ∃ (p : RcPacket) (q : Qp) (r : Option Region) (s : State), (TakesPacket p q r s) ∧ (q.spray =
  false) ∧ (6 ≤ p.opcode ∧ p.opcode ≤ 11) := by
  refine ⟨packet 10 5 16384 0 4 [1, 2, 3, 4], witQp, some ⟨1, .active, 1, 1, 4, 0⟩, linked, ?_⟩
  first | decide | ((repeat' apply And.intro) <;> first | decide | rfl)
theorem witness_RcPacketCommands_2 : ∃ (p : RcPacket) (q : Qp) (r : Option Region) (s : State), (TakesPacket p q r s) ∧ (q.spray =
  false) ∧ (p.opcode = 12) := by
  refine ⟨packet 12 5 16384 0 64 [], witQp, some ⟨1, .active, 1, 1, 4, 0⟩, linked, ?_⟩
  first | decide | ((repeat' apply And.intro) <;> first | decide | rfl)
theorem witness_RcPacketCommands_3 : ∃ (p : RcPacket) (q : Qp) (r : Option Region) (s : State), (TakesPacket p q r s) ∧ (q.spray =
  false) ∧ (p.opcode = 19) := by
  refine ⟨packet 19 5 16384 8 0 [], witQp, some ⟨1, .active, 1, 1, 4, 0⟩, linked, ?_⟩
  first | decide | ((repeat' apply And.intro) <;> first | decide | rfl)
theorem witness_RcPacketCommands_4 : ∃ (p : RcPacket) (q : Qp) (r : Option Region) (s : State), (TakesPacket p q r s) ∧ (q.spray =
  false) ∧ (p.opcode = 20) := by
  refine ⟨packet 20 5 16384 8 0 [], witQp, some ⟨1, .active, 1, 1, 4, 0⟩, linked, ?_⟩
  first | decide | ((repeat' apply And.intro) <;> first | decide | rfl)
theorem witness_RcPacketCommands_5 : ∃ (p : RcPacket) (q : Qp) (r : Option Region) (s : State), (TakesPacket p q r s) ∧ (q.spray =
  true) ∧ (q.bitmap = 0) ∧ (qpOps s p.qpn = []) ∧ (q.responses = []) ∧ (p.opcode = 192) := by
  refine ⟨{ packet 192 5 16384 0 4 [1, 2, 3, 4] with spray := 2 ^ 30 }, { witQp with spray := true }, some ⟨1, .active, 1, 1, 4, 0⟩,
    { linked with rc := { own := [(5, { witQp with spray := true })], cache := [65541] } }, ?_⟩
  first | decide | ((repeat' apply And.intro) <;> first | decide | rfl)
theorem witness_RcPacketCommands_6 : ∃ (p : RcPacket) (q : Qp) (r : Option Region) (s : State), (TakesPacket p q r s) ∧ (q.spray =
  false) ∧ (p.opcode = 4) ∧ (controlOf p = some 1) := by
  refine ⟨packet 4 5 0 0 0 [1, 0, 0, 0, 0, 0, 0, 0], witQp, none, linked, ?_⟩
  first | decide | ((repeat' apply And.intro) <;> first | decide | rfl)
theorem witness_RcPacketCommands_7 : ∃ (p : RcPacket) (q : Qp) (r : Option Region) (s : State), (TakesPacket p q r s) ∧ (q.spray =
  false) ∧ (p.opcode = 4) ∧ (controlOf p = some 2) := by
  refine ⟨packet 4 5 0 0 0 [2, 0, 0, 0, 0, 0, 0, 0], witQp, none, linked, ?_⟩
  first | decide | ((repeat' apply And.intro) <;> first | decide | rfl)
theorem witness_RcAnswerCommands_1 : ∃ (o : Op) (r : ReplyTo) (s : State), (findOp s o.id = some o) ∧ (o.origin = .stipple r) ∧
  (o.kind = .read) ∧ (o.nak = none) ∧ (opEnded s o = true) ∧ (SendsAtOnce s) ∧ (s.rc.parked = []) := by
  refine
    ⟨{ id := 1, origin := .stipple ⟨3, false, 1, 9, 4800, none, 0, false, 1, 7, 5⟩, kind := .read, host := 7, seq := 5, region := 1, key := 0, off := 0, len := 2, reads := [(0, 9)] },
    ⟨3, false, 1, 9, 4800, none, 0, false, 1, 7, 5⟩,
    { served with host := { ops := [{ id := 1, origin := .stipple ⟨3, false, 1, 9, 4800, none, 0, false, 1, 7, 5⟩, kind := .read, host := 7, seq := 5, region := 1, key := 0, off := 0, len := 2, reads := [(0, 9)] }] } },
    ?_⟩
  first | decide | ((repeat' apply And.intro) <;> first | decide | rfl)
theorem witness_RcAnswerCommands_2 : ∃ (qpn f : Nat) (q : Qp) (s : State), (heldQp s qpn = some q) ∧ (q.done = [(psnAdd q.ackPsn 1,
  f)]) ∧ (q.st = .serving) ∧ (f ≠ 3) ∧ (SendsAtOnce s) := by
  refine ⟨65541, 0, { witQp with done := [(5, 0)] },
    { linked with rc := { own := [(5, { witQp with done := [(5, 0)] })], cache := [65541] } }, ?_⟩
  first | decide | ((repeat' apply And.intro) <;> first | decide | rfl)
theorem witness_RcAnswerCommands_3 : ∃ (qpn : Nat) (q : Qp) (s : State), (heldQp s qpn = some q) ∧ (q.st = .serving) ∧ (q.spray =
  true) ∧ (q.sprayDirty = true) ∧ (q.sprayNak = none) ∧ (SendsAtOnce s) := by
  refine ⟨65541, { witQp with spray := true, sprayDirty := true },
    { linked with rc := { own := [(5, { witQp with spray := true, sprayDirty := true })], cache := [65541] } }, ?_⟩
  first | decide | ((repeat' apply And.intro) <;> first | decide | rfl)
theorem witness_RcAnswerCommands_4 : ∃ (qpn : Nat) (q : Qp) (r : RespPkt) (rest : List RespPkt) (s : State), (heldQp s qpn = some q)
  ∧ (q.st = .serving) ∧ (q.spray = false) ∧ (q.done = []) ∧ (q.ackPsn < psnMod) ∧ (q.responses = r :: rest) ∧ (r.psn = psnAdd
  q.ackPsn 1) ∧ (r.key = 0) ∧ (SendsAtOnce s) := by
  refine ⟨65541, { witQp with responses := [⟨5, 5, 0, 0, true, [7]⟩] }, ⟨5, 5, 0, 0, true, [7]⟩, [],
    { linked with rc := { own := [(5, { witQp with responses := [⟨5, 5, 0, 0, true, [7]⟩] })], cache := [65541] } }, ?_⟩
  first | decide | ((repeat' apply And.intro) <;> first | decide | rfl)
theorem witness_RcAnswerCommands_5 : ∃ (qpn : Nat) (q : Qp) (s : State), (heldQp s qpn = some q) := by
  refine ⟨65541, witQp, linked, ?_⟩
  first | decide | ((repeat' apply And.intro) <;> first | decide | rfl)
theorem witness_RcAnswerCommands_6 : ∃ (qpn : Nat) (q : Qp) (s : State), (heldQp s qpn = some q) := by
  refine ⟨65541, witQp, linked, ?_⟩
  first | decide | ((repeat' apply And.intro) <;> first | decide | rfl)
theorem witness_RcAnswerCommands_7 : ∃ (qpn : Nat) (q : Qp) (s : State), (heldQp s qpn = some q) := by
  refine ⟨65541, witQp, linked, ?_⟩
  first | decide | ((repeat' apply And.intro) <;> first | decide | rfl)
theorem witness_RcAnswerCommands_8 : ∃ (qpn : Nat) (s : State), (s.rc.fetching.contains qpn = true) ∧ (s.rc.cache.length < 4096) ∧
  (s.rc.held = []) := by
  refine ⟨65541, { linked with rc := { own := [(5, witQp)], fetching := [65541] } }, ?_⟩
  first | decide | ((repeat' apply And.intro) <;> first | decide | rfl)
theorem witness_ConnectionCommands_1 : ∃ (m : CmReq) (c : Nat) (s : State), (portOpen s m.port.val = true) ∧ (reqRefusal s m = some
  c) := by
  refine ⟨{ connReq with privVersion := 2 }, 1, linked, ?_⟩
  first | decide | ((repeat' apply And.intro) <;> first | decide | rfl)
theorem witness_ConnectionCommands_2 : ∃ (m : CmReq) (s : State), (portOpen s m.port.val = true) ∧ (reqRefusal s m = none) ∧
  (pairWorks s = false) ∧ (s.rst.node ≠ 0) ∧ (s.rc.own = []) := by
  refine ⟨connReq, { linked with rc := {} }, ?_⟩
  first | decide | ((repeat' apply And.intro) <;> first | decide | rfl)
theorem witness_ConnectionCommands_3 : ∃ (qpn : Nat) (q : Qp) (s : State), (heldQp s qpn = some q) ∧ (q.st = .connecting) := by
  refine ⟨65541, { witQp with st := .connecting }, { linked with rc := { own := [(5, { witQp with st := .connecting })] } }, ?_⟩
  first | decide | ((repeat' apply And.intro) <;> first | decide | rfl)
theorem witness_ConnectionCommands_4 : ∃ (qpn : Nat) (q : Qp) (s : State), (heldQp s qpn = some q) ∧ (q.ownDreq = true) := by
  refine ⟨65541, { witQp with ownDreq := true }, { linked with rc := { own := [(5, { witQp with ownDreq := true })] } }, ?_⟩
  first | decide | ((repeat' apply And.intro) <;> first | decide | rfl)
theorem witness_ConnectionCommands_5 : ∃ (qpn : Nat) (q : Qp) (s : State), (heldQp s qpn = some q) ∧ (q.ownDreq = false) ∧ (q.done =
  []) ∧ (qpOps s qpn = []) ∧ (q.responses = []) := by
  refine ⟨65541, witQp, linked, ?_⟩
  first | decide | ((repeat' apply And.intro) <;> first | decide | rfl)
theorem witness_ConnectionCommands_6 : ∃ (qpn : Nat) (q : Qp) (s : State), (heldQp s qpn = some q) ∧ (q.ownDreq = false) ∧ (q.done =
  []) ∧ (qpOps s qpn ≠ []) := by
  refine ⟨65541, witQp,
    { linked with host := { ops := [{ id := 1, origin := .rc 3 65541 5 true false, kind := .read, host := 65541, seq := 5, region := 1, key := 16384, off := 0, len := 4 }] } },
    ?_⟩
  first | decide | ((repeat' apply And.intro) <;> first | decide | rfl)
theorem witness_ConnectionCommands_7 : ∃ (qpn : Nat) (q : Qp) (s : State), (heldQp s qpn = some q) ∧ (q.ownDreq = true) := by
  refine ⟨65541, { witQp with ownDreq := true }, { linked with rc := { own := [(5, { witQp with ownDreq := true })] } }, ?_⟩
  first | decide | ((repeat' apply And.intro) <;> first | decide | rfl)
theorem witness_ConnectionCommands_8 : ∃ (qpn : Nat) (q : Qp) (s : State), (heldQp s qpn = some q) ∧ (q.st = .connecting) ∧
  (s.rc.waitShadow = []) := by
  refine ⟨65541, { witQp with st := .connecting }, { linked with rc := { own := [(5, { witQp with st := .connecting })] } }, ?_⟩
  first | decide | ((repeat' apply And.intro) <;> first | decide | rfl)
theorem witness_ConnectionCommands_9 : ∃ (qpn : Nat) (q : Qp) (s : State), (heldQp s qpn = some q) ∧ (q.st = .serving) ∧ (dget s
  0x210203 ≠ 0) ∧ ((s.rtc + 2 ^ 32 - q.lastRx) % 2 ^ 32 ≥ dget s 0x210203 * 1000) := by
  refine ⟨65541, witQp, { linked with rtc := 600000 }, ?_⟩
  first | decide | ((repeat' apply And.intro) <;> first | decide | rfl)
theorem witness_ConnectionCommands_10 : ∃ (qpn : Nat) (q : Qp) (s : State), (heldQp s qpn = some q) ∧ (q.ownDreq = true) := by
  refine ⟨65541, { witQp with ownDreq := true }, { linked with rc := { own := [(5, { witQp with ownDreq := true })] } }, ?_⟩
  first | decide | ((repeat' apply And.intro) <;> first | decide | rfl)
theorem witness_RegionCommands_1 : ∃ (b : RegionBlock) (slot base : Nat) (s : State), (TakesBlock 1 b s) ∧ (findRegion s b.region =
  none) ∧ ((tenantOf s b.tenant).enable = true) ∧ (tenantRegions s b.tenant < (tenantOf s b.tenant).maxRegions) ∧ (tierFits s
  b.tenant b.tier b.pages = true) ∧ (findSlot s = some slot) ∧ (findBase s b.pages = some base) := by
  refine ⟨⟨0, 1, 0, 2, 0, 1, 1⟩, nthFree [0] (Config.placement 1 % 65535), 4 + Config.placement 0 % 4294967292, served, ?_⟩
  refine ⟨by decide, by decide, by decide, by decide, by decide, rfl, ?_⟩
  have h := Nat.mod_lt (Config.placement 0) (show 4294967292 > 0 by decide)
  show nthStart 1 [(0, 0), (4, 4294967292)] (Config.placement 0 % 4294967292) = _
  simp [nthStart, h]
theorem witness_RegionCommands_2 : ∃ (b : RegionBlock) (slot : Nat) (r : Region) (s : State), (TakesBlock 2 b s) ∧ (findRegion s
  b.region = some (slot, r)) ∧ (regionKeys s r.id = 0) := by
  refine ⟨⟨0, 0, 0, 1, 0, 0, 0⟩, 0, ⟨1, .active, 1, 1, 4, 0⟩,
    { served with per := { live := { regions := [(0, ⟨1, .active, 1, 1, 4, 0⟩)] } } }, ?_⟩
  first | decide | ((repeat' apply And.intro) <;> first | decide | rfl)
theorem witness_RegionCommands_3 : ∃ (b : RegionBlock) (slot : Nat) (r : Region) (s : State), (TakesBlock 3 b s) ∧ (findRegion s
  b.region = some (slot, r)) ∧ (r.st = .active) ∧ (r.pages < b.pages) ∧ (tierFits s r.tenant b.tier (b.pages - r.pages) = true) ∧
  ((live s).regions.all (fun p => p.2.base < r.base + r.pages || r.base + b.pages ≤ p.2.base) = true) ∧ (r.base + b.pages ≤ 2 ^ 32)
  := by
  refine ⟨⟨0, 0, 0, 1, 0, 5, 0⟩, 0, ⟨1, .active, 1, 1, 4, 0⟩, served, ?_⟩
  first | decide | ((repeat' apply And.intro) <;> first | decide | rfl)
theorem witness_RegionCommands_4 : ∃ (b : RegionBlock) (slot : Nat) (r : Region) (s : State), (TakesBlock 3 b s) ∧ (findRegion s
  b.region = some (slot, r)) ∧ (b.pages < r.pages) := by
  refine ⟨⟨0, 0, 0, 1, 0, 3, 0⟩, 0, ⟨1, .active, 1, 1, 4, 0⟩, served, ?_⟩
  first | decide | ((repeat' apply And.intro) <;> first | decide | rfl)
theorem witness_RegionCommands_5 : ∃ (b : RegionBlock) (slot i : Nat) (r : Region) (s : State), (TakesBlock 4 b s) ∧ (findRegion s
  b.region = some (slot, r)) ∧ (regionKeys s r.id < 16) ∧ (issuable s = some i) := by
  refine ⟨⟨0, 0, 0, 1, 0, 0, 0⟩, 0, 1, ⟨1, .active, 1, 1, 4, 0⟩, served, ?_⟩
  first | decide | ((repeat' apply And.intro) <;> first | decide | rfl)
theorem witness_RegionCommands_6 : ∃ (b : RegionBlock) (slot i : Nat) (r : Region) (s : State), (TakesBlock 5 b s) ∧ (findRegion s
  b.region = some (slot, r)) ∧ (i = b.key / 16384) ∧ (i ≠ 0) ∧ ((keyOf s i).region = r.id) ∧ ((keyOf s i).gen = b.key % 16384) ∧
  ((keyOf s i).st = .valid) := by
  refine ⟨⟨0, 0, 0, 1, 16384, 0, 0⟩, 0, 1, ⟨1, .active, 1, 1, 4, 0⟩, served, ?_⟩
  first | decide | ((repeat' apply And.intro) <;> first | decide | rfl)
theorem witness_RegionCommands_7 : ∃ (b : RegionBlock) (slot : Nat) (r : Region) (keys : List Nat) (s : State), (TakesBlock 6 b s) ∧
  (findRegion s b.region = some (slot, r)) ∧ (keys = ((live s).keys.filter (fun p => p.2.st = .valid ∧ p.2.region = r.id)).map
  (·.1)) ∧ (keys ≠ []) := by
  refine ⟨⟨0, 0, 0, 1, 0, 0, 0⟩, 0, ⟨1, .active, 1, 1, 4, 0⟩, [1], served, ?_⟩
  first | decide | ((repeat' apply And.intro) <;> first | decide | rfl)
theorem witness_RegionCommands_8 : ∃ (b : RegionBlock) (slot : Nat) (r : Region) (s : State), (TakesBlock 7 b s) ∧ (findRegion s
  b.region = some (slot, r)) ∧ (b.owner = r.owner) := by
  refine ⟨⟨0, 0, 0, 1, 0, 0, 1⟩, 0, ⟨1, .active, 1, 1, 4, 0⟩, served, ?_⟩
  first | decide | ((repeat' apply And.intro) <;> first | decide | rfl)
theorem witness_FenceCommands_1 : ∃ (f : Fence) (s : State), (s.eng.fence = some f) ∧ (f.past = false) := by
  refine ⟨⟨1, [1], none, false, false, false, false⟩,
    { served with eng := { fence := some ⟨1, [1], none, false, false, false, false⟩ } }, ?_⟩
  first | decide | ((repeat' apply And.intro) <;> first | decide | rfl)
theorem witness_FenceCommands_2 : ∃ (f : Fence) (c : RunCmd) (s : State), (s.eng.fence = some f) ∧ (f.past = true) ∧ (f.drained =
  false) ∧ (f.forTwin = false) ∧ (f.newPages = none) ∧ (drained s = true) ∧ (s.eng.run = some c) ∧ (pairWorks s = false) ∧
  (s.eng.claimed = []) := by
  refine ⟨⟨1, [1], none, false, true, false, false⟩, ⟨5, ⟨0, 0, 0, 1, 16384, 0, 0⟩, .fence, [1], 0, false, false⟩,
    { served with eng := { fence := some ⟨1, [1], none, false, true, false, false⟩, run := some ⟨5, ⟨0, 0, 0, 1, 16384, 0, 0⟩, .fence, [1], 0, false, false⟩ } },
    ?_⟩
  first | decide | ((repeat' apply And.intro) <;> first | decide | rfl)
theorem witness_FenceCommands_3 : ∃ (f : Fence) (o : Op) (s : State), (s.eng.fence = some f) ∧ (f.past = true) ∧ (s.host.ops = [o])
  ∧ (o.fenced = true) ∧ (0 < o.waiting) ∧ (o.kind ≠ .batch) ∧ (o.nak = none) := by
  refine ⟨⟨1, [1], none, false, true, false, false⟩,
    { id := 1, origin := .internal, kind := .read, host := 7, seq := 5, region := 1, key := 16384, off := 0, len := 4, waiting := 1, fenced := true },
    { served with eng := { fence := some ⟨1, [1], none, false, true, false, false⟩ }, host := { ops := [{ id := 1, origin := .internal, kind := .read, host := 7, seq := 5, region := 1, key := 16384, off := 0, len := 4, waiting := 1, fenced := true }] } },
    ?_⟩
  first | decide | ((repeat' apply And.intro) <;> first | decide | rfl)
theorem witness_FenceCommands_4 : ∃ (tenant : Fin 256) (value : Nat) (s : State), (TakesElement 0x2201 tenant value s) := by
  refine ⟨2, 2 ^ 63 + 2 ^ 34, { served with pres := { windowOpen := true } }, ?_⟩
  first | decide | ((repeat' apply And.intro) <;> first | decide | rfl)
theorem witness_FenceCommands_5 : ∃ (tenant : Fin 256) (value : Nat) (s : State), (TakesElement 0x3001 tenant value s) ∧
  (quotaRefused (applyElem (.quota tenant value) s) tenant value = false) := by
  refine ⟨2, 0, { served with pres := { windowOpen := true } }, ?_⟩
  first | decide | ((repeat' apply And.intro) <;> first | decide | rfl)
theorem witness_FenceCommands_6 : ∃ (host : Fin 65536) (value : Nat) (s : State), (TakesElement 0x2101 host value s) := by
  refine ⟨8, 0x8001, { served with pres := { windowOpen := true } }, ?_⟩
  first | decide | ((repeat' apply And.intro) <;> first | decide | rfl)
theorem witness_FenceCommands_7 : ∃ (ms : Nat) (s : State), (Serves s) ∧ (ms ≠ 0) ∧ (ms ≤ 64) := by
  refine ⟨8, served, ?_⟩
  first | decide | ((repeat' apply And.intro) <;> first | decide | rfl)
theorem witness_DramErrorCommands_1 : ∃ (channel : Fin 32) (e : DramWord) (s : State), (servingChan s channel = true) ∧ (e.verdict =
  1) ∧ (s.pres.injecting = false) ∧ (openEntry (chanOf s channel) (wordKey e) = none) ∧ ((chanOf s channel).log.length < 64) := by
  refine ⟨4, ⟨0, 0, 0, 0, 0, 0, 0, 0, 1, 0, 0, true⟩, { up with dram := { channels := [(4, { st := .serving })] } }, ?_⟩
  first | decide | ((repeat' apply And.intro) <;> first | decide | rfl)
theorem witness_DramErrorCommands_2 : ∃ (channel : Fin 32) (e : DramWord) (s : State), (servingChan s channel = true) ∧ (inBurst
  (chanOf s channel) = false) ∧ (e.verdict = 0) ∧ (s.pres.armed = []) := by
  refine ⟨4, ⟨0, 0, 0, 0, 0, 0, 0, 0, 0, 0, 0, true⟩, { up with dram := { channels := [(4, { st := .serving })] } }, ?_⟩
  first | decide | ((repeat' apply And.intro) <;> first | decide | rfl)
theorem witness_DramRefreshCommands_1 : ∃ (channel : Fin 32) (subrank : Fin 4) (s : State), (servingChan s channel = true) ∧
  (inBurst (chanOf s channel) = true) ∧ (((chanOf s channel).rankPower[subrank.val % 2]?).getD 0 ≠ 2) ∧ (((chanOf s
  channel).post[subrank.val]?).getD 0 < 8) := by
  refine ⟨4, 1, { up with dram := { channels := [(4, { st := .serving, panicFx := true })] } }, ?_⟩
  first | decide | ((repeat' apply And.intro) <;> first | decide | rfl)
theorem witness_DramRefreshCommands_2 : ∃ (channel : Fin 32) (subrank : Fin 4) (s : State), (servingChan s channel = true) ∧
  (inBurst (chanOf s channel) = true) ∧ (((chanOf s channel).rankPower[subrank.val % 2]?).getD 0 ≠ 2) ∧ (8 ≤ ((chanOf s
  channel).post[subrank.val]?).getD 0) := by
  refine ⟨4, 1, { up with dram := { channels := [(4, { st := .serving, panicFx := true, post := [0, 8, 0, 0] })] } }, ?_⟩
  first | decide | ((repeat' apply And.intro) <;> first | decide | rfl)
theorem witness_DramRefreshCommands_3 : ∃ (channel : Fin 32) (subrank : Fin 4) (s : State), (inBurst (chanOf s channel) = false) :=
  by
  refine ⟨4, 1, up, ?_⟩
  first | decide | ((repeat' apply And.intro) <;> first | decide | rfl)
theorem witness_DramRefreshCommands_4 : ∃ (channel : Fin 32) (fixative : Bool) (s : State), (servingChan s channel = true) := by
  refine ⟨4, true, { up with dram := { channels := [(4, { st := .serving })] } }, ?_⟩
  first | decide | ((repeat' apply And.intro) <;> first | decide | rfl)
theorem witness_DramRefreshCommands_6 : ∃ (channel : Fin 32) (rank : Fin 2) (s : State), (servingChan s channel = true) ∧ (inBurst
  (chanOf s channel) = false) ∧ ((chanOf s channel).policy ≠ 1) ∧ (((chanOf s channel).rankPower[rank.val]?).getD 0 = 0) := by
  refine ⟨4, 1, { up with dram := { channels := [(4, { st := .serving })] } }, ?_⟩
  first | decide | ((repeat' apply And.intro) <;> first | decide | rfl)
theorem witness_DramRefreshCommands_7 : ∃ (channel : Fin 32) (rank : Fin 2) (s : State), (servingChan s channel = true) ∧ (inBurst
  (chanOf s channel) = false) ∧ ((chanOf s channel).policy = 3) ∧ (((chanOf s channel).rankPower[rank.val]?).getD 0 = 1) := by
  refine ⟨4, 1, { up with dram := { channels := [(4, { st := .serving, policy := 3, rankPower := [0, 1] })] } }, ?_⟩
  first | decide | ((repeat' apply And.intro) <;> first | decide | rfl)
theorem witness_DramTrainingCommands_1 : ∃ (channel : Fin 32) (margin : Nat) (preserved : Bool) (s : State), ((chanOf s channel).st
  = .training) := by
  refine ⟨4, 30, false, { up with dram := { channels := [(4, { st := .training })] } }, ?_⟩
  first | decide | ((repeat' apply And.intro) <;> first | decide | rfl)
theorem witness_DramTrainingCommands_2 : ∃ (n : Fin 32) (s : State), (s.md.mode = .recall) ∧ (s.dram.hpprRun = false) ∧ ((List.range
  32).filter (fun k => (chanOf s k).st = .training) = [n.val]) ∧ ((live s).dir = []) := by
  refine ⟨4, { State.reset with dram := { channels := [(4, { st := .training })] } }, ?_⟩
  first | decide | ((repeat' apply And.intro) <;> first | decide | rfl)
theorem witness_DramTrainingCommands_3 : ∃ (channel : Fin 32) (s : State), (servingChan s channel = true) := by
  refine ⟨4, { up with dram := { channels := [(4, { st := .serving })] } }, ?_⟩
  first | decide | ((repeat' apply And.intro) <;> first | decide | rfl)
theorem witness_DramTrainingCommands_4 : ∃ (channel : Fin 32) (s : State), (servingChan s channel = true) := by
  refine ⟨4, { up with dram := { channels := [(4, { st := .serving })] } }, ?_⟩
  first | decide | ((repeat' apply And.intro) <;> first | decide | rfl)
theorem witness_DramTrainingCommands_5 : ∃ (channel : Fin 32) (temp : Int) (s : State), ((chanOf s channel).st = .serving) ∧ ((temp
  - (chanOf s channel).trainTemp).natAbs ≥ dget s 0x324007) := by
  refine ⟨4, 90, { up with dram := { channels := [(4, { st := .serving })] } }, ?_⟩
  first | decide | ((repeat' apply And.intro) <;> first | decide | rfl)
theorem witness_DramTrainingCommands_6 : ∃ (channel : Fin 32) (s : State), (Serves s) ∧ ((chanOf s channel).st = .serving) := by
  refine ⟨4, { up with dram := { channels := [(4, { st := .serving })] } }, ?_⟩
  first | decide | ((repeat' apply And.intro) <;> first | decide | rfl)
theorem witness_DramTrainingCommands_7 : ∃ (channel : Fin 32) (margin : Nat) (temp : Int) (s : State), ((chanOf s channel).st =
  .retraining) := by
  refine ⟨4, 30, 50, { up with dram := { channels := [(4, { st := .retraining })] } }, ?_⟩
  first | decide | ((repeat' apply And.intro) <;> first | decide | rfl)
theorem witness_DramTrainingCommands_8 : ∃ (group : Fin 4) (s : State), (s.dram.doubleLost.contains group.val = false) := by
  refine ⟨1, up, ?_⟩
  first | decide | ((repeat' apply And.intro) <;> first | decide | rfl)
theorem witness_DramTrainingCommands_9 : ∃ (s : State), (s.dram.hpprRun = true) := by
  refine ⟨{ up with dram := { hpprRun := true } }, ?_⟩
  first | decide | ((repeat' apply And.intro) <;> first | decide | rfl)
theorem witness_NandChannelCommands_1 : ∃ (channel : Fin 40) (present : Nat) (s : State), ((nchanOf s channel).st = .training) := by
  refine ⟨3, 65535, { up with nand := { channels := [(3, { st := .training })] } }, ?_⟩
  first | decide | ((repeat' apply And.intro) <;> first | decide | rfl)
theorem witness_NandChannelCommands_2 : ∃ (lunit : Nat) (e : MapEntry) (n : Nat) (s : State), (e = tget {} (live s).fmap lunit) ∧ (n
  = dieNo e.place.ch e.place.die) ∧ ((dieOf s n).ops.any (fun o => o.act = .read lunit) = true) ∧ (s.pres.armed = []) ∧
  (s.pres.injecting = false) ∧ (tfind s.nand.heads (punit e.place) = none) ∧ ((groupOf s n e.place.group).reads < dget s 0x335004)
  := by
  refine ⟨0, {}, 0, { up with nand := { dies := [(0, { ops := [⟨1, 0, .read 0⟩] })] } }, ?_⟩
  first | decide | ((repeat' apply And.intro) <;> first | decide | rfl)
theorem witness_NandChannelCommands_3 : ∃ (channel : Fin 40) (die : Fin 16) (plane : Fin 4) (n g l : Nat) (u : ProgUnit) (m : Merge)
  (s : State), (n = dieNo channel die) ∧ (s.md.mode = .drain) ∧ (s.pres.armed = []) ∧ ((dieOf s n).ops = [⟨4, 0, .program [u]⟩]) ∧
  (u.why = .writeBack l) ∧ (s.nand.merge = [m]) ∧ (m.lunit = l) ∧ (u.data = lunitData s l) ∧ (overlay u.data m.lines m.data =
  lunitData s l) ∧ ((dieOf s n).openPool = some g) ∧ ((groupOf s n g).st = .opened) ∧ ((groupOf s n g).next < 6144) ∧
  (s.nand.stripes = []) := by
  refine ⟨0, 0, 0, 0, 200, 0, ⟨1, 0, .writeBack 0, 1, []⟩, ⟨0, 0, 0, [], []⟩,
    { up with md := { mode := .drain, left := .solo }, per := { live := { groups := [(200, { st := .opened })] } }, nand := { dies := [(0, { ops := [⟨4, 0, .program [⟨1, 0, .writeBack 0, 1, []⟩]⟩], openPool := some 200 })], merge := [⟨0, 0, 0, [], []⟩] } },
    ?_⟩
  first | decide | ((repeat' apply And.intro) <;> first | decide | rfl)
theorem witness_NandChannelCommands_4 : ∃ (channel : Fin 40) (die : Fin 16) (group : Nat) (plane : Fin 4) (n : Nat) (s : State), (n
  = dieNo channel die) ∧ (s.md.mode = .drain) ∧ (liveDie s n = true) ∧ ((groupOf s n group).st = .free) ∧ (plateOf s group = none) ∧
  (s.nand.stripes = []) := by
  refine ⟨0, 0, 200, 0, 0,
    { up with md := { mode := .drain, left := .solo }, per := { live := { groups := [(200, { st := .free })] } }, rst := { phase := .running, loadDone := true, options := { dies := 640 } } },
    ?_⟩
  first | decide | ((repeat' apply And.intro) <;> first | decide | rfl)
theorem witness_NandChannelCommands_5 : ∃ (channel : Fin 40) (die : Fin 16) (n : Nat) (s : State), (n = dieNo channel die) ∧
  (s.md.mode ≠ .drain) ∧ (0 < (dieOf s n).wordline.length) ∧ ((dieOf s n).wordline.length ≤ 12) ∧ ((dieOf s n).ops.length < 8) := by
  refine ⟨0, 0, 0, { up with nand := { dies := [(0, { wordline := [⟨1, 0, .writeBack 0, 1, []⟩] })] } }, ?_⟩
  first | decide | ((repeat' apply And.intro) <;> first | decide | rfl)
theorem witness_NandChannelCommands_6 : ∃ (channel : Fin 40) (die : Fin 16) (cause n : Nat) (s : State), (n = dieNo channel die) ∧
  ((dieOf s n).st = .service) ∧ (s.md.mode ≠ .keep) ∧ ((live s).dir = []) := by
  refine ⟨0, 0, 2, 0, up, ?_⟩
  first | decide | ((repeat' apply And.intro) <;> first | decide | rfl)
theorem witness_NandPassCommands_1 : ∃ (w : Tables) (s : State), (s.per.writing = some w) ∧ (s.md.mode = .drain) := by
  refine ⟨{}, { up with md := { mode := .drain, left := .solo }, per := { writing := some {} } }, ?_⟩
  first | decide | ((repeat' apply And.intro) <;> first | decide | rfl)
theorem witness_NandPassCommands_2 : ∃ (s : State), (s.per.rounding = false) ∧ (s.md.mode ≠ .drain) := by
  refine ⟨up, ?_⟩
  first | decide | ((repeat' apply And.intro) <;> first | decide | rfl)
theorem witness_NandPassCommands_3 : ∃ (s : State), (s.per.rounding = true) := by
  refine ⟨{ up with per := { rounding := true } }, ?_⟩
  first | decide | ((repeat' apply And.intro) <;> first | decide | rfl)
theorem witness_NandPassCommands_4 : ∃ (x : Stripe) (ch die g : Nat) (s : State), (s.nand.stripes = [x]) ∧ (x.parity = none) ∧
  (s.md.mode ≠ .drain) ∧ (scheme s = 1) ∧ (parityDie x.pgroup x.unit = (ch, die)) ∧ ((areaGroups s .parity).head? = some g) ∧
  ((groupOf s (dieNo ch die) g).st = .opened) ∧ ((groupOf s (dieNo ch die) g).next < 2048) := by
  refine ⟨⟨0, 1, 0, [], none, false⟩, 0, 2, 12,
    { up with md := { mode := .duplex }, per := { live := { groups := [(4108, { st := .opened })] } }, nand := { stripes := [⟨0, 1, 0, [], none, false⟩] } },
    ?_⟩
  first | decide | ((repeat' apply And.intro) <;> first | decide | rfl)
theorem witness_NandPassCommands_5 : ∃ (channel : Fin 40) (die : Fin 16) (group n : Nat) (s : State), (n = dieNo channel die) ∧
  ((groupOf s n group).st = .full) ∧ (s.md.mode ≠ .drain) ∧ ((n, group) ∉ s.nand.verifying) := by
  refine ⟨0, 0, 200, 0, { up with per := { live := { groups := [(200, { st := .full })] } } }, ?_⟩
  first | decide | ((repeat' apply And.intro) <;> first | decide | rfl)
theorem witness_NandPassCommands_6 : ∃ (channel : Fin 40) (die : Fin 16) (group worst : Nat) (plane : Fin 4) (n : Nat) (s : State),
  (n = dieNo channel die) ∧ ((n, group) ∈ s.nand.verifying) ∧ (worst < dget s 0x335005) ∧ (worst ≤ dget s 0x335003) ∧
  (s.nand.stripes = []) ∧ (s.rec_.phase = .none) := by
  refine ⟨0, 0, 200, 10, 0, 0,
    { up with per := { live := { groups := [(200, { st := .full })] } }, nand := { verifying := [(0, 200)] } }, ?_⟩
  first | decide | ((repeat' apply And.intro) <;> first | decide | rfl)
theorem witness_NandPassCommands_7 : ∃ (channel : Fin 40) (die : Fin 16) (group worst n : Nat) (s : State), (n = dieNo channel die)
  ∧ (s.md.mode ≠ .drain) ∧ (liveDie s n = true) ∧ ((groupOf s n group).next ≠ 0) ∧ (worst ≤ dget s 0x335003) := by
  refine ⟨0, 0, 200, 10, 0,
    { up with per := { live := { groups := [(200, { st := .full, next := 6144 })] } }, rst := { phase := .running, loadDone := true, options := { dies := 640 } } },
    ?_⟩
  first | decide | ((repeat' apply And.intro) <;> first | decide | rfl)
theorem witness_NandPassCommands_8 : ∃ (s : State), (mediaFull s = true) ∧ (bitOf s.md.causes 6 = false) := by
  refine ⟨{ up with dict := [(0x334007, 1)] }, ?_⟩
  first | decide | ((repeat' apply And.intro) <;> first | decide | rfl)
theorem witness_FixativeCommands_1 : ∃ (s : State), (s.md.mode ≠ .drain) ∧ (s.md.mode ≠ .recall) ∧ (s.rst.phase ≠ .window) ∧
  (s.fix.passRunning = true) := by
  refine ⟨{ up with fix := { passRunning := true } }, ?_⟩
  first | decide | ((repeat' apply And.intro) <;> first | decide | rfl)
theorem witness_FixativeCommands_2 : ∃ (d : Dirty) (s : State), (s.md.mode ≠ .drain) ∧ (s.md.mode ≠ .recall) ∧ (s.rst.phase ≠
  .window) ∧ (s.fix.passRunning = false) ∧ (s.fix.dirty = [d]) ∧ (d.imaging = false) ∧ (d.whole = false) ∧ (ownDirty s d = true) ∧
  (eligible s d.tpn = true) ∧ (pageAbsent s d.tpn = false) ∧ (s.rec_.phase = .none) ∧ (s.cp.twin ≠ .resync) := by
  refine ⟨⟨0, false, false, false, false, false, []⟩, { up with fix := { dirty := [⟨0, false, false, false, false, false, []⟩] } },
    ?_⟩
  first | decide | ((repeat' apply And.intro) <;> first | decide | rfl)
theorem witness_FixativeCommands_3 : ∃ (d : Dirty) (s : State), (s.fix.pass = [d.tpn]) ∧ (s.fix.dirty = [d]) ∧ (d.imaging = false) ∧
  (eligible s d.tpn = true) ∧ (pageAbsent s d.tpn = false) := by
  refine ⟨⟨0, false, false, false, false, false, []⟩,
    { up with fix := { passRunning := true, pass := [0], dirty := [⟨0, false, false, false, false, false, []⟩] } }, ?_⟩
  first | decide | ((repeat' apply And.intro) <;> first | decide | rfl)
theorem witness_FixativeCommands_4 : ∃ (d : Dirty) (s : State), (s.md.mode = .drain) ∧ (s.fix.dirty = [d]) ∧ (d.imaging = true) ∧
  (d.twinWait = false) ∧ (d.pressure = false) ∧ ((programImage d.tpn d.copy s).isSome = true) := by
  refine ⟨⟨0, true, false, false, false, false, []⟩,
    { up with md := { mode := .drain, left := .solo }, fix := { phase := .dumping, dirty := [⟨0, true, false, false, false, false, []⟩] }, nand := { dies := [(0, { openHead := some 13 })] }, per := { live := { groups := [(13, { st := .opened }), (327693, { st := .opened }), (655373, { st := .opened }), (983053, { st := .opened })] } } },
    ?_⟩
  decide +kernel
theorem witness_FixativeCommands_5 : ∃ (profile : Nat) (gib : Nat) (s : State), (Serves s) ∧ (profile = 1 ∨ profile = 2 ∨ profile =
  3) ∧ (profile ≠ dget s 0x110002) ∧ (0 < gib ∧ gib ≤ 64) ∧ (budgetFits s gib = true) := by
  refine ⟨1, 1,
    { up with dict := [(0x340401, 1000)], fix := { holdFresh := true }, rst := { phase := .running, loadDone := true, options := { dies := 40 } } },
    ?_⟩
  decide +kernel
theorem witness_FixativeCommands_6 : ∃ (s : State) (joules : Nat), (Serves s) ∧ (joules ≤ 65535) := by
  refine ⟨up, 5, ?_⟩
  first | decide | ((repeat' apply And.intro) <;> first | decide | rfl)
theorem witness_FixativeCommands_7 : ∃ (s : State), (dget s 0x340403 ≠ 0) ∧ (bitOf s.md.causes 0 = false) := by
  refine ⟨{ up with dict := [(0x340403, 5)] }, ?_⟩
  first | decide | ((repeat' apply And.intro) <;> first | decide | rfl)
theorem witness_FixativeCommands_8 : ∃ (cycles : Nat) (s : State), (64 ≤ cycles) ∧ (s.rst.phase = .running) ∧ (s.md.mode ≠ .drain)
  := by
  refine ⟨64, up, ?_⟩
  first | decide | ((repeat' apply And.intro) <;> first | decide | rfl)
theorem witness_FixativeCommands_9 : ∃ (s : State), (s.md.mode = .drain) ∧ (s.fix.phase = .draining) ∧ (s.fix.dumpDead = false) :=
  by
  refine ⟨{ up with md := { mode := .drain, left := .solo }, fix := { phase := .draining } }, ?_⟩
  first | decide | ((repeat' apply And.intro) <;> first | decide | rfl)
theorem witness_FixativeCommands_10 : ∃ (duration units : Nat) (s : State), (s.fix.phase = .dumping) ∧ (s.rst.dumpReset = false) ∧
  (s.fix.cause ≠ 1) := by
  refine ⟨5, 40, { up with md := { mode := .drain, left := .solo }, fix := { phase := .dumping, cause := 3 } }, ?_⟩
  first | decide | ((repeat' apply And.intro) <;> first | decide | rfl)
theorem witness_FixativeCommands_11 : ∃ (s : State), (s.rst.pfail = true) ∧ (s.fix.phase = .sealed) ∧ (s.fix.cause = 1) ∧
  (s.rst.pwrgd = true) ∧ (s.md.mode = .drain) ∧ (s.rst.phase = .running) := by
  refine
    ⟨{ up with md := { mode := .drain, left := .solo }, fix := { phase := .sealed, cause := 1 }, rst := { phase := .running, loadDone := true, pfail := true, pwrgd := true } },
    ?_⟩
  first | decide | ((repeat' apply And.intro) <;> first | decide | rfl)
theorem witness_RecallCommands_1 : ∃ (rebuilt : Nat) (s : State), (s.md.mode = .recall) ∧ (s.rec_.dirLoaded = false) ∧
  (s.rst.loadDone = true) ∧ ((List.range 32).any (fun c => (chanOf s c).st = .training) = false) ∧ (s.rec_.formatted = false) := by
  refine ⟨0,
    { up with md := { mode := .recall }, rec_ := {}, dram := { channels := (List.range 32).map (fun c => (c, { st := .serving })) } },
    ?_⟩
  first | decide | ((repeat' apply And.intro) <;> first | decide | rfl)
theorem witness_RecallCommands_2 : ∃ (rebuilt : Nat) (s : State), (s.md.mode = .recall) ∧ (s.rec_.dirLoaded = false) ∧
  (s.rst.loadDone = true) ∧ ((List.range 32).any (fun c => (chanOf s c).st = .training) = false) ∧ (s.rec_.formatted = true) ∧
  (warmStart s = true) ∧ ((live s).fenceLog = none) := by
  refine ⟨0,
    { up with md := { mode := .recall }, rec_ := { formatted := true, reserveSeal := some 0 }, dram := { channels := (List.range 32).map (fun c => (c, { st := .serving })) } },
    ?_⟩
  first | decide | ((repeat' apply And.intro) <;> first | decide | rfl)
theorem witness_RecallCommands_3 : ∃ (segment : Nat) (s : State), (s.rec_.dirLoaded = true) ∧ (segment ∈ s.rec_.segLeft) := by
  refine ⟨7, { up with rec_ := { dirLoaded := true, segLeft := [7] } }, ?_⟩
  first | decide | ((repeat' apply And.intro) <;> first | decide | rfl)
theorem witness_RecallCommands_4 : ∃ (d : Dump) (s : State), (s.rec_.dump = some d) ∧ (s.rec_.dirLoaded = true) ∧ (s.rec_.indexed =
  false) ∧ (d.lines = []) ∧ (d.merges = []) ∧ (∀ p ∈ d.pages, p.2.1 = false) := by
  refine ⟨⟨0, 1, 0, 0, 4, 0, 0, 0, 1, 0, 1, {}, [], [(5, false, [])], [], []⟩,
    { up with md := { mode := .recall }, rec_ := { phase := .preparing, dirLoaded := true, dump := some ⟨0, 1, 0, 0, 4, 0, 0, 0, 1, 0, 1, {}, [], [(5, false, [])], [], []⟩ } },
    ?_⟩
  first | decide | ((repeat' apply And.intro) <;> first | decide | rfl)
theorem witness_RecallCommands_5 : ∃ (s : State), (s.rec_.dirLoaded = true) ∧ (s.rec_.ordersRead = false) ∧ (s.rec_.dump = none) ∧
  (restoreSlots s = []) ∧ (s.rec_.writes = []) := by
  refine ⟨{ up with md := { mode := .recall }, rec_ := { phase := .preparing, dirLoaded := true } }, ?_⟩
  first | decide | ((repeat' apply And.intro) <;> first | decide | rfl)
theorem witness_RecallCommands_6 : ∃ (tpn : Nat) (readable : Bool) (s : State), (s.rec_.dirLoaded = true) ∧ (s.rec_.dump = none) ∧
  (tpn ∈ s.rec_.unrestored) ∧ (tpn ∈ s.rec_.demand) ∧ (s.cp.fetches = []) ∧ (pairWorks s = false) ∧ (s.cp.twin ≠ .resync) := by
  refine ⟨5, true,
    { up with md := { mode := .recall }, rec_ := { phase := .streaming, dirLoaded := true, unrestored := [5], demand := [5] } }, ?_⟩
  first | decide | ((repeat' apply And.intro) <;> first | decide | rfl)
theorem witness_RecallCommands_7 : ∃ (channel : Fin 40) (die : Fin 16) (group n : Nat) (s : State), (n = dieNo channel die) ∧
  (s.rec_.serving = true) ∧ ((n, group) ∈ s.rec_.opened) ∧ ((groupOf s n group).st = .opened) ∧ (validUnits s channel die group ≠
  []) ∧ (s.md.mode ≠ .keep) := by
  refine ⟨0, 0, 200, 0,
    { up with rec_ := { serving := true, opened := [(0, 200)] }, per := { live := { groups := [(200, { st := .opened })], fmap := [(0, { st := 1, place := ⟨0, 0, 200, 0⟩ })] } } },
    ?_⟩
  first | decide | ((repeat' apply And.intro) <;> first | decide | rfl)
theorem witness_RecallCommands_8 : ∃ (host region n : Nat) (x : Trace) (s : State), (s.rec_.traces = [x]) ∧ (x.host = host) ∧
  (x.extents ≠ []) ∧ (s.rec_.slots = [(host, region, n)]) ∧ (s.md.entering = true) := by
  refine ⟨7, 1, 0, ⟨7, 0, false, [⟨1, 0, 1, 0⟩]⟩,
    { up with md := { mode := .solo, entering := true }, rec_ := { traces := [⟨7, 0, false, [⟨1, 0, 1, 0⟩]⟩], slots := [(7, 1, 0)] } },
    ?_⟩
  first | decide | ((repeat' apply And.intro) <;> first | decide | rfl)
theorem witness_RecallCommands_9 : ∃ (s : State), (s.md.mode = .recall) ∧ (s.rec_.serving = false) ∧ (s.rec_.dirLoaded = true) ∧
  (s.rec_.dump = none) ∧ (s.rec_.kind ≠ 2) ∧ (s.rec_.writes = []) ∧ (s.dram.hpprRun = false) ∧ ((live s).snaps = []) ∧
  (s.rst.twinPresent = true) ∧ (s.md.causes = 0) ∧ (s.fix.dirty = []) ∧ (s.fix.passRunning = false) ∧ (s.cp.twin ≠ .resync) := by
  refine
    ⟨{ up with md := { mode := .recall }, rec_ := { phase := .preparing, dirLoaded := true, unrestored := [5] }, rst := { phase := .running, loadDone := true, twinPresent := true } },
    ?_⟩
  first | decide | ((repeat' apply And.intro) <;> first | decide | rfl)
theorem witness_RecallCommands_10 : ∃ (s : State), (s.md.mode = .recall) ∧ (s.rec_.formatted = false) ∧ (s.rec_.kind = 4) ∧
  (s.rst.loadDone = true) ∧ (s.rec_.writes = []) ∧ (s.rst.twinPresent = true) ∧ (s.md.causes = 0) ∧ (s.fix.dirty = []) ∧
  (s.fix.passRunning = false) ∧ (s.cp.twin ≠ .resync) := by
  refine
    ⟨{ up with md := { mode := .recall }, rec_ := { phase := .preparing, kind := 4 }, rst := { phase := .running, loadDone := true, twinPresent := true } },
    ?_⟩
  first | decide | ((repeat' apply And.intro) <;> first | decide | rfl)
theorem witness_StateCommands_1 : ∃ (b : StateBlock) (s : State), (TakesState 1 b s) ∧ (s.snap.cut = none) ∧ ((live s).snaps.length
  < 256) ∧ (mediaFull s = false) := by
  refine ⟨⟨0, true, 0, 0, 0, 0, 0, 0, 60⟩, { up with pres := { windowOpen := true } }, ?_⟩
  first | decide | ((repeat' apply And.intro) <;> first | decide | rfl)
theorem witness_StateCommands_2 : ∃ (b : StateBlock) (n : Snap) (s : State), (TakesState 2 b s) ∧ ((live s).snaps = [n]) ∧ (n.number
  = b.stateNo) ∧ (n.phase ≠ .cutting) := by
  refine ⟨⟨0, false, 0, 0, 3, 0, 0, 0, 0⟩, ⟨3, .fixed, true, 0, [], 0, 0, [], [], [], false, 0⟩,
    { up with pres := { windowOpen := true }, per := { live := { snaps := [⟨3, .fixed, true, 0, [], 0, 0, [], [], [], false, 0⟩] } } },
    ?_⟩
  first | decide | ((repeat' apply And.intro) <;> first | decide | rfl)
theorem witness_StateCommands_3 : ∃ (b : StateBlock) (n : Snap) (pages slot base rs : Nat) (r : Region) (s : State), (TakesState 3 b
  s) ∧ ((live s).snaps = [n]) ∧ (n.number = b.stateNo) ∧ (n.phase = .fixed) ∧ (n.scope.find? (fun p => p.1 = b.region) = some
  (b.region, pages)) ∧ (findRegion s b.newRegion = none) ∧ (findRegion s b.region = some (rs, r)) ∧ ((tenantOf s r.tenant).enable =
  true) ∧ (tenantRegions s r.tenant < (tenantOf s r.tenant).maxRegions) ∧ (tierFits s r.tenant b.tier pages = true) ∧ (findSlot s =
  some slot) ∧ (findBase s pages = some base) := by
  refine ⟨⟨0, false, 0, 0, 3, 1, 2, 1, 0⟩, ⟨3, .fixed, true, 0, [(1, 4)], 0, 0, [], [], [], false, 0⟩, 4, nthFree [0]
    (Config.placement 1 % 65535), 4 + Config.placement 0 % 4294967289, 0, ⟨1, .active, 1, 1, 4, 0⟩,
    { served with per := { live := { served.per.live with snaps := [⟨3, .fixed, true, 0, [(1, 4)], 0, 0, [], [], [], false, 0⟩] } }, pres := { windowOpen := true } },
    ?_⟩
  refine ⟨by decide, by decide, by decide, by decide, by decide, by decide, by decide, by decide, by decide, by decide, rfl, ?_⟩
  have h := Nat.mod_lt (Config.placement 0) (show 4294967289 > 0 by decide)
  show nthStart 4 [(0, 0), (4, 4294967292)] (Config.placement 0 % 4294967289) = _
  simp [nthStart, h]
theorem witness_StateCommands_4 : ∃ (b : StateBlock) (n : Snap) (s : State), (TakesState 4 b s) ∧ ((live s).snaps = [n]) ∧ (n.number
  = b.stateNo) ∧ (n.phase ≠ .cutting) := by
  refine ⟨⟨0, false, 0, 0, 3, 0, 0, 0, 60⟩, ⟨3, .fixed, true, 0, [], 0, 0, [], [], [], false, 0⟩,
    { up with pres := { windowOpen := true }, per := { live := { snaps := [⟨3, .fixed, true, 0, [], 0, 0, [], [], [], false, 0⟩] } } },
    ?_⟩
  first | decide | ((repeat' apply And.intro) <;> first | decide | rfl)
theorem witness_StateCommands_5 : ∃ (c : Cut) (s : State), (s.snap.cut = some c) ∧ (c.step = 2) ∧ (s.cp.twin ≠ .inSync) := by
  refine ⟨⟨1, 2, true, true, 0, 0, true, []⟩, { up with snap := { cut := some ⟨1, 2, true, true, 0, 0, true, []⟩ } }, ?_⟩
  first | decide | ((repeat' apply And.intro) <;> first | decide | rfl)
theorem witness_StateCommands_6 : ∃ (c : Cut) (ns : Nat) (s : State), (s.snap.cut = some c) ∧ (c.step = 3) ∧ (c.own = true) ∧
  (c.twinDone = true) ∧ (s.eng.claimed = []) := by
  refine ⟨⟨1, 3, true, true, 0, 0, true, []⟩, 5000, { up with snap := { cut := some ⟨1, 3, true, true, 0, 0, true, []⟩ } }, ?_⟩
  first | decide | ((repeat' apply And.intro) <;> first | decide | rfl)
theorem witness_StateCommands_7 : ∃ (c : Cap) (s : State), (s.snap.caps = [c]) ∧ ((programImage c.tpn c.data s).isSome = true) := by
  refine ⟨⟨3, 0, 1, 0, 1, true, true, []⟩,
    { up with snap := { caps := [⟨3, 0, 1, 0, 1, true, true, []⟩] }, nand := { dies := [(0, { openHead := some 13 })] }, per := { live := { groups := [(13, { st := .opened }), (327693, { st := .opened }), (655373, { st := .opened }), (983053, { st := .opened })] } } },
    ?_⟩
  decide +kernel
theorem witness_StateCommands_8 : ∃ (n : Snap) (tpn region page : Nat) (s : State), ((live s).snaps.find? (fun m => m.number =
  n.number) = some n) ∧ (n.phase = .settling) ∧ (nextPending s n = some (tpn, region, page)) ∧ (pageAbsent s tpn = false) := by
  refine ⟨⟨3, .settling, true, 0, [(1, 4)], 0, 0, [], [(1, 0)], [], false, 0⟩, 0, 1, 0,
    { served with per := { live := { regions := [(0, ⟨1, .active, 1, 1, 4, 0⟩)], snaps := [⟨3, .settling, true, 0, [(1, 4)], 0, 0, [], [(1, 0)], [], false, 0⟩] } } },
    ?_⟩
  first | decide | ((repeat' apply And.intro) <;> first | decide | rfl)
theorem witness_StateCommands_9 : ∃ (n : Snap) (s : State), ((live s).snaps = [n]) ∧ (n.expires ≠ 0) ∧ (rtcReached s.rtc n.expires =
  true) ∧ (n.phase ≠ .cutting) := by
  refine ⟨⟨3, .fixed, true, 0, [], 0, 5, [], [], [], false, 0⟩,
    { up with rtc := 6, per := { live := { snaps := [⟨3, .fixed, true, 0, [], 0, 5, [], [], [], false, 0⟩] } } }, ?_⟩
  first | decide | ((repeat' apply And.intro) <;> first | decide | rfl)
theorem witness_StateCommands_10 : ∃ (c : CloneRun) (tpn slot : Nat) (r : Region) (s : State), (s.snap.clone = some c) ∧ (c.asked =
  []) ∧ (c.todo = [tpn]) ∧ (findRegion s c.target = some (slot, r)) ∧ ((stateContent s c.number c.source (tpn - r.base)).isEmpty =
  true) := by
  refine ⟨⟨3, 1, 2, [4], []⟩, 4, 1, ⟨2, .active, 1, 1, 1, 4⟩,
    { served with per := { live := { regions := [(0, ⟨1, .active, 1, 1, 4, 0⟩), (1, ⟨2, .active, 1, 1, 1, 4⟩)] } }, snap := { clone := some ⟨3, 1, 2, [4], []⟩ } },
    ?_⟩
  first | decide | ((repeat' apply And.intro) <;> first | decide | rfl)
theorem witness_FrameCommands_1 : ∃ (h : FrameHead) (recs : List CpRec) (s : State), (authentic s h = true) ∧ (h.fsn = (halfOf s
  h.half.val).expect) ∧ (s.pres.armed = []) := by
  refine ⟨⟨0, true, 16777217, 7, 2, 0, false, 2, 0, 2, 0⟩, [.sync], mirroring .sync, ?_⟩
  first | decide | ((repeat' apply And.intro) <;> first | decide | rfl)
theorem witness_FrameCommands_2 : ∃ (h : FrameHead) (s : State), (authentic s h = true) ∧ (h.nak = false) := by
  refine ⟨⟨0, true, 16777217, 7, 0, 1, false, 2, 0, 2, 0⟩, mirroring .sync, ?_⟩
  first | decide | ((repeat' apply And.intro) <;> first | decide | rfl)
theorem witness_FrameCommands_3 : ∃ (h : FrameHead) (b : StatusBody) (s : State), (authentic s h = true) := by
  refine ⟨⟨0, true, 16777217, 7, 0, 1, false, 2, 0, 2, 0⟩, ⟨1, 1, 1, true, true, 0, true⟩, mirroring .sync, ?_⟩
  first | decide | ((repeat' apply And.intro) <;> first | decide | rfl)
theorem witness_FrameCommands_4 : ∃ (h : FrameHead) (b : StatusBody) (s : State), ((halfOf s h.half.val).st = .service) ∧ (s.cp.twin
  ≠ .barred) ∧ (s.md.mode ≠ .drain) ∧ (h.tagOk = true) ∧ (h.node ≠ s.rst.node) ∧ (h.epoch > s.cp.rxEpoch) ∧ (s.cp.sessionUp = true)
  := by
  refine ⟨⟨0, true, 16777218, 7, 0, 1, false, 2, 0, 2, 0⟩, ⟨1, 1, 1, true, true, 0, true⟩, mirroring .sync, ?_⟩
  first | decide | ((repeat' apply And.intro) <;> first | decide | rfl)
theorem witness_FrameCommands_5 : ∃ (h : FrameHead) (b : StatusBody) (s : State), ((halfOf s h.half.val).st = .service) ∧ (s.cp.twin
  = .linking) ∧ (s.md.mode ≠ .drain) ∧ (h.tagOk = true) ∧ (h.node ≠ s.rst.node) ∧ (h.epoch > s.cp.rxEpoch) ∧ (s.cp.sessionUp =
  false) ∧ ((live s).standing = .yielded) ∧ (b.standing ≠ 2) := by
  refine ⟨⟨0, true, 16777218, 7, 0, 1, false, 2, 0, 2, 0⟩, ⟨1, 1, 1, true, true, 0, true⟩,
    { mirroring .sync with cp := { (mirroring .sync).cp with twin := .linking, sessionUp := false }, per := { live := { standing := .yielded } } },
    ?_⟩
  first | decide | ((repeat' apply And.intro) <;> first | decide | rfl)
theorem witness_FrameCommands_6 : ∃ (half : Fin 2) (s : State), (halfLive s half.val = true) ∧ ((halfOf s half.val).open_ ≠ []) ∧
  ((halfOf s 0).sent.length + (halfOf s 1).sent.length < 16384) ∧ (s.pres.armed = []) := by
  refine ⟨0,
    { mirroring .sync with cp := { (mirroring .sync).cp with halves := [(0, { st := .service, open_ := [⟨.sync, none⟩] }), (1, { st := .service })] } },
    ?_⟩
  first | decide | ((repeat' apply And.intro) <;> first | decide | rfl)
theorem witness_FrameCommands_7 : ∃ (half : Fin 2) (s : State), (halfLive s half.val = true) := by
  refine ⟨0, mirroring .sync, ?_⟩
  first | decide | ((repeat' apply And.intro) <;> first | decide | rfl)
theorem witness_FrameCommands_8 : ∃ (half : Fin 2) (s : State), (halfLive s half.val = true) := by
  refine ⟨0, mirroring .sync, ?_⟩
  first | decide | ((repeat' apply And.intro) <;> first | decide | rfl)
theorem witness_FrameCommands_9 : ∃ (s : State), (s.cp.sessionUp = true) := by
  refine ⟨mirroring .sync, ?_⟩
  first | decide | ((repeat' apply And.intro) <;> first | decide | rfl)
theorem witness_FrameCommands_10 : ∃ (s : State), (s.cp.sessionUp = true) ∧ (s.cp.twin = .inSync) ∧ (s.rst.twinPresent = false) ∧
  (s.md.mode = .duplex) ∧ ((live s).standing ≠ .yielded) ∧ (s.cp.fetches = []) := by
  refine ⟨mirroring .sync, ?_⟩
  first | decide | ((repeat' apply And.intro) <;> first | decide | rfl)
theorem witness_LineRecords_1 : ∃ (half : Fin 2) (line off : Nat) (data : Bytes) (src : Option (Nat × Nat)) (s : State), (Lands half
  (.write line off data src) line false s) := by
  refine ⟨0, 0, 8, [1, 2], none,
    { mirroring (.write 0 8 [1, 2] none) with cs := { slices := [(0, { lines := [(0, ⟨0, false, false, .mirror, 0, false, []⟩)] })] }, per := { live := { dir := [(0, { home := .dram 0 })] } } },
    ?_⟩
  first | decide | ((repeat' apply And.intro) <;> first | decide | rfl)
theorem witness_LineRecords_2 : ∃ (half : Fin 2) (line : Nat) (s : State), (Lands half (.zero line) line false s) := by
  refine ⟨0, 0,
    { mirroring (.zero 0) with cs := { slices := [(0, { lines := [(0, ⟨0, false, false, .mirror, 0, false, [(3, 4)]⟩)] })] }, per := { live := { dir := [(0, { home := .dram 0 })] } } },
    ?_⟩
  first | decide | ((repeat' apply And.intro) <;> first | decide | rfl)
theorem witness_LineRecords_3 : ∃ (half : Fin 2) (line off new prior : Nat) (rc : Bool) (idHost idSeq : Nat) (s : State),
  (mirrorFull s = false) ∧ (Lands half (.atomic line off new prior rc idHost idSeq) line false s) := by
  refine ⟨0, 0, 8, 5, 4, false, 7, 9,
    { mirroring (.atomic 0 8 5 4 false 7 9) with cs := { slices := [(0, { lines := [(0, ⟨0, false, false, .mirror, 0, false, []⟩)] })] }, per := { live := { dir := [(0, { home := .dram 0 })] } } },
    ?_⟩
  first | decide | ((repeat' apply And.intro) <;> first | decide | rfl)
theorem witness_LineRecords_4 : ∃ (half : Fin 2) (line : Nat) (data : Bytes) (s : State), (Lands half (.copy line data) line true s)
  := by
  refine ⟨0, 0, [1, 2],
    { mirroring (.copy 0 [1, 2]) with cs := { slices := [(0, { lines := [(0, ⟨0, false, false, .mirror, 0, false, []⟩)] })] }, per := { live := { dir := [(0, { home := .dram 0 })] } } },
    ?_⟩
  first | decide | ((repeat' apply And.intro) <;> first | decide | rfl)
theorem witness_LineRecords_5 : ∃ (half : Fin 2) (line : Nat) (s : State), (Brings half (.fetch line false) s) ∧ ((dirOf s (lineTpn
  line)).poison = false) ∧ ((dirOf s (lineTpn line)).home ≠ .none) ∧ (pageAbsent s (lineTpn line) = false) := by
  refine ⟨0, 0, { mirroring (.fetch 0 false) with per := { live := { dir := [(0, { home := .dram 0 })] } } }, ?_⟩
  first | decide | ((repeat' apply And.intro) <;> first | decide | rfl)
theorem witness_LineRecords_6 : ∃ (half : Fin 2) (line : Nat) (page : Bool) (s : State), (Brings half (.fetch line page) s) := by
  refine ⟨0, 0, false, mirroring (.fetch 0 false), ?_⟩
  first | decide | ((repeat' apply And.intro) <;> first | decide | rfl)
theorem witness_LineRecords_7 : ∃ (half : Fin 2) (line frame : Nat) (data : Bytes) (f : Fetch) (s : State), (Brings half (.fetchData
  line data) s) ∧ (fetchOf s line = some f) ∧ (f.why = .mirror) ∧ ((dirOf s (lineTpn line)).home = .dram frame) ∧ ((dirOf s (lineTpn
  line)).zero = false) := by
  refine ⟨0, 0, 0, [1], ⟨0, .mirror⟩,
    { mirroring (.fetchData 0 [1]) with per := { live := { dir := [(0, { home := .dram 0 })] } }, cp := { (mirroring (.fetchData 0 [1])).cp with fetches := [⟨0, .mirror⟩] } },
    ?_⟩
  first | decide | ((repeat' apply And.intro) <;> first | decide | rfl)
theorem witness_LineRecords_8 : ∃ (half : Fin 2) (line : Nat) (f : Fetch) (s : State), (Brings half (.fetchFail line) s) ∧ (fetchOf
  s line = some f) ∧ (f.why = .sliceLine) ∧ (s.pres.injecting = false) := by
  refine ⟨0, 0, ⟨0, .sliceLine⟩,
    { mirroring (.fetchFail 0) with cp := { (mirroring (.fetchFail 0)).cp with fetches := [⟨0, .sliceLine⟩] } }, ?_⟩
  first | decide | ((repeat' apply And.intro) <;> first | decide | rfl)
theorem witness_ForwardAndTableRecords_1 : ∃ (half : Fin 2) (d : FwdDesc) (slot : Nat) (g : Region) (s : State), (Takes half
  (.forward d) s) ∧ (findRegion s d.region = some (slot, g)) ∧ (ownsRegion s g = true) ∧ (s.md.mode ≠ .keep) ∧ (s.md.entering =
  false) ∧ (nonIdem (kindOf d.opcode) = false) := by
  refine ⟨0, ⟨5, 1, 0, 7, 9, 0, 0, 128, 1, false, 0, []⟩, 0, ⟨1, .active, 1, 1, 4, 0⟩, mirroring (.forward ⟨5, 1, 0, 7, 9, 0, 0,
    128, 1, false, 0, []⟩), ?_⟩
  first | decide | ((repeat' apply And.intro) <;> first | decide | rfl)
theorem witness_ForwardAndTableRecords_2 : ∃ (half : Fin 2) (id dst : Nat) (v : RespVal) (o : Op) (s : State), (Takes half
  (.forwardDone id v) s) ∧ (s.host.ops = [o]) ∧ (o.fwds = [(id, dst)]) ∧ (v.status = 0) := by
  refine ⟨0, 5, 0, okVal,
    { id := 1, origin := .internal, kind := .read, host := 7, seq := 9, region := 1, key := 0, off := 0, len := 0, fwds := [(5, 0)] },
    { mirroring (.forwardDone 5 okVal) with host := { ops := [{ id := 1, origin := .internal, kind := .read, host := 7, seq := 9, region := 1, key := 0, off := 0, len := 0, fwds := [(5, 0)] }] } },
    ?_⟩
  first | decide | ((repeat' apply And.intro) <;> first | decide | rfl)
theorem witness_ForwardAndTableRecords_3 : ∃ (half : Fin 2) (i v : Nat) (s : State), (Takes half (.table (.tenant i v)) s) ∧
  (s.cp.twin = .inSync) := by
  refine ⟨0, 3, 5, mirroring (.table (.tenant 3 5)), ?_⟩
  first | decide | ((repeat' apply And.intro) <;> first | decide | rfl)
theorem witness_ForwardAndTableRecords_4 : ∃ (half : Fin 2) (i v : Nat) (w : PendingWrite) (s : State), (Takes half (.verdict true
  (.tenant i v)) s) ∧ (s.eng.writes = [w]) ∧ (w.elems = [.tenant i v]) ∧ (w.left = 1) := by
  refine ⟨0, 3, 5, ⟨0x2001, 3, [.tenant 3 5], 1⟩,
    { mirroring (.verdict true (.tenant 3 5)) with eng := { writes := [⟨0x2001, 3, [.tenant 3 5], 1⟩] } }, ?_⟩
  first | decide | ((repeat' apply And.intro) <;> first | decide | rfl)
theorem witness_ForwardAndTableRecords_5 : ∃ (half : Fin 2) (region : Nat) (keys : List Nat) (pages : Option Nat) (s : State),
  (Takes half (.fenceMark region keys pages) s) ∧ (s.eng.fence = none) := by
  refine ⟨0, 1, [1], none, mirroring (.fenceMark 1 [1] none), ?_⟩
  first | decide | ((repeat' apply And.intro) <;> first | decide | rfl)
theorem witness_ForwardAndTableRecords_6 : ∃ (half : Fin 2) (region : Nat) (c : RunCmd) (f : Fence) (s : State), (Takes half
  (.fenceConfirm region) s) ∧ (s.eng.run = some c) ∧ (c.phase = .fence) ∧ (s.eng.fence = some f) ∧ (f.drained = true) ∧ (f.newPages
  = none) ∧ (s.eng.claimed = []) := by
  refine ⟨0, 1, ⟨5, ⟨0, 0, 0, 1, 0, 0, 0⟩, .fence, [1], 0, false, false⟩, ⟨1, [1], none, false, true, true, false⟩,
    { mirroring (.fenceConfirm 1) with eng := { run := some ⟨5, ⟨0, 0, 0, 1, 0, 0, 0⟩, .fence, [1], 0, false, false⟩, fence := some ⟨1, [1], none, false, true, true, false⟩ } },
    ?_⟩
  first | decide | ((repeat' apply And.intro) <;> first | decide | rfl)
theorem witness_ForwardAndTableRecords_7 : ∃ (half : Fin 2) (region node slot : Nat) (g : Region) (s : State), (Takes half
  (.ownerHandover region node) s) ∧ (findRegion s region = some (slot, g)) ∧ (s.eng.run = none) := by
  refine ⟨0, 1, 1, 0, ⟨1, .active, 1, 1, 4, 0⟩, mirroring (.ownerHandover 1 1), ?_⟩
  first | decide | ((repeat' apply And.intro) <;> first | decide | rfl)
theorem witness_ForwardAndTableRecords_8 : ∃ (half : Fin 2) (region node slot : Nat) (g : Region) (s : State), (Takes half
  (.ownerConfirm region node) s) ∧ (findRegion s region = some (slot, g)) ∧ (s.eng.heldRegion = some region) ∧ (s.eng.run = none) ∧
  (s.host.ops = []) := by
  refine ⟨0, 1, 2, 0, ⟨1, .active, 1, 1, 4, 0⟩, { mirroring (.ownerConfirm 1 2) with eng := { heldRegion := some 1 } }, ?_⟩
  first | decide | ((repeat' apply And.intro) <;> first | decide | rfl)
theorem witness_ForwardAndTableRecords_9 : ∃ (half : Fin 2) (region node slot : Nat) (g : Region) (s : State), (Takes half
  (.ownerRequest region node) s) ∧ (findRegion s region = some (slot, g)) ∧ (ownsRegion s g = true) ∧ (s.eng.heldRegion = none) ∧
  (s.cp.twin = .inSync) := by
  refine ⟨0, 1, 2, 0, ⟨1, .active, 1, 1, 4, 0⟩, mirroring (.ownerRequest 1 2), ?_⟩
  first | decide | ((repeat' apply And.intro) <;> first | decide | rfl)
theorem witness_PlaceQpImageRecords_1 : ∃ (half : Fin 2) (k : Token) (region off len tier slot : Nat) (g : Region) (s : State),
  (Takes half (.placeStart k region off len tier) s) ∧ (findRegion s region = some (slot, g)) ∧ (placeCheck s g.tenant tier (span
  (tpnOf g off) 0 (len / 65536)) false = none) ∧ (s.tier.places = []) ∧ (s.md.mode = .drain) ∧ (0 < len / 65536) := by
  refine ⟨0, ⟨7, 9⟩, 1, 0, 65536, 0, 0, ⟨1, .active, 1, 1, 4, 0⟩,
    { mirroring (.placeStart ⟨7, 9⟩ 1 0 65536 0) with md := { mode := .drain }, per := { live := { served.per.live with dir := [(0, { home := .dram 40000 })] } } },
    ?_⟩
  first | decide | ((repeat' apply And.intro) <;> first | decide | rfl)
theorem witness_PlaceQpImageRecords_2 : ∃ (half : Fin 2) (k : Token) (status reason count : Nat) (p : PlaceRun) (s : State), (Takes
  half (.placeDone k true status reason count) s) ∧ (s.tier.places = [p]) ∧ (p.token = k) := by
  refine ⟨0, ⟨7, 9⟩, 0, 0, 1, ⟨⟨7, 9⟩, some 1, 0, 1, 0, 1, 0, 1, [], 0, [0], false, false, none⟩,
    { mirroring (.placeDone ⟨7, 9⟩ true 0 0 1) with tier := { places := [⟨⟨7, 9⟩, some 1, 0, 1, 0, 1, 0, 1, [], 0, [0], false, false, none⟩] } },
    ?_⟩
  first | decide | ((repeat' apply And.intro) <;> first | decide | rfl)
theorem witness_PlaceQpImageRecords_3 : ∃ (half : Fin 2) (k : Token) (v : RespVal) (s : State), (Takes half (.placeOutcome k v) s) ∧
  (mirrorFull s = false) ∧ (s.tier.places = []) ∧ (s.host.replay.any (fun e => e.token = k) = false) := by
  refine ⟨0, ⟨7, 9⟩, okVal, mirroring (.placeOutcome ⟨7, 9⟩ okVal), ?_⟩
  first | decide | ((repeat' apply And.intro) <;> first | decide | rfl)
theorem witness_PlaceQpImageRecords_4 : ∃ (half : Fin 2) (q : QpShadow) (s : State), (Takes half (.qpShadow q) s) := by
  refine ⟨0, ⟨131077, false, 5, 7, 1, 9, 5, 3, false, 1, 9, 0, none, 0⟩, mirroring (.qpShadow ⟨131077, false, 5, 7, 1, 9, 5, 3,
    false, 1, 9, 0, none, 0⟩), ?_⟩
  first | decide | ((repeat' apply And.intro) <;> first | decide | rfl)
theorem witness_PlaceQpImageRecords_5 : ∃ (half : Fin 2) (qpn : Nat) (s : State), (Takes half (.qpFree qpn) s) := by
  refine ⟨0, 131077, mirroring (.qpFree 131077), ?_⟩
  first | decide | ((repeat' apply And.intro) <;> first | decide | rfl)
theorem witness_PlaceQpImageRecords_6 : ∃ (half : Fin 2) (qpn idx x : Nat) (q : Qp) (s : State), (Takes half (.qpHeld qpn) s) ∧
  (s.rc.waitShadow = [(qpn, x)]) ∧ (s.rc.own = [(idx, q)]) ∧ (qpn = s.rst.node * 65536 + idx) ∧ (idx < 65536) ∧ (q.st = .connecting)
  := by
  refine ⟨0, 65541, 5, 0, { witQp with st := .connecting },
    { mirroring (.qpHeld 65541) with rc := { own := [(5, { witQp with st := .connecting })], waitShadow := [(65541, 0)] } }, ?_⟩
  first | decide | ((repeat' apply And.intro) <;> first | decide | rfl)
theorem witness_PlaceQpImageRecords_7 : ∃ (half : Fin 2) (k : Token) (v : RespVal) (s : State), (Takes half (.replay k v) s) ∧
  (mirrorFull s = false) ∧ (s.host.replay.any (fun e => e.token = k) = false) := by
  refine ⟨0, ⟨7, 9⟩, okVal, mirroring (.replay ⟨7, 9⟩ okVal), ?_⟩
  first | decide | ((repeat' apply And.intro) <;> first | decide | rfl)
theorem witness_PlaceQpImageRecords_8 : ∃ (half : Fin 2) (tpn f0 f1 : Nat) (s : State), (Takes half (.imageRequest tpn f0 f1) s) ∧
  (s.cp.waitImages = []) ∧ (appliedUpTo s 0 f0 = true) ∧ (appliedUpTo s 1 f1 = true) ∧ (s.fix.dirty = []) := by
  refine ⟨0, 0, 0, 0, mirroring (.imageRequest 0 0 0), ?_⟩
  first | decide | ((repeat' apply And.intro) <;> first | decide | rfl)
theorem witness_PlaceQpImageRecords_9 : ∃ (half : Fin 2) (tpn : Nat) (d : Dirty) (s : State), (Takes half (.imageDone tpn) s) ∧
  (s.fix.dirty = [d]) ∧ (d.tpn = tpn) ∧ (d.twinWait = true) ∧ (d.changed = false) ∧ (s.fix.passRunning = false) ∧ (s.cp.twin =
  .inSync) := by
  refine ⟨0, 0, ⟨0, true, false, false, true, false, []⟩,
    { mirroring (.imageDone 0) with fix := { dirty := [⟨0, true, false, false, true, false, []⟩] } }, ?_⟩
  first | decide | ((repeat' apply And.intro) <;> first | decide | rfl)
theorem witness_PlaceQpImageRecords_10 : ∃ (half : Fin 2) (key f0 f1 set lpn : Nat) (s : State), (Takes half (.discardUnit key f0
  f1) s) ∧ (appliedUpTo s 0 f0 = true) ∧ (appliedUpTo s 1 f1 = true) ∧ ((dirOf s (key / 4)).home = .nand set lpn) ∧ (setBit (tget 0
  s.cp.discarded (key / 4)) (key % 4) ≠ 15) := by
  refine ⟨0, 0, 0, 0, 0, 5,
    { mirroring (.discardUnit 0 0 0) with per := { live := { served.per.live with dir := [(0, { home := .nand 0 5 })] } } }, ?_⟩
  first | decide | ((repeat' apply And.intro) <;> first | decide | rfl)
theorem witness_StateClaimRecords_1 : ∃ (half : Fin 2) (n tenant retain : Nat) (all : Bool) (s : State), (Takes half (.stateBegin n
  all tenant retain) s) ∧ (s.snap.cut = none) := by
  refine ⟨0, 5, 0, 0, true, mirroring (.stateBegin 5 true 0 0), ?_⟩
  first | decide | ((repeat' apply And.intro) <;> first | decide | rfl)
theorem witness_StateClaimRecords_2 : ∃ (half : Fin 2) (c : Cut) (s : State), (Takes half (.stateConfirm c.number) s) ∧ (s.snap.cut
  = some c) ∧ (c.own = true) ∧ (c.step < 4) := by
  refine ⟨0, ⟨5, 2, true, true, 0, 0, false, []⟩,
    { mirroring (.stateConfirm 5) with snap := { cut := some ⟨5, 2, true, true, 0, 0, false, []⟩ } }, ?_⟩
  first | decide | ((repeat' apply And.intro) <;> first | decide | rfl)
theorem witness_StateClaimRecords_3 : ∃ (half : Fin 2) (c : Cut) (slice : Nat) (s : State), (Takes half (.statePoint c.number slice)
  s) ∧ (s.snap.cut = some c) ∧ (c.own = false) ∧ ((insertSet c.points slice).length < 14) := by
  refine ⟨0, ⟨5, 2, false, true, 0, 0, true, []⟩, 3,
    { mirroring (.statePoint 5 3) with snap := { cut := some ⟨5, 2, false, true, 0, 0, true, []⟩ } }, ?_⟩
  first | decide | ((repeat' apply And.intro) <;> first | decide | rfl)
theorem witness_StateClaimRecords_4 : ∃ (half : Fin 2) (e : Nat) (s : State), (Takes half (.claim e) s) ∧ (e ∉ s.eng.claimed) ∧ (e ∉
  s.eng.asked) := by
  refine ⟨0, 0x2210, mirroring (.claim 0x2210), ?_⟩
  first | decide | ((repeat' apply And.intro) <;> first | decide | rfl)
theorem witness_StateClaimRecords_5 : ∃ (half : Fin 2) (b : StateBlock) (n : Snap) (s : State), (Takes half (.claimGrant 0x3710) s)
  ∧ (s.eng.asked = [0x3710]) ∧ (s.eng.claimed = []) ∧ (s.snap.run = some (2, b)) ∧ ((live s).snaps = [n]) ∧ (n.number = b.stateNo) ∧
  (n.phase ≠ .cutting) := by
  refine ⟨0, ⟨0, false, 0, 0, 3, 0, 0, 0, 0⟩, ⟨3, .fixed, true, 0, [], 0, 0, [], [], [], false, 0⟩,
    { mirroring (.claimGrant 0x3710) with eng := { asked := [0x3710] }, snap := { run := some (2, ⟨0, false, 0, 0, 3, 0, 0, 0, 0⟩) }, per := { live := { snaps := [⟨3, .fixed, true, 0, [], 0, 0, [], [], [], false, 0⟩] } } },
    ?_⟩
  first | decide | ((repeat' apply And.intro) <;> first | decide | rfl)
theorem witness_StateClaimRecords_6 : ∃ (half : Fin 2) (s : State), (Takes half (.claimRefuse 0x3710) s) ∧ (0x3710 ∈ s.eng.asked) ∧
  (s.eng.claimed = []) := by
  refine ⟨0, { mirroring (.claimRefuse 0x3710) with eng := { asked := [0x3710] } }, ?_⟩
  first | decide | ((repeat' apply And.intro) <;> first | decide | rfl)
theorem witness_StateClaimRecords_7 : ∃ (half : Fin 2) (e : Nat) (s : State), (Takes half (.claimRelease e) s) ∧ (s.snap.cut = none)
  := by
  refine ⟨0, 0x2210, { mirroring (.claimRelease 0x2210) with eng := { twinClaims := [0x2210] } }, ?_⟩
  first | decide | ((repeat' apply And.intro) <;> first | decide | rfl)
theorem witness_ResyncCommands_1 : ∃ (half : Fin 2) (inc : Nat) (s : State), (Brings half (.resyncStart inc) s) ∧ (s.cp.twin =
  .resync) := by
  refine ⟨0, 9, { mirroring (.resyncStart 9) with cp := { (mirroring (.resyncStart 9)).cp with twin := .resync } }, ?_⟩
  first | decide | ((repeat' apply And.intro) <;> first | decide | rfl)
theorem witness_ResyncCommands_2 : ∃ (half : Fin 2) (blocks : List Nat) (s : State), (Brings half (.resyncMarks blocks) s) ∧
  (s.cp.twin = .resync) ∧ (s.cp.resync.phase = .started) ∧ (s.cp.resync.tables = false) := by
  refine ⟨0, [4],
    { mirroring (.resyncMarks [4]) with cp := { (mirroring (.resyncMarks [4])).cp with twin := .resync, resync := { phase := .started, source := true } } },
    ?_⟩
  first | decide | ((repeat' apply And.intro) <;> first | decide | rfl)
theorem witness_ResyncCommands_3 : ∃ (half : Fin 2) (s : State), (Brings half .tablesDone s) ∧ (s.cp.twin = .resync) ∧
  (s.cp.resync.phase = .marked) ∧ (s.cp.resync.target = false) := by
  refine ⟨0,
    { mirroring .tablesDone with cp := { (mirroring .tablesDone).cp with twin := .resync, resync := { phase := .marked, source := true } } },
    ?_⟩
  first | decide | ((repeat' apply And.intro) <;> first | decide | rfl)
theorem witness_ResyncCommands_4 : ∃ (half : Fin 2) (s : State), (Brings half .sync s) ∧ (s.cp.twin = .resync) ∧ (s.cp.resync.target
  = true) ∧ (s.cp.resync.source = false) ∧ ((halfOf s (1 - half.val)).syncSeen = true ∨ (halfOf s (1 - half.val)).st ≠ .service) ∧
  (s.md.mode = .solo) ∧ (s.md.entering = false) ∧ (s.md.causes = 0) := by
  refine ⟨0,
    { mirroring .sync with md := { mode := .solo }, cp := { (mirroring .sync).cp with twin := .resync, resync := { phase := .copying, target := true }, halves := [(0, { st := .service, rx := [⟨1, .sync⟩] })] } },
    ?_⟩
  first | decide | ((repeat' apply And.intro) <;> first | decide | rfl)
theorem witness_ResyncCommands_5 : ∃ (half : Fin 2) (s : State), (Brings half .syncAck s) ∧ (s.cp.twin = .resync) ∧
  (s.cp.resync.phase = .synced) ∧ (s.cp.resync.target = false) ∧ (s.md.mode = .solo) ∧ (s.md.entering = false) ∧ (s.md.causes = 0)
  := by
  refine ⟨0,
    { mirroring .syncAck with md := { mode := .solo }, cp := { (mirroring .syncAck).cp with twin := .resync, resync := { phase := .synced, source := true } } },
    ?_⟩
  first | decide | ((repeat' apply And.intro) <;> first | decide | rfl)
theorem witness_ResyncCommands_6 : ∃ (b : Nat) (rest : List Nat) (s : State), (s.cp.twin = .resync) ∧ (s.cp.resync.source = true) ∧
  (s.cp.resync.target = false) ∧ (s.cp.resync.phase = .copying) ∧ (linkUp s = true) ∧ (s.cp.resync.todo = b :: rest) ∧ (rest ≠ []) ∧
  (∀ x ∈ span (b * 16) 0 16, (dirOf s x).home ≠ .none → pageAbsent s x = false) ∧ (countedDirty s + 16 ≤ dirtyLimit s) := by
  refine ⟨0, [1],
    { mirroring .sync with cp := { (mirroring .sync).cp with twin := .resync, share := 100, resync := { phase := .copying, source := true, todo := [0, 1] } } },
    ?_⟩
  first | decide | ((repeat' apply And.intro) <;> first | decide | rfl)
theorem witness_HalfCommands_1 : ∃ (half : Fin 2) (cause : Nat) (s : State), (halfLive s half.val = true) ∧ (halfLive s (1 -
  half.val) = true) := by
  refine ⟨0, 1, mirroring .sync, ?_⟩
  first | decide | ((repeat' apply And.intro) <;> first | decide | rfl)
theorem witness_HalfCommands_2 : ∃ (half : Fin 2) (x : Nat) (s : State), (Brings half (.notice 4 x) s) ∧ ((halfOf s (1 -
  half.val)).st = .service) := by
  refine ⟨0, 1, mirroring (.notice 4 1), ?_⟩
  first | decide | ((repeat' apply And.intro) <;> first | decide | rfl)
theorem witness_HalfCommands_3 : ∃ (half : Fin 2) (fsn failed : Nat) (s : State), (Brings half (.notice 5 fsn) s) ∧ (s.cp.failover =
  some failed) ∧ (failed ≠ half.val) := by
  refine ⟨0, 1, 1, { mirroring (.notice 5 1) with cp := { (mirroring (.notice 5 1)).cp with failover := some 1 } }, ?_⟩
  first | decide | ((repeat' apply And.intro) <;> first | decide | rfl)
theorem witness_HalfCommands_4 : ∃ (half : Fin 2) (s : State), ((halfOf s half.val).st = .failed) ∧ (s.md.mode ≠ .drain) ∧
  (s.rst.loadDone = true) ∧ (bitOf s.rst.offReq (108 + half.val) = false) := by
  refine ⟨1, { mirroring .sync with cp := { (mirroring .sync).cp with halves := [(1, { st := .failed })] } }, ?_⟩
  first | decide | ((repeat' apply And.intro) <;> first | decide | rfl)
theorem witness_HalfCommands_5 : ∃ (half : Fin 2) (w : Bool) (s : State), ((halfOf s half.val).st = .training) := by
  refine ⟨1, true, { mirroring .sync with cp := { (mirroring .sync).cp with halves := [(1, { st := .training })] } }, ?_⟩
  first | decide | ((repeat' apply And.intro) <;> first | decide | rfl)
theorem witness_HalfCommands_6 : ∃ (half : Fin 2) (w : Bool) (s : State), ((halfOf s half.val).st = .training) ∧ (s.cp.sessionUp =
  true) := by
  refine ⟨1, true, { mirroring .sync with cp := { (mirroring .sync).cp with halves := [(1, { st := .training })] } }, ?_⟩
  first | decide | ((repeat' apply And.intro) <;> first | decide | rfl)
theorem witness_HalfCommands_7 : ∃ (half : Fin 2) (s : State), ((halfOf s half.val).st = .training) ∧ (s.cp.sessionUp = false) ∧
  (s.cp.hello = false) ∧ (s.keys.fenced = []) ∧ (s.cp.twin ≠ .barred) ∧ ((linkKey s).isSome = true) ∧ (s.cp.epochsOk = true) ∧
  (s.cp.epoch % 2 ^ 24 < 2 ^ 24 - 1) := by
  refine ⟨1,
    { mirroring .sync with keys := { slots := [(0, { st := .loaded, kind := 2 })] }, cp := { (mirroring .sync).cp with sessionUp := false, halves := [(1, { st := .training })] } },
    ?_⟩
  first | decide | ((repeat' apply And.intro) <;> first | decide | rfl)
theorem witness_HalfCommands_8 : ∃ (s : State), (s.cp.sessionUp = true) ∧ (s.cp.nextEpoch = none) ∧ (s.keys.fenced = []) ∧
  (s.cp.epochsOk = true) ∧ (s.cp.epoch % 2 ^ 24 < 2 ^ 24 - 1) := by
  refine ⟨mirroring .sync, ?_⟩
  first | decide | ((repeat' apply And.intro) <;> first | decide | rfl)
theorem witness_HalfCommands_9 : ∃ (s : State), (s.cp.sessionUp = true) ∧ (s.cp.nextEpoch = none) ∧ (InPair s) := by
  refine ⟨mirroring .sync, ?_⟩
  first | decide | ((repeat' apply And.intro) <;> first | decide | rfl)
theorem witness_LossCommands_1 : ∃ (half : Fin 2) (x : Nat) (s : State), (Brings half (.notice 1 x) s) ∧ (s.cp.notices = []) := by
  refine ⟨0, 0, mirroring (.notice 1 0), ?_⟩
  first | decide | ((repeat' apply And.intro) <;> first | decide | rfl)
theorem witness_LossCommands_2 : ∃ (half : Fin 2) (x : Nat) (s : State), (Brings half (.notice 1 x) s) ∧ (s.cp.notices = [1 -
  half.val]) ∧ (InPair s) := by
  refine ⟨0, 0, { mirroring (.notice 1 0) with cp := { (mirroring (.notice 1 0)).cp with notices := [1] } }, ?_⟩
  first | decide | ((repeat' apply And.intro) <;> first | decide | rfl)
theorem witness_LossCommands_3 : ∃ (half : Fin 2) (x : Nat) (s : State), (Brings half (.notice 2 x) s) ∧ (s.cp.notices = []) := by
  refine ⟨0, 0, mirroring (.notice 2 0), ?_⟩
  first | decide | ((repeat' apply And.intro) <;> first | decide | rfl)
theorem witness_LossCommands_4 : ∃ (half : Fin 2) (x : Nat) (s : State), (Brings half (.notice 2 x) s) ∧ (s.cp.notices = [1 -
  half.val]) ∧ (InPair s) := by
  refine ⟨0, 0, { mirroring (.notice 2 0) with cp := { (mirroring (.notice 2 0)).cp with notices := [1] } }, ?_⟩
  first | decide | ((repeat' apply And.intro) <;> first | decide | rfl)
theorem witness_LossCommands_5 : ∃ (s : State), (s.cp.notices ≠ []) ∧ (InPair s) := by
  refine ⟨{ mirroring .sync with cp := { (mirroring .sync).cp with notices := [1] } }, ?_⟩
  first | decide | ((repeat' apply And.intro) <;> first | decide | rfl)
theorem witness_LossCommands_6 : ∃ (s : State), (awaiting s = true) ∧ (InPair s) := by
  refine ⟨{ mirroring .sync with eng := { asked := [0x2210] } }, ?_⟩
  first | decide | ((repeat' apply And.intro) <;> first | decide | rfl)
theorem witness_LossCommands_7 : ∃ (half : Fin 2) (x : Nat) (s : State), (Brings half (.notice 3 x) s) ∧ ((live s).standing ≠
  .yielded) ∧ (s.md.mode = .duplex ∨ s.md.mode = .solo ∨ s.md.mode = .service) := by
  refine ⟨0, 0, mirroring (.notice 3 0), ?_⟩
  first | decide | ((repeat' apply And.intro) <;> first | decide | rfl)
theorem witness_LossCommands_8 : ∃ (half : Fin 2) (x : Nat) (s : State), (Brings half (.notice 6 x) s) ∧ (s.cp.declared = false ∨
  senior s = false) ∧ ((live s).standing ≠ .yielded) ∧ (s.md.mode = .duplex ∨ s.md.mode = .solo ∨ s.md.mode = .service) := by
  refine ⟨0, 0, mirroring (.notice 6 0), ?_⟩
  first | decide | ((repeat' apply And.intro) <;> first | decide | rfl)
theorem witness_LossCommands_9 : ∃ (s : State), (Serves s) ∧ (s.pres.windowOpen = true) ∧ (s.cp.ownsNone = true ∨ (live s).standing
  = .yielded) := by
  refine ⟨{ mirroring .sync with pres := { windowOpen := true }, cp := { (mirroring .sync).cp with ownsNone := true } }, ?_⟩
  first | decide | ((repeat' apply And.intro) <;> first | decide | rfl)
theorem witness_LossCommands_11 : ∃ (s : State), (s.md.mode ≠ .recall) := by
  refine ⟨mirroring .sync, ?_⟩
  first | decide | ((repeat' apply And.intro) <;> first | decide | rfl)
theorem witness_LossCommands_12 : ∃ (s : State), (s.cp.settled = false) ∧ (s.rst.twinPresent = true) := by
  refine ⟨{ up with rst := { up.rst with twinPresent := true }, cp := {} }, ?_⟩
  first | decide | ((repeat' apply And.intro) <;> first | decide | rfl)
theorem witness_LossCommands_13 : ∃ (s : State), (pairWorks s = true) := by
  refine ⟨mirroring .sync, ?_⟩
  first | decide | ((repeat' apply And.intro) <;> first | decide | rfl)

end Sys2Proof.Tests
end

section
namespace Sys2Proof.Machine

/-- R72's two bounds, on the model's own distance from `a` to `b`, which adds the modulus before it subtracts. -/
theorem precedes_iff (a b : Nat) :
    precedes a b = true ↔ 1 ≤ (b + Config.seqMod - a) % Config.seqMod ∧
      (b + Config.seqMod - a) % Config.seqMod ≤ 2 ^ 47 - 1 := by
  simp only [precedes, Bool.and_eq_true, decide_eq_true_eq]

/-- The distance the model takes in naturals is the integer difference modulo 2^48: the modulus added first keeps the
subtraction from stopping at zero, and drops out of the remainder. -/
theorem wrappedDistance_eq_int_emod {a : Nat} (b : Nat) (ha : a < 2 ^ 48) :
    (((b + Config.seqMod - a) % Config.seqMod : Nat) : Int) = ((b : Int) - a) % 2 ^ 48 := by
  have hle : a ≤ b + Config.seqMod := Nat.le_trans (Nat.le_of_lt ha) (Nat.le_add_left _ b)
  have hsum : ((b + Config.seqMod - a : Nat) : Int) = (b : Int) - a + Config.seqMod := by omega
  calc (((b + Config.seqMod - a) % Config.seqMod : Nat) : Int)
      = ((b : Int) - a + Config.seqMod) % Config.seqMod := by rw [Int.natCast_emod, hsum]
    _ = ((b : Int) - a) % 2 ^ 48 := Int.add_emod_right ..

/-- Settles O16: the model's distance is the integer difference modulo 2^48, so its bounds are those of R72. -/
theorem sequencesPrecedeSerially : Obligations.SequencesPrecedeSerially := by
  intro a b ha _
  rw [precedes_iff, ← wrappedDistance_eq_int_emod b ha]
  omega

end Sys2Proof.Machine
end

section
namespace Sys2Proof.Machine

/-! ## The loss of VDD_AON (R520)

The reset of R520 and that of a deassertion of PWRGD (R484) are one power-on reset under two labels: a phase and the causes of
it. No step that clears a unit reads the label, so it may be put on after the clearing as well as before. -/

/-- Labels the reset the Steoc is in: its phase, the causes pending and the causes latched. -/
def relabel (p : ResetPhase) (c cs : Nat) : State → State := updRst fun r => { r with phase := p, cause := c, causes := cs }

section
variable (p : ResetPhase) (c cs : Nat)

theorem updHost_relabel (f : HostSide → HostSide) (s : State) :
    updHost f (relabel p c cs s) = relabel p c cs (updHost f s) := rfl
theorem updRc_relabel (f : RcSide → RcSide) (s : State) :
    updRc f (relabel p c cs s) = relabel p c cs (updRc f s) := rfl

theorem postAs_relabel (injected fixed : Bool) (type sev inst : Nat) (detail : Bytes) (s : State) :
    postAs injected fixed type sev inst detail (relabel p c cs s) =
      relabel p c cs (postAs injected fixed type sev inst detail s) := by
  unfold postAs
  dsimp only
  rw [apply_ite (relabel p c cs)]
  rfl

theorem disarm_relabel (why : Nat) (a : Armed) (s : State) :
    disarm why a (relabel p c cs s) = relabel p c cs (disarm why a s) :=
  postAs_relabel p c cs _ _ _ _ _ _ (updPres (fun x => { x with armed := x.armed.filter (fun b => !samePoint a b) }) s)

theorem disarmAll_relabel (why : Nat) (s : State) :
    disarmAll why (relabel p c cs s) = relabel p c cs (disarmAll why s) :=
  List.foldl_hom (relabel p c cs) fun s a => disarm_relabel p c cs why a s

theorem abandonMoves_relabel (s : State) : abandonMoves (relabel p c cs s) = relabel p c cs (abandonMoves s) := by
  unfold abandonMoves each
  exact congrArg (updTier _) (List.foldl_hom (relabel p c cs) fun _ _ => rfl)

theorem resetSlices_relabel (power : Bool) (s : State) :
    resetSlices power (relabel p c cs s) = relabel p c cs (resetSlices power s) := rfl
theorem resetDram_relabel (s : State) :
    resetDram true (relabel p c cs s) = relabel p c cs (resetDram true s) := rfl
theorem resetNand_relabel (s : State) :
    resetNand true (relabel p c cs s) = relabel p c cs (resetNand true s) := rfl
theorem resetTwin_relabel (s : State) : resetTwin (relabel p c cs s) = relabel p c cs (resetTwin s) := rfl
theorem resetRecall_relabel (power : Bool) (s : State) :
    resetRecall power (relabel p c cs s) = relabel p c cs (resetRecall power s) := rfl
theorem resetPorts_relabel (s : State) : resetPorts (relabel p c cs s) = relabel p c cs (resetPorts s) := by
  unfold resetPorts
  generalize List.range 128 = ports
  rfl
theorem resetKeys_relabel (power : Bool) (s : State) :
    resetKeys power (relabel p c cs s) = relabel p c cs (resetKeys power s) := rfl
theorem resetFieth_relabel (power : Bool) (s : State) :
    resetFieth power (relabel p c cs s) = relabel p c cs (resetFieth power s) := rfl
theorem resetRecorder_relabel (s : State) :
    resetRecorder true (relabel p c cs s) = relabel p c cs (resetRecorder true s) := rfl
theorem resetDictionary_relabel (power : Bool) (s : State) :
    resetDictionary power (relabel p c cs s) = relabel p c cs (resetDictionary power s) := rfl
theorem resetEngines_relabel (s : State) :
    resetEngines (relabel p c cs s) = relabel p c cs (resetEngines s) := by
  have tables : ∀ x, { relabel p c cs s with per := x } = relabel p c cs { s with per := x } := fun _ => rfl
  have pass : ∀ a, stopPass (relabel p c cs a) = relabel p c cs (stopPass a) := fun _ => rfl
  simp only [resetEngines, tables, pass, abandonMoves_relabel]
  rfl

/-- No unit's clearing reads or writes the label. -/
theorem clearUnits_relabel (s : State) : clearUnits true (relabel p c cs s) = relabel p c cs (clearUnits true s) := by
  simp only [clearUnits, disarmAll_relabel, updHost_relabel, updRc_relabel, resetEngines_relabel, resetNand_relabel,
    resetSlices_relabel, resetDram_relabel, resetTwin_relabel, resetRecall_relabel, resetPorts_relabel, resetKeys_relabel,
    resetFieth_relabel, resetRecorder_relabel, resetDictionary_relabel]

end

/-- A power-on reset up to the clearing of the units, but for its label: the presence window, the domains and the pins. -/
def powerDown (s : State) : State :=
  assertReset (updRst (fun r => { r with short := false, powered := 0, offFault := 0, pgFaults := [] })
    (updPres (fun x => { x with windowOpen := false, closesAt := 0, halted := false, scan := none }) s))
/-- The end of a power-on reset: the tables in force are the durable ones. -/
def liveFromDurable (s : State) : State := { s with per := { s.per with live := s.per.durable } }

section
variable (p : ResetPhase) (c cs : Nat) (q : ResetPhase) (d ds : Nat) (s : State)

theorem powerReset_eq_thru_clearUnits :
    powerReset p c cs s = liveFromDurable (clearUnits true (relabel p c cs (powerDown s))) := rfl
/-- Two power-on resets of a state differ in their label alone. -/
theorem powerReset_eq_relabel : powerReset p c cs s = relabel p c cs (powerReset q d ds s) := by
  simp only [powerReset_eq_thru_clearUnits, clearUnits_relabel]
  rfl
theorem powerReset_phase : (powerReset p c cs s).rst.phase = p := by
  rw [powerReset_eq_relabel p c cs .off 0 0]
  rfl

end

theorem exec_vddAonLow_of_on {s : State} (on : s.rst.phase ≠ .off) :
    exec .vddAonLow s = .next { powerReset .powerOn 0 1 s with rtc := 0 } :=
  congrArg Host.Outcome.next (if_neg on)
theorem exec_pwrgdDeassert_of_on {s : State} (on : s.rst.phase ≠ .off) :
    exec .pwrgdDeassert s = .next (updRst (fun r => { r with pwrgd := false }) (powerReset .off 0 0 s)) :=
  congrArg Host.Outcome.next (if_neg on)

/-- Past the reset's own state and the counter, the two resets leave the same. -/
theorem outside_vddAonLow_eq_pwrgdDeassert {m : Parts} (s : State) (hrst : m.rst = true) (hphase : m.phase = true)
    (hrtc : m.rtc = true) :
    outside m { powerReset .powerOn 0 1 s with rtc := 0 } =
      outside m (updRst (fun r => { r with pwrgd := false }) (powerReset .off 0 0 s)) :=
  calc outside m { powerReset .powerOn 0 1 s with rtc := 0 }
      = outside m (powerReset .powerOn 0 1 s) := outside_rtc m 0 _ hrtc
    _ = outside m (relabel .powerOn 0 1 (powerReset .off 0 0 s)) := by rw [← powerReset_eq_relabel]
    _ = outside m (powerReset .off 0 0 s) := outside_updRst m _ _ hrst (.inr rfl) (.inr rfl) (.inl hphase)
    _ = _ := (outside_updRst m _ _ hrst (.inr rfl) (.inr rfl) (.inr rfl)).symm

/-- Settles O18: both commands are a power-on reset, whose label is all that differs; the plates lie outside its frame. -/
theorem lossOfVddAonIsAPowerOnReset : Obligations.LossOfVddAonIsAPowerOnReset := by
  intro s on
  have low := exec_vddAonLow_of_on on
  have plates := (sameBut_of_outside (outside_exec _ _ _ low)).plates rfl
  have same := sameBut_of_outside
    (outside_vddAonLow_eq_pwrgdDeassert (m := { rst := true, rtc := true, phase := true }) s rfl rfl rfl)
  exact ⟨_, low, powerReset_phase .powerOn 0 1 s, plates, _, exec_pwrgdDeassert_of_on on, same⟩

end Sys2Proof.Machine
end

section
namespace Sys2Proof.Machine

/-! ## What holds of every command -/

/-- Only a rail reading may stop; every other command answers a next state. -/
theorem exec_next_or_railMonitorEvent (c : Instr) (s : State) :
    (∃ t, exec c s = .next t) ∨ ∃ rail mv, c = .railMonitorEvent rail mv := by
  cases c with
  | railMonitorEvent rail mv => exact .inr ⟨rail, mv, rfl⟩
  | _ => exact .inl ⟨_, rfl⟩
theorem exec_railMonitorEvent (rail : Fin 10) (mv : Nat) (s : State) :
    exec (.railMonitorEvent rail mv) s =
      if (railMax[rail.val]?).getD 0 < mv then .fault .beyondAbsoluteMaximum else .next (railReading rail.val mv s) := rfl

/-- Settles O5: every command answers a next state but a rail reading, which stops exactly beyond its maximum. -/
theorem onlyAStressBeyondMaximumStops : Obligations.OnlyAStressBeyondMaximumStops := by
  intro c s
  rcases exec_next_or_railMonitorEvent c s with ⟨t, ht⟩ | ⟨rail, mv, rfl⟩
  · rw [ht]
    refine ⟨fun r h => (by cases h), fun ⟨f, h⟩ => (by cases h), ?_⟩
    rintro ⟨rail, mv, rfl, hmax⟩
    rw [exec_railMonitorEvent, if_pos hmax] at ht
    cases ht
  · rw [exec_railMonitorEvent]
    by_cases hmax : (railMax[rail.val]?).getD 0 < mv
    · rw [if_pos hmax]
      exact ⟨fun r h => (by cases h), fun _ => ⟨rail, mv, rfl, hmax⟩, fun _ => ⟨_, rfl⟩⟩
    · rw [if_neg hmax]
      refine ⟨fun r h => (by cases h), fun ⟨f, h⟩ => (by cases h), ?_⟩
      rintro ⟨_, _, h, hmax'⟩
      cases h
      exact absurd hmax' hmax

/-- Settles O3: the frame as the support proves it, read part by part. -/
theorem everyCommandKeepsItsFrame : Obligations.EveryCommandKeepsItsFrame :=
  fun c s t h => sameBut_of_outside (outside_exec c s t h)

/-- Settles O4. -/
theorem execLeavesTheQueue : Obligations.ExecLeavesTheQueue :=
  fun c s t h => (later_exec c s t h).pending

/-- Settles O6. -/
theorem sealNeverMends : Obligations.SealNeverMends :=
  fun c s t h => ⟨(later_exec c s t h).broken, (later_exec c s t h).fuse⟩

/-- Settles O7. -/
theorem fusedVersionNeverFalls : Obligations.FusedVersionNeverFalls :=
  fun c s t h => ⟨(later_exec c s t h).svn, (later_exec c s t h).svnMax⟩

/-- Settles O8. -/
theorem counterFusesOnlyBurn : Obligations.CounterFusesOnlyBurn :=
  fun c s t h =>
    have later := later_exec c s t h
    ⟨later.burned, later.burnedInc, later.burnedMax, later.burnedIncMax⟩

theorem touches_node {c : Instr} (h : ∀ n, c ≠ .powerOnResetEnd n) : (touches c).node = false := by
  cases c with
  | powerOnResetEnd n => exact absurd rfl (h n)
  | _ => rfl
theorem touches_rtc {c : Instr} (hlow : c ≠ .vddAonLow) (hrail : ∀ r v, c ≠ .railMonitorEvent r v) :
    (touches c).rtc = false := by
  cases c with
  | vddAonLow => exact absurd rfl hlow
  | railMonitorEvent r v => exact absurd rfl (hrail r v)
  | _ => rfl

/-- Settles O9: no frame but that of the end of a power-on reset names the node number. -/
theorem nodeIsTakenAtPowerOnOnly : Obligations.NodeIsTakenAtPowerOnOnly :=
  fun c s t h hc => (everyCommandKeepsItsFrame c s t h).node (touches_node hc)

/-- Settles O10: no frame but those of VDD_AON_LOW and of a rail reading names the counter. -/
theorem clockRunsOnlyWithTime : Obligations.ClockRunsOnlyWithTime :=
  fun c s t h hlow hrail => (everyCommandKeepsItsFrame c s t h).rtc (touches_rtc hlow hrail)

/-- The parts of administration, which no packet of a host's names. -/
def namesAdministration (m : Parts) : Bool :=
  m.tenants || m.hosts || m.regions || m.keyTable || m.snaps || m.keys || m.mode || m.window || m.sealBroken || m.config
theorem fromHosts_not_namesAdministration {c : Instr} (h : fromHosts c = true) : namesAdministration (touches c) = false := by
  cases c with
  | stippleRead | stippleWrite | stippleAdd | stippleCas | stippleFence | stipplePlace | stippleDiscard | readBatch
  | rdmaWrite | rdmaReadRequest | compareSwap | fetchAdd | sprayWrite | keepalive | release
  | cnpReceive | cmReq | cmRtu | cmDreq | cmDrep => rfl
  | _ => cases h

/-- Settles O11: the frames of the commands that hosts send name no part of administration. -/
theorem hostsChangeNoAdministration : Obligations.HostsChangeNoAdministration := by
  intro c s t hc h
  have frame := everyCommandKeepsItsFrame c s t h
  have hn := fromHosts_not_namesAdministration hc
  simp only [namesAdministration, Bool.or_eq_false_iff, and_assoc] at hn
  obtain ⟨tenants, hosts, regions, keyTable, snaps, keys, mode, window, sealBroken, config⟩ := hn
  exact ⟨frame.tenants tenants, frame.hosts hosts, frame.regions regions, frame.keyTable keyTable, frame.snaps snaps,
    frame.keys keys, frame.mode mode, frame.window window, frame.sealBroken sealBroken, frame.config config⟩

/-! ## What holds of every step -/

theorem step_of_pending_nil {s : State} (h : s.pending = []) : step s = .next (tick s) := by
  unfold step
  rw [h]
theorem step_of_pending_cons {c : Instr} {rest : List Instr} {s : State} (h : s.pending = c :: rest) :
    step s = exec c { s with pending := rest } := by
  unfold step
  rw [h]

/-- Settles O1. -/
theorem stepRunsFront : Obligations.StepRunsFront := fun _ _ => step_of_pending_cons rfl

theorem tick_rtc (s : State) : (tick s).rtc = (s.rtc + 1) % 2 ^ 32 := congrArg Steady.rtc (steady_tick s)
theorem tick_pending (s : State) : (tick s).pending = s.pending := congrArg Steady.pending (steady_tick s)

/-- Settles O2: the step is a tick, and the frame of a tick is known. -/
theorem idleStepCountsAMillisecond : Obligations.IdleStepCountsAMillisecond :=
  fun s h => ⟨tick s, step_of_pending_nil h, tick_rtc s, (tick_pending s).trans h,
    sameBut_of_outside (outside_tick rfl rfl rfl rfl rfl)⟩

/-- Settles O12. -/
theorem resetMeetsTheInvariant : Obligations.ResetMeetsTheInvariant where
  rtc := by decide
  node := by decide
  svn := by decide
  sealed := by decide
  epochs := by decide
  incarnations := by decide

/-- What a command may do at most to the steady part keeps the invariant. -/
theorem inv_of_later {s t : State} (h : Inv s) (later : Later (steady s) (steady t)) : Inv t where
  rtc := by
    rcases later.rtc with e | e
    · exact Nat.lt_of_le_of_lt (Nat.le_of_eq e) h.rtc
    · exact Nat.lt_of_le_of_lt (Nat.le_of_eq e) (by decide)
  node := by
    rcases later.node with e | lt
    · exact Nat.lt_of_le_of_lt (Nat.le_of_eq e) h.node
    · exact lt
  svn := later.svnMax h.svn
  sealed := later.fuseBroken h.sealed
  epochs := later.burnedMax h.epochs
  incarnations := later.burnedIncMax h.incarnations
/-- A millisecond changes the steady part in the counter alone, which wraps within a U32. -/
theorem inv_tick {s : State} (h : Inv s) : Inv (tick s) :=
  have e := steady_tick s
  { rtc := Nat.lt_of_le_of_lt (Nat.le_of_eq (tick_rtc s)) (Nat.mod_lt _ (by decide))
    node := Nat.lt_of_le_of_lt (Nat.le_of_eq (congrArg Steady.node e)) h.node
    svn := Nat.le_trans (Nat.le_of_eq (congrArg Steady.svn e)) h.svn
    sealed := fun hf => (congrArg Steady.broken e).trans (h.sealed ((congrArg Steady.fuse e).symm.trans hf))
    epochs := Nat.le_trans (Nat.le_of_eq (congrArg Steady.burned e)) h.epochs
    incarnations := Nat.le_trans (Nat.le_of_eq (congrArg Steady.burnedInc e)) h.incarnations }

/-- Settles O13: an idle step is a tick, any other step a command with the queue's rest, and the invariant does not speak of
the queue. -/
theorem everyStepKeepsTheInvariant : Obligations.EveryStepKeepsTheInvariant := by
  intro s t hs ht
  cases hp : s.pending with
  | nil =>
    rw [step_of_pending_nil hp] at ht
    cases ht
    exact inv_tick hs
  | cons c rest =>
    rw [step_of_pending_cons hp] at ht
    have hs' : Inv { s with pending := rest } := ⟨hs.rtc, hs.node, hs.svn, hs.sealed, hs.epochs, hs.incarnations⟩
    exact inv_of_later hs' (later_exec c _ t ht)

end Sys2Proof.Machine
end

section
namespace Sys2Proof.Machine

/-! ## What an operation leaves unchanged, part by part

The frames of the operations (Laws/Keep*.lean), read at one part of the state each, as rules for `simp`. -/

@[simp] theorem logRecs_dir (n : Nat) (s : State) : (logRecs n s).per.live.dir = s.per.live.dir :=
  (sameBut_of_outside (outside_logRecs (mm := { per := true }) rfl)).dir rfl
@[simp] theorem fiethSend_fieth (ch : Nat) (b : Bytes) (s : State) : (fiethSend ch b s).fieth = s.fieth :=
  (sameBut_of_outside (outside_fiethSend (mm := { outbox := true }) rfl)).fieth rfl
@[simp] theorem fiethSend_dict (ch : Nat) (b : Bytes) (s : State) : (fiethSend ch b s).dict = s.dict :=
  (sameBut_of_outside (outside_fiethSend (mm := { outbox := true }) rfl)).dict rfl
@[simp] theorem sendOutcome_fieth (ch : Nat) (h : FHead) (o : FOutcome) (s : State) : (sendOutcome ch h o s).fieth = s.fieth :=
  (sameBut_of_outside (outside_sendOutcome (mm := { dict := true, outbox := true }) rfl rfl)).fieth rfl
@[simp] theorem dictDone_per (idx sub : Nat) (s : State) : (dictDone idx sub s).per = s.per :=
  (sameBut_of_outside (outside_dictDone (mm := { fieth := true, dict := true, outbox := true }) rfl rfl rfl)).per rfl
@[simp] theorem dictDone_eng (idx sub : Nat) (s : State) : (dictDone idx sub s).eng = s.eng :=
  (sameBut_of_outside (outside_dictDone (mm := { fieth := true, dict := true, outbox := true }) rfl rfl rfl)).eng rfl
@[simp] theorem dictDone_tier (idx sub : Nat) (s : State) : (dictDone idx sub s).tier = s.tier :=
  (sameBut_of_outside (outside_dictDone (mm := { fieth := true, dict := true, outbox := true }) rfl rfl rfl)).tier rfl
@[simp] theorem dictDone_cs (idx sub : Nat) (s : State) : (dictDone idx sub s).cs = s.cs :=
  (sameBut_of_outside (outside_dictDone (mm := { fieth := true, dict := true, outbox := true }) rfl rfl rfl)).cs rfl
@[simp] theorem dictDone_dram (idx sub : Nat) (s : State) : (dictDone idx sub s).dram = s.dram :=
  (sameBut_of_outside (outside_dictDone (mm := { fieth := true, dict := true, outbox := true }) rfl rfl rfl)).dram rfl
@[simp] theorem dictDone_nand (idx sub : Nat) (s : State) : (dictDone idx sub s).nand = s.nand :=
  (sameBut_of_outside (outside_dictDone (mm := { fieth := true, dict := true, outbox := true }) rfl rfl rfl)).nand rfl
@[simp] theorem dictDone_fix (idx sub : Nat) (s : State) : (dictDone idx sub s).fix = s.fix :=
  (sameBut_of_outside (outside_dictDone (mm := { fieth := true, dict := true, outbox := true }) rfl rfl rfl)).fix rfl
@[simp] theorem dictDone_cp (idx sub : Nat) (s : State) : (dictDone idx sub s).cp = s.cp :=
  (sameBut_of_outside (outside_dictDone (mm := { fieth := true, dict := true, outbox := true }) rfl rfl rfl)).cp rfl
@[simp] theorem dictDone_rec_ (idx sub : Nat) (s : State) : (dictDone idx sub s).rec_ = s.rec_ :=
  (sameBut_of_outside (outside_dictDone (mm := { fieth := true, dict := true, outbox := true }) rfl rfl rfl)).rec_ rfl
@[simp] theorem dictDone_snap (idx sub : Nat) (s : State) : (dictDone idx sub s).snap = s.snap :=
  (sameBut_of_outside (outside_dictDone (mm := { fieth := true, dict := true, outbox := true }) rfl rfl rfl)).snap rfl
@[simp] theorem dictDone_md (idx sub : Nat) (s : State) : (dictDone idx sub s).md = s.md :=
  (sameBut_of_outside (outside_dictDone (mm := { fieth := true, dict := true, outbox := true }) rfl rfl rfl)).md rfl
@[simp] theorem dictDone_keys (idx sub : Nat) (s : State) : (dictDone idx sub s).keys = s.keys :=
  (sameBut_of_outside (outside_dictDone (mm := { fieth := true, dict := true, outbox := true }) rfl rfl rfl)).keys rfl
@[simp] theorem dictDone_pres (idx sub : Nat) (s : State) : (dictDone idx sub s).pres = s.pres :=
  (sameBut_of_outside (outside_dictDone (mm := { fieth := true, dict := true, outbox := true }) rfl rfl rfl)).pres rfl
@[simp] theorem dictDone_rst (idx sub : Nat) (s : State) : (dictDone idx sub s).rst = s.rst :=
  (sameBut_of_outside (outside_dictDone (mm := { fieth := true, dict := true, outbox := true }) rfl rfl rfl)).rst rfl
@[simp] theorem dictDone_rtc (idx sub : Nat) (s : State) : (dictDone idx sub s).rtc = s.rtc :=
  (sameBut_of_outside (outside_dictDone (mm := { fieth := true, dict := true, outbox := true }) rfl rfl rfl)).rtc rfl
@[simp] theorem dictRefuse_per (idx sub code : Nat) (s : State) : (dictRefuse idx sub code s).per = s.per :=
  (sameBut_of_outside (outside_dictRefuse (mm := { fieth := true, dict := true, outbox := true }) rfl rfl rfl)).per rfl
@[simp] theorem dictRefuse_cp (idx sub code : Nat) (s : State) : (dictRefuse idx sub code s).cp = s.cp :=
  (sameBut_of_outside (outside_dictRefuse (mm := { fieth := true, dict := true, outbox := true }) rfl rfl rfl)).cp rfl
@[simp] theorem dictRefuse_md (idx sub code : Nat) (s : State) : (dictRefuse idx sub code s).md = s.md :=
  (sameBut_of_outside (outside_dictRefuse (mm := { fieth := true, dict := true, outbox := true }) rfl rfl rfl)).md rfl
@[simp] theorem faultHandled_per (s : State) : (faultHandled s).per = s.per :=
  (sameBut_of_outside (outside_faultHandled (mm := { dict := true, freeCtr := true }) rfl rfl)).per rfl
@[simp] theorem faultHandled_cs (s : State) : (faultHandled s).cs = s.cs :=
  (sameBut_of_outside (outside_faultHandled (mm := { dict := true, freeCtr := true }) rfl rfl)).cs rfl
@[simp] theorem faultHandled_dram (s : State) : (faultHandled s).dram = s.dram :=
  (sameBut_of_outside (outside_faultHandled (mm := { dict := true, freeCtr := true }) rfl rfl)).dram rfl
@[simp] theorem faultHandled_cp (s : State) : (faultHandled s).cp = s.cp :=
  (sameBut_of_outside (outside_faultHandled (mm := { dict := true, freeCtr := true }) rfl rfl)).cp rfl
@[simp] theorem faultHandled_rec_ (s : State) : (faultHandled s).rec_ = s.rec_ :=
  (sameBut_of_outside (outside_faultHandled (mm := { dict := true, freeCtr := true }) rfl rfl)).rec_ rfl
@[simp] theorem faultHandled_md (s : State) : (faultHandled s).md = s.md :=
  (sameBut_of_outside (outside_faultHandled (mm := { dict := true, freeCtr := true }) rfl rfl)).md rfl
@[simp] theorem faultHandled_keys (s : State) : (faultHandled s).keys = s.keys :=
  (sameBut_of_outside (outside_faultHandled (mm := { dict := true, freeCtr := true }) rfl rfl)).keys rfl
@[simp] theorem faultHandled_ports (s : State) : (faultHandled s).ports = s.ports :=
  (sameBut_of_outside (outside_faultHandled (mm := { dict := true, freeCtr := true }) rfl rfl)).ports rfl
@[simp] theorem faultHandled_rst (s : State) : (faultHandled s).rst = s.rst :=
  (sameBut_of_outside (outside_faultHandled (mm := { dict := true, freeCtr := true }) rfl rfl)).rst rfl
@[simp] theorem post_per (type sev inst : Nat) (detail : Bytes) (s : State) : (post type sev inst detail s).per = s.per :=
  (sameBut_of_outside (outside_post (mm := { rmq := true }) rfl)).per rfl
@[simp] theorem post_cs (type sev inst : Nat) (detail : Bytes) (s : State) : (post type sev inst detail s).cs = s.cs :=
  (sameBut_of_outside (outside_post (mm := { rmq := true }) rfl)).cs rfl
@[simp] theorem post_dram (type sev inst : Nat) (detail : Bytes) (s : State) : (post type sev inst detail s).dram = s.dram :=
  (sameBut_of_outside (outside_post (mm := { rmq := true }) rfl)).dram rfl
@[simp] theorem post_nand (type sev inst : Nat) (detail : Bytes) (s : State) : (post type sev inst detail s).nand = s.nand :=
  (sameBut_of_outside (outside_post (mm := { rmq := true }) rfl)).nand rfl
@[simp] theorem post_fix (type sev inst : Nat) (detail : Bytes) (s : State) : (post type sev inst detail s).fix = s.fix :=
  (sameBut_of_outside (outside_post (mm := { rmq := true }) rfl)).fix rfl
@[simp] theorem post_cp (type sev inst : Nat) (detail : Bytes) (s : State) : (post type sev inst detail s).cp = s.cp :=
  (sameBut_of_outside (outside_post (mm := { rmq := true }) rfl)).cp rfl
@[simp] theorem post_rec_ (type sev inst : Nat) (detail : Bytes) (s : State) : (post type sev inst detail s).rec_ = s.rec_ :=
  (sameBut_of_outside (outside_post (mm := { rmq := true }) rfl)).rec_ rfl
@[simp] theorem post_md (type sev inst : Nat) (detail : Bytes) (s : State) : (post type sev inst detail s).md = s.md :=
  (sameBut_of_outside (outside_post (mm := { rmq := true }) rfl)).md rfl
@[simp] theorem post_keys (type sev inst : Nat) (detail : Bytes) (s : State) : (post type sev inst detail s).keys = s.keys :=
  (sameBut_of_outside (outside_post (mm := { rmq := true }) rfl)).keys rfl
@[simp] theorem post_pres (type sev inst : Nat) (detail : Bytes) (s : State) : (post type sev inst detail s).pres = s.pres :=
  (sameBut_of_outside (outside_post (mm := { rmq := true }) rfl)).pres rfl
@[simp] theorem post_rst (type sev inst : Nat) (detail : Bytes) (s : State) : (post type sev inst detail s).rst = s.rst :=
  (sameBut_of_outside (outside_post (mm := { rmq := true }) rfl)).rst rfl
@[simp] theorem post_dict (type sev inst : Nat) (detail : Bytes) (s : State) : (post type sev inst detail s).dict = s.dict :=
  (sameBut_of_outside (outside_post (mm := { rmq := true }) rfl)).dict rfl
@[simp] theorem postFixed_cp (slot type sev inst : Nat) (detail : Bytes) (s : State) : (postFixed slot type sev inst detail s).cp = s.cp :=
  (sameBut_of_outside (outside_postFixed (mm := { rmq := true, freeCtr := true }) rfl rfl)).cp rfl
@[simp] theorem postFixed_pres (slot type sev inst : Nat) (detail : Bytes) (s : State) : (postFixed slot type sev inst detail s).pres = s.pres :=
  (sameBut_of_outside (outside_postFixed (mm := { rmq := true, freeCtr := true }) rfl rfl)).pres rfl
@[simp] theorem postFixed_dict (slot type sev inst : Nat) (detail : Bytes) (s : State) : (postFixed slot type sev inst detail s).dict = s.dict :=
  (sameBut_of_outside (outside_postFixed (mm := { rmq := true, freeCtr := true }) rfl rfl)).dict rfl
@[simp] theorem injectionRecord_pres (a : Armed) (what cause : Nat) (s : State) : (injectionRecord a what cause s).pres = s.pres :=
  (sameBut_of_outside (outside_injectionRecord (mm := { rmq := true }) rfl)).pres rfl
@[simp] theorem injectionRecord_dict (a : Armed) (what cause : Nat) (s : State) : (injectionRecord a what cause s).dict = s.dict :=
  (sameBut_of_outside (outside_injectionRecord (mm := { rmq := true }) rfl)).dict rfl
@[simp] theorem disarm_dict (cause : Nat) (a : Armed) (s : State) : (disarm cause a s).dict = s.dict :=
  (sameBut_of_outside (outside_disarm (mm := { pres := true, rmq := true }) rfl rfl)).dict rfl
@[simp] theorem disarmAll_per (cause : Nat) (s : State) : (disarmAll cause s).per = s.per :=
  (sameBut_of_outside (outside_disarmAll (mm := { pres := true, rmq := true }) rfl rfl)).per rfl
@[simp] theorem disarmAll_md (cause : Nat) (s : State) : (disarmAll cause s).md = s.md :=
  (sameBut_of_outside (outside_disarmAll (mm := { pres := true, rmq := true }) rfl rfl)).md rfl
@[simp] theorem disarmAt_cs (l : List (Nat × Nat)) (s : State) : (disarmAt l s).cs = s.cs :=
  (sameBut_of_outside (outside_disarmAt (mm := { pres := true, rmq := true }) rfl rfl)).cs rfl
@[simp] theorem disarmAt_dram (l : List (Nat × Nat)) (s : State) : (disarmAt l s).dram = s.dram :=
  (sameBut_of_outside (outside_disarmAt (mm := { pres := true, rmq := true }) rfl rfl)).dram rfl
@[simp] theorem disarmAt_cp (l : List (Nat × Nat)) (s : State) : (disarmAt l s).cp = s.cp :=
  (sameBut_of_outside (outside_disarmAt (mm := { pres := true, rmq := true }) rfl rfl)).cp rfl
@[simp] theorem disarmAt_rec_ (l : List (Nat × Nat)) (s : State) : (disarmAt l s).rec_ = s.rec_ :=
  (sameBut_of_outside (outside_disarmAt (mm := { pres := true, rmq := true }) rfl rfl)).rec_ rfl
@[simp] theorem disarmAt_keys (l : List (Nat × Nat)) (s : State) : (disarmAt l s).keys = s.keys :=
  (sameBut_of_outside (outside_disarmAt (mm := { pres := true, rmq := true }) rfl rfl)).keys rfl
@[simp] theorem disarmAt_ports (l : List (Nat × Nat)) (s : State) : (disarmAt l s).ports = s.ports :=
  (sameBut_of_outside (outside_disarmAt (mm := { pres := true, rmq := true }) rfl rfl)).ports rfl
@[simp] theorem disarmAt_rst (l : List (Nat × Nat)) (s : State) : (disarmAt l s).rst = s.rst :=
  (sameBut_of_outside (outside_disarmAt (mm := { pres := true, rmq := true }) rfl rfl)).rst rfl
@[simp] theorem setDir_cs (tpn : Nat) (f : DirEntry → DirEntry) (s : State) : (setDir tpn f s).cs = s.cs :=
  (sameBut_of_outside (outside_setDir (mm := { per := true, dir := true }) rfl rfl)).cs rfl
@[simp] theorem dropOp_tier (id : Nat) (s : State) : (dropOp id s).tier = s.tier :=
  (sameBut_of_outside (outside_dropOp (mm := { host := true }) rfl)).tier rfl
@[simp] theorem setSlice_host (n : Nat) (f : Slice → Slice) (s : State) : (setSlice n f s).host = s.host :=
  (sameBut_of_outside (outside_setSlice (mm := { cs := true }) rfl)).host rfl
@[simp] theorem setChan_rst (n : Nat) (f : Channel → Channel) (s : State) : (setChan n f s).rst = s.rst :=
  (sameBut_of_outside (outside_setChan (mm := { dram := true }) rfl)).rst rfl
@[simp] theorem setNchan_rst (n : Nat) (f : NandChan → NandChan) (s : State) : (setNchan n f s).rst = s.rst :=
  (sameBut_of_outside (outside_setNchan (mm := { nand := true }) rfl)).rst rfl
@[simp] theorem setDie_md (n : Nat) (f : Die → Die) (s : State) : (setDie n f s).md = s.md :=
  (sameBut_of_outside (outside_setDie (mm := { nand := true }) rfl)).md rfl
@[simp] theorem setHalf_rst (n : Nat) (f : Half → Half) (s : State) : (setHalf n f s).rst = s.rst :=
  (sameBut_of_outside (outside_setHalf (mm := { cp := true }) rfl)).rst rfl
@[simp] theorem setHalf_dict (n : Nat) (f : Half → Half) (s : State) : (setHalf n f s).dict = s.dict :=
  (sameBut_of_outside (outside_setHalf (mm := { cp := true }) rfl)).dict rfl
@[simp] theorem setPort_rst (n : Nat) (f : Port → Port) (s : State) : (setPort n f s).rst = s.rst :=
  (sameBut_of_outside (outside_setPort (mm := { ports := true }) rfl)).rst rfl
@[simp] theorem setPort_dict (n : Nat) (f : Port → Port) (s : State) : (setPort n f s).dict = s.dict :=
  (sameBut_of_outside (outside_setPort (mm := { ports := true }) rfl)).dict rfl
@[simp] theorem mergeLine_cs (tpn set lunit li : Nat) (data : Mem) (s : State) : (mergeLine tpn set lunit li data s).cs = s.cs :=
  (sameBut_of_outside (outside_mergeLine (mm := { nand := true }) rfl)).cs rfl
@[simp] theorem homeWrite_cs (line : Nat) (data : Mem) (s : State) : (homeWrite line data s).cs = s.cs :=
  (sameBut_of_outside (outside_homeWrite (mm := { per := true, dram := true, nand := true, dir := true, mem := true }) rfl rfl rfl rfl rfl)).cs rfl
@[simp] theorem homeWrite_cp (line : Nat) (data : Mem) (s : State) : (homeWrite line data s).cp = s.cp :=
  (sameBut_of_outside (outside_homeWrite (mm := { per := true, dram := true, nand := true, dir := true, mem := true }) rfl rfl rfl rfl rfl)).cp rfl
@[simp] theorem markDirty_per (tpn : Nat) (s : State) : (markDirty tpn s).per = s.per :=
  (sameBut_of_outside (outside_markDirty (mm := { fix := true, cp := true, dict := true }) rfl rfl rfl)).per rfl
@[simp] theorem markDirty_tier (tpn : Nat) (s : State) : (markDirty tpn s).tier = s.tier :=
  (sameBut_of_outside (outside_markDirty (mm := { fix := true, cp := true, dict := true }) rfl rfl rfl)).tier rfl
@[simp] theorem markBlock_cp (block : Nat) (s : State) : (markBlock block s).cp = s.cp :=
  (sameBut_of_outside (outside_markBlock (mm := { per := true }) rfl)).cp rfl
@[simp] theorem sendOn_md (half : Nat) (r : CpRec) (op : Option Nat) (s : State) : (sendOn half r op s).md = s.md :=
  (sameBut_of_outside (outside_sendOn (mm := { cp := true, dict := true }) rfl rfl)).md rfl
@[simp] theorem sendCtl_host (r : CpRec) (op : Option Nat) (s : State) : (sendCtl r op s).host = s.host :=
  (sameBut_of_outside (outside_sendCtl (mm := { cp := true, dict := true }) rfl rfl)).host rfl
@[simp] theorem sendCtl_rc (r : CpRec) (op : Option Nat) (s : State) : (sendCtl r op s).rc = s.rc :=
  (sameBut_of_outside (outside_sendCtl (mm := { cp := true, dict := true }) rfl rfl)).rc rfl
@[simp] theorem sendCtl_per (r : CpRec) (op : Option Nat) (s : State) : (sendCtl r op s).per = s.per :=
  (sameBut_of_outside (outside_sendCtl (mm := { cp := true, dict := true }) rfl rfl)).per rfl
@[simp] theorem sendCtl_eng (r : CpRec) (op : Option Nat) (s : State) : (sendCtl r op s).eng = s.eng :=
  (sameBut_of_outside (outside_sendCtl (mm := { cp := true, dict := true }) rfl rfl)).eng rfl
@[simp] theorem sendCtl_rst (r : CpRec) (op : Option Nat) (s : State) : (sendCtl r op s).rst = s.rst :=
  (sameBut_of_outside (outside_sendCtl (mm := { cp := true, dict := true }) rfl rfl)).rst rfl
theorem sendCtl_config (r : CpRec) (op : Option Nat) (s : State) {k : Nat} (hk : isConfig k = true) : dget (sendCtl r op s) k = dget s k :=
  (sameBut_of_outside (outside_sendCtl (mm := { cp := true, dict := true }) rfl rfl)).config rfl k hk
@[simp] theorem chargeEntry_snaps (e : StateEntry) (up : Bool) (s : State) : (chargeEntry e up s).per.live.snaps = s.per.live.snaps :=
  (sameBut_of_outside (outside_chargeEntry (mm := { per := true, quotas := true }) rfl rfl)).snaps rfl
@[simp] theorem addEntry_snap (number : Nat) (e : StateEntry) (s : State) : (addEntry number e s).snap = s.snap :=
  (sameBut_of_outside (outside_addEntry (mm := { per := true, quotas := true, snaps := true }) rfl rfl rfl)).snap rfl
@[simp] theorem deleteSnap_eng (number : Nat) (s : State) : (deleteSnap number s).eng = s.eng :=
  (sameBut_of_outside (outside_deleteSnap (mm := { per := true, snap := true, quotas := true, dir := true, snaps := true }) rfl rfl rfl rfl rfl)).eng rfl
@[simp] theorem changePage_cs (tpn : Nat) (s : State) : (changePage tpn s).cs = s.cs :=
  (sameBut_of_outside (outside_changePage (mm := { per := true, fix := true, cp := true, snap := true, rmq := true, dict := true, quotas := true, dir := true, snaps := true }) rfl rfl rfl rfl rfl rfl rfl rfl rfl)).cs rfl
@[simp] theorem poisonPage_cp (tpn src : Nat) (s : State) : (poisonPage tpn src s).cp = s.cp :=
  (sameBut_of_outside (outside_poisonPage (mm := { per := true, rmq := true, dir := true }) rfl rfl rfl)).cp rfl
@[simp] theorem setGroup_nand (die g : Nat) (f : Group → Group) (s : State) : (setGroup die g f s).nand = s.nand :=
  (sameBut_of_outside (outside_setGroup (mm := { per := true, groups := true }) rfl rfl)).nand rfl
@[simp] theorem setGroup_rec_ (die g : Nat) (f : Group → Group) (s : State) : (setGroup die g f s).rec_ = s.rec_ :=
  (sameBut_of_outside (outside_setGroup (mm := { per := true, groups := true }) rfl rfl)).rec_ rfl
@[simp] theorem freeIfEmpty_nand (ch die g : Nat) (s : State) : (freeIfEmpty ch die g s).nand = s.nand :=
  (sameBut_of_outside (outside_freeIfEmpty (mm := { per := true, groups := true }) rfl rfl)).nand rfl
@[simp] theorem mediaCheck_per (s : State) : (mediaCheck s).per = s.per :=
  (sameBut_of_outside (outside_mediaCheck (mm := { dict := true }) rfl)).per rfl
@[simp] theorem mediaCheck_nand (s : State) : (mediaCheck s).nand = s.nand :=
  (sameBut_of_outside (outside_mediaCheck (mm := { dict := true }) rfl)).nand rfl
@[simp] theorem mediaCheck_fix (s : State) : (mediaCheck s).fix = s.fix :=
  (sameBut_of_outside (outside_mediaCheck (mm := { dict := true }) rfl)).fix rfl
@[simp] theorem mediaCheck_md (s : State) : (mediaCheck s).md = s.md :=
  (sameBut_of_outside (outside_mediaCheck (mm := { dict := true }) rfl)).md rfl
@[simp] theorem mediaCheck_keys (s : State) : (mediaCheck s).keys = s.keys :=
  (sameBut_of_outside (outside_mediaCheck (mm := { dict := true }) rfl)).keys rfl
@[simp] theorem useUnit_nand (n g u full : Nat) (s : State) : (useUnit n g u full s).nand = s.nand :=
  (sameBut_of_outside (outside_useUnit (mm := { per := true, groups := true }) rfl rfl)).nand rfl
@[simp] theorem refreshProt_nand (x : Stripe) (s : State) : (refreshProt x s).nand = s.nand :=
  (sameBut_of_outside (outside_refreshProt (mm := { per := true, fmap := true }) rfl rfl)).nand rfl
@[simp] theorem convertParity_md (s : State) : (convertParity s).md = s.md :=
  (sameBut_of_outside (outside_convertParity (mm := { per := true, nand := true, dict := true, freeCtr := true, fmap := true, groups := true, media := true }) rfl rfl rfl rfl rfl rfl rfl)).md rfl
@[simp] theorem convertParity_pres (s : State) : (convertParity s).pres = s.pres :=
  (sameBut_of_outside (outside_convertParity (mm := { per := true, nand := true, dict := true, freeCtr := true, fmap := true, groups := true, media := true }) rfl rfl rfl rfl rfl rfl rfl)).pres rfl
@[simp] theorem setImage_snap (tpn : Nat) (e : ImageEntry) (s : State) : (setImage tpn e s).snap = s.snap :=
  (sameBut_of_outside (outside_setImage (mm := { per := true, images := true }) rfl rfl)).snap rfl
@[simp] theorem keyLookup_rc (group key : Nat) (s : State) : (keyLookup group key s).rc = s.rc :=
  (sameBut_of_outside (outside_keyLookup (mm := { host := true, dict := true, freeCtr := true }) rfl rfl rfl)).rc rfl
@[simp] theorem keyLookup_rst (group key : Nat) (s : State) : (keyLookup group key s).rst = s.rst :=
  (sameBut_of_outside (outside_keyLookup (mm := { host := true, dict := true, freeCtr := true }) rfl rfl rfl)).rst rfl
@[simp] theorem emitFrame_rc (o : Out) (s : State) : (emitFrame o s).rc = s.rc :=
  (sameBut_of_outside (outside_emitFrame (mm := { dict := true, freeCtr := true, outbox := true }) rfl rfl rfl)).rc rfl
@[simp] theorem emitFrame_snap (o : Out) (s : State) : (emitFrame o s).snap = s.snap :=
  (sameBut_of_outside (outside_emitFrame (mm := { dict := true, freeCtr := true, outbox := true }) rfl rfl rfl)).snap rfl
@[simp] theorem emitFrame_rst (o : Out) (s : State) : (emitFrame o s).rst = s.rst :=
  (sameBut_of_outside (outside_emitFrame (mm := { dict := true, freeCtr := true, outbox := true }) rfl rfl rfl)).rst rfl
@[simp] theorem countFrame_host (p : Nat) (ce : Bool) (s : State) : (countFrame p ce s).host = s.host :=
  (sameBut_of_outside (outside_countFrame (mm := { dict := true, freeCtr := true }) rfl rfl)).host rfl
@[simp] theorem countFrame_rc (p : Nat) (ce : Bool) (s : State) : (countFrame p ce s).rc = s.rc :=
  (sameBut_of_outside (outside_countFrame (mm := { dict := true, freeCtr := true }) rfl rfl)).rc rfl
@[simp] theorem countFrame_cp (p : Nat) (ce : Bool) (s : State) : (countFrame p ce s).cp = s.cp :=
  (sameBut_of_outside (outside_countFrame (mm := { dict := true, freeCtr := true }) rfl rfl)).cp rfl
@[simp] theorem countFrame_rst (p : Nat) (ce : Bool) (s : State) : (countFrame p ce s).rst = s.rst :=
  (sameBut_of_outside (outside_countFrame (mm := { dict := true, freeCtr := true }) rfl rfl)).rst rfl
@[simp] theorem countFrame_rtc (p : Nat) (ce : Bool) (s : State) : (countFrame p ce s).rtc = s.rtc :=
  (sameBut_of_outside (outside_countFrame (mm := { dict := true, freeCtr := true }) rfl rfl)).rtc rfl
@[simp] theorem countFrame_outbox (p : Nat) (ce : Bool) (s : State) : (countFrame p ce s).outbox = s.outbox :=
  (sameBut_of_outside (outside_countFrame (mm := { dict := true, freeCtr := true }) rfl rfl)).outbox rfl
@[simp] theorem toHost_host (o : Out) (s : State) : (toHost o s).host = s.host :=
  (sameBut_of_outside (outside_toHost (mm := { snap := true, dict := true, freeCtr := true, outbox := true }) rfl rfl rfl rfl)).host rfl
@[simp] theorem toHost_rc (o : Out) (s : State) : (toHost o s).rc = s.rc :=
  (sameBut_of_outside (outside_toHost (mm := { snap := true, dict := true, freeCtr := true, outbox := true }) rfl rfl rfl rfl)).rc rfl
@[simp] theorem toHost_rst (o : Out) (s : State) : (toHost o s).rst = s.rst :=
  (sameBut_of_outside (outside_toHost (mm := { snap := true, dict := true, freeCtr := true, outbox := true }) rfl rfl rfl rfl)).rst rfl
@[simp] theorem recoverLine_cs (line : Nat) (s : State) : (recoverLine line s).cs = s.cs :=
  (sameBut_of_outside (outside_recoverLine (mm := { per := true, cp := true, rmq := true, dict := true, dir := true }) rfl rfl rfl rfl rfl)).cs rfl
@[simp] theorem addUsed_host (tenant tier : Nat) (up : Bool) (s : State) : (addUsed tenant tier up s).host = s.host :=
  (sameBut_of_outside (outside_addUsed (mm := { per := true, quotas := true }) rfl rfl)).host rfl
@[simp] theorem stopPlace_md (t : Token) (v : RespVal) (s : State) : (stopPlace t v s).md = s.md :=
  (sameBut_of_outside (outside_stopPlace (mm := { per := true, tier := true, cp := true, dict := true, quotas := true, dir := true }) rfl rfl rfl rfl rfl rfl)).md rfl
@[simp] theorem stopPlace_rst (t : Token) (v : RespVal) (s : State) : (stopPlace t v s).rst = s.rst :=
  (sameBut_of_outside (outside_stopPlace (mm := { per := true, tier := true, cp := true, dict := true, quotas := true, dir := true }) rfl rfl rfl rfl rfl rfl)).rst rfl
@[simp] theorem unpinPage_per (tpn : Nat) (s : State) : (unpinPage tpn s).per = s.per :=
  (sameBut_of_outside (outside_unpinPage (mm := { cs := true }) rfl)).per rfl
@[simp] theorem unpinPage_tier (tpn : Nat) (s : State) : (unpinPage tpn s).tier = s.tier :=
  (sameBut_of_outside (outside_unpinPage (mm := { cs := true }) rfl)).tier rfl
@[simp] theorem startMoves_host (s : State) : (startMoves s).host = s.host :=
  (sameBut_of_outside (outside_startMoves (mm := { per := true, tier := true, cs := true, nand := true, cp := true, rec_ := true, snap := true, dict := true, freeCtr := true, quotas := true, dir := true }) rfl rfl rfl rfl rfl rfl rfl rfl rfl rfl rfl)).host rfl
@[simp] theorem startMoves_md (s : State) : (startMoves s).md = s.md :=
  (sameBut_of_outside (outside_startMoves (mm := { per := true, tier := true, cs := true, nand := true, cp := true, rec_ := true, snap := true, dict := true, freeCtr := true, quotas := true, dir := true }) rfl rfl rfl rfl rfl rfl rfl rfl rfl rfl rfl)).md rfl
@[simp] theorem startMoves_standing (s : State) : (startMoves s).per.live.standing = s.per.live.standing :=
  (sameBut_of_outside (outside_startMoves (mm := { per := true, tier := true, cs := true, nand := true, cp := true, rec_ := true, snap := true, dict := true, freeCtr := true, quotas := true, dir := true }) rfl rfl rfl rfl rfl rfl rfl rfl rfl rfl rfl)).standing rfl
@[simp] theorem startMoves_twin (s : State) : (startMoves s).cp.twin = s.cp.twin :=
  (sameBut_of_outside (outside_startMoves (mm := { per := true, tier := true, cs := true, nand := true, cp := true, rec_ := true, snap := true, dict := true, freeCtr := true, quotas := true, dir := true }) rfl rfl rfl rfl rfl rfl rfl rfl rfl rfl rfl)).twin rfl
@[simp] theorem closePlaces_host (s : State) : (closePlaces s).host = s.host :=
  (sameBut_of_outside (outside_closePlaces (mm := { per := true, tier := true, cp := true, dict := true, quotas := true }) rfl rfl rfl rfl rfl)).host rfl
@[simp] theorem closePlaces_md (s : State) : (closePlaces s).md = s.md :=
  (sameBut_of_outside (outside_closePlaces (mm := { per := true, tier := true, cp := true, dict := true, quotas := true }) rfl rfl rfl rfl rfl)).md rfl
@[simp] theorem closePlaces_standing (s : State) : (closePlaces s).per.live.standing = s.per.live.standing :=
  (sameBut_of_outside (outside_closePlaces (mm := { per := true, tier := true, cp := true, dict := true, quotas := true }) rfl rfl rfl rfl rfl)).standing rfl
@[simp] theorem closePlaces_twin (s : State) : (closePlaces s).cp.twin = s.cp.twin :=
  (sameBut_of_outside (outside_closePlaces (mm := { per := true, tier := true, cp := true, dict := true, quotas := true }) rfl rfl rfl rfl rfl)).twin rfl
@[simp] theorem freeHome_tier (h : Home) (s : State) : (freeHome h s).tier = s.tier :=
  (sameBut_of_outside (outside_freeHome (mm := { per := true, nand := true, fmap := true }) rfl rfl rfl)).tier rfl
@[simp] theorem freeHome_dir (h : Home) (s : State) : (freeHome h s).per.live.dir = s.per.live.dir :=
  (sameBut_of_outside (outside_freeHome (mm := { per := true, nand := true, fmap := true }) rfl rfl rfl)).dir rfl
@[simp] theorem countMove_dir (tpn : Nat) (c : MoveCause) (tenant : Nat) (promote : Bool) (s : State) : (countMove tpn c tenant promote s).per.live.dir = s.per.live.dir :=
  (sameBut_of_outside (outside_countMove (mm := { per := true, tier := true, dict := true, quotas := true }) rfl rfl rfl rfl)).dir rfl
@[simp] theorem traceTouch_host (host : Nat) (r : Region) (pages : List Nat) (s : State) : (traceTouch host r pages s).host = s.host :=
  (sameBut_of_outside (outside_traceTouch (mm := { rec_ := true }) rfl)).host rfl
@[simp] theorem traceTouch_rc (host : Nat) (r : Region) (pages : List Nat) (s : State) : (traceTouch host r pages s).rc = s.rc :=
  (sameBut_of_outside (outside_traceTouch (mm := { rec_ := true }) rfl)).rc rfl
@[simp] theorem traceTouch_rst (host : Nat) (r : Region) (pages : List Nat) (s : State) : (traceTouch host r pages s).rst = s.rst :=
  (sameBut_of_outside (outside_traceTouch (mm := { rec_ := true }) rfl)).rst rfl
@[simp] theorem strideRead_rc (group stream : Nat) (r : Region) (x : Nat) (s : State) : (strideRead group stream r x s).rc = s.rc :=
  (sameBut_of_outside (outside_strideRead (mm := { host := true, cs := true }) rfl rfl)).rc rfl
@[simp] theorem strideRead_rst (group stream : Nat) (r : Region) (x : Nat) (s : State) : (strideRead group stream r x s).rst = s.rst :=
  (sameBut_of_outside (outside_strideRead (mm := { host := true, cs := true }) rfl rfl)).rst rfl
@[simp] theorem enqueue_host (l : List LineReq) (s : State) : (enqueue l s).host = s.host :=
  (sameBut_of_outside (outside_enqueue (mm := { cs := true }) rfl)).host rfl
@[simp] theorem modQp_host (qpn : Nat) (f : Qp → Qp) (s : State) : (modQp qpn f s).host = s.host :=
  (sameBut_of_outside (outside_modQp (mm := { rc := true }) rfl)).host rfl
@[simp] theorem modQp_fix (qpn : Nat) (f : Qp → Qp) (s : State) : (modQp qpn f s).fix = s.fix :=
  (sameBut_of_outside (outside_modQp (mm := { rc := true }) rfl)).fix rfl
@[simp] theorem modQp_snap (qpn : Nat) (f : Qp → Qp) (s : State) : (modQp qpn f s).snap = s.snap :=
  (sameBut_of_outside (outside_modQp (mm := { rc := true }) rfl)).snap rfl
@[simp] theorem modQp_outbox (qpn : Nat) (f : Qp → Qp) (s : State) : (modQp qpn f s).outbox = s.outbox :=
  (sameBut_of_outside (outside_modQp (mm := { rc := true }) rfl)).outbox rfl
@[simp] theorem freeQp_outbox (qpn : Nat) (s : State) : (freeQp qpn s).outbox = s.outbox :=
  (sameBut_of_outside (outside_freeQp (mm := { rc := true, cp := true, dict := true }) rfl rfl rfl)).outbox rfl
@[simp] theorem rcLaunch_rc (id qpn : Nat) (s : State) : (rcLaunch id qpn s).rc = s.rc :=
  (sameBut_of_outside (outside_rcLaunch (mm := { host := true, per := true, tier := true, cs := true, nand := true, cp := true, rec_ := true, snap := true, dict := true, freeCtr := true, quotas := true, dir := true }) rfl rfl rfl rfl rfl rfl rfl rfl rfl rfl rfl rfl)).rc rfl
@[simp] theorem rcLaunch_rst (id qpn : Nat) (s : State) : (rcLaunch id qpn s).rst = s.rst :=
  (sameBut_of_outside (outside_rcLaunch (mm := { host := true, per := true, tier := true, cs := true, nand := true, cp := true, rec_ := true, snap := true, dict := true, freeCtr := true, quotas := true, dir := true }) rfl rfl rfl rfl rfl rfl rfl rfl rfl rfl rfl rfl)).rst rfl
@[simp] theorem qpFrame_host (qpn : Nat) (s : State) : (qpFrame qpn s).host = s.host :=
  (sameBut_of_outside (outside_qpFrame (mm := { dict := true, freeCtr := true }) rfl rfl)).host rfl
@[simp] theorem qpFrame_rc (qpn : Nat) (s : State) : (qpFrame qpn s).rc = s.rc :=
  (sameBut_of_outside (outside_qpFrame (mm := { dict := true, freeCtr := true }) rfl rfl)).rc rfl
@[simp] theorem qpFrame_rst (qpn : Nat) (s : State) : (qpFrame qpn s).rst = s.rst :=
  (sameBut_of_outside (outside_qpFrame (mm := { dict := true, freeCtr := true }) rfl rfl)).rst rfl
@[simp] theorem qpFrame_rtc (qpn : Nat) (s : State) : (qpFrame qpn s).rtc = s.rtc :=
  (sameBut_of_outside (outside_qpFrame (mm := { dict := true, freeCtr := true }) rfl rfl)).rtc rfl
@[simp] theorem qpFrame_outbox (qpn : Nat) (s : State) : (qpFrame qpn s).outbox = s.outbox :=
  (sameBut_of_outside (outside_qpFrame (mm := { dict := true, freeCtr := true }) rfl rfl)).outbox rfl
@[simp] theorem sendRep_per (qpn : Nat) (s : State) : (sendRep qpn s).per = s.per :=
  (sameBut_of_outside (outside_sendRep (mm := { dict := true, freeCtr := true, outbox := true }) rfl rfl rfl)).per rfl
@[simp] theorem sendRep_cp (qpn : Nat) (s : State) : (sendRep qpn s).cp = s.cp :=
  (sameBut_of_outside (outside_sendRep (mm := { dict := true, freeCtr := true, outbox := true }) rfl rfl rfl)).cp rfl
@[simp] theorem sendRep_md (qpn : Nat) (s : State) : (sendRep qpn s).md = s.md :=
  (sameBut_of_outside (outside_sendRep (mm := { dict := true, freeCtr := true, outbox := true }) rfl rfl rfl)).md rfl
@[simp] theorem homePages_snap (tenant tier : Nat) (pages : List Nat) (s : State) : (homePages tenant tier pages s).snap = s.snap :=
  (sameBut_of_outside (outside_homePages (mm := { per := true, freeCtr := true, quotas := true, dir := true }) rfl rfl rfl rfl)).snap rfl
@[simp] theorem homePages_regions (tenant tier : Nat) (pages : List Nat) (s : State) : (homePages tenant tier pages s).per.live.regions = s.per.live.regions :=
  (sameBut_of_outside (outside_homePages (mm := { per := true, freeCtr := true, quotas := true, dir := true }) rfl rfl rfl rfl)).regions rfl
@[simp] theorem freePage_cp (tpn : Nat) (s : State) : (freePage tpn s).cp = s.cp :=
  (sameBut_of_outside (outside_freePage (mm := { per := true, tier := true, cs := true, nand := true, fix := true, rec_ := true, snap := true, rmq := true, dict := true, quotas := true, dir := true, fmap := true, images := true, snaps := true }) rfl rfl rfl rfl rfl rfl rfl rfl rfl rfl rfl rfl rfl rfl)).cp rfl
@[simp] theorem freePage_regions (tpn : Nat) (s : State) : (freePage tpn s).per.live.regions = s.per.live.regions :=
  (sameBut_of_outside (outside_freePage (mm := { per := true, tier := true, cs := true, nand := true, fix := true, rec_ := true, snap := true, rmq := true, dict := true, quotas := true, dir := true, fmap := true, images := true, snaps := true }) rfl rfl rfl rfl rfl rfl rfl rfl rfl rfl rfl rfl rfl rfl)).regions rfl
@[simp] theorem addRegion_snap (slot : Nat) (r : Region) (s : State) : (addRegion slot r s).snap = s.snap :=
  (sameBut_of_outside (outside_addRegion (mm := { per := true, regions := true }) rfl rfl)).snap rfl
@[simp] theorem dropHostQps_per (host : Nat) (s : State) : (dropHostQps host s).per = s.per :=
  (sameBut_of_outside (outside_dropHostQps (mm := { rc := true, dict := true, freeCtr := true, outbox := true }) rfl rfl rfl rfl)).per rfl
@[simp] theorem countTable_snap (s : State) : (countTable s).snap = s.snap :=
  (sameBut_of_outside (outside_countTable (mm := { per := true }) rfl)).snap rfl
@[simp] theorem countTable_md (s : State) : (countTable s).md = s.md :=
  (sameBut_of_outside (outside_countTable (mm := { per := true }) rfl)).md rfl
@[simp] theorem countTable_regions (s : State) : (countTable s).per.live.regions = s.per.live.regions :=
  (sameBut_of_outside (outside_countTable (mm := { per := true }) rfl)).regions rfl
@[simp] theorem applyElem_eng (e : TableElem) (s0 : State) : (applyElem e s0).eng = s0.eng :=
  (sameBut_of_outside (outside_applyElem (mm := { rc := true, per := true, tier := true, cs := true, nand := true, fix := true, cp := true, rec_ := true, snap := true, rmq := true, dict := true, freeCtr := true, outbox := true, tenants := true, hosts := true, regions := true, keyTable := true, quotas := true, dir := true, fmap := true, images := true, snaps := true, config := true }) rfl rfl rfl rfl rfl rfl rfl rfl rfl rfl rfl rfl rfl rfl rfl rfl rfl rfl rfl rfl rfl rfl rfl)).eng rfl
@[simp] theorem finishCmd_per (status result : Nat) (s : State) : (finishCmd status result s).per = s.per :=
  (sameBut_of_outside (outside_finishCmd (mm := { eng := true, cp := true, dict := true }) rfl rfl rfl)).per rfl
@[simp] theorem finishCmd_md (status result : Nat) (s : State) : (finishCmd status result s).md = s.md :=
  (sameBut_of_outside (outside_finishCmd (mm := { eng := true, cp := true, dict := true }) rfl rfl rfl)).md rfl
@[simp] theorem finishCmd_twin (status result : Nat) (s : State) : (finishCmd status result s).cp.twin = s.cp.twin :=
  (sameBut_of_outside (outside_finishCmd (mm := { eng := true, cp := true, dict := true }) rfl rfl rfl)).twin rfl
@[simp] theorem startFence_dict (f : Fence) (s : State) : (startFence f s).dict = s.dict :=
  (sameBut_of_outside (outside_startFence (mm := { per := true, eng := true, regions := true, keyTable := true }) rfl rfl rfl rfl)).dict rfl
@[simp] theorem setMode_cp (m : Mode) (row : Nat) (s : State) : (setMode m row s).cp = s.cp :=
  (sameBut_of_outside (outside_setMode (mm := { per := true, nand := true, md := true, pres := true, rmq := true, dict := true, freeCtr := true, fmap := true, groups := true, media := true, mode := true }) rfl rfl rfl rfl rfl rfl rfl rfl rfl rfl rfl)).cp rfl
@[simp] theorem setMode_rec_ (m : Mode) (row : Nat) (s : State) : (setMode m row s).rec_ = s.rec_ :=
  (sameBut_of_outside (outside_setMode (mm := { per := true, nand := true, md := true, pres := true, rmq := true, dict := true, freeCtr := true, fmap := true, groups := true, media := true, mode := true }) rfl rfl rfl rfl rfl rfl rfl rfl rfl rfl rfl)).rec_ rfl
@[simp] theorem setMode_rst (m : Mode) (row : Nat) (s : State) : (setMode m row s).rst = s.rst :=
  (sameBut_of_outside (outside_setMode (mm := { per := true, nand := true, md := true, pres := true, rmq := true, dict := true, freeCtr := true, fmap := true, groups := true, media := true, mode := true }) rfl rfl rfl rfl rfl rfl rfl rfl rfl rfl rfl)).rst rfl
@[simp] theorem setMode_standing (m : Mode) (row : Nat) (s : State) : (setMode m row s).per.live.standing = s.per.live.standing :=
  (sameBut_of_outside (outside_setMode (mm := { per := true, nand := true, md := true, pres := true, rmq := true, dict := true, freeCtr := true, fmap := true, groups := true, media := true, mode := true }) rfl rfl rfl rfl rfl rfl rfl rfl rfl rfl rfl)).standing rfl
@[simp] theorem raiseKeep_per (bit : Nat) (s : State) : (raiseKeep bit s).per = s.per :=
  (sameBut_of_outside (outside_raiseKeep (mm := { md := true }) rfl)).per rfl
@[simp] theorem raiseKeep_dram (bit : Nat) (s : State) : (raiseKeep bit s).dram = s.dram :=
  (sameBut_of_outside (outside_raiseKeep (mm := { md := true }) rfl)).dram rfl
@[simp] theorem raiseKeep_nand (bit : Nat) (s : State) : (raiseKeep bit s).nand = s.nand :=
  (sameBut_of_outside (outside_raiseKeep (mm := { md := true }) rfl)).nand rfl
@[simp] theorem raiseKeep_fix (bit : Nat) (s : State) : (raiseKeep bit s).fix = s.fix :=
  (sameBut_of_outside (outside_raiseKeep (mm := { md := true }) rfl)).fix rfl
@[simp] theorem raiseKeep_cp (bit : Nat) (s : State) : (raiseKeep bit s).cp = s.cp :=
  (sameBut_of_outside (outside_raiseKeep (mm := { md := true }) rfl)).cp rfl
@[simp] theorem raiseKeep_rec_ (bit : Nat) (s : State) : (raiseKeep bit s).rec_ = s.rec_ :=
  (sameBut_of_outside (outside_raiseKeep (mm := { md := true }) rfl)).rec_ rfl
@[simp] theorem raiseKeep_rst (bit : Nat) (s : State) : (raiseKeep bit s).rst = s.rst :=
  (sameBut_of_outside (outside_raiseKeep (mm := { md := true }) rfl)).rst rfl
@[simp] theorem raiseKeep_mode (bit : Nat) (s : State) : (raiseKeep bit s).md.mode = s.md.mode :=
  (sameBut_of_outside (outside_raiseKeep (mm := { md := true }) rfl)).mode rfl
@[simp] theorem abandonCut_md (s : State) : (abandonCut s).md = s.md :=
  (sameBut_of_outside (outside_abandonCut (mm := { per := true, snap := true, dict := true, quotas := true, dir := true, snaps := true }) rfl rfl rfl rfl rfl rfl)).md rfl
@[simp] theorem abandonCut_rst (s : State) : (abandonCut s).rst = s.rst :=
  (sameBut_of_outside (outside_abandonCut (mm := { per := true, snap := true, dict := true, quotas := true, dir := true, snaps := true }) rfl rfl rfl rfl rfl rfl)).rst rfl
@[simp] theorem enterDrain_standing (cause : Nat) (s : State) : (enterDrain cause s).per.live.standing = s.per.live.standing :=
  (sameBut_of_outside (outside_enterDrain (mm := { per := true, tier := true, nand := true, fix := true, cp := true, snap := true, md := true, pres := true, rmq := true, rst := true, dict := true, freeCtr := true, quotas := true, dir := true, fmap := true, groups := true, snaps := true, media := true, mode := true, phase := true }) rfl rfl rfl rfl rfl rfl rfl rfl rfl rfl rfl rfl rfl rfl rfl rfl rfl rfl rfl rfl)).standing rfl
@[simp] theorem enterDrain_twin (cause : Nat) (s : State) : (enterDrain cause s).cp.twin = s.cp.twin :=
  (sameBut_of_outside (outside_enterDrain (mm := { per := true, tier := true, nand := true, fix := true, cp := true, snap := true, md := true, pres := true, rmq := true, rst := true, dict := true, freeCtr := true, quotas := true, dir := true, fmap := true, groups := true, snaps := true, media := true, mode := true, phase := true }) rfl rfl rfl rfl rfl rfl rfl rfl rfl rfl rfl rfl rfl rfl rfl rfl rfl rfl rfl rfl)).twin rfl
@[simp] theorem doConfigApplyAtIdle_rst (unit : Nat) (s : State) : (doConfigApplyAtIdle unit s).rst = s.rst :=
  (sameBut_of_outside (outside_doConfigApplyAtIdle (mm := { cs := true, dram := true, ports := true, force := true }) rfl rfl rfl rfl)).rst rfl
@[simp] theorem finishImage_per (tpn : Nat) (s : State) : (finishImage tpn s).per = s.per :=
  (sameBut_of_outside (outside_finishImage (mm := { fix := true }) rfl)).per rfl
@[simp] theorem finishImage_cp (tpn : Nat) (s : State) : (finishImage tpn s).cp = s.cp :=
  (sameBut_of_outside (outside_finishImage (mm := { fix := true }) rfl)).cp rfl
@[simp] theorem finishImage_md (tpn : Nat) (s : State) : (finishImage tpn s).md = s.md :=
  (sameBut_of_outside (outside_finishImage (mm := { fix := true }) rfl)).md rfl
@[simp] theorem recordImage_snap (tpn : Nat) (e : ImageEntry) (s : State) : (recordImage tpn e s).snap = s.snap :=
  (sameBut_of_outside (outside_recordImage (mm := { per := true, fix := true, cp := true, dict := true, images := true }) rfl rfl rfl rfl rfl)).snap rfl
@[simp] theorem beginImage_snap (tpn : Nat) (s : State) : (beginImage tpn s).snap = s.snap :=
  (sameBut_of_outside (outside_beginImage (mm := { fix := true }) rfl)).snap rfl
@[simp] theorem settled1_snap (number region page : Nat) (s : State) : (settled1 number region page s).snap = s.snap :=
  (sameBut_of_outside (outside_settled1 (mm := { per := true, snaps := true }) rfl rfl)).snap rfl
@[simp] theorem finishState_per (status result : Nat) (s : State) : (finishState status result s).per = s.per :=
  (sameBut_of_outside (outside_finishState (mm := { eng := true, cp := true, snap := true, dict := true }) rfl rfl rfl rfl)).per rfl
@[simp] theorem finishState_md (status result : Nat) (s : State) : (finishState status result s).md = s.md :=
  (sameBut_of_outside (outside_finishState (mm := { eng := true, cp := true, snap := true, dict := true }) rfl rfl rfl rfl)).md rfl
@[simp] theorem finishState_twin (status result : Nat) (s : State) : (finishState status result s).cp.twin = s.cp.twin :=
  (sameBut_of_outside (outside_finishState (mm := { eng := true, cp := true, snap := true, dict := true }) rfl rfl rfl rfl)).twin rfl
@[simp] theorem takePoint_cp (own : Bool) (s : State) : (takePoint own s).cp = s.cp :=
  (sameBut_of_outside (outside_takePoint (mm := { per := true, dir := true, snaps := true }) rfl rfl rfl)).cp rfl
@[simp] theorem takePoint_snap (own : Bool) (s : State) : (takePoint own s).snap = s.snap :=
  (sameBut_of_outside (outside_takePoint (mm := { per := true, dir := true, snaps := true }) rfl rfl rfl)).snap rfl
@[simp] theorem releaseHeld_per (s : State) : (releaseHeld s).per = s.per :=
  (sameBut_of_outside (outside_releaseHeld (mm := { snap := true, dict := true, freeCtr := true, outbox := true }) rfl rfl rfl rfl)).per rfl
@[simp] theorem releaseHeld_eng (s : State) : (releaseHeld s).eng = s.eng :=
  (sameBut_of_outside (outside_releaseHeld (mm := { snap := true, dict := true, freeCtr := true, outbox := true }) rfl rfl rfl rfl)).eng rfl
@[simp] theorem activate_pres (n : Nat) (e : DramWord) (s : State) : (activate n e s).pres = s.pres :=
  (sameBut_of_outside (outside_activate (mm := { dram := true, dict := true }) rfl rfl)).pres rfl
@[simp] theorem activate_rtc (n : Nat) (e : DramWord) (s : State) : (activate n e s).rtc = s.rtc :=
  (sameBut_of_outside (outside_activate (mm := { dram := true, dict := true }) rfl rfl)).rtc rfl
@[simp] theorem drainWrites_pres (n : Nat) (s : State) : (drainWrites n s).pres = s.pres :=
  (sameBut_of_outside (outside_drainWrites (mm := { dram := true }) rfl)).pres rfl
@[simp] theorem drainWrites_dict (n : Nat) (s : State) : (drainWrites n s).dict = s.dict :=
  (sameBut_of_outside (outside_drainWrites (mm := { dram := true }) rfl)).dict rfl
@[simp] theorem drainWrites_rtc (n : Nat) (s : State) : (drainWrites n s).rtc = s.rtc :=
  (sameBut_of_outside (outside_drainWrites (mm := { dram := true }) rfl)).rtc rfl
@[simp] theorem advance_fix (n : Nat) (s : State) : (advance n s).fix = s.fix :=
  (sameBut_of_outside (outside_advance (mm := { rec_ := true, dict := true }) _ _ rfl rfl)).fix rfl
@[simp] theorem erasePlate_fix (plate : Nat) (s : State) : (erasePlate plate s).fix = s.fix :=
  (sameBut_of_outside (outside_erasePlate (mm := { per := true, nand := true, groups := true }) rfl rfl rfl)).fix rfl
@[simp] theorem erasePlate_rec_ (plate : Nat) (s : State) : (erasePlate plate s).rec_ = s.rec_ :=
  (sameBut_of_outside (outside_erasePlate (mm := { per := true, nand := true, groups := true }) rfl rfl rfl)).rec_ rfl
@[simp] theorem recallEnd_fix (s : State) : (recallEnd s).fix = s.fix :=
  (sameBut_of_outside (outside_recallEnd (mm := { per := true, nand := true, rec_ := true, md := true, pres := true, rmq := true, dict := true, freeCtr := true, fmap := true, groups := true, media := true, mode := true }) rfl rfl rfl rfl rfl rfl rfl rfl rfl rfl rfl rfl)).fix rfl
@[simp] theorem recallStep_cp (s : State) : (recallStep s).cp = s.cp :=
  (sameBut_of_outside (outside_recallStep (mm := { per := true, nand := true, fix := true, rec_ := true, md := true, pres := true, rmq := true, dict := true, freeCtr := true, fmap := true, groups := true, media := true, plates := true, mode := true }) rfl rfl rfl rfl rfl rfl rfl rfl rfl rfl rfl rfl rfl rfl)).cp rfl
@[simp] theorem markRestored_cp (tpn : Nat) (s : State) : (markRestored tpn s).cp = s.cp :=
  (sameBut_of_outside (outside_markRestored (mm := { per := true, nand := true, fix := true, rec_ := true, md := true, pres := true, rmq := true, dict := true, freeCtr := true, fmap := true, groups := true, media := true, plates := true, mode := true }) rfl rfl rfl rfl rfl rfl rfl rfl rfl rfl rfl rfl rfl rfl)).cp rfl
@[simp] theorem countRestore_cp (tpn : Nat) (s : State) : (countRestore tpn s).cp = s.cp :=
  (sameBut_of_outside (outside_countRestore (mm := { dict := true }) rfl)).cp rfl
@[simp] theorem fillFrame_cp (tpn : Nat) (data : Mem) (s : State) : (fillFrame tpn data s).cp = s.cp :=
  (sameBut_of_outside (outside_fillFrame (mm := { dram := true, mem := true }) rfl rfl)).cp rfl
@[simp] theorem reserveCauses_rst (s : State) : (reserveCauses s).rst = s.rst :=
  (sameBut_of_outside (outside_reserveCauses (mm := { per := true, nand := true, cp := true, md := true, pres := true, rmq := true, dict := true, freeCtr := true, fmap := true, groups := true, media := true, twin := true, mode := true }) rfl rfl rfl rfl rfl rfl rfl rfl rfl rfl rfl rfl rfl)).rst rfl
@[simp] theorem mediaStep_rec_ (s : State) : (mediaStep s).rec_ = s.rec_ :=
  (sameBut_of_outside (outside_mediaStep (mm := { per := true, nand := true, cp := true, md := true, pres := true, rmq := true, dict := true, freeCtr := true, fmap := true, groups := true, media := true, twin := true, mode := true }) rfl rfl rfl rfl rfl rfl rfl rfl rfl rfl rfl rfl rfl)).rec_ rfl
@[simp] theorem mediaMin_nand (s : State) : (mediaMin s).nand = s.nand :=
  (sameBut_of_outside (outside_mediaMin (mm := { md := true, rmq := true }) rfl rfl)).nand rfl
@[simp] theorem migrateCheck_per (s : State) : (migrateCheck s).per = s.per :=
  (sameBut_of_outside (outside_migrateCheck (mm := { keys := true, dict := true }) rfl rfl)).per rfl
@[simp] theorem migrateCheck_nand (s : State) : (migrateCheck s).nand = s.nand :=
  (sameBut_of_outside (outside_migrateCheck (mm := { keys := true, dict := true }) rfl rfl)).nand rfl
@[simp] theorem wearStep_per (s : State) : (wearStep s).per = s.per :=
  (sameBut_of_outside (outside_wearStep (mm := { nand := true, rmq := true }) rfl rfl)).per rfl
@[simp] theorem wearStep_md (s : State) : (wearStep s).md = s.md :=
  (sameBut_of_outside (outside_wearStep (mm := { nand := true, rmq := true }) rfl rfl)).md rfl
@[simp] theorem startLogWrite_md (s : State) : (startLogWrite s).md = s.md :=
  (sameBut_of_outside (outside_startLogWrite (mm := { per := true }) rfl)).md rfl
@[simp] theorem markUnacked_md (s : State) : (markUnacked s).md = s.md :=
  (sameBut_of_outside (outside_markUnacked (mm := { per := true }) rfl)).md rfl
@[simp] theorem clearHalves_md (s : State) : (clearHalves s).md = s.md :=
  (sameBut_of_outside (outside_clearHalves (mm := { cp := true }) rfl)).md rfl
@[simp] theorem fetchFailed_standing (f : Fetch) (s0 : State) : (fetchFailed f s0).per.live.standing = s0.per.live.standing :=
  (sameBut_of_outside (outside_fetchFailed (mm := { host := true, per := true, tier := true, cs := true, dram := true, nand := true, fix := true, cp := true, rec_ := true, snap := true, md := true, pres := true, rmq := true, dict := true, freeCtr := true, quotas := true, dir := true, fmap := true, groups := true, mem := true, media := true, plates := true, mode := true }) rfl rfl rfl rfl rfl rfl rfl rfl rfl rfl rfl rfl rfl rfl rfl rfl rfl rfl rfl rfl rfl rfl rfl)).standing rfl
@[simp] theorem fetchFailed_twin (f : Fetch) (s0 : State) : (fetchFailed f s0).cp.twin = s0.cp.twin :=
  (sameBut_of_outside (outside_fetchFailed (mm := { host := true, per := true, tier := true, cs := true, dram := true, nand := true, fix := true, cp := true, rec_ := true, snap := true, md := true, pres := true, rmq := true, dict := true, freeCtr := true, quotas := true, dir := true, fmap := true, groups := true, mem := true, media := true, plates := true, mode := true }) rfl rfl rfl rfl rfl rfl rfl rfl rfl rfl rfl rfl rfl rfl rfl rfl rfl rfl rfl rfl rfl rfl rfl)).twin rfl
@[simp] theorem decideWrite_md (w : PendingWrite) (s : State) : (decideWrite w s).md = s.md :=
  (sameBut_of_outside (outside_decideWrite (mm := { rc := true, per := true, tier := true, cs := true, nand := true, fix := true, cp := true, rec_ := true, snap := true, fieth := true, rmq := true, dict := true, freeCtr := true, outbox := true, tenants := true, hosts := true, regions := true, keyTable := true, quotas := true, dir := true, fmap := true, images := true, snaps := true, config := true }) rfl rfl rfl rfl rfl rfl rfl rfl rfl rfl rfl rfl rfl rfl rfl rfl rfl rfl rfl rfl rfl rfl rfl rfl)).md rfl
@[simp] theorem decideWrite_standing (w : PendingWrite) (s : State) : (decideWrite w s).per.live.standing = s.per.live.standing :=
  (sameBut_of_outside (outside_decideWrite (mm := { rc := true, per := true, tier := true, cs := true, nand := true, fix := true, cp := true, rec_ := true, snap := true, fieth := true, rmq := true, dict := true, freeCtr := true, outbox := true, tenants := true, hosts := true, regions := true, keyTable := true, quotas := true, dir := true, fmap := true, images := true, snaps := true, config := true }) rfl rfl rfl rfl rfl rfl rfl rfl rfl rfl rfl rfl rfl rfl rfl rfl rfl rfl rfl rfl rfl rfl rfl rfl)).standing rfl
@[simp] theorem decideWrite_twin (w : PendingWrite) (s : State) : (decideWrite w s).cp.twin = s.cp.twin :=
  (sameBut_of_outside (outside_decideWrite (mm := { rc := true, per := true, tier := true, cs := true, nand := true, fix := true, cp := true, rec_ := true, snap := true, fieth := true, rmq := true, dict := true, freeCtr := true, outbox := true, tenants := true, hosts := true, regions := true, keyTable := true, quotas := true, dir := true, fmap := true, images := true, snaps := true, config := true }) rfl rfl rfl rfl rfl rfl rfl rfl rfl rfl rfl rfl rfl rfl rfl rfl rfl rfl rfl rfl rfl rfl rfl rfl)).twin rfl
@[simp] theorem restartOp_md (o : Op) (s : State) : (restartOp o s).md = s.md :=
  (sameBut_of_outside (outside_restartOp (mm := { host := true, per := true, tier := true, cs := true, nand := true, cp := true, rec_ := true, snap := true, dict := true, freeCtr := true, quotas := true, dir := true }) rfl rfl rfl rfl rfl rfl rfl rfl rfl rfl rfl rfl)).md rfl
@[simp] theorem restartOp_standing (o : Op) (s : State) : (restartOp o s).per.live.standing = s.per.live.standing :=
  (sameBut_of_outside (outside_restartOp (mm := { host := true, per := true, tier := true, cs := true, nand := true, cp := true, rec_ := true, snap := true, dict := true, freeCtr := true, quotas := true, dir := true }) rfl rfl rfl rfl rfl rfl rfl rfl rfl rfl rfl rfl)).standing rfl
@[simp] theorem restartOp_twin (o : Op) (s : State) : (restartOp o s).cp.twin = s.cp.twin :=
  (sameBut_of_outside (outside_restartOp (mm := { host := true, per := true, tier := true, cs := true, nand := true, cp := true, rec_ := true, snap := true, dict := true, freeCtr := true, quotas := true, dir := true }) rfl rfl rfl rfl rfl rfl rfl rfl rfl rfl rfl rfl)).twin rfl
@[simp] theorem promoteShadows_per (s : State) : (promoteShadows s).per = s.per :=
  (sameBut_of_outside (outside_promoteShadows (mm := { rc := true }) rfl)).per rfl
@[simp] theorem promoteShadows_cp (s : State) : (promoteShadows s).cp = s.cp :=
  (sameBut_of_outside (outside_promoteShadows (mm := { rc := true }) rfl)).cp rfl
@[simp] theorem promoteShadows_md (s : State) : (promoteShadows s).md = s.md :=
  (sameBut_of_outside (outside_promoteShadows (mm := { rc := true }) rfl)).md rfl
@[simp] theorem soloCommand_md (s : State) : (soloCommand s).md = s.md :=
  (sameBut_of_outside (outside_soloCommand (mm := { rc := true, per := true, eng := true, tier := true, cs := true, nand := true, fix := true, cp := true, rec_ := true, snap := true, rmq := true, dict := true, freeCtr := true, outbox := true, tenants := true, hosts := true, regions := true, keyTable := true, quotas := true, dir := true, fmap := true, images := true, snaps := true, config := true }) rfl rfl rfl rfl rfl rfl rfl rfl rfl rfl rfl rfl rfl rfl rfl rfl rfl rfl rfl rfl rfl rfl rfl rfl)).md rfl
@[simp] theorem soloCommand_standing (s : State) : (soloCommand s).per.live.standing = s.per.live.standing :=
  (sameBut_of_outside (outside_soloCommand (mm := { rc := true, per := true, eng := true, tier := true, cs := true, nand := true, fix := true, cp := true, rec_ := true, snap := true, rmq := true, dict := true, freeCtr := true, outbox := true, tenants := true, hosts := true, regions := true, keyTable := true, quotas := true, dir := true, fmap := true, images := true, snaps := true, config := true }) rfl rfl rfl rfl rfl rfl rfl rfl rfl rfl rfl rfl rfl rfl rfl rfl rfl rfl rfl rfl rfl rfl rfl rfl)).standing rfl
@[simp] theorem soloCommand_twin (s : State) : (soloCommand s).cp.twin = s.cp.twin :=
  (sameBut_of_outside (outside_soloCommand (mm := { rc := true, per := true, eng := true, tier := true, cs := true, nand := true, fix := true, cp := true, rec_ := true, snap := true, rmq := true, dict := true, freeCtr := true, outbox := true, tenants := true, hosts := true, regions := true, keyTable := true, quotas := true, dir := true, fmap := true, images := true, snaps := true, config := true }) rfl rfl rfl rfl rfl rfl rfl rfl rfl rfl rfl rfl rfl rfl rfl rfl rfl rfl rfl rfl rfl rfl rfl rfl)).twin rfl
@[simp] theorem soloStates_md (s : State) : (soloStates s).md = s.md :=
  (sameBut_of_outside (outside_soloStates (mm := { rc := true, per := true, eng := true, tier := true, cs := true, nand := true, fix := true, cp := true, rec_ := true, snap := true, rmq := true, dict := true, freeCtr := true, outbox := true, tenants := true, hosts := true, regions := true, keyTable := true, quotas := true, dir := true, fmap := true, images := true, snaps := true, config := true }) rfl rfl rfl rfl rfl rfl rfl rfl rfl rfl rfl rfl rfl rfl rfl rfl rfl rfl rfl rfl rfl rfl rfl rfl)).md rfl
@[simp] theorem soloStates_standing (s : State) : (soloStates s).per.live.standing = s.per.live.standing :=
  (sameBut_of_outside (outside_soloStates (mm := { rc := true, per := true, eng := true, tier := true, cs := true, nand := true, fix := true, cp := true, rec_ := true, snap := true, rmq := true, dict := true, freeCtr := true, outbox := true, tenants := true, hosts := true, regions := true, keyTable := true, quotas := true, dir := true, fmap := true, images := true, snaps := true, config := true }) rfl rfl rfl rfl rfl rfl rfl rfl rfl rfl rfl rfl rfl rfl rfl rfl rfl rfl rfl rfl rfl rfl rfl rfl)).standing rfl
@[simp] theorem soloStates_twin (s : State) : (soloStates s).cp.twin = s.cp.twin :=
  (sameBut_of_outside (outside_soloStates (mm := { rc := true, per := true, eng := true, tier := true, cs := true, nand := true, fix := true, cp := true, rec_ := true, snap := true, rmq := true, dict := true, freeCtr := true, outbox := true, tenants := true, hosts := true, regions := true, keyTable := true, quotas := true, dir := true, fmap := true, images := true, snaps := true, config := true }) rfl rfl rfl rfl rfl rfl rfl rfl rfl rfl rfl rfl rfl rfl rfl rfl rfl rfl rfl rfl rfl rfl rfl rfl)).twin rfl
@[simp] theorem dropTwinPlaces_md (s : State) : (dropTwinPlaces s).md = s.md :=
  (sameBut_of_outside (outside_dropTwinPlaces (mm := { per := true, tier := true, cp := true, dict := true, quotas := true, dir := true }) rfl rfl rfl rfl rfl rfl)).md rfl
@[simp] theorem dropTwinPlaces_standing (s : State) : (dropTwinPlaces s).per.live.standing = s.per.live.standing :=
  (sameBut_of_outside (outside_dropTwinPlaces (mm := { per := true, tier := true, cp := true, dict := true, quotas := true, dir := true }) rfl rfl rfl rfl rfl rfl)).standing rfl
@[simp] theorem dropTwinPlaces_twin (s : State) : (dropTwinPlaces s).cp.twin = s.cp.twin :=
  (sameBut_of_outside (outside_dropTwinPlaces (mm := { per := true, tier := true, cp := true, dict := true, quotas := true, dir := true }) rfl rfl rfl rfl rfl rfl)).twin rfl
@[simp] theorem dropWaiting_md (s : State) : (dropWaiting s).md = s.md :=
  (sameBut_of_outside (outside_dropWaiting (mm := { host := true }) rfl)).md rfl
@[simp] theorem linkLost_keys (s : State) : (linkLost s).keys = s.keys :=
  (sameBut_of_outside (outside_linkLost (mm := { host := true, rc := true, per := true, eng := true, tier := true, cs := true, dram := true, nand := true, fix := true, cp := true, rec_ := true, snap := true, md := true, fieth := true, pres := true, rmq := true, rst := true, dict := true, freeCtr := true, outbox := true, tenants := true, hosts := true, regions := true, keyTable := true, quotas := true, dir := true, fmap := true, groups := true, images := true, snaps := true, standing := true, mem := true, media := true, plates := true, twin := true, mode := true, phase := true, config := true }) rfl rfl rfl rfl rfl rfl rfl rfl rfl rfl rfl rfl rfl rfl rfl rfl rfl rfl rfl rfl rfl rfl rfl rfl rfl rfl rfl rfl rfl rfl rfl rfl rfl rfl rfl rfl rfl rfl)).keys rfl
@[simp] theorem closePassGroups_fix (s : State) : (closePassGroups s).fix = s.fix :=
  (sameBut_of_outside (outside_closePassGroups (mm := { per := true, groups := true }) rfl rfl)).fix rfl
@[simp] theorem closePassGroups_cp (s : State) : (closePassGroups s).cp = s.cp :=
  (sameBut_of_outside (outside_closePassGroups (mm := { per := true, groups := true }) rfl rfl)).cp rfl
@[simp] theorem closePassGroups_rec_ (s : State) : (closePassGroups s).rec_ = s.rec_ :=
  (sameBut_of_outside (outside_closePassGroups (mm := { per := true, groups := true }) rfl rfl)).rec_ rfl
@[simp] theorem holdupCheck_fix (s : State) : (holdupCheck s).fix = s.fix :=
  (sameBut_of_outside (outside_holdupCheck (mm := { per := true, nand := true, cp := true, md := true, pres := true, rmq := true, dict := true, freeCtr := true, fmap := true, groups := true, media := true, twin := true, mode := true }) rfl rfl rfl rfl rfl rfl rfl rfl rfl rfl rfl rfl rfl)).fix rfl
@[simp] theorem holdupCheck_rst (s : State) : (holdupCheck s).rst = s.rst :=
  (sameBut_of_outside (outside_holdupCheck (mm := { per := true, nand := true, cp := true, md := true, pres := true, rmq := true, dict := true, freeCtr := true, fmap := true, groups := true, media := true, twin := true, mode := true }) rfl rfl rfl rfl rfl rfl rfl rfl rfl rfl rfl rfl rfl)).rst rfl
theorem holdupCheck_config (s : State) {k : Nat} (hk : isConfig k = true) : dget (holdupCheck s) k = dget s k :=
  (sameBut_of_outside (outside_holdupCheck (mm := { per := true, nand := true, cp := true, md := true, pres := true, rmq := true, dict := true, freeCtr := true, fmap := true, groups := true, media := true, twin := true, mode := true }) rfl rfl rfl rfl rfl rfl rfl rfl rfl rfl rfl rfl rfl)).config rfl k hk
theorem budgetChanged_config (s : State) {k : Nat} (hk : isConfig k = true) : dget (budgetChanged s) k = dget s k :=
  (sameBut_of_outside (outside_budgetChanged (mm := { per := true, nand := true, cp := true, md := true, pres := true, rmq := true, dict := true, freeCtr := true, fmap := true, groups := true, media := true, twin := true, mode := true }) rfl rfl rfl rfl rfl rfl rfl rfl rfl rfl rfl rfl rfl)).config rfl k hk
@[simp] theorem stopDies_fix (s : State) : (stopDies s).fix = s.fix :=
  (sameBut_of_outside (outside_stopDies (mm := { nand := true }) rfl)).fix rfl
@[simp] theorem abandonMoves_fix (s : State) : (abandonMoves s).fix = s.fix :=
  (sameBut_of_outside (outside_abandonMoves (mm := { per := true, tier := true, cs := true, dict := true, dir := true }) rfl rfl rfl rfl rfl)).fix rfl
@[simp] theorem reportHeld_host (half : Nat) (s : State) : (reportHeld half s).host = s.host :=
  (sameBut_of_outside (outside_reportHeld (mm := { cp := true, outbox := true }) rfl rfl)).host rfl
@[simp] theorem reportHeld_per (half : Nat) (s : State) : (reportHeld half s).per = s.per :=
  (sameBut_of_outside (outside_reportHeld (mm := { cp := true, outbox := true }) rfl rfl)).per rfl
@[simp] theorem reportHeld_eng (half : Nat) (s : State) : (reportHeld half s).eng = s.eng :=
  (sameBut_of_outside (outside_reportHeld (mm := { cp := true, outbox := true }) rfl rfl)).eng rfl
@[simp] theorem reportHeld_cs (half : Nat) (s : State) : (reportHeld half s).cs = s.cs :=
  (sameBut_of_outside (outside_reportHeld (mm := { cp := true, outbox := true }) rfl rfl)).cs rfl
@[simp] theorem reportHeld_dram (half : Nat) (s : State) : (reportHeld half s).dram = s.dram :=
  (sameBut_of_outside (outside_reportHeld (mm := { cp := true, outbox := true }) rfl rfl)).dram rfl
@[simp] theorem reportHeld_snap (half : Nat) (s : State) : (reportHeld half s).snap = s.snap :=
  (sameBut_of_outside (outside_reportHeld (mm := { cp := true, outbox := true }) rfl rfl)).snap rfl
@[simp] theorem reportHeld_md (half : Nat) (s : State) : (reportHeld half s).md = s.md :=
  (sameBut_of_outside (outside_reportHeld (mm := { cp := true, outbox := true }) rfl rfl)).md rfl
@[simp] theorem reportHeld_twin (half : Nat) (s : State) : (reportHeld half s).cp.twin = s.cp.twin :=
  (sameBut_of_outside (outside_reportHeld (mm := { cp := true, outbox := true }) rfl rfl)).twin rfl
@[simp] theorem copyPage_per (tpn : Nat) (s : State) : (copyPage tpn s).per = s.per :=
  (sameBut_of_outside (outside_copyPage (mm := { cp := true, dict := true }) rfl rfl)).per rfl
@[simp] theorem imageStep_host (s : State) : (imageStep s).host = s.host :=
  (sameBut_of_outside (outside_imageStep (mm := { fix := true, cp := true, rec_ := true, snap := true, dict := true }) rfl rfl rfl rfl rfl)).host rfl
@[simp] theorem imageStep_cs (s : State) : (imageStep s).cs = s.cs :=
  (sameBut_of_outside (outside_imageStep (mm := { fix := true, cp := true, rec_ := true, snap := true, dict := true }) rfl rfl rfl rfl rfl)).cs rfl
@[simp] theorem mirrorPut_host (line : Nat) (f : Mem → Mem) (clean : Bool) (s : State) : (mirrorPut line f clean s).host = s.host :=
  (sameBut_of_outside (outside_mirrorPut (mm := { per := true, cs := true, dram := true, nand := true, fix := true, cp := true, snap := true, rmq := true, dict := true, quotas := true, dir := true, snaps := true, mem := true }) rfl rfl rfl rfl rfl rfl rfl rfl rfl rfl rfl rfl rfl)).host rfl
@[simp] theorem unDiscard_host (tpn : Nat) (s : State) : (unDiscard tpn s).host = s.host :=
  (sameBut_of_outside (outside_unDiscard (mm := { cp := true }) rfl)).host rfl
@[simp] theorem shadowApplied_cs (qpn psn : Nat) (result : Option Nat) (s : State) : (shadowApplied qpn psn result s).cs = s.cs :=
  (sameBut_of_outside (outside_shadowApplied (mm := { rc := true }) rfl)).cs rfl
@[simp] theorem mirrorEntry_cs (t : Token) (v : RespVal) (s : State) : (mirrorEntry t v s).cs = s.cs :=
  (sameBut_of_outside (outside_mirrorEntry (mm := { host := true, replay := true }) rfl rfl)).cs rfl
@[simp] theorem resultHere_cs (host seq prior : Nat) (s : State) : (resultHere host seq prior s).cs = s.cs :=
  (sameBut_of_outside (outside_resultHere (mm := { host := true }) rfl)).cs rfl
@[simp] theorem resultHere_replay (host seq prior : Nat) (s : State) : (resultHere host seq prior s).host.replay = s.host.replay :=
  (sameBut_of_outside (outside_resultHere (mm := { host := true }) rfl)).replay rfl
@[simp] theorem readAhead_cp (tpn : Nat) (s : State) : (readAhead tpn s).cp = s.cp :=
  (sameBut_of_outside (outside_readAhead (mm := { rec_ := true }) rfl)).cp rfl
@[simp] theorem openAdmission_keys (s : State) : (openAdmission s).keys = s.keys :=
  (sameBut_of_outside (outside_openAdmission (mm := { host := true, rc := true, per := true, eng := true, tier := true, cs := true, dram := true, nand := true, fix := true, cp := true, rec_ := true, snap := true, md := true, fieth := true, pres := true, rmq := true, dict := true, freeCtr := true, outbox := true, tenants := true, hosts := true, regions := true, keyTable := true, quotas := true, dir := true, fmap := true, groups := true, images := true, snaps := true, standing := true, mem := true, media := true, plates := true, twin := true, mode := true, config := true }) rfl rfl rfl rfl rfl rfl rfl rfl rfl rfl rfl rfl rfl rfl rfl rfl rfl rfl rfl rfl rfl rfl rfl rfl rfl rfl rfl rfl rfl rfl rfl rfl rfl rfl rfl rfl)).keys rfl
@[simp] theorem failPorts_rst (ports : List Nat) (s : State) : (failPorts ports s).rst = s.rst :=
  (sameBut_of_outside (outside_failPorts (mm := { host := true, rc := true, md := true, ports := true, pres := true, rmq := true, dict := true, freeCtr := true }) rfl rfl rfl rfl rfl rfl rfl rfl)).rst rfl
@[simp] theorem sendEvents_rmq (r : Rcd) (s : State) : (sendEvents r s).rmq = s.rmq :=
  (sameBut_of_outside (outside_sendEvents (mm := { fieth := true, dict := true, outbox := true }) rfl rfl rfl)).rmq rfl
@[simp] theorem putRecord_rec_ (d : Draft) (s : State) : (putRecord d s).rec_ = s.rec_ :=
  (sameBut_of_outside (outside_putRecord (mm := { fieth := true, rmq := true, dict := true, outbox := true, ring := true }) rfl rfl rfl rfl rfl)).rec_ rfl
@[simp] theorem putRecord_md (d : Draft) (s : State) : (putRecord d s).md = s.md :=
  (sameBut_of_outside (outside_putRecord (mm := { fieth := true, rmq := true, dict := true, outbox := true, ring := true }) rfl rfl rfl rfl rfl)).md rfl
@[simp] theorem putRecord_keys (d : Draft) (s : State) : (putRecord d s).keys = s.keys :=
  (sameBut_of_outside (outside_putRecord (mm := { fieth := true, rmq := true, dict := true, outbox := true, ring := true }) rfl rfl rfl rfl rfl)).keys rfl
@[simp] theorem putRecord_rtc (d : Draft) (s : State) : (putRecord d s).rtc = s.rtc :=
  (sameBut_of_outside (outside_putRecord (mm := { fieth := true, rmq := true, dict := true, outbox := true, ring := true }) rfl rfl rfl rfl rfl)).rtc rfl
@[simp] theorem flushRecords_keys (sealed : Bool) (s0 : State) : (flushRecords sealed s0).keys = s0.keys :=
  (sameBut_of_outside (outside_flushRecords (mm := { fieth := true, rmq := true, dict := true, freeCtr := true, outbox := true, ring := true }) rfl rfl rfl rfl rfl rfl)).keys rfl
@[simp] theorem claimUe_dict (client : Nat) (s : State) : (claimUe client s).dict = s.dict :=
  (sameBut_of_outside (outside_claimUe (mm := { keys := true }) rfl)).dict rfl
@[simp] theorem enterRecall_rst (s : State) : (enterRecall s).rst = s.rst :=
  (sameBut_of_outside (outside_enterRecall (mm := { per := true, nand := true, cp := true, md := true, pres := true, rmq := true, dict := true, freeCtr := true, fmap := true, groups := true, media := true, incFuses := true, mode := true }) rfl rfl rfl rfl rfl rfl rfl rfl rfl rfl rfl rfl rfl)).rst rfl
@[simp] theorem resetSlices_host (power : Bool) (s : State) : (resetSlices power s).host = s.host :=
  (sameBut_of_outside (outside_resetSlices (mm := { cs := true }) rfl)).host rfl
@[simp] theorem resetSlices_rc (power : Bool) (s : State) : (resetSlices power s).rc = s.rc :=
  (sameBut_of_outside (outside_resetSlices (mm := { cs := true }) rfl)).rc rfl
@[simp] theorem resetDram_host (power : Bool) (s : State) : (resetDram power s).host = s.host :=
  (sameBut_of_outside (outside_resetDram (mm := { dram := true, mem := true }) rfl rfl)).host rfl
@[simp] theorem resetDram_rc (power : Bool) (s : State) : (resetDram power s).rc = s.rc :=
  (sameBut_of_outside (outside_resetDram (mm := { dram := true, mem := true }) rfl rfl)).rc rfl
@[simp] theorem resetNand_host (power : Bool) (s : State) : (resetNand power s).host = s.host :=
  (sameBut_of_outside (outside_resetNand (mm := { nand := true, fix := true }) rfl rfl)).host rfl
@[simp] theorem resetNand_rc (power : Bool) (s : State) : (resetNand power s).rc = s.rc :=
  (sameBut_of_outside (outside_resetNand (mm := { nand := true, fix := true }) rfl rfl)).rc rfl
@[simp] theorem resetEngines_host (s : State) : (resetEngines s).host = s.host :=
  (sameBut_of_outside (outside_resetEngines (mm := { per := true, eng := true, tier := true, cs := true, fix := true, snap := true, dict := true, dir := true }) rfl rfl rfl rfl rfl rfl rfl rfl)).host rfl
@[simp] theorem resetEngines_rc (s : State) : (resetEngines s).rc = s.rc :=
  (sameBut_of_outside (outside_resetEngines (mm := { per := true, eng := true, tier := true, cs := true, fix := true, snap := true, dict := true, dir := true }) rfl rfl rfl rfl rfl rfl rfl rfl)).rc rfl
@[simp] theorem resetTwin_host (s : State) : (resetTwin s).host = s.host :=
  (sameBut_of_outside (outside_resetTwin (mm := { cp := true, twin := true }) rfl rfl)).host rfl
@[simp] theorem resetTwin_rc (s : State) : (resetTwin s).rc = s.rc :=
  (sameBut_of_outside (outside_resetTwin (mm := { cp := true, twin := true }) rfl rfl)).rc rfl
@[simp] theorem resetRecall_host (power : Bool) (s : State) : (resetRecall power s).host = s.host :=
  (sameBut_of_outside (outside_resetRecall (mm := { rec_ := true }) rfl)).host rfl
@[simp] theorem resetRecall_rc (power : Bool) (s : State) : (resetRecall power s).rc = s.rc :=
  (sameBut_of_outside (outside_resetRecall (mm := { rec_ := true }) rfl)).rc rfl
@[simp] theorem resetPorts_host (s : State) : (resetPorts s).host = s.host :=
  (sameBut_of_outside (outside_resetPorts (mm := { md := true, ports := true }) rfl rfl)).host rfl
@[simp] theorem resetPorts_rc (s : State) : (resetPorts s).rc = s.rc :=
  (sameBut_of_outside (outside_resetPorts (mm := { md := true, ports := true }) rfl rfl)).rc rfl
@[simp] theorem resetKeys_host (power : Bool) (s : State) : (resetKeys power s).host = s.host :=
  (sameBut_of_outside (outside_resetKeys (mm := { keys := true, keySlots := true }) rfl rfl)).host rfl
@[simp] theorem resetKeys_rc (power : Bool) (s : State) : (resetKeys power s).rc = s.rc :=
  (sameBut_of_outside (outside_resetKeys (mm := { keys := true, keySlots := true }) rfl rfl)).rc rfl
@[simp] theorem resetFieth_host (power : Bool) (s : State) : (resetFieth power s).host = s.host :=
  (sameBut_of_outside (outside_resetFieth (mm := { fieth := true }) rfl)).host rfl
@[simp] theorem resetFieth_rc (power : Bool) (s : State) : (resetFieth power s).rc = s.rc :=
  (sameBut_of_outside (outside_resetFieth (mm := { fieth := true }) rfl)).rc rfl
@[simp] theorem resetFieth_rst (power : Bool) (s : State) : (resetFieth power s).rst = s.rst :=
  (sameBut_of_outside (outside_resetFieth (mm := { fieth := true }) rfl)).rst rfl
@[simp] theorem resetRecorder_host (power : Bool) (s : State) : (resetRecorder power s).host = s.host :=
  (sameBut_of_outside (outside_resetRecorder (mm := { rmq := true, ring := true }) rfl rfl)).host rfl
@[simp] theorem resetRecorder_rc (power : Bool) (s : State) : (resetRecorder power s).rc = s.rc :=
  (sameBut_of_outside (outside_resetRecorder (mm := { rmq := true, ring := true }) rfl rfl)).rc rfl
@[simp] theorem resetDictionary_host (power : Bool) (s : State) : (resetDictionary power s).host = s.host :=
  (sameBut_of_outside (outside_resetDictionary (mm := { md := true, dict := true, force := true, config := true }) rfl rfl rfl rfl)).host rfl
@[simp] theorem resetDictionary_rc (power : Bool) (s : State) : (resetDictionary power s).rc = s.rc :=
  (sameBut_of_outside (outside_resetDictionary (mm := { md := true, dict := true, force := true, config := true }) rfl rfl rfl rfl)).rc rfl
@[simp] theorem clearUnits_rst (power : Bool) (s : State) : (clearUnits power s).rst = s.rst :=
  (sameBut_of_outside (outside_clearUnits (mm := { host := true, rc := true, per := true, eng := true, tier := true, cs := true, dram := true, nand := true, fix := true, cp := true, rec_ := true, snap := true, md := true, keys := true, fieth := true, ports := true, pres := true, rmq := true, dict := true, force := true, slots := true, replay := true, dir := true, mem := true, twin := true, keySlots := true, ring := true, config := true }) rfl rfl rfl rfl rfl rfl rfl rfl rfl rfl rfl rfl rfl rfl rfl rfl rfl rfl rfl rfl rfl rfl rfl rfl rfl rfl rfl rfl)).rst rfl
@[simp] theorem clearUnits_window (power : Bool) (s : State) : (clearUnits power s).pres.windowOpen = s.pres.windowOpen :=
  (sameBut_of_outside (outside_clearUnits (mm := { host := true, rc := true, per := true, eng := true, tier := true, cs := true, dram := true, nand := true, fix := true, cp := true, rec_ := true, snap := true, md := true, keys := true, fieth := true, ports := true, pres := true, rmq := true, dict := true, force := true, slots := true, replay := true, dir := true, mem := true, twin := true, keySlots := true, ring := true, config := true }) rfl rfl rfl rfl rfl rfl rfl rfl rfl rfl rfl rfl rfl rfl rfl rfl rfl rfl rfl rfl rfl rfl rfl rfl rfl rfl rfl rfl)).window rfl
@[simp] theorem powerReset_rtc (phase : ResetPhase) (cause causes : Nat) (s : State) : (powerReset phase cause causes s).rtc = s.rtc :=
  (sameBut_of_outside (outside_powerReset (mm := { host := true, rc := true, per := true, eng := true, tier := true, cs := true, dram := true, nand := true, fix := true, cp := true, rec_ := true, snap := true, md := true, keys := true, fieth := true, ports := true, pres := true, rmq := true, rst := true, dict := true, force := true, outbox := true, slots := true, replay := true, tenants := true, hosts := true, regions := true, keyTable := true, quotas := true, dir := true, fmap := true, groups := true, images := true, snaps := true, standing := true, mem := true, twin := true, keySlots := true, window := true, ring := true, phase := true, config := true }) rfl rfl rfl rfl rfl rfl rfl rfl rfl rfl rfl rfl rfl rfl rfl rfl rfl rfl rfl rfl rfl rfl rfl rfl rfl rfl rfl rfl rfl rfl rfl rfl rfl rfl rfl rfl rfl rfl rfl rfl rfl rfl)).rtc rfl
@[simp] theorem burnSeal_rst (s : State) : (burnSeal s).rst = s.rst :=
  (sameBut_of_outside (outside_burnSeal (mm := { pres := true, rmq := true, freeCtr := true, sealFuse := true }) rfl rfl rfl rfl)).rst rfl
@[simp] theorem sealOpening_rst (loop : Nat) (s : State) : (sealOpening loop s).rst = s.rst :=
  (sameBut_of_outside (outside_sealOpening (mm := { pres := true, rmq := true, dict := true, freeCtr := true, sealBroken := true, sealFuse := true }) rfl rfl rfl rfl rfl rfl)).rst rfl
@[simp] theorem loseSlot_rst (n : Nat) (s : State) : (loseSlot n s).rst = s.rst :=
  (sameBut_of_outside (outside_loseSlot (mm := { md := true, keys := true, rmq := true, keySlots := true }) rfl rfl rfl rfl)).rst rfl
@[simp] theorem bump_host (k : Nat) (s : State) : (bump k s).host = s.host := by exact id rfl
@[simp] theorem bump_per (k : Nat) (s : State) : (bump k s).per = s.per := by exact id rfl
@[simp] theorem bump_eng (k : Nat) (s : State) : (bump k s).eng = s.eng := by exact id rfl
@[simp] theorem bump_tier (k : Nat) (s : State) : (bump k s).tier = s.tier := by exact id rfl
@[simp] theorem bump_cs (k : Nat) (s : State) : (bump k s).cs = s.cs := by exact id rfl
@[simp] theorem bump_dram (k : Nat) (s : State) : (bump k s).dram = s.dram := by exact id rfl
@[simp] theorem bump_nand (k : Nat) (s : State) : (bump k s).nand = s.nand := by exact id rfl
@[simp] theorem bump_cp (k : Nat) (s : State) : (bump k s).cp = s.cp := by exact id rfl
@[simp] theorem bump_rec_ (k : Nat) (s : State) : (bump k s).rec_ = s.rec_ := by exact id rfl
@[simp] theorem bump_snap (k : Nat) (s : State) : (bump k s).snap = s.snap := by exact id rfl
@[simp] theorem bump_fieth (k : Nat) (s : State) : (bump k s).fieth = s.fieth := by exact id rfl
@[simp] theorem bump_rmq (k : Nat) (s : State) : (bump k s).rmq = s.rmq := by exact id rfl
@[simp] theorem bump32_per (k : Nat) (s : State) : (bump32 k s).per = s.per := by exact id rfl
@[simp] theorem bump32_dram (k : Nat) (s : State) : (bump32 k s).dram = s.dram := by exact id rfl
@[simp] theorem bump32_fix (k : Nat) (s : State) : (bump32 k s).fix = s.fix := by exact id rfl
@[simp] theorem bump32_cp (k : Nat) (s : State) : (bump32 k s).cp = s.cp := by exact id rfl
@[simp] theorem bump32_md (k : Nat) (s : State) : (bump32 k s).md = s.md := by exact id rfl
@[simp] theorem bump32_keys (k : Nat) (s : State) : (bump32 k s).keys = s.keys := by exact id rfl
@[simp] theorem bump32_ports (k : Nat) (s : State) : (bump32 k s).ports = s.ports := by exact id rfl
@[simp] theorem bump32_pres (k : Nat) (s : State) : (bump32 k s).pres = s.pres := by exact id rfl
@[simp] theorem bump32_rmq (k : Nat) (s : State) : (bump32 k s).rmq = s.rmq := by exact id rfl
@[simp] theorem bump32_rst (k : Nat) (s : State) : (bump32 k s).rst = s.rst := by exact id rfl
@[simp] theorem bump32_freeCtr (k : Nat) (s : State) : (bump32 k s).freeCtr = s.freeCtr := by exact id rfl
@[simp] theorem bump16_cs (k : Nat) (s : State) : (bump16 k s).cs = s.cs := by exact id rfl
@[simp] theorem bumpBy_rec_ (k n : Nat) (s : State) : (bumpBy k n s).rec_ = s.rec_ := by exact id rfl
@[simp] theorem bumpBy_fieth (k n : Nat) (s : State) : (bumpBy k n s).fieth = s.fieth := by exact id rfl
@[simp] theorem keepBlock_per (k v : Nat) (s : State) : (keepBlock k v s).per = s.per := by exact id rfl
@[simp] theorem keepBlock_eng (k v : Nat) (s : State) : (keepBlock k v s).eng = s.eng := by exact id rfl
@[simp] theorem keepBlock_cs (k v : Nat) (s : State) : (keepBlock k v s).cs = s.cs := by exact id rfl
@[simp] theorem keepBlock_cp (k v : Nat) (s : State) : (keepBlock k v s).cp = s.cp := by exact id rfl
@[simp] theorem keepBlock_rec_ (k v : Nat) (s : State) : (keepBlock k v s).rec_ = s.rec_ := by exact id rfl
@[simp] theorem keepBlock_snap (k v : Nat) (s : State) : (keepBlock k v s).snap = s.snap := by exact id rfl
@[simp] theorem keepBlock_md (k v : Nat) (s : State) : (keepBlock k v s).md = s.md := by exact id rfl
@[simp] theorem keepBlock_pres (k v : Nat) (s : State) : (keepBlock k v s).pres = s.pres := by exact id rfl
@[simp] theorem keepBlock_rtc (k v : Nat) (s : State) : (keepBlock k v s).rtc = s.rtc := by exact id rfl

end Sys2Proof.Machine
end

section
namespace Sys2Proof.Machine

/-! ## Completion -/

/-- A command completes where the next state its meaning answers is one that meets the postcondition. -/
theorem completes_of_eq {c : Instr} {s u t : State} {post : State → Prop} (hc : exec c s = .next u) (hu : u = t) (hp : post t) :
    Completes c s post := ⟨t, hc.trans (congrArg Host.Outcome.next hu), hp⟩
theorem completes_of_next {c : Instr} {s t : State} {post : State → Prop} (hc : exec c s = .next t) (hp : post t) :
    Completes c s post := ⟨t, hc, hp⟩

/-! ## Records (R472) -/

/-- A record posted at a state that keeps the recorder, the clock and the incarnation is posted. -/
theorem post_rmq_of_hasCredit {type sev inst : Nat} {detail : Bytes} {u : State} (credit : HasCredit u type inst) :
    (post type sev inst detail u).rmq = { u.rmq with waiting := u.rmq.waiting ++
      [⟨type * 65536 + inst, u.rtc, type, sev, inst, u.pres.injecting, false, false, incarnation u, detail⟩] } := by
  simp [post, postAs, credit]
theorem posted_of_rmq {s u t : State} {type sev inst : Nat} {detail : Bytes} (hw : u.rmq = s.rmq) (hc : u.rtc = s.rtc)
    (h : t.rmq = (post type sev inst detail u).rmq) : Posted s t type sev inst detail := by
  intro credit
  rw [HasCredit, ← hw] at credit
  rw [h, post_rmq_of_hasCredit credit]
  exact ⟨_, List.mem_append_right _ (List.mem_singleton_self _), rfl, rfl, rfl, rfl, hc⟩

/-! ## Writers of the dictionary (R411, R436) -/

theorem dictGuard_of_serves {s : State} (h : Serves s) (idx sub : Nat) {presence : Bool} (hp : presence = true → s.pres.windowOpen = true)
    (f : State → State) : dictGuard idx sub presence f s = f s := by
  obtain ⟨silent, boot⟩ := h
  cases presence with
  | false => simp [dictGuard, silent, boot]
  | true => simp [dictGuard, silent, boot, hp rfl]
theorem serviceOnly_of_servesInService {s : State} (h : ServesInService s) (idx sub : Nat) (f : State → State) :
    serviceOnly idx sub f s = f s := by
  unfold serviceOnly
  rw [dictGuard_of_serves h.1 idx sub (by simp), if_neg (not_not_intro h.2)]

/-- The three counters that an answer on a channel may count. -/
theorem dget_sendAbort_ne {ch tag idx sub code k : Nat} {s : State} (h : k ≠ 0x701d03) :
    dget (sendAbort ch tag idx sub code s) k = dget s k := by
  unfold sendAbort
  rw [dget_of_dict (fiethSend_dict ..), dget_bump_ne _ _ _ h]
theorem dget_sendOutcome_ne {ch k : Nat} {x : FHead} {o : FOutcome} {s : State} (h : k ≠ 0x701d03) :
    dget (sendOutcome ch x o s) k = dget s k := by
  unfold sendOutcome
  split
  · exact dget_sendAbort_ne h
  · exact dget_of_dict (fiethSend_dict ..) k
theorem dget_foldl_sendOutcome_ne {k : Nat} {x : FHead} {o : FOutcome} (h : k ≠ 0x701d03) (l : List Nat) (s : State) :
    dget (l.foldl (fun a ch => sendOutcome ch x o a) s) k = dget s k := by
  induction l generalizing s with
  | nil => rfl
  | cons ch l ih => rw [List.foldl_cons, ih, dget_sendOutcome_ne h]
theorem dget_dictAnswer_ne {idx sub k : Nat} {o : FOutcome} {s : State} (h : k < 0x701d01 ∨ 0x701d03 < k) :
    dget (dictAnswer idx sub o s) k = dget s k := by
  unfold dictAnswer
  split
  · rfl
  · dsimp only
    rw [dget_bumpBy_ne _ _ _ _ (by omega), dget_bump_ne _ _ _ (by omega), dget_foldl_sendOutcome_ne (by omega)]
    rfl
theorem dget_dictDone_ne {idx sub k : Nat} {s : State} (h : k < 0x701d01 ∨ 0x701d03 < k) :
    dget (dictDone idx sub s) k = dget s k := dget_dictAnswer_ne h

/-! ## Disarming (R469) -/

theorem disarm_pres (cause : Nat) (a : Armed) (s : State) :
    (disarm cause a s).pres = { s.pres with armed := s.pres.armed.filter (fun b => !samePoint a b) } :=
  injectionRecord_pres ..
/-- Disarming the points of a list leaves the points that none of them names. -/
theorem foldl_disarm_pres (cause : Nat) (l : List Armed) (s : State) :
    (l.foldl (fun s a => disarm cause a s) s).pres =
      { s.pres with armed := s.pres.armed.filter (fun b => !l.any (fun a => samePoint a b)) } := by
  induction l generalizing s with
  | nil =>
    have all_left : s.pres.armed.filter (fun b => !([] : List Armed).any (fun a => samePoint a b)) = s.pres.armed :=
      List.filter_eq_self.mpr fun _ _ => rfl
    exact congrArg (fun l => { s.pres with armed := l }) all_left.symm
  | cons a l ih => rw [List.foldl_cons, ih, disarm_pres]; simp [List.filter_filter, Bool.and_comm]
theorem samePoint_self (a : Armed) : samePoint a a = true := by simp [samePoint]
theorem samePoint_iff (a b : Armed) : samePoint a b = true ↔ a.point = b.point ∧ a.inst = b.inst ∧ a.variant = b.variant := by
  simp [samePoint, and_assoc]
theorem disarmAll_pres (cause : Nat) (s : State) : (disarmAll cause s).pres = { s.pres with armed := [] } := by
  have none_left : s.pres.armed.filter (fun b => !s.pres.armed.any (fun a => samePoint a b)) = [] := by
    rw [List.filter_eq_nil_iff]
    intro b hb
    simp only [Bool.not_eq_true', Bool.not_eq_false, List.any_eq_true]
    exact ⟨b, hb, samePoint_self b⟩
  rw [disarmAll, foldl_disarm_pres, none_left]

end Sys2Proof.Machine
end

section
namespace Sys2Proof.Machine

/-! ## The presence window (R457–R459) -/

theorem doPresenceOpen_of_ready {s : State} (stuck : s.pres.stuck = false) (off : s.rst.phase ≠ .off)
    (on : s.rst.phase ≠ .powerOn) :
    doPresenceOpen s = bump32 0x701e01 (post 0x0701 0 0 (leBytes 1 (dget s 0x510002) ++ leBytes 1 (b2n s.pres.windowOpen))
      (updPres (fun p => { p with windowOpen := true, pressed := true, closesAt := (s.rtc + dget s 0x510002 * 60000) % 2 ^ 32 }) s)) := by
  simp [doPresenceOpen, stuck, off, on]
theorem closeWindow_pres (s : State) (h : s.pres.windowOpen = true) :
    (closeWindow s).pres = { s.pres with windowOpen := false, closesAt := 0, armed := [] } := by
  rw [closeWindow, h, if_neg (by simp), disarmAll_pres, updPres_pres]

/-- Settles O19. -/
theorem presenceWindowCommands : Obligations.PresenceWindowCommands := by
  refine ⟨?opens, ?stuck, ?released, ?elapses, ?closed⟩
  case opens =>
    intro s stuck off on
    refine completes_of_eq rfl (doPresenceOpen_of_ready stuck off on) ⟨?_, ?_, ?_, ?_⟩
    · simp
    · simp
    · rw [dget_bump32_self, dget_of_dict (post_dict ..)]; rfl
    · exact posted_of_rmq (u := updPres _ s) rfl rfl rfl
  case stuck =>
    intro s stuck
    refine completes_of_eq rfl (if_neg (by simp [stuck])) ⟨?_, ?_⟩
    · simp
    · exact posted_of_rmq (u := updPres _ s) rfl rfl rfl
  case released => exact fun s => ⟨_, rfl, rfl⟩
  case elapses =>
    intro s isOpen
    refine completes_of_next rfl ?_
    rw [doPresenceWindowExpire, closeWindow_pres s isOpen]
    exact ⟨rfl, rfl⟩
  case closed =>
    intro s serves isOpen
    refine completes_of_eq rfl (dictGuard_of_serves serves _ _ (by simp) _) ?_
    rw [closeWindow_pres _ (by simpa using isOpen)]
    exact ⟨rfl, rfl⟩

end Sys2Proof.Machine
end
section
namespace Sys2Proof.Machine

/-! ## Injection commands (R450, R468, R469) -/



/-- What an injection command runs on where it is taken: the state with the status, its answer and the block. -/
def commandTaken (block status : Nat) (s : State) : State :=
  keepBlock 0x520001 block (dictDone 0x5200 1 (dset 0x520002 status s))
theorem commandTaken_pres (block status : Nat) (s : State) : (commandTaken block status s).pres = s.pres := by
  simp [commandTaken]
theorem dget_commandTaken_status (block status : Nat) (s : State) : dget (commandTaken block status s) 0x520002 = status := by
  rw [commandTaken, keepBlock, dget_dset_ne _ _ _ _ (by decide), dget_dictDone_ne (by decide), dget_dset_self]
theorem injectionCommand_of_ok {block : Nat} {status : State → Nat} {run : State → State} {s : State} (h : ServesPresent s)
    (ok : status s = 0) : injectionCommand block status run s = run (commandTaken block 0 s) := by
  obtain ⟨serves, isOpen⟩ := h
  rw [injectionCommand, serviceOnly_of_servesInService serves, dictGuard_of_serves serves.1 _ _ (fun _ => isOpen)]
  simp only [ok, if_true]
  rfl

/-- A detector point is armed and waits for its event. -/
theorem detectorArm_eq {a : Armed} (h : firesAtArming a.point = false) (s : State) :
    arm a s = injectionRecord a 1 0
      (updPres (fun p => { p with armed := p.armed.filter (fun b => !samePoint a b) ++ [a] }) s) := by
  simp [arm, h]
theorem armed_arm {a : Armed} (h : firesAtArming a.point = false) (s : State) :
    (arm a s).pres.armed = s.pres.armed.filter (fun b => !samePoint a b) ++ [a] := by
  rw [detectorArm_eq h, injectionRecord_pres, updPres_pres]
theorem dget_arm {a : Armed} (h : firesAtArming a.point = false) (s : State) (k : Nat) : dget (arm a s) k = dget s k := by
  rw [detectorArm_eq h]
  exact dget_of_dict (injectionRecord_dict ..) k
/-- An arming command that is in order leaves its point armed beside the others, and its status 0. -/
theorem arming_completes {c : Instr} {a : Armed} {block : Nat} {status : State → Nat} {s : State}
    (hc : exec c s = .next (injectionCommand block status (arm a) s)) (h : ServesPresent s) (ok : status s = 0)
    (detector : firesAtArming a.point = false) :
    Completes c s (fun t => t.pres.armed = s.pres.armed.filter (fun b => !samePoint a b) ++ [a] ∧ dget t 0x520002 = 0) := by
  refine completes_of_next hc ?_
  rw [injectionCommand_of_ok h ok, armed_arm detector, dget_arm detector, commandTaken_pres]
  exact ⟨rfl, dget_commandTaken_status ..⟩

theorem dget_foldl_disarm (cause : Nat) (l : List Armed) (s : State) (k : Nat) :
    dget (l.foldl (fun s a => disarm cause a s) s) k = dget s k := by
  induction l generalizing s with
  | nil => rfl
  | cons a l ih => rw [List.foldl_cons, ih]; exact dget_of_dict (disarm_dict ..) k
/-- What the entries that name a point name is that point: disarming them leaves the entries that name another. -/
theorem filter_not_any_samePoint (a : Armed) (l : List Armed) :
    l.filter (fun b => !(l.filter (samePoint a)).any (fun e => samePoint e b)) = l.filter (fun b => !samePoint a b) := by
  refine List.filter_congr (fun b hb => ?_)
  congr 1
  rw [Bool.eq_iff_iff, List.any_eq_true]
  constructor
  · rintro ⟨e, he, heb⟩
    have hae := (List.mem_filter.mp he).2
    rw [samePoint_iff] at hae heb ⊢
    exact ⟨hae.1.trans heb.1, hae.2.1.trans heb.2.1, hae.2.2.trans heb.2.2⟩
  · exact fun hab => ⟨b, List.mem_filter.mpr ⟨hb, hab⟩, samePoint_self b⟩

theorem doDisarmPoint_of_armed {point inst variant : Nat} {s : State} (h : ServesPresent s)
    (isArmed : s.pres.armed.any (samePoint ⟨false, point, inst, variant, 0, 0, 0, true⟩) = true) (low : 1 ≤ variant)
    (high : variant ≤ variantsOf point) :
    ∃ block, doDisarmPoint point inst variant s =
      (s.pres.armed.filter (samePoint ⟨false, point, inst, variant, 0, 0, 0, true⟩)).foldl (fun s a => disarm 3 a s)
        (commandTaken block 0 s) := by
  unfold doDisarmPoint
  refine ⟨_, (injectionCommand_of_ok h ?_).trans (by rw [commandTaken_pres]; rfl)⟩
  have unassigned : variantsOf point ≠ 0 := by omega
  have first : variant ≠ 0 := by omega
  simp [unassigned, first, Nat.not_lt.mpr high, isArmed]

/-- Settles O21. -/
theorem injectionCommands : Obligations.InjectionCommands := by
  refine ⟨?once, ?repeated, ?one, ?every, ?interval⟩
  case once => exact fun point inst variant s h ok detector => arming_completes rfl h ok detector
  case repeated =>
    intro point inst variant count interval s h low high ok detector
    refine arming_completes rfl h ?_ detector
    rw [decide_eq_true low, decide_eq_true high]
    exact ok
  case one =>
    intro point inst variant s h isArmed low high
    obtain ⟨block, run⟩ := doDisarmPoint_of_armed h isArmed low high
    refine completes_of_eq rfl run ?_
    simp only [foldl_disarm_pres, dget_foldl_disarm, commandTaken_pres, dget_commandTaken_status,
      filter_not_any_samePoint, and_self]
  case every =>
    intro s h
    refine completes_of_eq (u := injectionCommand _ _ _ s) rfl (injectionCommand_of_ok h rfl) ?_
    rw [disarmAll_pres, disarmAll, dget_foldl_disarm]
    exact ⟨rfl, dget_commandTaken_status ..⟩
  case interval =>
    intro point inst variant s waits detector
    refine completes_of_eq rfl (if_pos waits) ?_
    rw [if_neg (by simp [detector])]
    rfl

end Sys2Proof.Machine
end

section
namespace Sys2Proof.Machine

/-! ## Lines written to their homes (R177, R182) -/

/-- The byte memory after a line is written to a DRAM frame whose zero flag is clear. -/
theorem homeWrite_mem_of_dram {line f : Nat} {s : State} (home : (dirOf s (lineTpn line)).home = .dram f)
    (zero : (dirOf s (lineTpn line)).zero = false) (data : Mem) :
    (homeWrite line data s).dram.mem = mpaste s.dram.mem (frameAddr f + lineIdx line * 128) 128 data := by
  simp only [homeWrite, home, zero]
  rfl

/-- The end of a line's write: it leaves the buffer, is written to its home and ends the maintenance that waits for it. -/
theorem doDramWriteDone_of_not_inNand {slice : Fin 14} {w : WriteBack} {s : State} (wbs : (sliceOf s slice).wbs = [w])
    (home : inNand (dirOf s (lineTpn w.line)) = false) :
    doDramWriteDone slice w.line s =
      when_ (w.kill && decide (s.cs.maintLine = some w.line))
        (fun a => updCs (fun c => { c with maintLine := none }) (dset 0x310202 0 a))
        (homeWrite w.line w.data
          (setSlice slice (fun x => { x with wbs := dropFirst (fun y => y.line = w.line) x.wbs }) s)) := by
  have found : [w].find? (fun v => decide (v.line = w.line)) = some w := by simp
  simp only [doDramWriteDone, wbs, found]
  cases h : (dirOf s (lineTpn w.line)).home with
  | nand set lpn => rw [inNand, h] at home; cases home
  | dram f => rfl
  | none => rfl

/-- Settles O17. -/
theorem writeBackStoresItsLine : Obligations.WriteBackStoresItsLine := by
  intro slice w f s wbs home zero wfMem wfData
  refine completes_of_eq rfl (doDramWriteDone_of_not_inNand wbs (by rw [inNand, home])) (fun a => ?_)
  have mem (b : Bool) (u : State) : (when_ b (fun a => updCs (fun c => { c with maintLine := none }) (dset 0x310202 0 a)) u).dram
      = u.dram := by cases b <;> rfl
  rw [mem, homeWrite_mem_of_dram (s := setSlice slice _ s) home zero]
  exact mget_mpaste wfMem wfData ..

end Sys2Proof.Machine
end

section
namespace Sys2Proof.Machine

/-! ## The ring of the recorder (R472–R474) -/

theorem tput_map_snd {α β : Type} (f : α → β) (t : Tbl α) (i : Nat) (v : α) :
    (tput t i v).map (fun p => (p.1, f p.2)) = tput (t.map (fun p => (p.1, f p.2))) i (f v) := by
  induction t with
  | nil => rfl
  | cons p t ih =>
    simp only [tput, List.map_cons]
    split
    · rfl
    · split
      · rfl
      · rw [List.map_cons, ih]

theorem dget_sendEvent_ne {n k : Nat} {r : Rcd} {s : State} (h : k ≠ 0x701d06) : dget (sendEvent n r s) k = dget s k := by
  unfold sendEvent
  dsimp only
  split
  · rfl
  · split
    · exact dget_bump_ne _ _ _ h
    · rfl
theorem dget_sendEvents_ne {k : Nat} {r : Rcd} {s : State} (h : k ≠ 0x701d06) : dget (sendEvents r s) k = dget s k := by
  unfold sendEvents
  split
  · rw [dget_sendEvent_ne h, dget_sendEvent_ne h]
  · rfl

/-- The record that takes the next SEQ. -/
def nextRecord (d : Draft) (s : State) : Rcd := ⟨s.rmq.next, s.rst.node, d⟩
theorem putRecord_rmq (d : Draft) (s : State) :
    (putRecord d s).rmq = { s.rmq with
      next := (s.rmq.next + 1) % 2 ^ 64
      ring := tput s.rmq.ring (s.rmq.next % 32768) (nextRecord d s)
      unflushed := dropSet s.rmq.unflushed (s.rmq.next % 32768) ++ [s.rmq.next % 32768]
      overwritten :=
        if s.rmq.unflushed.contains (s.rmq.next % 32768) then s.rmq.overwritten + 1 else s.rmq.overwritten } := by
  simp only [putRecord, sendEvents_rmq, bump_rmq]
  cases s.rmq.unflushed.contains (s.rmq.next % 32768) <;> rfl
theorem dget_putRecord_ne {d : Draft} {s : State} {k : Nat} (h : k ≠ 0x701d06 ∧ k ≠ 0x701f01 ∧ k ≠ 0x701f03) :
    dget (putRecord d s) k = dget s k := by
  obtain ⟨event, accepted, lost⟩ := h
  simp only [putRecord, dget_sendEvents_ne event, dget_bump_ne _ _ _ accepted]
  cases s.rmq.unflushed.contains (s.rmq.next % 32768)
  · rfl
  · exact dget_bump_ne _ _ _ lost
theorem dget_putRecord_accepted (d : Draft) (s : State) :
    dget (putRecord d s) 0x701f01 = (dget s 0x701f01 + 1) % 2 ^ 64 := by
  simp only [putRecord, dget_sendEvents_ne (by decide : 0x701f01 ≠ 0x701d06), dget_bump_self]
  cases s.rmq.unflushed.contains (s.rmq.next % 32768)
  · rfl
  · exact congrArg (fun n => (n + 1) % 2 ^ 64) (dget_bump_ne _ _ _ (by decide))

/-! ## Flushing (R475–R479) -/

/-- The record that goes before a flush after records were overwritten. -/
def withOverrun (s : State) : State :=
  if s.rmq.overwritten = 0 then s
  else putRecord ⟨0x0706 * 65536, s.rtc, 0x0706, 1, 0, false, false, false, incarnation s, leBytes 8 s.rmq.overwritten⟩ s
theorem withOverrun_waiting (s : State) : (withOverrun s).rmq.waiting = s.rmq.waiting := by
  unfold withOverrun
  split
  · rfl
  · rw [putRecord_rmq]
theorem withOverrun_rtc (s : State) : (withOverrun s).rtc = s.rtc := by
  unfold withOverrun
  split
  · rfl
  · exact putRecord_rtc ..
theorem foldl_bump32_rmq (l : List Nat) (k : Nat) (s : State) : (l.foldl (fun a _ => bump32 k a) s).rmq = s.rmq := by
  induction l generalizing s with
  | nil => rfl
  | cons _ l ih => rw [List.foldl_cons, ih, bump32_rmq]
/-- What a flush leaves of the recorder: nothing unflushed, nothing overwritten, and no wait for the lock. -/
theorem flushRecords_rmq (sealed : Bool) (s : State) :
    ∃ first last cmacs, (flushRecords sealed s).rmq = { (withOverrun s).rmq with
      first := first, last := last, cmacs := cmacs, unflushed := [], overwritten := 0, lastFlush := s.rtc, lockWait := false } := by
  refine ⟨(flushRecords sealed s).rmq.first, (flushRecords sealed s).rmq.last, (flushRecords sealed s).rmq.cmacs, ?_⟩
  rw [← withOverrun_rtc s]
  cases sealed with
  | true => rfl
  | false =>
    have unsealedPages : (flushRecords false s).rmq = _ := foldl_bump32_rmq ..
    rw [unsealedPages]
    rfl
theorem dget_flushRecords_sealed (s : State) : dget (flushRecords true s) 0x701f02 = (dget s 0x701f02 + 1) % 2 ^ 64 := by
  have kept : dget (withOverrun s) 0x701f02 = dget s 0x701f02 := by
    unfold withOverrun
    split
    · rfl
    · exact dget_putRecord_ne (by decide)
  rw [← kept]
  exact dget_bump_self ..
/-- A flush that may begin and finds the utility engine free programs its pages at once. -/
theorem beginFlush_of_free {s : State} (mode : s.md.mode ≠ .drain) (dir : s.rec_.dirLoaded = true)
    (some_ : s.rmq.unflushed.isEmpty = false) (wait : s.rmq.lockWait = false) (log : bitOf s.md.causes 4 = false)
    (fenced : s.keys.fenced = []) (free : s.keys.ueOwner = 0) : beginFlush s = flushRecords true s := by
  simp [beginFlush, mode, dir, some_, wait, log, ueFenced, fenced, free]

theorem doRecordAccept_of_waiting {d : Draft} {rest : List Draft} {s : State} (waiting : s.rmq.waiting = d :: rest)
    (known : seqKnown s = true) (off : s.rst.phase ≠ .off) (on : s.rst.phase ≠ .powerOn) {s1 : State}
    (hs1 : s1 = putRecord d (updRmq (fun r => { r with waiting := rest }) s)) :
    doRecordAccept s = if d.sev ≥ 2 || s1.rmq.unflushed.length ≥ 16384 then beginFlush s1 else s1 := by
  subst hs1
  simp [doRecordAccept, waiting, known, off, on]
theorem seqKnown_of_dirLoaded {s : State} (h : s.rec_.dirLoaded = true) : seqKnown s = true := by simp [seqKnown, h]
theorem raiseKeep_of_solo {bit : Nat} {s : State} (mode : s.md.mode = .solo) (clear : bitOf s.md.causes bit = false) :
    raiseKeep bit s = updMode (fun x => { x with causes := s.md.causes + 2 ^ bit, entering := true, left := .solo }) s := by
  simp only [raiseKeep, mode, setBit, updMode, clear]
  rfl

/-- Settles O22. -/
theorem recorderCommands : Obligations.RecorderCommands := by
  refine ⟨?accepts, ?acceptsAndFlushes, ?flushes, ?fails, ?unsealed, ?checked⟩
  case accepts =>
    intro d rest s waiting known off on low room
    have short : (putRecord d (updRmq (fun r => { r with waiting := rest }) s)).rmq.unflushed.length < 16384 := by
      rw [putRecord_rmq]
      simpa using room
    refine completes_of_eq rfl ((doRecordAccept_of_waiting waiting known off on rfl).trans (if_neg ?_)) ?_
    · simp [Nat.not_le.mpr low, Nat.not_le.mpr short]
    · rw [dget_putRecord_accepted, putRecord_rmq]
      refine ⟨rfl, rfl, ?_, rfl⟩
      rw [tput_map_snd]
      exact tget_tput_self ..
  case acceptsAndFlushes =>
    intro d rest s waiting mode dir off on high wait log fenced free
    have flush := beginFlush_of_free (s := putRecord d (updRmq (fun r => { r with waiting := rest }) s))
      (by simpa using mode) (by simpa using dir) (by simp [putRecord_rmq]) (by simpa [putRecord_rmq] using wait)
      (by simpa using log) (by simpa using fenced) (by simpa using free)
    refine completes_of_eq rfl ((doRecordAccept_of_waiting waiting (seqKnown_of_dirLoaded dir) off on rfl).trans
      ((if_pos (by simp [high])).trans flush)) ?_
    obtain ⟨first, last, cmacs, rmq⟩ := flushRecords_rmq true (putRecord d (updRmq (fun r => { r with waiting := rest }) s))
    rw [rmq, withOverrun_waiting, putRecord_rmq, putRecord_rtc]
    exact ⟨rfl, rfl, rfl⟩
  case flushes =>
    intro s mode dir some_ wait log fenced free
    refine completes_of_eq rfl (beginFlush_of_free mode dir some_ wait log fenced free) ?_
    obtain ⟨first, last, cmacs, rmq⟩ := flushRecords_rmq true s
    rw [rmq, dget_flushRecords_sealed]
    exact ⟨rfl, rfl, rfl, rfl⟩
  case fails =>
    intro s mode dir some_ log
    refine completes_of_eq rfl ((if_neg (by simp)).trans ((if_neg ?_).trans (raiseKeep_of_solo mode log))) ⟨rfl, rfl, rfl⟩
    simp [mode, dir, some_, log]
  case unsealed =>
    intro s wait owner mode some_
    refine completes_of_eq (t := flushRecords false (updKeys (fun k => { k with ueWait := dropSet k.ueWait 4 }) s)) rfl ?_ ?_
    · simp [doRecorderLockTimeout, flushWaiting, wait, owner, mode, some_]
    · obtain ⟨first, last, cmacs, rmq⟩ := flushRecords_rmq false (updKeys (fun k => { k with ueWait := dropSet k.ueWait 4 }) s)
      rw [rmq, flushRecords_keys]
      exact ⟨rfl, rfl, rfl, rfl⟩
  case checked =>
    intro failing s phase
    refine completes_of_eq rfl (if_neg phase) ⟨?_, fun bad => ?_, fun good => ?_⟩
    · unfold when_
      split
      · rw [dget_of_dict (post_dict ..), dget_dset_self]
      · exact dget_dset_self ..
    · rw [when_, if_pos (decide_eq_true bad)]
      exact posted_of_rmq (u := dset _ _ s) rfl rfl rfl
    · rw [when_, if_neg (by simp [good])]
      rfl

end Sys2Proof.Machine
end

section
namespace Sys2Proof.Machine

/-! ## What an operation in flight is known by

An operation in flight changes while it executes, but not in what it was admitted as. -/

/-- What an operation was admitted as. -/
def opForm (o : Op) : Nat × OpKind × Nat × Nat × Nat × Nat × Nat := (o.id, o.kind, o.host, o.seq, o.region, o.key, o.off)
/-- What execution leaves of the host side: the next number, the replay table and what the operations in flight are. -/
def hostForm (s : State) : Nat × List ReplayEntry × List (Nat × OpKind × Nat × Nat × Nat × Nat × Nat) :=
  (s.host.nextOp, s.host.replay, s.host.ops.map opForm)
theorem hostForm_of_host {s t : State} (h : t.host = s.host) : hostForm t = hostForm s := by rw [hostForm, h, hostForm]

theorem modFirst_map_of_kept {α β : Type} {g : α → β} {p : α → Bool} {f : α → α} (h : ∀ a, g (f a) = g a) (l : List α) :
    (modFirst p f l).map g = l.map g := by
  induction l with
  | nil => rfl
  | cons a l ih =>
    unfold modFirst
    split
    · rw [List.map_cons, List.map_cons, h]
    · rw [List.map_cons, List.map_cons, ih]
theorem hostForm_modOp {f : Op → Op} (h : ∀ o, opForm (f o) = opForm o) (id : Nat) (s : State) :
    hostForm (modOp id f s) = hostForm s := by
  simp only [hostForm, modOp, updHost_host, modFirst_map_of_kept h]
theorem hostForm_opNak (id : Nat) (v : RespVal) (s : State) : hostForm (opNak id v s) = hostForm s :=
  hostForm_modOp (fun _ => by rfl) ..
theorem hostForm_foldl {α : Type} {f : State → α → State} (h : ∀ x a, hostForm (f x a) = hostForm x) (l : List α) (s : State) :
    hostForm (l.foldl f s) = hostForm s := by
  induction l generalizing s with
  | nil => rfl
  | cons a l ih => rw [List.foldl_cons, ih, h]
theorem hostForm_each {α : Type} {f : α → State → State} (h : ∀ a x, hostForm (f a x) = hostForm x) (l : List α) (s : State) :
    hostForm (each l f s) = hostForm s := hostForm_foldl (fun x a => h a x) l s
theorem hostForm_when {f : State → State} (b : Bool) (s : State) (h : hostForm (f s) = hostForm s) :
    hostForm (when_ b f s) = hostForm s := by
  cases b
  · rfl
  · exact h
theorem hostForm_forwardPart (o : Op) (key region off len dst : Nat) (s : State) :
    hostForm (forwardPart o key region off len dst s) = hostForm s := by
  unfold forwardPart
  rw [hostForm_of_host (bump_host ..), hostForm_of_host (sendCtl_host ..), hostForm_modOp (fun _ => by rfl)]
  rfl
theorem hostForm_startPlace (o : Op) (r : Region) (s : State) : hostForm (startPlace o r s) = hostForm s := by
  unfold startPlace
  dsimp only
  split
  · rw [hostForm_of_host (bump_host ..), hostForm_opNak]
  · rw [hostForm_of_host (closePlaces_host ..), hostForm_of_host (startMoves_host ..),
      hostForm_when _ _ (hostForm_of_host (sendCtl_host ..)), hostForm_of_host (updTier_host ..),
      hostForm_each (fun _ _ => hostForm_of_host (addUsed_host ..))]
/-- A fold whose accumulator carries a state beside other values. -/
theorem hostForm_foldl_proj {α β : Type} {g : β → State} {f : β → α → β} (h : ∀ b a, hostForm (g (f b a)) = hostForm (g b))
    (l : List α) (b : β) : hostForm (g (l.foldl f b)) = hostForm (g b) := by
  induction l generalizing b with
  | nil => rfl
  | cons a l ih => rw [List.foldl_cons, ih, h]
theorem hostForm_startBatch (o : Op) (s : State) : hostForm (startBatch o s) = hostForm s := by
  unfold startBatch
  refine hostForm_foldl_proj (g := fun b : Nat × Nat × State => b.2.2) (fun b p => ?_) _ _
  obtain ⟨i, at_, a⟩ := b
  obtain ⟨d, st⟩ := p
  dsimp only
  split
  · rfl
  · split
    · exact hostForm_modOp (fun _ => by rfl) ..
    · split
      · rfl
      · split
        · rw [hostForm_of_host (enqueue_host ..), hostForm_modOp (fun _ => by rfl)]
        · exact hostForm_forwardPart ..
        · exact hostForm_modOp (fun _ => by rfl) ..
/-- Starting an operation changes it only in how far it has come. -/
theorem hostForm_startOp (id : Nat) (s : State) : hostForm (startOp id s) = hostForm s := by
  unfold startOp
  split
  · rfl
  · split
    · rfl
    · split
      · exact hostForm_startBatch ..
      · split
        · exact hostForm_opNak ..
        · split
          · exact hostForm_modOp (fun _ => by rfl) ..
          · dsimp only
            split
            · rw [hostForm_opNak, hostForm_modOp (fun _ => by rfl)]
            · split
              · rw [hostForm_each (fun _ _ => hostForm_forwardPart ..), hostForm_modOp (fun _ => by rfl)]
              · rw [hostForm_forwardPart, hostForm_modOp (fun _ => by rfl)]
            · split
              · rw [hostForm_startPlace, hostForm_modOp (fun _ => by rfl)]
              · rw [hostForm_of_host (enqueue_host ..), hostForm_modOp (fun _ => by rfl), hostForm_modOp (fun _ => by rfl)]
theorem hostForm_strideRead (group stream : Nat) (r : Region) (x : Nat) (s : State) :
    hostForm (strideRead group stream r x s) = hostForm s := by
  unfold strideRead
  dsimp only
  rw [hostForm_each (fun _ _ => hostForm_of_host (setSlice_host ..))]
  rfl

/-! ## Admission (Table 3.7) -/

/-- Two states agree on all that the admission order asks of the Steoc. -/
structure AdmitsAlike (s t : State) : Prop where
  ops : t.host.ops = s.host.ops
  replay : t.host.replay = s.host.replay
  mirror : t.host.mirror = s.host.mirror
  slots : t.host.slots = s.host.slots
  per : t.per = s.per
  eng : t.eng = s.eng
  cp : t.cp = s.cp
  md : t.md = s.md
  rst : t.rst = s.rst
  pres : t.pres = s.pres
  rec_ : t.rec_ = s.rec_
  force : t.force = s.force
  ports : t.ports = s.ports
  incarnation : incarnation t = incarnation s
theorem AdmitsAlike.trans {s t u : State} (h : AdmitsAlike s t) (k : AdmitsAlike t u) : AdmitsAlike s u :=
  ⟨k.ops.trans h.ops, k.replay.trans h.replay, k.mirror.trans h.mirror, k.slots.trans h.slots, k.per.trans h.per,
    k.eng.trans h.eng, k.cp.trans h.cp, k.md.trans h.md, k.rst.trans h.rst, k.pres.trans h.pres, k.rec_.trans h.rec_,
    k.force.trans h.force, k.ports.trans h.ports, k.incarnation.trans h.incarnation⟩
theorem AdmitsAlike.refl (s : State) : AdmitsAlike s s := ⟨rfl, rfl, rfl, rfl, rfl, rfl, rfl, rfl, rfl, rfl, rfl, rfl, rfl, rfl⟩
theorem admitsAlike_bump {k : Nat} (h : 0x210004 ≠ k) (s : State) : AdmitsAlike s (bump k s) :=
  ⟨rfl, rfl, rfl, rfl, rfl, rfl, rfl, rfl, rfl, rfl, rfl, rfl, rfl, dget_bump_ne _ _ _ h⟩
theorem admitsAlike_bumpBy {k : Nat} (h : 0x210004 ≠ k) (n : Nat) (s : State) : AdmitsAlike s (bumpBy k n s) :=
  ⟨rfl, rfl, rfl, rfl, rfl, rfl, rfl, rfl, rfl, rfl, rfl, rfl, rfl, dget_bumpBy_ne _ _ _ _ h⟩
theorem admitsAlike_draw (s : State) : AdmitsAlike s (draw s) :=
  ⟨rfl, rfl, rfl, rfl, rfl, rfl, rfl, rfl, rfl, rfl, rfl, rfl, rfl, rfl⟩
theorem admitsAlike_when {f : State → State} (b : Bool) {s : State} (h : AdmitsAlike s (f s)) : AdmitsAlike s (when_ b f s) := by
  cases b
  · exact .refl s
  · exact h
theorem admitsAlike_countFrame (p : Nat) (ce : Bool) (s : State) : AdmitsAlike s (countFrame p ce s) := by
  unfold countFrame
  exact ((admitsAlike_bump (by omega) s).trans (admitsAlike_bumpBy (by omega) ..)).trans
    ((admitsAlike_draw _).trans (admitsAlike_when _ (admitsAlike_bump (by omega) _)))
theorem admitsAlike_keyLookup (group key : Nat) (s : State) : AdmitsAlike s (keyLookup group key s) := by
  unfold keyLookup
  dsimp only
  split
  · exact .refl s
  · refine .trans ?_ ((admitsAlike_bump (by decide) _).trans (admitsAlike_draw _))
    exact ⟨rfl, rfl, rfl, rfl, rfl, rfl, rfl, rfl, rfl, rfl, rfl, rfl, rfl, rfl⟩

section
variable {s t : State} (h : AdmitsAlike s t)
include h

theorem live_alike : live t = live s := congrArg Persist.live h.per
theorem addressed_alike (d : Datagram) : addressed t d = addressed s d := by
  unfold addressed portAddr portOf fget
  rw [h.force, h.ports]
theorem formCheck_alike (d : Datagram) (r : Request) : formCheck t d r = formCheck s d r := by
  unfold formCheck fget
  rw [h.force]
theorem hostEnabled_alike (host : Nat) : hostEnabled t host = hostEnabled s host := by
  unfold hostEnabled
  rw [live_alike h]
theorem serving_alike : serving t = serving s := by
  unfold serving
  rw [h.md, h.rec_]
theorem checkToken_alike (k : OpKind) (r : Request) : checkToken t k r = checkToken s k r := by
  unfold checkToken inFlight replayFind slotOf
  rw [h.ops, h.replay, h.mirror, h.slots, h.pres, h.incarnation]
theorem checkRoom_alike (port : Nat) (k : OpKind) (r : Request) : checkRoom t port k r = checkRoom s port k r := by
  unfold checkRoom portOpsOf
  rw [h.md, h.rst, h.ops, h.replay]
theorem checkKeyed_alike (region : Option Nat) (key tenant off len : Nat) :
    checkKeyed t region key tenant off len = checkKeyed s region key tenant off len := by
  unfold checkKeyed keyRevoked keyAdmits keyOf findRegion tenantOf regionSize
  rw [live_alike h, h.eng]
theorem checkAccess_alike (isRead : Bool) (region key host off len : Nat) :
    checkAccess t isRead region key host off len = checkAccess s isRead region key host off len := by
  unfold checkAccess hostTenant
  rw [checkKeyed_alike h, live_alike h]
theorem route_alike (g : Region) : route t g = route s g := by
  unfold route ownsRegion pairWorks linkUp
  rw [live_alike h, h.cp, h.md, h.rst]
theorem checkRegion_alike (k : OpKind) (r : Request) : checkRegion t k r = checkRegion s k r := by
  simp only [checkRegion, checkAccess_alike h, route_alike h, h.cp]
end

theorem when_true (f : State → State) (s : State) : when_ true f s = f s := rfl

/-- The state at which the header of a datagram is judged: its frame counted, a retransmission counted. -/
def received (d : Datagram) (s : State) : State := when_ (parse d.payload).rtx (bump 0x701002) (countFrame d.port.val d.ce s)
/-- The state at which the access check is made: the key looked up in its port group's cache. -/
def lookedUp (d : Datagram) (s : State) : State :=
  when_ ((parse d.payload).region ≠ 0 && kindOf (parse d.payload).opcode ≠ .fence && kindOf (parse d.payload).opcode ≠ .batch)
    (keyLookup (d.port.val / 8) (parse d.payload).key) (received d s)
theorem admitsAlike_received (d : Datagram) (s : State) : AdmitsAlike s (received d s) :=
  (admitsAlike_countFrame ..).trans (admitsAlike_when _ (admitsAlike_bump (by decide) _))
theorem admitsAlike_lookedUp (d : Datagram) (s : State) : AdmitsAlike s (lookedUp d s) :=
  (admitsAlike_received d s).trans (admitsAlike_when _ (admitsAlike_keyLookup ..))
theorem hostForm_of_alike {s t : State} (h : AdmitsAlike s t) (hn : t.host.nextOp = s.host.nextOp) :
    hostForm t = hostForm s := by
  rw [hostForm, h.ops, h.replay, hn, hostForm]
theorem keyLookup_nextOp (group key : Nat) (s : State) : (keyLookup group key s).host.nextOp = s.host.nextOp := by
  unfold keyLookup
  dsimp only
  split <;> rfl
theorem lookedUp_nextOp (d : Datagram) (s : State) : (lookedUp d s).host.nextOp = s.host.nextOp := by
  have counted : (received d s).host = s.host := by
    unfold received when_
    split <;> simp
  unfold lookedUp
  rw [← counted]
  unfold when_
  split
  · exact keyLookup_nextOp ..
  · rfl

/-- A datagram that passes the steps of the admission order before step 14 is admitted. -/
theorem stipple_of_admits {op : Nat} {d : Datagram} {s : State} (h : Admits op d s) :
    ∃ g, stipple op d s = admitRequest d (kindOf op) (parse d.payload) g (lookedUp d s) := by
  obtain ⟨armed, isOpen, mine, frame, rfl, form, enabled, serves, token, room, region⟩ := h
  have noFrame (point : Nat) : fireRecorded point d.port.val [1] s = none := by simp [fireRecorded, fire, armed]
  have alike := admitsAlike_received d s
  rw [← addressed_alike (admitsAlike_countFrame d.port.val d.ce s)] at mine
  rw [← formCheck_alike alike] at form
  rw [← hostEnabled_alike alike] at enabled
  rw [← serving_alike alike] at serves
  rw [← checkToken_alike alike] at token
  rw [← checkRoom_alike alike] at room
  rw [← checkRegion_alike (admitsAlike_lookedUp d s)] at region
  cases hg : checkRegion (lookedUp d s) (kindOf (parse d.payload).opcode) (parse d.payload) with
  | error v => rw [hg] at region; cases region
  | ok g =>
    refine ⟨g, ?_⟩
    unfold received at form enabled serves token room
    unfold lookedUp received at hg
    simp only [stipple, injectedFrame, noFrame, isOpen, when_true, mine, frame, form, enabled, serves, token, room, hg,
      Bool.not_true, Bool.not_false, Bool.false_or, Bool.false_eq_true, if_false, ne_eq, not_true, decide_false, Bool.and_false,
      Bool.false_and]
    rfl

theorem hostForm_addOp (o : Op) (s : State) :
    hostForm (addOp o s) = (s.host.nextOp + 1, s.host.replay, s.host.ops.map opForm ++ [opForm { o with id := s.host.nextOp }]) := by
  simp [hostForm, addOp]
theorem hostForm_replayCreate (t : Token) (s : State) :
    hostForm (replayCreate t s) =
      (s.host.nextOp, s.host.replay ++ [⟨t, true, okVal, dget s 0x210002, none⟩], s.host.ops.map opForm) := rfl
theorem hostForm_traceTouch (host : Nat) (r : Region) (pages : List Nat) (s : State) :
    hostForm (traceTouch host r pages s) = hostForm s := hostForm_of_host (traceTouch_host ..)

/-- The operation an admission enters and starts. -/
def admitted (d : Datagram) (k : OpKind) (r : Request) (s : State) : State :=
  when_ (nonIdem k) (replayCreate ⟨r.host, r.seq⟩) (bump 0x701001 (addOp (opOf s d k r) s))
/-- After the entry, admission keeps what is in flight: it marks the scoreboard, traces, prefetches and starts. -/
theorem hostForm_admitRequest_eq_admitted (d : Datagram) (k : OpKind) (r : Request) (g : Option Region) (s : State) :
    hostForm (admitRequest d k r g s) = hostForm (admitted d k r s) := by
  have marked (b : Bool) (u : State) : hostForm (when_ b (setSlot r.host (slotAdmit (movesBase k) r.seq)) u) = hostForm u :=
    hostForm_when _ _ rfl
  have started (b : Bool) (id : Nat) (reads : Mem) (u : State) :
      hostForm (if b then modOp id (fun x => { x with reads := reads }) u else startOp id u) = hostForm u := by
    cases b
    · exact hostForm_startOp ..
    · exact hostForm_modOp (fun _ => by rfl) ..
  unfold admitRequest
  dsimp only
  rw [started]
  cases g with
  | none =>
    refine (hostForm_each (fun e a => ?_) _ _).trans (marked ..)
    split
    · exact hostForm_traceTouch ..
    · rfl
  | some x =>
    refine (hostForm_when _ _ (hostForm_strideRead ..)).trans ((hostForm_traceTouch ..).trans (marked ..))
/-- Admission enters the operation in the in-flight table, and its token in the replay table where it is not idempotent. -/
theorem hostForm_admitRequest (d : Datagram) (k : OpKind) (r : Request) (g : Option Region) (s : State) :
    hostForm (admitRequest d k r g s) =
      (s.host.nextOp + 1,
       s.host.replay ++ (if nonIdem k then [⟨⟨r.host, r.seq⟩, true, okVal, dget s 0x210002, none⟩] else []),
       s.host.ops.map opForm ++ [(s.host.nextOp, k, r.host, r.seq, r.region, r.key, r.off)]) := by
  rw [hostForm_admitRequest_eq_admitted, admitted]
  have entered : hostForm (bump 0x701001 (addOp (opOf s d k r) s)) = _ :=
    (hostForm_of_host (bump_host ..)).trans (hostForm_addOp (opOf s d k r) s)
  cases hk : nonIdem k with
  | false => exact entered.trans (by rw [if_neg (by simp), List.append_nil]; rfl)
  | true =>
    rw [when_true, hostForm_replayCreate]
    simp only [hostForm, Prod.mk.injEq] at entered
    obtain ⟨next, replay, ops⟩ := entered
    rw [next, replay, ops, dget_bump_ne _ _ _ (by decide)]
    rfl

theorem entered_of_hostForm {k : OpKind} {r : Request} {s t : State} {n : Nat} {replay : List ReplayEntry}
    {l : List (Nat × OpKind × Nat × Nat × Nat × Nat × Nat)} (hn : n = s.host.nextOp)
    (h : hostForm t = (n + 1, replay, l ++ [(n, k, r.host, r.seq, r.region, r.key, r.off)])) : Entered k r s t := by
  subst hn
  simp only [hostForm, Prod.mk.injEq] at h
  obtain ⟨next, -, ops⟩ := h
  obtain ⟨o, ho, form⟩ : ∃ o ∈ t.host.ops, opForm o = (s.host.nextOp, k, r.host, r.seq, r.region, r.key, r.off) := by
    rw [← List.mem_map, ops]
    exact List.mem_append_right _ (List.mem_singleton_self _)
  simp only [opForm, Prod.mk.injEq] at form
  exact ⟨next, o, ho, form⟩
theorem replayPending_of_hostForm {r : Request} {t : State} {n window : Nat} {replay : List ReplayEntry}
    {l : List (Nat × OpKind × Nat × Nat × Nat × Nat × Nat)}
    (h : hostForm t = (n, replay ++ [⟨⟨r.host, r.seq⟩, true, okVal, window, none⟩], l)) : ReplayPending r t := by
  simp only [hostForm, Prod.mk.injEq] at h
  exact ⟨_, h.2.1 ▸ List.mem_append_right _ (List.mem_singleton_self _), rfl, rfl⟩

section
variable {op : Nat} {d : Datagram} {s : State} {c : Instr}

theorem entered_of_admits (hc : exec c s = .next (stipple op d s)) (h : Admits op d s) :
    Completes c s (Entered (kindOf op) (parse d.payload) s) := by
  obtain ⟨g, admission⟩ := stipple_of_admits h
  exact completes_of_eq hc admission (entered_of_hostForm (lookedUp_nextOp d s) (hostForm_admitRequest ..))
/-- A request that is not idempotent also creates its replay entry. -/
theorem entered_and_replayPending_of_admits (hc : exec c s = .next (stipple op d s)) (h : Admits op d s)
    (hk : nonIdem (kindOf op) = true) :
    Completes c s (fun t => Entered (kindOf op) (parse d.payload) s t ∧ ReplayPending (parse d.payload) t) := by
  obtain ⟨g, admission⟩ := stipple_of_admits h
  have form := hostForm_admitRequest d (kindOf op) (parse d.payload) g (lookedUp d s)
  rw [hk, if_pos rfl] at form
  exact completes_of_eq hc admission ⟨entered_of_hostForm (lookedUp_nextOp d s) form, replayPending_of_hostForm form⟩
end

/-- Settles O35: the eight rows are one meaning at eight opcodes. -/
theorem stippleRequestCommands : Obligations.StippleRequestCommands :=
  ⟨fun _ _ h => entered_of_admits rfl h, fun _ _ h => entered_of_admits rfl h,
    fun _ _ h => entered_and_replayPending_of_admits rfl h rfl, fun _ _ h => entered_and_replayPending_of_admits rfl h rfl,
    fun _ _ h => entered_and_replayPending_of_admits rfl h rfl, fun _ _ h => entered_and_replayPending_of_admits rfl h rfl,
    fun _ _ h => entered_of_admits rfl h, fun _ _ h => entered_of_admits rfl h⟩

end Sys2Proof.Machine
end

section
namespace Sys2Proof.Machine

/-! ## Contexts of queue pairs -/

theorem tfind_map_at {α : Type} (f : α → α) (k : Nat) (l : Tbl α) :
    tfind (l.map (fun p => if p.1 = k then (k, f p.2) else p)) k = (tfind l k).map f := by
  induction l with
  | nil => rfl
  | cons p l ih =>
    obtain ⟨i, v⟩ := p
    by_cases hi : i = k
    · subst hi
      simp [tfind]
    · have hk : k ≠ i := fun h => hi h.symm
      by_cases hlt : k < i
      · simp [tfind, hi, hk, hlt]
      · simp [tfind, hi, hk, hlt, ih]
theorem qpOf_of_rc {s t : State} (hrc : t.rc = s.rc) (hrst : t.rst = s.rst) (qpn : Nat) : qpOf t qpn = qpOf s qpn := by
  rw [qpOf, hrc, hrst, qpOf]
theorem heldQp_of_rc {s t : State} (hrc : t.rc = s.rc) (hrst : t.rst = s.rst) (qpn : Nat) : heldQp t qpn = heldQp s qpn := by
  rw [heldQp, qpOf_of_rc hrc hrst, heldQp]
theorem qpOf_modQp (qpn : Nat) (f : Qp → Qp) (s : State) : qpOf (modQp qpn f s) qpn = (qpOf s qpn).map f := by
  unfold qpOf modQp
  by_cases h : qpn / 65536 = s.rst.node
  · simp [h, tfind_map_at]
  · simp [h, tfind_map_at]
/-- A context that stays in use is held as it is changed. -/
theorem heldQp_modQp {qpn : Nat} {f : Qp → Qp} {q : Qp} {s : State} (h : heldQp s qpn = some q) (hs : (f q).st ≠ .shadow)
    (hf : (f q).st ≠ .free) : heldQp (modQp qpn f s) qpn = some (f q) := by
  unfold heldQp at h
  rw [Option.filter_eq_some_iff] at h
  rw [heldQp, qpOf_modQp, h.1, Option.map_some, Option.filter_eq_some_iff]
  simp [hs, hf]
theorem heldQp_st {qpn : Nat} {q : Qp} {s : State} (h : heldQp s qpn = some q) : q.st ≠ .shadow ∧ q.st ≠ .free := by
  unfold heldQp at h
  rw [Option.filter_eq_some_iff] at h
  simpa using h.2

/-! ## Packets of queue pairs (R95–R111) -/

theorem rcCheck_alike {s t : State} (h : AdmitsAlike s t) (q : Qp) (p : RcPacket) : rcCheck t q p = rcCheck s q p := by
  unfold rcCheck portOpsOf
  simp only [hostEnabled_alike h, checkKeyed_alike h, route_alike h, h.md, h.rst, h.ops]
/-- The responder's marks on a context do not enter its admission checks. -/
theorem rcCheck_touched (s : State) (q : Qp) (p : RcPacket) (at_ : Nat) (st : QpSt) :
    rcCheck s { q with lastRx := at_, st := st } p = rcCheck s q p := rfl
theorem opcodeFits_of_pass {s : State} {q : Qp} {p : RcPacket} {r : Option Region} (h : rcCheck s q p = .pass r) :
    opcodeFits q p.opcode = true := by
  cases hf : opcodeFits q p.opcode with
  | true => rfl
  | false => simp [rcCheck, rcForm, hf] at h
theorem rcRange_of_fits {q : Qp} {op : Nat} (h : opcodeFits q op = true) : rcRange op = true := by
  unfold opcodeFits at h
  unfold rcRange
  cases hq : q.spray <;> simp [hq] at h ⊢ <;> omega

/-- A context marked by a valid packet. -/
def touched (s : State) (q : Qp) : Qp := { q with lastRx := s.rtc, st := .serving }
/-- The state at which a packet of a cached context is judged: its frame counted, the context the last used. -/
def atContext (p : RcPacket) (s : State) : State :=
  modQp p.qpn (touched s) (updRc (fun r => { r with cache := dropSet r.cache p.qpn ++ [p.qpn] }) (countFrame p.port.val false s))

theorem admitsAlike_atContext (p : RcPacket) (s : State) : AdmitsAlike s (atContext p s) := by
  refine (admitsAlike_countFrame p.port.val false s).trans ?_
  unfold atContext modQp
  exact ⟨rfl, rfl, rfl, rfl, rfl, rfl, rfl, rfl, rfl, rfl, rfl, rfl, rfl, rfl⟩
theorem countFrame_held (port : Nat) (ce : Bool) (s : State) (qpn : Nat) : heldQp (countFrame port ce s) qpn = heldQp s qpn :=
  heldQp_of_rc (countFrame_rc ..) (countFrame_rst ..) qpn

section
variable {p : RcPacket} {q : Qp} {r : Option Region} {s : State}

theorem rcServe_of_serving (held : heldQp s p.qpn = some q) (st : q.st = .serving) (ce : p.ce = false) (adopted : q.adopted = false)
    (lossless : q.lossless = false) (fits : opcodeFits q p.opcode = true) {t : State}
    (ht : modQp p.qpn (touched s) (updRc (fun r => { r with cache := dropSet r.cache p.qpn ++ [p.qpn] }) s) = t) :
    rcServe p.qpn p s = if q.spray then sprayRx (touched s q) p.qpn p t else goBackN (touched s q) p.qpn p t := by
  have range := rcRange_of_fits fits
  unfold rcServe
  rw [held]
  have behind : (q.adopted && decide (psnDist p.psn q.epsn < 2 ^ 23)) = false := by rw [adopted, Bool.false_and]
  have inUse : (decide (q.st = .error) || decide (q.st = .closing)) = false := by simp [st]
  simp only [inUse, ce, behind, range, Bool.false_and, Bool.false_eq_true, if_false, Bool.not_true]
  have fits' : ¬ (!opcodeFits (touched s q) p.opcode) = true := by rw [show opcodeFits (touched s q) p.opcode = true from fits]; decide
  have roomy : ¬ ((touched s q).lossless && t.rc.parked.any (fun x => x.port = p.port)) = true := by simp [touched, lossless]
  subst ht
  exact (if_neg fits').trans ((if_neg roomy).trans rfl)
theorem rcArrive_of_takes (h : TakesPacket p q r s) {mine : RcPacket → Bool} (hm : mine p = true) :
    rcArrive mine p s =
      if q.spray then sprayRx (touched s q) p.qpn p (atContext p s) else goBackN (touched s q) p.qpn p (atContext p s) := by
  obtain ⟨isOpen, ce, pkey, icrc, version, held, st, adopted, lossless, cached, noneHeld, -, pass⟩ := h
  have heldNow : heldQp (countFrame p.port.val false s) p.qpn = some q := (countFrame_held ..).trans held
  have serve := rcServe_of_serving heldNow st ce adopted lossless (opcodeFits_of_pass pass) rfl
  have clock : touched (countFrame p.port.val false s) = touched s := by
    funext x
    rw [touched, countFrame_rtc, touched]
  rw [clock] at serve
  have arrive : rcArrive mine p s = rcServe p.qpn p (countFrame p.port.val false s) := by
    have known : p.qpn ∈ s.rc.cache := by simpa using cached
    simp [rcArrive, isOpen, ce, pkey, icrc, version, heldNow, hm, known, noneHeld]
  exact arrive.trans serve

end

theorem hostForm_rcLaunch (id qpn : Nat) (s : State) : hostForm (rcLaunch id qpn s) = hostForm s := by
  unfold rcLaunch
  split
  · rfl
  · have heldBack (b : Bool) :
        hostForm (if b then modOp id (fun x => { x with held := true }) s else startOp id s) = hostForm s := by
      cases b
      · exact hostForm_startOp ..
      · exact hostForm_modOp (fun _ => by rfl) ..
    exact heldBack _

theorem psnDist_self (n : Nat) : psnDist n n = 0 := by simp [psnDist]

/-- What the admission of a packet in order leaves of its context. -/
def contextAfter (p : RcPacket) (q : Qp) : Qp :=
  let y := messageAfter p q
  let z := if p.opcode = 9 ∨ p.opcode = 0xb then { y with lastImm := p.imm.getD 0 } else y
  let n := if p.opcode = 0xc then rcPackets q p.dmaLen else 1
  let w := if q.spray || p.psn ≠ q.epsn then z else { z with epsn := psnAdd q.epsn n, nakSent := false }
  if controlOf p = some 2 && p.opcode = 4 then { w with st := .closing } else w

/-- An admission enters its operation, changes its context, and keeps both while it traces, prefetches and starts. -/
theorem rcAdmit_keeps (q : Qp) (qpn : Nat) (p : RcPacket) (r : Option Region) (s : State) :
    hostForm (rcAdmit q qpn p r s) = hostForm (addOp (rcOp q qpn p r) s) ∧
      heldQp (rcAdmit q qpn p r s) qpn = heldQp (modQp qpn (contextAfter p) s) qpn := by
  have entered : hostForm (modQp qpn (contextAfter p) (bump 0x701101 (addOp (rcOp q qpn p r) s))) =
      hostForm (addOp (rcOp q qpn p r) s) := (hostForm_of_host (modQp_host ..)).trans (hostForm_of_host (bump_host ..))
  have changed : heldQp (modQp qpn (contextAfter p) (bump 0x701101 (addOp (rcOp q qpn p r) s))) qpn =
      heldQp (modQp qpn (contextAfter p) s) qpn := by
    unfold heldQp
    rw [qpOf_modQp, qpOf_modQp]
    rfl
  rw [← entered, ← changed]
  cases r with
  | none =>
    have read (b : Prop) [Decidable b] (id : Nat) (m : Mem) (u : State) :
        hostForm (if b then modOp id (fun x => { x with reads := m }) u else u) = hostForm u ∧
          heldQp (if b then modOp id (fun x => { x with reads := m }) u else u) qpn = heldQp u qpn := by
      by_cases hb : b
      · rw [if_pos hb]
        exact ⟨hostForm_modOp (fun _ => by rfl) .., rfl⟩
      · rw [if_neg hb]
        exact ⟨rfl, rfl⟩
    exact read ((rcOp q qpn p none).kind = .read) ..
  | some g =>
    have prefetched (b : Bool) (group stream x : Nat) (u : State) :
        hostForm (when_ b (strideRead group stream g x) u) = hostForm u ∧
          heldQp (when_ b (strideRead group stream g x) u) qpn = heldQp u qpn := by
      cases b
      · exact ⟨rfl, rfl⟩
      · exact ⟨hostForm_strideRead .., heldQp_of_rc (strideRead_rc ..) (strideRead_rst ..) _⟩
    refine ⟨(hostForm_rcLaunch ..).trans ((prefetched ..).1.trans (hostForm_traceTouch ..)),
      (heldQp_of_rc (rcLaunch_rc ..) (rcLaunch_rst ..) _).trans
        ((prefetched ..).2.trans (heldQp_of_rc (traceTouch_rc ..) (traceTouch_rst ..) _))⟩
theorem rcCheck_atContext {p : RcPacket} {q : Qp} {r : Option Region} {s u : State} (h : AdmitsAlike s u)
    (pass : rcCheck s q p = .pass r) : rcCheck u (touched s q) p = .pass r :=
  ((rcCheck_touched u q p s.rtc .serving).trans (rcCheck_alike h q p)).trans pass
/-- The state of the admission of a packet: its key looked up. -/
def keyedAt (q : Qp) (p : RcPacket) (s : State) : State :=
  when_ (decide ((rcReach q p).1 ≠ 0) && decide (p.opcode ≠ 4)) (keyLookup (q.port / 8) (rcReach q p).1) s
theorem admitsAlike_keyedAt (q : Qp) (p : RcPacket) (s : State) : AdmitsAlike s (keyedAt q p s) :=
  admitsAlike_when _ (admitsAlike_keyLookup ..)
theorem keyedAt_nextOp (q : Qp) (p : RcPacket) (s : State) : (keyedAt q p s).host.nextOp = s.host.nextOp := by
  unfold keyedAt when_
  split
  · exact keyLookup_nextOp ..
  · rfl
theorem keyedAt_held (q : Qp) (p : RcPacket) (s : State) (qpn : Nat) : heldQp (keyedAt q p s) qpn = heldQp s qpn := by
  unfold keyedAt when_
  split
  · exact heldQp_of_rc (keyLookup_rc ..) (keyLookup_rst ..) _
  · rfl
theorem rcExecute_of_pass {p : RcPacket} {q : Qp} {r : Option Region} {s : State} (h : rcCheck (keyedAt q p s) q p = .pass r)
    (qpn : Nat) : rcExecute q qpn p s = rcAdmit q qpn p r (keyedAt q p s) := by
  unfold keyedAt at h
  simp only [rcExecute, h]
  rfl

section
variable {p : RcPacket} {q : Qp} {r : Option Region} {s : State} (h : TakesPacket p q r s)
include h

theorem rcArrive_goBackN {mine : RcPacket → Bool} (hm : mine p = true) (single : q.spray = false) :
    rcArrive mine p s = rcAdmit (touched s q) p.qpn p r (keyedAt (touched s q) p (atContext p s)) := by
  rw [rcArrive_of_takes h hm, single]
  obtain ⟨-, -, -, -, -, -, -, -, -, -, -, inOrder, pass⟩ := h
  have passNow := rcCheck_atContext ((admitsAlike_atContext p s).trans (admitsAlike_keyedAt (touched s q) p _)) pass
  rw [← rcExecute_of_pass passNow]
  have first : psnDist p.psn (touched s q).epsn = 0 := by rw [inOrder]; exact psnDist_self _
  simp [goBackN, first]
theorem rcArrive_spray {mine : RcPacket → Bool} (hm : mine p = true) (spray : q.spray = true) (bitmap : q.bitmap = 0)
    (noOps : qpOps s p.qpn = []) (noResponses : q.responses = []) :
    rcArrive mine p s = rcAdmit (touched s q) p.qpn p r (keyedAt (touched s q) p (atContext p s)) := by
  rw [rcArrive_of_takes h hm, spray]
  obtain ⟨-, -, -, -, -, -, -, -, -, -, -, inOrder, pass⟩ := h
  have passNow := rcCheck_atContext ((admitsAlike_atContext p s).trans (admitsAlike_keyedAt (touched s q) p _)) pass
  rw [← rcExecute_of_pass passNow]
  have first : psnDist p.psn (touched s q).epsn = 0 := by rw [inOrder]; exact psnDist_self _
  have fresh : qpOps (atContext p s) p.qpn = [] := by rw [qpOps, (admitsAlike_atContext p s).ops]; exact noOps
  have clear : (touched s q).bitmap = 0 := bitmap
  have none : (touched s q).responses = [] := noResponses
  simp [sprayRx, first, fresh, clear, none, bitOf]
end

theorem atContext_nextOp (p : RcPacket) (s : State) : (atContext p s).host.nextOp = s.host.nextOp := by
  rw [atContext, modQp_host, updRc_host, countFrame_host]
theorem atContext_held {p : RcPacket} {q : Qp} {s : State} (held : heldQp s p.qpn = some q) :
    heldQp (atContext p s) p.qpn = some (touched s q) := by
  have before : heldQp (updRc (fun r => { r with cache := dropSet r.cache p.qpn ++ [p.qpn] }) (countFrame p.port.val false s)) p.qpn =
      some q := (countFrame_held p.port.val false s p.qpn).trans held
  exact heldQp_modQp before (by simp [touched]) (by simp [touched])
theorem contextAfter_st (p : RcPacket) (q : Qp) : (contextAfter p q).st = q.st ∨ (contextAfter p q).st = .closing := by
  unfold contextAfter messageAfter
  dsimp only
  split
  · exact .inr rfl
  · refine .inl ?_
    split <;> split <;> (try split) <;> (try split) <;> rfl

/-- What an admitted packet leaves: its operation in flight, and its context as the admission changes it. -/
theorem rcAdmit_of_takes {p : RcPacket} {q : Qp} {r : Option Region} {s : State} (h : TakesPacket p q r s) :
    PacketEntered (rcOp q p.qpn p r).kind p q s (rcAdmit (touched s q) p.qpn p r (keyedAt (touched s q) p (atContext p s))) ∧
      heldQp (rcAdmit (touched s q) p.qpn p r (keyedAt (touched s q) p (atContext p s))) p.qpn =
        some (contextAfter p (touched s q)) := by
  obtain ⟨-, -, -, -, -, held, -⟩ := h
  obtain ⟨form, after⟩ := rcAdmit_keeps (touched s q) p.qpn p r (keyedAt (touched s q) p (atContext p s))
  have next : (keyedAt (touched s q) p (atContext p s)).host.nextOp = s.host.nextOp :=
    (keyedAt_nextOp ..).trans (atContext_nextOp ..)
  refine ⟨?_, ?_⟩
  · rw [hostForm_addOp, next] at form
    simp only [hostForm, Prod.mk.injEq] at form
    obtain ⟨number, -, ops⟩ := form
    obtain ⟨o, ho, known⟩ : ∃ o ∈ (rcAdmit (touched s q) p.qpn p r (keyedAt (touched s q) p (atContext p s))).host.ops,
        opForm o = opForm { rcOp (touched s q) p.qpn p r with id := s.host.nextOp } := by
      rw [← List.mem_map, ops]
      exact List.mem_append_right _ (List.mem_singleton_self _)
    simp only [opForm, Prod.mk.injEq] at known
    obtain ⟨id, kind, host, seq, -, -, off⟩ := known
    exact ⟨number, o, ho, id, kind, host, seq, off⟩
  · rw [after]
    have here : heldQp (keyedAt (touched s q) p (atContext p s)) p.qpn = some (touched s q) :=
      (keyedAt_held ..).trans (atContext_held held)
    have inUse : (contextAfter p (touched s q)).st = .serving ∨ (contextAfter p (touched s q)).st = .closing := contextAfter_st ..
    refine heldQp_modQp here ?_ ?_ <;> rcases inUse with st | st <;> rw [st] <;> simp
/-- A packet in order moves EPSN on by the packets it stands for. -/
theorem contextAfter_epsn {p : RcPacket} {q : Qp} (single : q.spray = false) (inOrder : p.psn = q.epsn) :
    (contextAfter p q).epsn = psnAdd q.epsn (if p.opcode = 0xc then rcPackets q p.dmaLen else 1) := by
  unfold contextAfter
  simp only [single, inOrder, Bool.false_or, ne_eq, not_true, decide_false, Bool.false_eq_true, if_false]
  split <;> rfl
theorem messageAfter_epsn (p : RcPacket) (q : Qp) : (messageAfter p q).epsn = q.epsn := by
  unfold messageAfter
  split
  · rfl
  · split <;> rfl
theorem contextAfter_epsn_spray {p : RcPacket} {q : Qp} (spray : q.spray = true) : (contextAfter p q).epsn = q.epsn := by
  unfold contextAfter
  simp only [spray, Bool.true_or, if_true]
  split <;> split <;> exact messageAfter_epsn ..
theorem contextAfter_st_of_release {p : RcPacket} (q : Qp) (op : p.opcode = 4) (release : controlOf p = some 2) :
    (contextAfter p q).st = .closing := by
  simp [contextAfter, op, release]

section
variable {p : RcPacket} {q : Qp} {r : Option Region} {s : State} {c : Instr} {mine : RcPacket → Bool} {k : OpKind}

/-- A packet in order of a go-back-N queue pair becomes the next operation, and EPSN moves past it. -/
theorem enters_of_takes (hc : exec c s = .next (rcArrive mine p s)) (h : TakesPacket p q r s) (hm : mine p = true)
    (single : q.spray = false) (hk : (rcOp q p.qpn p r).kind = k) :
    Completes c s (fun t => PacketEntered k p q s t ∧ heldQp t p.qpn = some (contextAfter p (touched s q)) ∧
      (heldQp t p.qpn).map (·.epsn) = some (psnAdd q.epsn (if p.opcode = 0xc then rcPackets q p.dmaLen else 1))) := by
  obtain ⟨entered, after⟩ := rcAdmit_of_takes h
  obtain ⟨-, -, -, -, -, -, -, -, -, -, -, inOrder, -⟩ := id h
  have moved : (contextAfter p (touched s q)).epsn = _ := contextAfter_epsn (q := touched s q) single inOrder
  exact completes_of_eq hc (rcArrive_goBackN h hm single) ⟨hk ▸ entered, after, by rw [after, Option.map_some, moved]; rfl⟩
theorem enters_one_of_takes (hc : exec c s = .next (rcArrive mine p s)) (h : TakesPacket p q r s) (hm : mine p = true)
    (single : q.spray = false) (hk : (rcOp q p.qpn p r).kind = k) (op : p.opcode ≠ 0xc) :
    Completes c s (fun t => PacketEntered k p q s t ∧ (heldQp t p.qpn).map (·.epsn) = some (psnAdd q.epsn 1)) := by
  obtain ⟨t, ht, entered, -, moved⟩ := enters_of_takes hc h hm single hk
  rw [if_neg op] at moved
  exact completes_of_next ht ⟨entered, moved⟩
end

/-- Settles O40: the packets are one arrival at seven opcodes. -/
theorem rcPacketCommands : Obligations.RcPacketCommands := by
  unfold Obligations.RcPacketCommands
  refine ⟨fun p q r s h single op => ?_, fun p q r s h single op => ?_, fun p q r s h single op => ?_,
    fun p q r s h single op => ?_, fun p q r s h spray bitmap noOps noResponses op => ?_,
    fun p q r s h single op control => ?_, fun p q r s h single op control => ?_⟩
  · obtain ⟨low, high⟩ := op
    have kind : (rcOp q p.qpn p r).kind = .write := by
      simp [rcOp, show p.opcode ≠ 12 by omega, show p.opcode ≠ 19 by omega, show p.opcode ≠ 20 by omega]
    exact enters_one_of_takes rfl h (by simp [low, high]) single kind (by omega)
  · obtain ⟨t, ht, entered, -, moved⟩ := enters_of_takes (c := .rdmaReadRequest p) rfl h (by simp [op]) single (k := .read)
      (by simp [rcOp, op])
    rw [if_pos op] at moved
    exact completes_of_next ht ⟨entered, moved⟩
  · exact enters_one_of_takes rfl h (by simp [op]) single (by simp [rcOp, op]) (by omega)
  · exact enters_one_of_takes rfl h (by simp [op]) single (by simp [rcOp, op]) (by omega)
  · obtain ⟨entered, after⟩ := rcAdmit_of_takes h
    have kind : (rcOp q p.qpn p r).kind = .write := by simp [rcOp, op]
    refine completes_of_eq rfl (rcArrive_spray h (by simp [op]) spray bitmap noOps noResponses) ⟨kind ▸ entered, ?_⟩
    rw [after, Option.map_some, contextAfter_epsn_spray (q := touched s q) spray]
    rfl
  · exact enters_one_of_takes rfl h (by simp [op, control]) single (by simp [rcOp, op]) (by omega)
  · obtain ⟨t, ht, entered, after, moved⟩ := enters_of_takes (c := .release p) rfl h (by simp [op, control]) single (k := .write)
      (by simp [rcOp, op])
    rw [if_neg (by omega)] at moved
    exact completes_of_next ht ⟨entered, moved, by rw [after, Option.map_some, contextAfter_st_of_release _ op control]⟩

end Sys2Proof.Machine
end

section
namespace Sys2Proof.Machine

/-! ## Answers to hosts -/

theorem emitFrame_of_outPort {o : Out} {p : Nat} (h : outPort o = some p) (s : State) : (emitFrame o s).outbox = s.outbox ++ [o] := by
  unfold emitFrame
  rw [h]
  rfl
theorem toHost_of_sendsAtOnce {s : State} (h : SendsAtOnce s) (o : Out) : toHost o s = emitFrame o s := by
  obtain ⟨open_, noCut⟩ := h
  simp [toHost, open_, noCut]
/-- An answer to a host that leaves at once. -/
theorem toHost_outbox_of_sendsAtOnce {s : State} (h : SendsAtOnce s) {o : Out} {p : Nat} (hp : outPort o = some p) :
    (toHost o s).outbox = s.outbox ++ [o] := by
  rw [toHost_of_sendsAtOnce h, emitFrame_of_outPort hp]
theorem sendsAtOnce_of_same {s t : State} (h : SendsAtOnce s) (hf : t.fix = s.fix) (hs : t.snap = s.snap) : SendsAtOnce t := by
  rw [SendsAtOnce, hf, hs]
  exact h
theorem toHost_held (o : Out) (s : State) (qpn : Nat) : heldQp (toHost o s) qpn = heldQp s qpn :=
  heldQp_of_rc (toHost_rc ..) (toHost_rst ..) qpn
theorem emitFrame_held (o : Out) (s : State) (qpn : Nat) : heldQp (emitFrame o s) qpn = heldQp s qpn :=
  heldQp_of_rc (emitFrame_rc ..) (emitFrame_rst ..) qpn

/-- A Stipple READ that ends is answered with its bytes, and leaves the table. -/
theorem endOp_read {o : Op} {r : ReplyTo} {s : State} (origin : o.origin = .stipple r) (kind : o.kind = .read) (v : RespVal)
    (good : v.status = 0) (h : SendsAtOnce s) :
    findOp (endOp o v s) o.id = none ∧ (endOp o v s).outbox = s.outbox ++ [.stipple r false v s.rst.node (incarnation s)] ∧
      (endOp o v s).rc = s.rc := by
  have marked : endOp o v s = toHost (.stipple r false v s.rst.node (incarnation s))
      (setSlot o.host (slotMark o.seq) (dropOp o.id s)) := by
    have noPlace : endPlace o v (dropOp o.id s) = dropOp o.id s := by simp [endPlace, kind]
    simp only [endOp, noPlace, origin, good, decide_true, when_true, endEntry, kind, nonIdem, respond]
    simp [setSlot, dropOp, incarnation, dget, updHost]
  have gone : findOp (dropOp o.id s) o.id = none := by simp [findOp, dropOp]
  rw [marked]
  refine ⟨?_, ?_, ?_⟩
  · rw [findOp, toHost_host]
    exact gone
  · rw [toHost_outbox_of_sendsAtOnce (s := setSlot o.host (slotMark o.seq) (dropOp o.id s)) h (p := r.port) rfl]
    rfl
  · rw [toHost_rc]
    rfl
theorem unpark_of_noneParked {s : State} (h : s.rc.parked = []) (port : Nat) : unpark port s = s := by
  simp [unpark, h]
theorem opValue_of_read {o : Op} {s : State} (kind : o.kind = .read) (good : o.nak = none) :
    opValue s o = { okVal with data := mbytes o.reads 0 o.len } := by
  simp [opValue, kind, good]
theorem doCompletionRelease_of_read {o : Op} {r : ReplyTo} {s : State} (found : findOp s o.id = some o) (origin : o.origin = .stipple r)
    (kind : o.kind = .read) (good : o.nak = none) (ended : opEnded s o = true) (h : SendsAtOnce s) (parked : s.rc.parked = []) :
    doCompletionRelease o.id s = endOp o { okVal with data := mbytes o.reads 0 o.len } s := by
  obtain ⟨-, -, keepsRc⟩ := endOp_read origin kind { okVal with data := mbytes o.reads 0 o.len } rfl h
  simp only [doCompletionRelease, found, ended, origin, opValue_of_read kind good, Bool.not_true, Bool.false_eq_true, if_false]
  exact unpark_of_noneParked (keepsRc ▸ parked) _

/-! ## Acknowledgement of queue pairs (R109, R114, R118) -/

theorem settleQp_of_open {qpn : Nat} {q : Qp} {s : State} (held : heldQp s qpn = some q) (st : q.st ≠ .closing) :
    settleQp qpn s = s := by
  simp [settleQp, held, st]
/-- The one PSN that completed next to the acknowledged ones. -/
theorem climb_single (p f : Nat) : climb [(psnAdd p 1, f)] 1 p = [(psnAdd p 1, f)] := by
  simp [climb]
/-- A context after the acknowledgement of the next PSN. -/
def acked (f : Nat) (q : Qp) : Qp :=
  { q with ackPsn := psnAdd q.ackPsn 1, msn := psnAdd q.msn (b2n (endsMessage f)), done := [] }
theorem ends_single (p f : Nat) : ([(p, f)].filter (fun d : Nat × Nat => endsMessage d.2)).length = b2n (endsMessage f) := by
  cases h : endsMessage f <;> simp [h, b2n]
/-- How the acknowledgement of a single PSN changes its context. -/
def ackMove (f : Nat) (q : Qp) (x : Qp) : Qp :=
  { x with ackPsn := psnAdd q.ackPsn 1, msn := psnAdd q.msn (b2n (endsMessage f)),
           done := x.done.filter (fun d => !([(psnAdd q.ackPsn 1, f)].contains d)) }
theorem heldQp_ackMove {qpn f : Nat} {q : Qp} {s : State} (held : heldQp s qpn = some q) (done : q.done = [(psnAdd q.ackPsn 1, f)]) :
    heldQp (modQp qpn (ackMove f q) s) qpn = some (acked f q) := by
  rw [heldQp_modQp held (heldQp_st held).1 (heldQp_st held).2]
  simp [ackMove, acked, done]
/-- The acknowledgement of a single PSN that is no atomic: told at once when forced, silent for a READ response. -/
theorem qpAck_of_single {force : Bool} {qpn f : Nat} {q : Qp} {s : State} (held : heldQp s qpn = some q)
    (done : q.done = [(psnAdd q.ackPsn 1, f)]) (noAtomic : f ≠ 3) (asks : force = true ∨ 4 ≤ f) :
    qpAck force qpn s = if force || f = 1 || f = 2 then
      toHost (.rc q.port qpn 0x1f (psnAdd q.ackPsn 1) (psnAdd q.msn (b2n (endsMessage f))) none) (modQp qpn (ackMove f q) s)
      else modQp qpn (ackMove f q) s := by
  have up : climb q.done q.done.length q.ackPsn = [(psnAdd q.ackPsn 1, f)] := by rw [done]; exact climb_single ..
  have asked : (force || asksAck f || decide (4 ≤ f)) = true := by
    rcases asks with h | h <;> simp [h]
  have noAtomics : [(psnAdd q.ackPsn 1, f)].filter (fun d => d.2 = 3) = [] := by simp [noAtomic]
  simp only [qpAck, held, up, List.getLast?_singleton, List.any_cons, List.any_nil, Bool.or_false, asked, if_true, noAtomics, ends_single,
    each, List.foldl_nil]
  simp only [Bool.or_assoc]
  rfl

/-- The acknowledgement timer tells the single PSN that is complete. -/
theorem doAckTimer_of_single {qpn f : Nat} {q : Qp} {s : State} (held : heldQp s qpn = some q)
    (done : q.done = [(psnAdd q.ackPsn 1, f)]) (st : q.st = .serving) (noAtomic : f ≠ 3) :
    doAckTimer qpn s = toHost (.rc q.port qpn 0x1f (psnAdd q.ackPsn 1) (psnAdd q.msn (b2n (endsMessage f))) none)
      (modQp qpn (ackMove f q) s) := by
  have told := qpAck_of_single held done noAtomic (.inl rfl)
  rw [Bool.true_or, Bool.true_or, if_pos rfl] at told
  rw [doAckTimer, told]
  exact settleQp_of_open ((toHost_held ..).trans (heldQp_ackMove held done)) (by simp [acked, st])
/-- A SPRAY ACK of a context without NAK, as it changes the context. -/
def sprayTold (x : Qp) : Qp := { x with sprayDirty := false, sprayNak := none }
theorem doSprayAckTimer_of_dirty {qpn : Nat} {q : Qp} {s : State} (held : heldQp s qpn = some q) (st : q.st = .serving)
    (spray : q.spray = true) (dirty : q.sprayDirty = true) (noNak : q.sprayNak = none) :
    doSprayAckTimer qpn s = modQp qpn sprayTold (toHost (.sprayAck q.port qpn q.epsn q.bitmap 0x1f q.epsn) s) := by
  have known : qpOf s qpn = some q := (Option.filter_eq_some_iff.1 held).1
  have after : heldQp (modQp qpn sprayTold (toHost (.sprayAck q.port qpn q.epsn q.bitmap 0x1f q.epsn) s)) qpn = some (sprayTold q) :=
    heldQp_modQp ((toHost_held ..).trans held) (by simp [sprayTold, st]) (by simp [sprayTold, st])
  simp only [doSprayAckTimer, known, spray, dirty, noNak, Bool.not_true, Bool.or_self, Bool.false_eq_true, if_false,
    Option.getD_none]
  exact settleQp_of_open after (by simp [sprayTold, st])

theorem psnDist_before {p : Nat} (h : p < psnMod) : psnDist p (psnAdd p 1) = psnMod - 1 := by
  unfold psnDist psnAdd psnMod at *
  omega
/-- What a READ response asks for when its PSN completes: 4, or 5 for the last. -/
def respFlag (r : RespPkt) : Nat := if r.last then 5 else 4
theorem respFlag_eq (r : RespPkt) : respFlag r = 4 ∧ r.last = false ∨ respFlag r = 5 ∧ r.last = true := by
  cases h : r.last <;> simp [respFlag, h]
/-- A context whose response has left. -/
def responseLeft (rest : List RespPkt) (x : Qp) : Qp := { x with responses := rest }
/-- A context where one more PSN is complete, with what it asks for. -/
def completed (psn flag : Nat) (x : Qp) : Qp := { x with done := x.done ++ [(psn, flag)] }
theorem doReadResponseSend_of_next {qpn : Nat} {q : Qp} {r : RespPkt} {rest : List RespPkt} {s : State}
    (held : heldQp s qpn = some q) (single : q.spray = false) (noneDone : q.done = []) (psn : q.ackPsn < psnMod)
    (responses : q.responses = r :: rest) (next : r.psn = psnAdd q.ackPsn 1) (noKey : r.key = 0) :
    doReadResponseSend qpn s = settleQp qpn (qpAck false qpn (modQp qpn (completed r.psn (respFlag r))
      (toHost (.rcRead q.port qpn r.psn r.data) (modQp qpn (responseLeft rest) s)))) := by
  have fresh : ¬ psnDist q.ackPsn (psnAdd q.ackPsn 1) < 8388608 := by
    rw [psnDist_before psn]
    decide
  have top : ((climb q.done q.done.length q.ackPsn).getLast?.map (·.1)).getD q.ackPsn = q.ackPsn := by
    rw [noneDone]
    rfl
  simp [doReadResponseSend, held, responses, top, next, fresh, noKey, single]
  rfl
/-- The next response leaves, and with it the PSN is acknowledged. -/
theorem readResponse_of_next {qpn : Nat} {q : Qp} {r : RespPkt} {rest : List RespPkt} {s : State}
    (held : heldQp s qpn = some q) (st : q.st = .serving) (single : q.spray = false) (noneDone : q.done = []) (psn : q.ackPsn < psnMod)
    (responses : q.responses = r :: rest) (next : r.psn = psnAdd q.ackPsn 1) (noKey : r.key = 0) (h : SendsAtOnce s) :
    (doReadResponseSend qpn s).outbox = s.outbox ++ [.rcRead q.port qpn r.psn r.data] ∧ heldQp (doReadResponseSend qpn s) qpn = some
      { q with responses := rest, done := [], ackPsn := r.psn, msn := psnAdd q.msn (b2n r.last) } := by
  have left : heldQp (modQp qpn (responseLeft rest) s) qpn = some (responseLeft rest q) :=
    heldQp_modQp held (heldQp_st held).1 (heldQp_st held).2
  have sent : (toHost (.rcRead q.port qpn r.psn r.data) (modQp qpn (responseLeft rest) s)).outbox =
      s.outbox ++ [.rcRead q.port qpn r.psn r.data] := by
    rw [toHost_outbox_of_sendsAtOnce (sendsAtOnce_of_same h (modQp_fix ..) (modQp_snap ..)) (p := q.port) rfl, modQp_outbox]
  have complete : heldQp (modQp qpn (completed r.psn (respFlag r))
      (toHost (.rcRead q.port qpn r.psn r.data) (modQp qpn (responseLeft rest) s))) qpn =
        some (completed r.psn (respFlag r) (responseLeft rest q)) :=
    heldQp_modQp ((toHost_held ..).trans left) (heldQp_st held).1 (heldQp_st held).2
  have one : (completed r.psn (respFlag r) (responseLeft rest q)).done =
      [(psnAdd (completed r.psn (respFlag r) (responseLeft rest q)).ackPsn 1, respFlag r)] := by
    simp [completed, responseLeft, noneDone, next]
  have ack := qpAck_of_single (force := false) complete one (by rcases respFlag_eq r with h | h <;> omega)
    (.inr (by rcases respFlag_eq r with h | h <;> omega))
  rw [if_neg (by rcases respFlag_eq r with h | h <;> simp [h])] at ack
  rw [doReadResponseSend_of_next held single noneDone psn responses next noKey, ack,
    settleQp_of_open (heldQp_ackMove complete one) (by simp [acked, completed, responseLeft, st]), modQp_outbox, modQp_outbox, sent,
    heldQp_ackMove complete one]
  refine ⟨rfl, ?_⟩
  have ends : endsMessage (respFlag r) = r.last := by rcases respFlag_eq r with h | h <;> simp [h, endsMessage]
  rw [acked, ends, next]
  rfl

/-! ## Rates and contexts (R106, R114) -/

theorem qpFrame_held (qpn : Nat) (s : State) (q : Nat) : heldQp (qpFrame qpn s) q = heldQp s q :=
  heldQp_of_rc (qpFrame_rc ..) (qpFrame_rst ..) q
/-- A frame of a queue pair is counted, and no parameter is written. -/
theorem dget_qpFrame {k : Nat} (hk : k < 0x710000) (qpn : Nat) (s : State) : dget (qpFrame qpn s) k = dget s k := by
  unfold qpFrame
  split
  · unfold countFrame
    rw [show when_ false _ _ = _ from rfl]
    exact (dget_bumpBy_ne _ _ _ _ (by omega)).trans (dget_bump_ne _ _ _ (by omega))
  · rfl
theorem heldQp_bump (k : Nat) (s : State) (qpn : Nat) : heldQp (bump k s) qpn = heldQp s qpn := rfl
theorem doCnpReceive_of_held {qpn : Nat} {q : Qp} {s : State} (held : heldQp s qpn = some q) :
    heldQp (doCnpReceive qpn s) qpn = some
      { q with target := q.rate, rate := max (q.rate - q.rate * q.alpha / 2048) (dget s 0x21020b),
               alpha := (1024 - min 1024 (dget s 0x210207)) * q.alpha / 1024 + min 1024 (dget s 0x210207), stage := 0 } := by
  have heldNow := (qpFrame_held qpn s qpn).trans held
  simp only [doCnpReceive, heldNow, dget_qpFrame (show 0x21020b < 0x710000 by decide), dget_qpFrame (show 0x210207 < 0x710000 by decide)]
  rw [heldQp_bump]
  exact heldQp_modQp heldNow (heldQp_st held).1 (heldQp_st held).2
theorem doRateIncreaseTick_of_held {qpn : Nat} {q : Qp} {s : State} (held : heldQp s qpn = some q) :
    heldQp (doRateIncreaseTick qpn s) qpn = some (if q.stage < 5 then
      { q with stage := q.stage + 1, rate := (q.rate + q.target) / 2 } else
      { q with target := min (q.target + dget s 0x21020a) 100000, rate := (q.rate + min (q.target + dget s 0x21020a) 100000) / 2 }) := by
  have hst := heldQp_st held
  unfold doRateIncreaseTick
  by_cases young : q.stage < 5
  · rw [heldQp_modQp held] <;> simp [young, hst]
  · rw [heldQp_modQp held] <;> simp [young, hst]
theorem doContextFetchDone_of_room {qpn : Nat} {s : State} (fetching : s.rc.fetching.contains qpn = true)
    (room : s.rc.cache.length < 4096) (noneHeld : s.rc.held = []) :
    (doContextFetchDone qpn s).rc.cache = s.rc.cache ++ [qpn] ∧ (doContextFetchDone qpn s).rc.fetching = dropSet s.rc.fetching qpn := by
  simp only [doContextFetchDone, fetching, room, noneHeld, decide_true, Bool.not_true, Bool.false_and, Bool.false_eq_true, if_false,
    if_true, List.filter_nil, List.map_nil, each, List.foldl_nil]
  exact ⟨rfl, rfl⟩

/-- Settles O41. -/
theorem rcAnswerCommands : Obligations.RcAnswerCommands := by
  unfold Obligations.RcAnswerCommands
  refine ⟨fun o r s found origin kind good ended h parked => ?_, fun qpn f q s held done st noAtomic h => ?_,
    fun qpn q s held st spray dirty noNak h => ?_, fun qpn q r rest s held st single done psn responses next noKey h => ?_,
    fun qpn q s held => ?_, fun qpn q s held => ?_, fun qpn q s held => ?_, fun qpn s fetching room noneHeld => ?_⟩
  · obtain ⟨gone, answered, -⟩ := endOp_read origin kind { okVal with data := mbytes o.reads 0 o.len } rfl h
    exact completes_of_eq rfl (doCompletionRelease_of_read found origin kind good ended h parked) ⟨gone, answered⟩
  · refine completes_of_eq rfl (doAckTimer_of_single held done st noAtomic) ⟨?_, ?_⟩
    · exact (toHost_held ..).trans (heldQp_ackMove held done)
    · rw [toHost_outbox_of_sendsAtOnce (sendsAtOnce_of_same h (modQp_fix ..) (modQp_snap ..)) (p := q.port) rfl, modQp_outbox]
  · refine completes_of_eq rfl (doSprayAckTimer_of_dirty held st spray dirty noNak) ⟨?_, ?_⟩
    · rw [heldQp_modQp ((toHost_held ..).trans held) (by simp [sprayTold, st]) (by simp [sprayTold, st]), sprayTold, ← noNak]
    · rw [modQp_outbox, toHost_outbox_of_sendsAtOnce h (p := q.port) rfl]
  · exact completes_of_next rfl (readResponse_of_next held st single done psn responses next noKey h)
  · exact completes_of_next rfl (doCnpReceive_of_held held)
  · exact completes_of_next rfl (heldQp_modQp held (heldQp_st held).1 (heldQp_st held).2)
  · exact completes_of_next rfl (doRateIncreaseTick_of_held held)
  · exact completes_of_next rfl (doContextFetchDone_of_room fetching room noneHeld)

end Sys2Proof.Machine
end

section
namespace Sys2Proof.Machine

/-! ## Connection management of queue pairs (R100–R104) -/

theorem tfind_tdel_self {α : Type} (l : Tbl α) (k : Nat) : tfind (tdel l k) k = none := by
  induction l with
  | nil => rfl
  | cons p l ih =>
    obtain ⟨i, v⟩ := p
    unfold tdel at *
    by_cases hi : i = k
    · simpa [hi] using ih
    · have hk : k ≠ i := fun h => hi h.symm
      simpa [hi, tfind, hk] using fun _ => by simpa using ih
theorem qpOf_freeQp (qpn : Nat) (s : State) : qpOf (freeQp qpn s) qpn = none := by
  unfold freeQp
  dsimp only
  have gone : ∀ u : State, u.rst = s.rst →
      u.rc.own = (if qpn / 65536 = s.rst.node then tdel s.rc.own (qpn % 65536) else s.rc.own) →
      u.rc.shadows = (if qpn / 65536 = s.rst.node then s.rc.shadows else tdel s.rc.shadows qpn) → qpOf u qpn = none := by
    intro u rst own shadows
    rw [qpOf, rst, own, shadows]
    split <;> exact tfind_tdel_self ..
  unfold when_
  split
  · exact gone _ (by rw [sendCtl_rst]; rfl) (by rw [sendCtl_rc]; rfl) (by rw [sendCtl_rc]; rfl)
  · exact gone _ rfl rfl rfl
theorem heldQp_freeQp (qpn : Nat) (s : State) : heldQp (freeQp qpn s) qpn = none := by
  rw [heldQp, qpOf_freeQp]
  rfl

theorem reqRefusal_alike {s t : State} (h : AdmitsAlike s t) (rc : t.rc = s.rc) (m : CmReq)
    (d : ∀ k < 0x710000, dget t k = dget s k) : reqRefusal t m = reqRefusal s m := by
  unfold reqRefusal pathMtu fget
  rw [serving_alike h, hostEnabled_alike h, h.md, h.rst, h.force, rc, d 0x210201 (by decide), d 0x210202 (by decide)]
theorem dget_countFrame {k : Nat} (hk : k < 0x710000) (p : Nat) (s : State) : dget (countFrame p false s) k = dget s k :=
  (dget_bumpBy_ne _ _ _ _ (by omega)).trans (dget_bump_ne _ _ _ (by omega))
theorem reqRefusal_countFrame (m : CmReq) (p : Nat) (s : State) : reqRefusal (countFrame p false s) m = reqRefusal s m :=
  reqRefusal_alike (admitsAlike_countFrame ..) (countFrame_rc ..) m (fun _ hk => dget_countFrame hk ..)

theorem doCmReq_of_refused {m : CmReq} {c : Nat} {s : State} (isOpen : portOpen s m.port.val = true) (h : reqRefusal s m = some c) :
    doCmReq m s = emitFrame (.cmRej m.port.val m.commId c) (countFrame m.port.val false s) := by
  simp only [doCmReq, isOpen, (reqRefusal_countFrame ..).trans h]
  rfl
theorem nthFree_nil (n : Nat) : nthFree [] n = n := rfl
theorem hostTenant_alike {s t : State} (h : AdmitsAlike s t) (host : Nat) : hostTenant t host = hostTenant s host := by
  unfold hostTenant
  rw [live_alike h]
theorem pairWorks_of_cp {s t : State} (h : t.cp = s.cp) : pairWorks t = pairWorks s := by
  rw [pairWorks, h, pairWorks]
theorem sendRep_of_held {qpn : Nat} {q : Qp} {s : State} (held : heldQp s qpn = some q) (alone : pairWorks s = false) :
    (sendRep qpn s).outbox = s.outbox ++ [.cmRep q.port q.commId qpn (b2n q.spray) (incarnation s) s.cp.twinNode
      (Config.twinAddr q.port) q.respRes] ∧ heldQp (sendRep qpn s) qpn = some q := by
  unfold sendRep
  rw [held]
  dsimp only
  refine ⟨?_, (emitFrame_held ..).trans held⟩
  rw [emitFrame_of_outPort (p := q.port) rfl, alone]
  rfl
theorem tfind_tput_self {α : Type} (l : Tbl α) (i : Nat) (v : α) : tfind (tput l i v) i = some v := by
  induction l with
  | nil => simp [tput, tfind]
  | cons p l ih =>
    obtain ⟨k, w⟩ := p
    unfold tput
    split
    · simp [tfind]
    · split
      · simp [tfind]
      · next ne lt => simp [tfind, ne, lt, ih]

theorem dreqAsked {qpn : Nat} {q : Qp} {s : State} (held : heldQp s qpn = some q) (own : q.ownDreq = true) :
    doCmDreq qpn s = freeQp qpn (emitFrame (.cmDrep q.port qpn) (qpFrame qpn s)) := by
  simp only [doCmDreq, (qpFrame_held qpn s qpn).trans held, own, if_true]
theorem freed_outbox (qpn : Nat) (q : Qp) (s : State) :
    (freeQp qpn (emitFrame (.cmDrep q.port qpn) s)).outbox = s.outbox ++ [.cmDrep q.port qpn] := by
  rw [freeQp_outbox, emitFrame_of_outPort (p := q.port) rfl]
/-- A context that closes on a DREQ. -/
def closingQp (x : Qp) : Qp := { x with st := .closing }
theorem qpAck_of_noneDone {force : Bool} {qpn : Nat} {q : Qp} {s : State} (held : heldQp s qpn = some q) (done : q.done = []) :
    qpAck force qpn s = s := by
  simp [qpAck, held, done, climb]
theorem heldQp_closing {qpn : Nat} {q : Qp} {s : State} (held : heldQp s qpn = some q) :
    heldQp (modQp qpn closingQp s) qpn = some (closingQp q) :=
  heldQp_modQp held (by simp [closingQp]) (by simp [closingQp])
/-- A DREQ of the host with nothing left to acknowledge. -/
theorem doCmDreq_of_noneDone {qpn : Nat} {q : Qp} {s : State} (held : heldQp s qpn = some q) (own : q.ownDreq = false)
    (done : q.done = []) : doCmDreq qpn s = settleQp qpn (modQp qpn closingQp (qpFrame qpn s)) := by
  have closing := heldQp_closing ((qpFrame_held qpn s qpn).trans held)
  have ack : qpAck true qpn (modQp qpn closingQp (qpFrame qpn s)) = modQp qpn closingQp (qpFrame qpn s) :=
    qpAck_of_noneDone closing (by simp [closingQp, done])
  simp only [doCmDreq, (qpFrame_held qpn s qpn).trans held, own, Bool.false_eq_true, if_false]
  exact congrArg (settleQp qpn) ack
theorem qpOps_of_host {s t : State} (h : t.host = s.host) (qpn : Nat) : qpOps t qpn = qpOps s qpn := by rw [qpOps, h, qpOps]
theorem settleQp_closing {qpn : Nat} {q : Qp} {s : State} (held : heldQp s qpn = some q) (own : q.ownDreq = false) (done : q.done = [])
    (responses : q.responses = []) (idle : qpOps s qpn = []) :
    settleQp qpn (modQp qpn closingQp s) = freeQp qpn (emitFrame (.cmDrep q.port qpn) (modQp qpn closingQp s)) := by
  have ops : qpOps (modQp qpn closingQp s) qpn = [] := (qpOps_of_host (modQp_host ..) _).trans idle
  have closed : (closingQp q).st = .closing ∧ (closingQp q).ownDreq = false ∧ (closingQp q).done = [] ∧ (closingQp q).responses = []
      ∧ (closingQp q).port = q.port := ⟨rfl, own, done, responses, rfl⟩
  simp [settleQp, heldQp_closing held, ops, closed]
theorem settleQp_of_busy {qpn : Nat} {s : State} (busy : qpOps s qpn ≠ []) : settleQp qpn s = s := by
  unfold settleQp
  split
  · have : (qpOps s qpn).isEmpty = false := by simpa using busy
    simp [this]
  · rfl

/-- A context that is made in use is held, and outside a working pair it draws REP. -/
theorem sendRep_of_made {i : Nat} {q : Qp} {s : State} (alone : pairWorks s = false) (hi : i < 65536) (st : q.st = .connecting) :
    heldQp (sendRep (s.rst.node * 65536 + i) (draw (updRc (fun r => { r with own := tput r.own i q }) s))) (s.rst.node * 65536 + i) = some q ∧
    (sendRep (s.rst.node * 65536 + i) (draw (updRc (fun r => { r with own := tput r.own i q }) s))).outbox =
      s.outbox ++ [.cmRep q.port q.commId (s.rst.node * 65536 + i) (b2n q.spray) (incarnation s) s.cp.twinNode
        (Config.twinAddr q.port) q.respRes] := by
  have high : (s.rst.node * 65536 + i) / 65536 = s.rst.node := by omega
  have low : (s.rst.node * 65536 + i) % 65536 = i := by omega
  have made : heldQp (draw (updRc (fun r => { r with own := tput r.own i q }) s)) (s.rst.node * 65536 + i) = some q := by
    simp [heldQp, qpOf, high, low, draw, tfind_tput_self, st]
  obtain ⟨rep, held⟩ := sendRep_of_held made ((pairWorks_of_cp rfl).trans alone)
  exact ⟨held, rep⟩
/-- A REQ that is accepted makes a connecting context, and outside a working pair draws REP. -/
theorem doCmReq_of_accepted {m : CmReq} {s : State} (isOpen : portOpen s m.port.val = true) (h : reqRefusal s m = none)
    (alone : pairWorks s = false) (node : s.rst.node ≠ 0) (noOwn : s.rc.own = []) :
    ∃ i q, heldQp (doCmReq m s) (s.rst.node * 65536 + i) = some q ∧ q.st = .connecting ∧ q.host = m.hostId ∧
      q.tenant = hostTenant s m.hostId ∧ q.epsn = m.startPsn ∧ q.remoteQpn = m.remoteQpn ∧ q.port = m.port.val ∧
      (doCmReq m s).outbox = s.outbox ++ [.cmRep q.port m.commId (s.rst.node * 65536 + i) (b2n q.spray) (incarnation s) s.cp.twinNode
        (Config.twinAddr q.port) q.respRes] := by
  have accepted := (reqRefusal_countFrame m m.port.val s).trans h
  have aloneNow : pairWorks (countFrame m.port.val false s) = false := (pairWorks_of_cp (countFrame_cp ..)).trans alone
  have nodeNow : (countFrame m.port.val false s).rst.node = s.rst.node := by rw [countFrame_rst]
  have ownNow : (countFrame m.port.val false s).rc.own = [] := by rw [countFrame_rc, noOwn]
  have inc : incarnation (countFrame m.port.val false s) = incarnation s := dget_countFrame (by decide) ..
  have twin : (countFrame m.port.val false s).cp.twinNode = s.cp.twinNode := by rw [countFrame_cp]
  have out : (countFrame m.port.val false s).outbox = s.outbox := countFrame_outbox ..
  have tenant : hostTenant (countFrame m.port.val false s) m.hostId = hostTenant s m.hostId :=
    hostTenant_alike (admitsAlike_countFrame ..) _
  simp only [doCmReq, isOpen, accepted, nodeNow, node, ownNow, aloneNow, if_false, Bool.not_true, Bool.false_eq_true, List.map_nil,
    List.append_nil, nthFree_nil, List.length_nil]
  have made (q : Qp) (st : q.st = .connecting) :=
    sendRep_of_made (i := Config.placement (countFrame m.port.val false s).freeCtr % max 1 (65536 - 0 - 0)) aloneNow
      (Nat.mod_lt _ (by decide)) st
  simp only [nodeNow, inc, twin, out] at made
  refine ⟨_, _, (made _ ?_).1, ?_, ?_, tenant, ?_, ?_, ?_, (made _ ?_).2⟩ <;> rfl

/-- Settles O42. -/
theorem connectionCommands : Obligations.ConnectionCommands := by
  unfold Obligations.ConnectionCommands
  refine ⟨fun m c s isOpen refused => ?_, fun m s isOpen accepted alone node noOwn => ?_, fun qpn q s held st => ?_,
    fun qpn q s held own => ?_, fun qpn q s held own done idle responses => ?_, fun qpn q s held own done busy => ?_,
    fun qpn q s held own => ?_, fun qpn q s held st noneWait => ?_, fun qpn q s held st period late => ?_,
    fun qpn q s held own => ?_⟩
  · refine completes_of_eq rfl (doCmReq_of_refused isOpen refused) ⟨?_, ?_⟩
    · rw [emitFrame_of_outPort (p := m.port.val) rfl, countFrame_outbox]
    · rw [emitFrame_rc, countFrame_rc]
  · exact completes_of_next rfl (doCmReq_of_accepted isOpen accepted alone node noOwn)
  · have heldNow := (qpFrame_held qpn s qpn).trans held
    refine completes_of_next rfl ?_
    simp only [doCmRtu, heldNow, st, if_true, qpFrame_rtc]
    rw [heldQp_modQp heldNow (by simp) (by simp)]
  · refine completes_of_eq rfl (dreqAsked held own) ⟨heldQp_freeQp .., ?_⟩
    rw [freed_outbox, qpFrame_outbox]
  · have heldNow := (qpFrame_held qpn s qpn).trans held
    refine completes_of_eq rfl ((doCmDreq_of_noneDone held own done).trans
      (settleQp_closing heldNow own done responses ((qpOps_of_host (qpFrame_host ..) _).trans idle))) ⟨heldQp_freeQp .., ?_⟩
    rw [freed_outbox, modQp_outbox, qpFrame_outbox]
  · have stays : settleQp qpn (modQp qpn closingQp (qpFrame qpn s)) = modQp qpn closingQp (qpFrame qpn s) :=
      settleQp_of_busy (by rw [qpOps_of_host (modQp_host ..), qpOps_of_host (qpFrame_host ..)]; exact busy)
    refine completes_of_eq rfl ((doCmDreq_of_noneDone held own done).trans stays) ⟨?_, ?_⟩
    · exact heldQp_closing ((qpFrame_held qpn s qpn).trans held)
    · rw [modQp_outbox, qpFrame_outbox]
  · refine completes_of_next rfl ?_
    simp only [doCmDrep, (qpFrame_held qpn s qpn).trans held, own, if_true]
    exact heldQp_freeQp ..
  · refine completes_of_next rfl ?_
    simp only [doConnectTimeout, held, st, noneWait, List.any_nil, decide_true, Bool.not_false, Bool.and_true, if_true]
    exact heldQp_freeQp ..
  · have idle : doQpIdleTimeout qpn s = emitFrame (.cmDreq q.port qpn) (modQp qpn (fun x => { x with st := .closing, ownDreq := true }) s) := by
      have due : (decide (q.st = .serving) && decide (dget s 0x210203 ≠ 0) &&
          decide ((s.rtc + 2 ^ 32 - q.lastRx) % 2 ^ 32 ≥ dget s 0x210203 * 1000)) = true := by
        rw [decide_eq_true st, decide_eq_true period, decide_eq_true late]; rfl
      simp only [doQpIdleTimeout, held, due, if_true, sendDreq]
    refine completes_of_eq rfl idle ⟨?_, ?_⟩
    · rw [emitFrame_held, heldQp_modQp held (by simp) (by simp)]
    · rw [emitFrame_of_outPort (p := q.port) rfl, modQp_outbox]
  · refine completes_of_next rfl ?_
    simp only [doDrepTimeout, held, own, if_true]
    exact heldQp_freeQp ..

end Sys2Proof.Machine
end

section
namespace Sys2Proof.Machine

/-! ## The region command engine (R137) -/

/-- The command that a block begins. -/
def cmdOf (code : Nat) (b : RegionBlock) : RunCmd := ⟨code, b, .claim, [], 0, false, false⟩
/-- The state at which a command that needs no claim runs: its status is 0xff. -/
def running (code : Nat) (b : RegionBlock) (s : State) : State :=
  dset 0x221002 255 (updEng (fun e => { e with run := some (cmdOf code b) }) s)
/-- The block written is kept, and its writer answered. -/
def blockTaken (code : Nat) (b : RegionBlock) (s : State) : State :=
  keepBlock 0x221001 (regionBlockValue code b) (dictDone 0x2210 1 s)

/-- A block that is taken runs its command at once. -/
theorem command_of_takesBlock {code : Nat} {b : RegionBlock} {s : State} (h : TakesBlock code b s) :
    command code b s = blockTaken code b (startCmd (cmdOf code b) (running code b s)) := by
  obtain ⟨serves, reserved, idle, status, alone, -⟩ := h
  unfold command
  rw [dictGuard_of_serves serves _ _ (by simp)]
  simp only [reserved, idle, status, alone, ne_eq, not_true, if_false, Bool.not_false, if_true]
  rfl
theorem blockTaken_per (code : Nat) (b : RegionBlock) (s : State) : (blockTaken code b s).per = s.per :=
  (keepBlock_per ..).trans (dictDone_per ..)
theorem blockTaken_eng (code : Nat) (b : RegionBlock) (s : State) : (blockTaken code b s).eng = s.eng :=
  (keepBlock_eng ..).trans (dictDone_eng ..)
theorem dget_blockTaken {k : Nat} (h : k = 0x221002 ∨ k = 0x221003) (code : Nat) (b : RegionBlock) (s : State) :
    dget (blockTaken code b s) k = dget s k := by
  unfold blockTaken keepBlock
  rw [dget_dset_ne _ _ _ _ (by omega), dget_dictDone_ne (by omega)]
theorem live_of_per {s t : State} (h : t.per = s.per) : live t = live s := congrArg Persist.live h
theorem findRegion_of_regions {s t : State} (h : (live t).regions = (live s).regions) (id : Nat) : findRegion t id = findRegion s id := by
  rw [findRegion, h, findRegion]
theorem keyOf_of_keys {s t : State} (h : (live t).keys = (live s).keys) (i : Nat) : keyOf t i = keyOf s i := by
  rw [keyOf, h, keyOf]
theorem findRegion_id {s : State} {id slot : Nat} {r : Region} (h : findRegion s id = some (slot, r)) : r.id = id := by
  have := List.find?_some h
  simpa using this

/-- A command that ends without a claim reports. -/
theorem reported_finishCmd {result : Nat} {s : State} (noClaim : s.eng.claimed = []) : Reported (finishCmd 0 result s) result := by
  have : finishCmd 0 result s = dset 0x221002 0 (dset 0x221003 result (updEng (fun e => { e with run := none }) s)) := by
    simp [finishCmd, noClaim]
  rw [this]
  exact ⟨dget_dset_self .., (dget_dset_ne _ _ _ _ (by decide)).trans (dget_dset_self ..)⟩
theorem finishCmd_live (status result : Nat) (s : State) : live (finishCmd status result s) = live s := live_of_per (finishCmd_per ..)
theorem changeElem_alone {s : State} (alone : pairWorks s = false) (c : RunCmd) (e : TableElem) :
    changeElem c e s = finishCmd 0 c.result (applyElem e s) := by
  simp [changeElem, alone]

theorem running_alone {code : Nat} {b : RegionBlock} {s : State} (h : TakesBlock code b s) : pairWorks (running code b s) = false := h.2.2.2.2.1
theorem tierFits_running (code : Nat) (b : RegionBlock) (s : State) (tenant tier n : Nat) :
    tierFits (running code b s) tenant tier n = tierFits s tenant tier n := by
  have full : mediaFull (running code b s) = mediaFull s :=
    congrArg (fun v => decide (v = 1)) (dget_dset_ne _ _ _ _ (by decide))
  have free : nandFree (running code b s) = nandFree s := by
    unfold nandFree
    rw [full]
    rfl
  unfold tierFits
  rw [free]
  rfl

section
variable {code : Nat} {b : RegionBlock} {s : State} (h : TakesBlock code b s)
include h

/-- A command block whose command changes one element: the element is applied and the command reports. -/
theorem completes_of_changeElem {c : Instr} {u : State} {cmd : RunCmd} {e : TableElem} {post : State → Prop}
    (hc : exec c s = .next (command code b s))
    (run : startCmd (cmdOf code b) (running code b s) = changeElem cmd e u) (alone : pairWorks u = false) (noClaim : u.eng.claimed = [])
    (hp : ∀ t, live t = live (applyElem e u) → Reported t cmd.result → post t) : Completes c s post := by
  obtain ⟨status, result⟩ := reported_finishCmd (result := cmd.result) (s := applyElem e u) (by rw [applyElem_eng]; exact noClaim)
  refine completes_of_eq hc ((command_of_takesBlock h).trans (congrArg (blockTaken code b) (run.trans (changeElem_alone alone ..))))
    (hp _ ?_ ⟨?_, ?_⟩)
  · rw [live_of_per (blockTaken_per ..), finishCmd_live]
  · rw [dget_blockTaken (.inl rfl), status]
  · rw [dget_blockTaken (.inr rfl), result]
/-- A command block whose command begins a fence. -/
theorem completes_of_fence {c : Instr} {cmd : RunCmd} {f : Fence} {post : State → Prop}
    (hc : exec c s = .next (command code b s))
    (run : startCmd (cmdOf code b) (running code b s) = updEng (fun e => { e with run := some cmd }) (startFence f (running code b s)))
    (hp : ∀ t, live t = live (startFence f (running code b s)) → t.eng.fence = some f → dget t 0x221002 = 255 → post t) :
    Completes c s post := by
  refine completes_of_eq hc ((command_of_takesBlock h).trans (congrArg (blockTaken code b) run)) (hp _ ?_ ?_ ?_)
  · rw [live_of_per (blockTaken_per ..)]
    rfl
  · rw [blockTaken_eng]
    rfl
  · rw [dget_blockTaken (.inl rfl), dget_of_dict (updEng_dict ..), dget_of_dict (startFence_dict ..)]
    exact dget_dset_self ..
end

/-! ## The elements of the tables -/

theorem applyElem_region_new {slot id owner tenant pages base dram nand : Nat} {s : State} (free : findRegion s id = none) :
    (live (applyElem (.region slot id 1 owner tenant pages base dram nand) s)).regions =
      tput (live s).regions slot ⟨id, .active, owner, tenant, pages, base⟩ := by
  have new : findRegion (countTable s) id = none := (findRegion_of_regions (countTable_regions ..) id).trans free
  simp only [applyElem, isTable, when_true, new]
  exact homePages_regions ..
theorem find_tput_of_none {α : Type} {p : Nat × α → Bool} {l : Tbl α} {k : Nat} {v : α} (hl : l.find? p = none) (hv : p (k, v) = true) :
    (tput l k v).find? p = some (k, v) := by
  induction l with
  | nil => simp [tput, hv]
  | cons a l ih =>
    obtain ⟨i, w⟩ := a
    rw [List.find?_cons] at hl
    cases hp : p (i, w) with
    | true => rw [hp] at hl; cases hl
    | false =>
      rw [hp] at hl
      unfold tput
      split
      · simp [hv]
      · split
        · simp [hv]
        · rw [List.find?_cons, hp]
          exact ih hl
theorem freePages_regions (l : List Nat) (s : State) : (live (each l freePage s)).regions = (live s).regions := by
  unfold each
  induction l generalizing s with
  | nil => rfl
  | cons p l ih => rw [List.foldl_cons, ih]; exact freePage_regions ..
theorem removeRegion_regions {id slot : Nat} {r : Region} {s : State} (found : findRegion s id = some (slot, r)) :
    (live (removeRegion id s)).regions = tdel (live s).regions slot := by
  simp only [removeRegion, found]
  exact congrArg (tdel · slot) (freePages_regions ..)
theorem modRegion_regions (id : Nat) (f : Region → Region) (s : State) :
    (live (modRegion id f s)).regions = (live s).regions.map (fun p => if p.2.id = id then (p.1, f p.2) else p) := rfl
theorem findRegion_modRegion {id slot : Nat} {r : Region} {f : Region → Region} {s : State} (hf : ∀ x, (f x).id = x.id)
    (found : findRegion s id = some (slot, r)) : findRegion (modRegion id f s) id = some (slot, f r) := by
  unfold findRegion at *
  rw [modRegion_regions, List.find?_map]
  have same : ((fun p : Nat × Region => decide (p.2.id = id)) ∘ fun p => if p.2.id = id then (p.1, f p.2) else p) =
      fun p => decide (p.2.id = id) := by
    funext p
    by_cases h : p.2.id = id <;> simp [h, hf]
  rw [same, found]
  have : r.id = id := by simpa using List.find?_some found
  simp [this]

/-- A region that grows takes its new size. -/
theorem findRegion_applyElem_grow {slot : Nat} {r : Region} {pages dram nand : Nat} {s : State} {id k : Nat}
    (found : findRegion s id = some (k, r)) (grow : r.pages < pages) :
    (findRegion (applyElem (.region slot id 1 r.owner r.tenant pages r.base dram nand) s) id).map (·.2.pages) = some pages := by
  have here : findRegion (countTable s) id = some (k, r) := (findRegion_of_regions (countTable_regions ..) id).trans found
  have other : pages ≠ r.pages := by omega
  have resized (tier : Nat) : findRegion (resizeRegion id pages tier (countTable s)) id =
      some (k, { r with pages := pages, st := .active }) := by
    simp only [resizeRegion, here, show ¬ pages < r.pages by omega, if_false]
    have homed : findRegion (homePages r.tenant tier (span r.base r.pages pages) (countTable s)) id = some (k, r) :=
      (findRegion_of_regions (homePages_regions ..) id).trans here
    exact findRegion_modRegion (f := fun x => { x with pages := pages, st := .active }) (fun _ => rfl) homed
  simp only [applyElem, isTable, when_true, here]
  rw [if_neg (show ¬ (1 : Nat) = 0 by decide), if_pos other]
  have owned := findRegion_modRegion (f := fun x => { x with owner := r.owner }) (fun _ => rfl)
    (resized (if nand > regionPages (countTable s) r false then 1 else 0))
  exact congrArg (Option.map (·.2.pages)) owned
theorem keyOf_applyElem_key {i key slot region : Nat} (s : State) :
    keyOf (applyElem (.key i key 1 slot region) s) i =
      { keyOf s i with gen := key % 16384, st := .valid, slot := slot, region := region } := by
  have := keyOf_setKey i (fun k => { k with gen := key % 16384, st := .valid, slot := slot, region := region }) (countTable s)
  exact this

/-! ## Keys under a fence (R138) -/

/-- A key whose revocation has begun. -/
def fencingKey (k : KeyEntry) : KeyEntry := { k with st := .fencing }
theorem keyOf_setKey_fencing {i j : Nat} {s : State} (h : i = j ∨ (keyOf s i).st = .fencing) :
    (keyOf (setKey j fencingKey s) i).st = .fencing := by
  by_cases hij : i = j
  · subst hij
    rw [keyOf_setKey]
    rfl
  · rw [keyOf_setKey_ne _ _ _ _ hij]
    exact h.resolve_left hij
theorem keyOf_fenceKeys (l : List Nat) (s : State) (i : Nat) (h : i ∈ l ∨ (keyOf s i).st = .fencing) :
    (keyOf (each l (fun j a => setKey j fencingKey a) s) i).st = .fencing := by
  unfold each
  induction l generalizing s with
  | nil => exact h.resolve_left List.not_mem_nil
  | cons j l ih =>
    rw [List.foldl_cons]
    refine ih _ ?_
    rcases h with h | h
    · rcases List.mem_cons.1 h with h | h
      · exact .inr (keyOf_setKey_fencing (.inl h))
      · exact .inl h
    · exact .inr (keyOf_setKey_fencing (.inr h))
/-- A fence of keys sets every one of them fencing. -/
theorem keyOf_startFence {f : Fence} {s : State} (noSize : f.newPages = none) {i : Nat} (hi : i ∈ f.keys) :
    (keyOf (startFence f s) i).st = .fencing := by
  have := keyOf_fenceKeys f.keys s i (.inl hi)
  simp only [startFence, noSize]
  exact this
theorem findRegion_startFence {f : Fence} {s : State} {n slot : Nat} {r : Region} (size : f.newPages = some n) (noKeys : f.keys = [])
    (found : findRegion s f.region = some (slot, r)) :
    findRegion (startFence f s) f.region = some (slot, { r with st := .fencing }) := by
  simp only [startFence, size, noKeys]
  exact findRegion_modRegion (f := fun x => { x with st := .fencing }) (fun _ => rfl) found

/-- Settles O43: each command changes one element, or begins one fence. -/
theorem regionCommands : Obligations.RegionCommands := by
  unfold Obligations.RegionCommands
  refine ⟨fun b slot base s h free enabled room fits hslot hbase => ?_, fun b slot r s h found noKeys => ?_,
    fun b slot r s h found active grow fits clear top => ?_, fun b slot r s h found shrink => ?_,
    fun b slot i r s h found few hi => ?_, fun b slot i r s h found hi nz region gen valid => ?_,
    fun b slot r keys s h found hkeys some_ => ?_, fun b slot r s h found owner => ?_⟩
  · have run : startCmd (cmdOf 1 b) (running 1 b s) = changeElem { cmdOf 1 b with result := base }
        (regionElem slot ⟨b.region, .active, b.owner, b.tenant, b.pages, base⟩ (if b.tier = 0 then b.pages else 0)
          (if b.tier = 0 then 0 else b.pages)) (draw (draw (running 1 b s))) := by
      have free' : findRegion (running 1 b s) b.region = none := free
      have enabled' : (tenantOf (running 1 b s) b.tenant).enable = true := enabled
      have room' : tenantRegions (running 1 b s) b.tenant < (tenantOf (running 1 b s) b.tenant).maxRegions := room
      have fits' : tierFits (running 1 b s) b.tenant b.tier b.pages = true := (tierFits_running ..).trans fits
      have slot' : findSlot (running 1 b s) = some slot := hslot
      have base' : findBase (running 1 b s) b.pages = some base := hbase
      simp only [startCmd, cmdOf, runCreate, free', enabled', fits', slot', base', Option.isSome_none, Bool.false_eq_true, if_false,
        Bool.not_true, Bool.false_or, decide_eq_true_eq, ge_iff_le, Nat.not_le.mpr room']
      rfl
    refine completes_of_changeElem h rfl run (show pairWorks (running 1 b s) = false from running_alone h) h.2.2.2.2.2 fun t tables reported => ⟨?_, reported⟩
    have free' : findRegion (draw (draw (running 1 b s))) b.region = none := free
    rw [findRegion, tables, regionElem, applyElem_region_new free']
    exact find_tput_of_none (p := fun p : Nat × Region => decide (p.2.id = b.region)) free (by simp)
  · have id := findRegion_id found
    have run : startCmd (cmdOf 2 b) (running 2 b s) = changeElem (cmdOf 2 b) (regionElem slot { r with st := .free } 0 0) (running 2 b s) := by
      have found' : findRegion (running 2 b s) b.region = some (slot, r) := found
      have noKeys' : regionKeys (running 2 b s) r.id = 0 := noKeys
      simp only [startCmd, cmdOf, runDelete, found', noKeys', gt_iff_lt, Nat.lt_irrefl, if_false]
    refine completes_of_changeElem h rfl run (running_alone h) h.2.2.2.2.2 fun t tables reported => ⟨?_, reported⟩
    have found' : findRegion (countTable (running 2 b s)) r.id = some (slot, r) := by
      rw [findRegion_of_regions (countTable_regions ..), id]
      exact found
    rw [tables]
    exact removeRegion_regions found'
  · have id := findRegion_id found
    have run : startCmd (cmdOf 3 b) (running 3 b s) = changeElem { cmdOf 3 b with result := b.pages } (regionElem slot { r with pages := b.pages }
        (regionPages (running 3 b s) r true + (if b.tier = 0 then b.pages - r.pages else 0))
        (regionPages (running 3 b s) r false + (if b.tier = 0 then 0 else b.pages - r.pages))) (running 3 b s) := by
      have found' : findRegion (running 3 b s) b.region = some (slot, r) := found
      have fits' : tierFits (running 3 b s) r.tenant b.tier (b.pages - r.pages) = true := (tierFits_running ..).trans fits
      have noOther : (live (running 3 b s)).regions.any (fun p => p.2.base ≥ r.base + r.pages ∧ p.2.base < r.base + b.pages) = false := by
        rw [List.any_eq_false]
        intro p hp
        have := List.all_eq_true.1 clear p hp
        simp only [Bool.or_eq_true, decide_eq_true_eq] at this
        simp only [decide_eq_true_eq]
        omega
      simp only [startCmd, cmdOf, runResize, found', fits', show b.pages ≠ r.pages by omega, grow, if_false, gt_iff_lt, if_true,
        Bool.not_true, Bool.false_eq_true, Nat.not_lt.mpr top, decide_false, Bool.or_false]
      exact if_neg (ne_true_of_eq_false noOther)
    refine completes_of_changeElem h rfl run (running_alone h) h.2.2.2.2.2 fun t tables reported => ⟨?_, reported⟩
    have found' : findRegion (running 3 b s) b.region = some (slot, r) := found
    rw [findRegion_of_regions (congrArg Tables.regions tables), regionElem]
    simp only [active, id]
    exact findRegion_applyElem_grow found' grow
  · have id := findRegion_id found
    have found' : findRegion (running 3 b s) b.region = some (slot, r) := found
    have run : startCmd (cmdOf 3 b) (running 3 b s) = updEng (fun e => { e with run := some { cmdOf 3 b with phase := .fence, result := b.pages } })
        (startFence ⟨r.id, [], some b.pages, false, false, false, false⟩ (running 3 b s)) := by
      simp only [startCmd, cmdOf, runResize, found', show b.pages ≠ r.pages by omega, show ¬ b.pages > r.pages by omega, if_false]
    refine completes_of_fence h rfl run fun t tables fence status => ⟨fence, status, ?_⟩
    have fenced := findRegion_startFence (f := ⟨r.id, [], some b.pages, false, false, false, false⟩) rfl rfl (id ▸ found')
    rw [findRegion_of_regions (congrArg Tables.regions tables), ← id]
    exact congrArg (Option.map (·.2.st)) fenced
  · have run : startCmd (cmdOf 4 b) (running 4 b s) = changeElem { cmdOf 4 b with result := i * 16384 + (keyOf s i).gen + 1 }
        (.key i (i * 16384 + (keyOf s i).gen + 1) 1 slot r.id) (running 4 b s) := by
      have found' : findRegion (running 4 b s) b.region = some (slot, r) := found
      have few' : regionKeys (running 4 b s) r.id < 16 := few
      have hi' : issuable (running 4 b s) = some i := hi
      simp only [startCmd, cmdOf, runIssue, found', hi', ge_iff_le, Nat.not_le.mpr few', if_false]
      rfl
    refine completes_of_changeElem h rfl run (running_alone h) h.2.2.2.2.2 fun t tables reported => ?_
    have key := (keyOf_of_keys (congrArg Tables.keys tables) i).trans (keyOf_applyElem_key (running 4 b s))
    rw [key]
    exact ⟨rfl, rfl, by simp only []; omega, reported⟩
  · subst hi
    have run : startCmd (cmdOf 5 b) (running 5 b s) =
        updEng (fun e => { e with run := some { cmdOf 5 b with phase := .fence, keys := [b.key / 16384] } })
          (startFence ⟨r.id, [b.key / 16384], none, false, false, false, false⟩ (running 5 b s)) := by
      have found' : findRegion (running 5 b s) b.region = some (slot, r) := found
      have key' : keyOf (running 5 b s) (b.key / 16384) = keyOf s (b.key / 16384) := rfl
      simp only [startCmd, cmdOf, runRevoke, found', key', region, gen, valid]
      simp [nz]
    refine completes_of_fence h rfl run fun t tables fence status => ⟨fence, ?_, status⟩
    rw [keyOf_of_keys (congrArg Tables.keys tables)]
    exact keyOf_startFence rfl (List.mem_singleton_self _)
  · have run : startCmd (cmdOf 6 b) (running 6 b s) =
        updEng (fun e => { e with run := some { cmdOf 6 b with phase := .fence, keys := keys, result := keys.length } })
          (startFence ⟨r.id, keys, none, false, false, false, false⟩ (running 6 b s)) := by
      have found' : findRegion (running 6 b s) b.region = some (slot, r) := found
      have valid : ((live (running 6 b s)).keys.filter (fun p => p.2.st = .valid ∧ p.2.region = r.id)).map (·.1) = keys := hkeys.symm
      simp only [startCmd, cmdOf, runRevokeRegion, found', valid]
      exact if_neg (by simpa using some_)
    refine completes_of_fence h rfl run fun t tables fence status => ⟨fence, status, fun i hi => ?_⟩
    rw [keyOf_of_keys (congrArg Tables.keys tables)]
    exact keyOf_startFence rfl hi
  · have run : startCmd (cmdOf 7 b) (running 7 b s) = finishCmd 0 0 (running 7 b s) := by
      have found' : findRegion (running 7 b s) b.region = some (slot, r) := found
      simp only [startCmd, cmdOf, runSetOwner, found', owner, if_true]
    obtain ⟨status, result⟩ := reported_finishCmd (result := 0) (s := running 7 b s) h.2.2.2.2.2
    refine completes_of_eq rfl ((command_of_takesBlock h).trans (congrArg (blockTaken 7 b) run)) ⟨⟨?_, ?_⟩, ?_⟩
    · rw [dget_blockTaken (.inl rfl), status]
    · rw [dget_blockTaken (.inr rfl), result]
    · rw [live_of_per (blockTaken_per ..), finishCmd_live]
      rfl

end Sys2Proof.Machine
end

section
namespace Sys2Proof.Machine

/-! ## The end of a fence (R138) -/

/-- One key of a fence that ends: revoked, in the order of revocation. -/
def revokeKey (i : Nat) (s : State) : State :=
  setKey i (fun k => { k with st := .revoked, order := (live s).revocations, retired := k.retired || decide (k.gen = 16383) })
    (updLive (fun t => { t with revocations := (live s).revocations + 1 }) s)
theorem keyOf_revokeKey {i j : Nat} {s : State} (h : i = j ∨ (keyOf s i).st = .revoked) : (keyOf (revokeKey j s) i).st = .revoked := by
  unfold revokeKey
  by_cases hij : i = j
  · subst hij
    rw [keyOf_setKey]
  · rw [keyOf_setKey_ne _ _ _ _ hij]
    exact h.resolve_left hij
theorem keyOf_revokeKeys (l : List Nat) (s : State) (i : Nat) (h : i ∈ l ∨ (keyOf s i).st = .revoked) :
    (keyOf (each l revokeKey s) i).st = .revoked := by
  unfold each
  induction l generalizing s with
  | nil => exact h.resolve_left List.not_mem_nil
  | cons j l ih =>
    rw [List.foldl_cons]
    refine ih _ ?_
    rcases h with h | h
    · rcases List.mem_cons.1 h with h | h
      · exact .inr (keyOf_revokeKey (.inl h))
      · exact .inl h
    · exact .inr (keyOf_revokeKey (.inr h))
theorem revokeKeys_eng (l : List Nat) (s : State) : (each l revokeKey s).eng = s.eng := by
  unfold each
  induction l generalizing s with
  | nil => rfl
  | cons j l ih => rw [List.foldl_cons, ih]; rfl
/-- A fence of keys that ends: each is revoked, and no fence is left. -/
theorem endFence_of_keys {f : Fence} {s : State} (noSize : f.newPages = none) :
    (endFence f s).eng = { s.eng with fence := none } ∧ ∀ i ∈ f.keys, (keyOf (endFence f s) i).st = .revoked := by
  have shape : endFence f s = logRecs 1 (countTable (updEng (fun e => { e with fence := none })
      (updLive (fun t => { t with fenceLog := none }) (each f.keys revokeKey s)))) := by
    simp only [endFence, noSize]
    rfl
  rw [shape]
  refine ⟨?_, fun i hi => keyOf_revokeKeys f.keys s i (.inl hi)⟩
  have eng := revokeKeys_eng f.keys s
  exact congrArg (fun e : Engine => { e with fence := none }) eng

theorem fenceDone_of_drained {f : Fence} {c : RunCmd} {s : State} (fence : s.eng.fence = some f) (run : s.eng.run = some c)
    (served : f.drained = true) (alone : pairWorks s = false) : fenceDone s = finishCmd 0 c.result (endFence f s) := by
  simp [fenceDone, fence, run, served, alone]
theorem doFenceDrainEnd_of_drained {f : Fence} {c : RunCmd} {s : State} (fence : s.eng.fence = some f) (past : f.past = true)
    (waits : f.drained = false) (own : f.forTwin = false) (served : drained s = true) (run : s.eng.run = some c)
    (alone : pairWorks s = false) :
    doFenceDrainEnd s = finishCmd 0 c.result (endFence { f with drained := true }
      (updEng (fun e => { e with fence := some { f with drained := true } }) s)) := by
  have drain : (f.past && !f.drained && drained s) = true := by rw [past, waits, served]; rfl
  have done := fenceDone_of_drained (s := updEng (fun e => { e with fence := some { f with drained := true } }) s) rfl run rfl alone
  rw [← done]
  simp only [doFenceDrainEnd, fence, drain, if_true]
  exact if_neg (by rw [own]; decide)
theorem finishCmd_eng_of_noClaim {status result : Nat} {s : State} (noClaim : s.eng.claimed = []) :
    (finishCmd status result s).eng = { s.eng with run := none } := by
  simp [finishCmd, noClaim, updEng, dset]

/-- The request that the deadline of a fence cancels. -/
theorem doFenceCancelDeadline_of_one {f : Fence} {o : Op} {s : State} (fence : s.eng.fence = some f) (past : f.past = true)
    (ops : s.host.ops = [o]) (fenced : o.fenced = true) (waits : 0 < o.waiting) (kind : o.kind ≠ .batch) (noNak : o.nak = none) :
    (doFenceCancelDeadline s).eng.fence = some { f with deadline := true } ∧
      (findOp (doFenceCancelDeadline s) o.id).map (·.nak) = some (some (fenceNak f)) := by
  simp only [doFenceCancelDeadline, fence, past, ops, Bool.not_true, Bool.false_eq_true, if_false]
  simp [fenced, waits, each, findOp, modOp, modFirst, ops, kind, noNak, bump, dset, updHost, updEng]

/-! ## Elements of the tables that a writer brings (R143) -/

theorem writeElems_of_one {idx sub : Nat} {e : TableElem} {s : State} (accepted : elemAccepted (applyElem e s) e = true)
    (alone : pairWorks s = false) : writeElems idx sub [e] s = dictDone idx sub (applyElem e s) := by
  simp [writeElems, groupAccepted, each, accepted, alone]
theorem tableWrite_of_taken {idx i value : Nat} {s : State} (h : TakesElement idx i value s)
    (accepted : elemAccepted (applyElem (elemAt idx i value) s) (elemAt idx i value) = true) :
    tableWrite idx i [value] s = dictDone idx i (applyElem (elemAt idx i value) s) := by
  obtain ⟨serves, window, refusal, alone⟩ := h
  unfold tableWrite
  rw [dictGuard_of_serves serves _ _ (fun _ => window)]
  simp only [List.zipIdx_cons, List.zipIdx_nil, List.findSome?_cons, List.findSome?_nil, refusal, List.map_cons, List.map_nil]
  exact writeElems_of_one accepted alone
/-- A table element that is taken stands in its table. -/
theorem completes_of_element {c : Instr} {idx i value : Nat} {s : State} {post : State → Prop} (h : TakesElement idx i value s)
    (hc : exec c s = .next (tableWrite idx i [value] s))
    (accepted : elemAccepted (applyElem (elemAt idx i value) s) (elemAt idx i value) = true)
    (hp : ∀ t, live t = live (applyElem (elemAt idx i value) s) → post t) : Completes c s post :=
  completes_of_eq hc (tableWrite_of_taken h accepted) (hp _ (live_of_per (dictDone_per ..)))
theorem tenants_applyElem (i value : Nat) (s : State) :
    (live (applyElem (.tenant i value) s)).tenants = tset {} (live s).tenants i ⟨bitOf value 63, bits value 32 17⟩ := rfl
theorem hosts_applyElem (i value : Nat) (s : State) : (live (applyElem (.host i value) s)).hosts = tset 0 (live s).hosts i value := by
  simp only [applyElem, isTable, when_true]
  split
  · rfl
  · exact congrArg Tables.hosts (live_of_per (dropHostQps_per ..))
theorem quotaOf_applyElem (i value : Nat) (s : State) :
    (quotaOf (applyElem (.quota i value) s) i).dramQuota = bits value 96 32 ∧
      (quotaOf (applyElem (.quota i value) s) i).nandQuota = bits value 32 32 := by
  have := quotaOf_setQuota i (fun q => { q with dramQuota := bits value 96 32, nandQuota := bits value 32 32 }) (countTable s)
  exact ⟨congrArg Quota.dramQuota this, congrArg Quota.nandQuota this⟩
theorem doReplayWindowWrite_of_range {ms : Nat} {s : State} (h : Serves s) (nz : ms ≠ 0) (max : ms ≤ 64) :
    dget (doReplayWindowWrite ms s) 0x210002 = ms := by
  have inRange : (decide (ms = 0) || decide (ms > 64)) = false := by simp [nz, max]
  unfold doReplayWindowWrite
  rw [dictGuard_of_serves h _ _ (by simp)]
  simp only [inRange, Bool.false_eq_true, if_false]
  rw [dget_dictDone_ne (by decide)]
  have told (b : Bool) (u : State) : dget (when_ b (sendCtl (.table (.window ms)) none) u) 0x210002 = dget u 0x210002 := by
    cases b
    · rfl
    · exact sendCtl_config _ _ _ (by decide)
  rw [told, dget_dset_self]

/-- Settles O44. -/
theorem fenceCommands : Obligations.FenceCommands := by
  unfold Obligations.FenceCommands
  refine ⟨fun f s fence past => ?_, fun f c s fence past waits own noSize served run alone noClaim => ?_,
    fun f o s fence past ops fenced waits kind noNak => ?_, fun tenant value s h => ?_, fun tenant value s h accepted => ?_,
    fun host value s h => ?_, fun ms s h nz max => ?_⟩
  · refine completes_of_next rfl ?_
    simp only [doFencePoint, fence, past, Bool.false_eq_true, if_false]
    unfold when_
    split
    · rw [sendCtl_eng, live_of_per (sendCtl_per ..)]
      exact ⟨rfl, rfl⟩
    · exact ⟨rfl, rfl⟩
  · obtain ⟨eng, keys⟩ := endFence_of_keys (f := { f with drained := true })
      (s := updEng (fun e => { e with fence := some { f with drained := true } }) s) noSize
    have noClaim' : (endFence { f with drained := true }
        (updEng (fun e => { e with fence := some { f with drained := true } }) s)).eng.claimed = [] := by rw [eng]; exact noClaim
    refine completes_of_eq rfl (doFenceDrainEnd_of_drained fence past waits own served run alone)
      ⟨?_, ?_, reported_finishCmd noClaim', fun i hi => ?_⟩
    · rw [finishCmd_eng_of_noClaim noClaim', eng]
    · rw [finishCmd_eng_of_noClaim noClaim']
    · rw [keyOf_of_keys (congrArg Tables.keys (finishCmd_live ..))]
      exact keys i hi
  · exact completes_of_next rfl (doFenceCancelDeadline_of_one fence past ops fenced waits kind noNak)
  · refine completes_of_element h rfl rfl fun t tables => ?_
    rw [tenantOf, tables]
    exact (congrArg (tget {} · tenant.val) (tenants_applyElem ..)).trans (tget_tset_self ..)
  · refine completes_of_element h rfl (by simp [elemAt, elemAccepted, accepted]) fun t tables => ?_
    rw [quotaOf, tables]
    exact quotaOf_applyElem ..
  · refine completes_of_element h rfl rfl fun t tables => ?_
    rw [tables]
    exact (congrArg (tget 0 · host.val) (hosts_applyElem ..)).trans (tget_tset_self ..)
  · exact completes_of_next rfl (doReplayWindowWrite_of_range h nz max)

end Sys2Proof.Machine
end

section
namespace Sys2Proof.Machine

/-! ## Taking records of the twin (R297) -/

theorem takeRec_of_head {strict : Bool} {sel : CpRec → Bool} {r : CpRec} {l : List RxRec} (h : (l.map (·.rcd)).head? = some r)
    (hs : sel r = true) : ∃ x rest, takeRec strict sel [] l = some (x, rest) ∧ x.rcd = r := by
  cases l with
  | nil => cases h
  | cons x rest =>
    have hx : x.rcd = r := by simpa using h
    refine ⟨x, rest, ?_, hx⟩
    have free : passes strict x.rcd [] = true := by unfold passes; split <;> (try split) <;> rfl
    rw [← hx] at hs
    simp only [takeRec, hs, free, if_true, List.nil_append]
/-- The state at which a record taken off a half is applied. -/
def taken (half : Fin 2) (rest : List RxRec) (s : State) : State :=
  bump 0x701802 (setHalf half.val (fun h => { h with rx := rest }) s)
theorem taken_cs (half : Fin 2) (rest : List RxRec) (s : State) : (taken half rest s).cs = s.cs := rfl
theorem withRec_of_brings {half : Fin 2} {strict : Bool} {sel : CpRec → Bool} {r : CpRec} {s : State} (h : Brings half r s)
    (hs : sel r = true) : ∃ x rest, x.rcd = r ∧ takeRec strict sel [] (halfOf s half.val).rx = some (x, rest) ∧
      ∀ f, withRec half strict sel f s = reportHeld half.val (f x (taken half rest s)) := by
  obtain ⟨x, rest, taken, hx⟩ := takeRec_of_head (strict := strict) h hs
  refine ⟨x, rest, hx, taken, fun f => ?_⟩
  simp only [withRec, taken]
  rfl
/-- What holds of every state that taking the record may lead to holds after it is taken. -/
theorem withRec_induct {half : Fin 2} {strict : Bool} {sel : CpRec → Bool} {r : CpRec} {f : RxRec → State → State} {s : State}
    {P : State → Prop} (h : Brings half r s) (hs : sel r = true)
    (hp : ∀ x rest, x.rcd = r → P (reportHeld half.val (f x (taken half rest s)))) : P (withRec half strict sel f s) := by
  obtain ⟨x, rest, hx, -, eq⟩ := withRec_of_brings h hs
  rw [eq]
  exact hp x rest hx
theorem reportHeld_dict_of (half : Nat) (s : State) : (reportHeld half s).dict = s.dict := by
  unfold reportHeld sendAck
  split
  · dsimp only
    split <;> rfl
  · rfl

/-! ## Lines cached in an enabled slice -/

/-- A line is cached in an enabled slice and reads as a value. -/
def CachedAs (s : State) (line : Nat) (v : Mem) : Prop :=
  (sliceOf s (homeSlice line)).st = .enabled ∧ ∃ p, cached (sliceOf s (homeSlice line)) line = some p ∧ p.2.data = v
theorem readLine_of_cachedAs {s : State} {line : Nat} {v : Mem} (h : CachedAs s line v) : readLine s line = v := by
  obtain ⟨on, p, hp, rfl⟩ := h
  simp [readLine, sliceHits, on, hp]
theorem sliceOf_of_cs {s t : State} (h : t.cs = s.cs) (n : Nat) : sliceOf t n = sliceOf s n := by rw [sliceOf, h, sliceOf]
theorem cachedAs_of_cs {s t : State} {line : Nat} {v : Mem} (h : t.cs = s.cs) (hs : CachedAs s line v) : CachedAs t line v := by
  unfold CachedAs
  rw [sliceOf_of_cs h]
  exact hs
/-- A change of the line touched, in a slice that is enabled, is what the line reads. -/
theorem cachedAs_touch {s : State} {line : Nat} {p : Nat × CLine} {f : CLine → CLine} (on : (sliceOf s (homeSlice line)).st = .enabled)
    (hc : cached (sliceOf s (homeSlice line)) line = some p) (hf : ∀ l, (f l).tag = l.tag) :
    CachedAs (touch (homeSlice line) p.1 f s) line (f p.2).data := by
  unfold CachedAs
  rw [touch, sliceOf_setSlice]
  refine ⟨on, (p.1, { f p.2 with lru := (sliceOf s (homeSlice line)).stamp + 1 }), ?_, rfl⟩
  unfold cached at *
  dsimp only
  rw [List.find?_map]
  have same : ((fun p : Nat × CLine => decide (p.1 / 16 = lineSet line ∧ p.2.tag = lineTag line)) ∘ fun q : Nat × CLine =>
      if q.1 = p.1 then (q.1, { f q.2 with lru := (sliceOf s (homeSlice line)).stamp + 1 }) else q) =
      fun p => decide (p.1 / 16 = lineSet line ∧ p.2.tag = lineTag line) := by
    funext q
    by_cases hq : q.1 = p.1 <;> simp [hq, hf]
  rw [same, hc]
  simp
theorem cachedAs_mirrorPut {s : State} {line : Nat} (v : Mem) (h : CachedAs s line v) (f : Mem → Mem) (clean : Bool) :
    CachedAs (mirrorPut line f clean s) line (f v) := by
  have reads := readLine_of_cachedAs h
  obtain ⟨on, p, hp, -⟩ := h
  have changed : sliceOf (changePage (lineTpn line) s) (homeSlice line) = sliceOf s (homeSlice line) := sliceOf_of_cs (changePage_cs ..) _
  have put : mirrorPut line f clean s = touch (homeSlice line) p.1 (fun l => { l with data := f v, dirty := !clean })
      (changePage (lineTpn line) s) := by
    simp only [mirrorPut, changed, on, hp, reads, if_true]
  rw [put]
  exact cachedAs_touch (changed ▸ on) (changed ▸ hp) (fun _ => rfl)

/-! ## Line records that land -/

theorem cachedAs_of_lands {half : Fin 2} {r : CpRec} {line : Nat} {whole : Bool} {s : State} (h : Lands half r line whole s) :
    CachedAs s line (readLine s line) := by
  obtain ⟨-, -, -, -, -, on, here⟩ := h
  obtain ⟨p, hp⟩ := Option.isSome_iff_exists.1 here
  have as : CachedAs s line p.2.data := ⟨on, p, hp, rfl⟩
  rw [readLine_of_cachedAs as]
  exact as
theorem lineRecord_of_lands {half : Fin 2} {r : CpRec} {line : Nat} {whole : Bool} {s : State} {sel : CpRec → Bool}
    (h : Lands half r line whole s) (hs : sel r = true) (hl : recLine r = some line) :
    ∃ rest, ∀ f, lineRecord half sel whole f s = imageStep (reportHeld half.val (f r (taken half rest s))) := by
  obtain ⟨⟨brings, applies⟩, ready, open_, noFetch, home, -⟩ := h
  obtain ⟨x, rest, hx, first, take⟩ := withRec_of_brings (strict := false) brings hs
  refine ⟨rest, fun f => ?_⟩
  have placed : (fetchCovers s line || decide ((dirOf s (lineTpn line)).home = .none)) = false := by simp [noFetch, home]
  simp only [lineRecord, first, hx, hl, applies, ready, open_, placed, Bool.not_true, Bool.false_eq_true, if_false]
  rw [take, hx]
theorem lineRecord_induct {half : Fin 2} {r : CpRec} {line : Nat} {whole : Bool} {s : State} {sel : CpRec → Bool}
    {f : CpRec → State → State} {P : State → Prop} (h : Lands half r line whole s) (hs : sel r = true) (hl : recLine r = some line)
    (hp : ∀ rest, P (imageStep (reportHeld half.val (f r (taken half rest s))))) : P (lineRecord half sel whole f s) := by
  obtain ⟨rest, eq⟩ := lineRecord_of_lands h hs hl
  rw [eq]
  exact hp rest
/-- A line record that lands on a cached line: what its effect makes of the line is what the line reads after it. -/
theorem readLine_of_lands {half : Fin 2} {r : CpRec} {line : Nat} {whole : Bool} {s : State} {sel : CpRec → Bool}
    {f : CpRec → State → State} {v : Mem} (h : Lands half r line whole s) (hs : sel r = true) (hl : recLine r = some line)
    (hf : ∀ u, CachedAs u line (readLine s line) → CachedAs (f r u) line v) : readLine (lineRecord half sel whole f s) line = v := by
  obtain ⟨rest, eq⟩ := lineRecord_of_lands h hs hl
  rw [eq]
  have before : CachedAs (taken half rest s) line (readLine s line) := cachedAs_of_cs (taken_cs ..) (cachedAs_of_lands h)
  exact readLine_of_cachedAs (cachedAs_of_cs ((imageStep_cs ..).trans (reportHeld_cs ..)) (hf _ before))

theorem cachedAs_unDiscard {s : State} {line : Nat} {v : Mem} (tpn : Nat) (h : CachedAs s line v) : CachedAs (unDiscard tpn s) line v :=
  cachedAs_of_cs rfl h

section
variable {half : Fin 2} {line : Nat} {s : State}

theorem readLine_doWriteRecord {off : Nat} {data : Bytes} {src : Option (Nat × Nat)} (h : Lands half (.write line off data src) line false s) :
    readLine (doWriteRecord half s) line = mput (readLine s line) off data := by
  unfold doWriteRecord
  refine readLine_of_lands h (by rfl) (by rfl) fun u hu => ?_
  have put := cachedAs_unDiscard (lineTpn line) (cachedAs_mirrorPut _ hu (fun v => mput v off data) false)
  dsimp only
  split
  · exact cachedAs_of_cs (shadowApplied_cs ..) put
  · exact put
theorem readLine_doZeroRecord (h : Lands half (.zero line) line false s) : readLine (doZeroRecord half s) line = [] := by
  unfold doZeroRecord
  exact readLine_of_lands h (by rfl) (by rfl) fun u hu => cachedAs_mirrorPut _ hu (fun _ => []) _
theorem readLine_doCopyRecord {data : Bytes} (h : Lands half (.copy line data) line true s) :
    readLine (doCopyRecord half s) line = memOf 0 data := by
  unfold doCopyRecord
  refine readLine_of_lands h (by rfl) (by rfl) fun u hu => ?_
  have put := cachedAs_mirrorPut _ hu (fun _ => memOf 0 data) false
  dsimp only
  split
  · refine cachedAs_of_cs ?_ put
    simp
  · refine cachedAs_of_cs ?_ put
    simp
theorem mirrorEntry_mirror {t : Token} {v : RespVal} {u : State} (h : u.host.replay.any (fun e => e.token = t) = false) :
    ∃ e ∈ (mirrorEntry t v u).host.mirror, e.token = t ∧ e.pending = false ∧ e.resp.result = v.result := by
  simp only [mirrorEntry, h, Bool.false_eq_true, if_false, updHost_host]
  exact ⟨_, List.mem_append_right _ (List.mem_singleton_self _), rfl, rfl, rfl⟩
theorem taken_host (half : Fin 2) (rest : List RxRec) (s : State) : (taken half rest s).host = s.host := rfl
/-- An atomic's new value is what its line reads; a host's atomic enters the mirror area with its result. -/
theorem doAtomicRecord_of_lands {off new prior idHost idSeq : Nat} {rc : Bool} (room : mirrorFull s = false)
    (h : Lands half (.atomic line off new prior rc idHost idSeq) line false s) :
    readLine (doAtomicRecord half s) line = mput (readLine s line) off (leBytes 8 new) ∧
      (rc = false → s.host.replay.any (fun e => e.token = ⟨idHost, idSeq⟩) = false →
        ∃ e ∈ (doAtomicRecord half s).host.mirror, e.token = ⟨idHost, idSeq⟩ ∧ e.pending = false ∧ e.resp.result = prior) := by
  simp only [doAtomicRecord, room, Bool.false_eq_true, if_false]
  refine ⟨readLine_of_lands h (by rfl) (by rfl) fun u hu => ?_, fun host new_ => ?_⟩
  · have put := cachedAs_of_cs (t := resultHere idHost idSeq prior (unDiscard (lineTpn line) _)) (resultHere_cs ..)
      (cachedAs_unDiscard (lineTpn line) (cachedAs_mirrorPut _ hu (fun v => mput v off (leBytes 8 new)) false))
    dsimp only
    split
    · exact cachedAs_of_cs (shadowApplied_cs ..) put
    · exact cachedAs_of_cs (mirrorEntry_cs ..) put
  · refine lineRecord_induct (P := fun t => ∃ e ∈ t.host.mirror, e.token = ⟨idHost, idSeq⟩ ∧ e.pending = false ∧ e.resp.result = prior) h (by rfl) (by rfl) fun rest => ?_
    rw [imageStep_host, reportHeld_host]
    subst host
    dsimp only
    rw [if_neg (by decide)]
    refine mirrorEntry_mirror ?_
    rw [resultHere_replay, unDiscard_host, mirrorPut_host, taken_host]
    exact new_
end

/-! ## Records to be sent, and fetches (R296, R308) -/

theorem open_setHalf {f : Half → Half} (hf : ∀ x, (f x).open_ = x.open_) (half : Nat) (s : State) (n : Nat) :
    (halfOf (setHalf half f s) n).open_ = (halfOf s n).open_ := by
  by_cases h : n = half
  · subst h
    rw [halfOf_setHalf, hf]
  · rw [halfOf_setHalf_ne _ _ _ _ h]
theorem open_sendAck (half : Nat) (nak : Bool) (s : State) (n : Nat) : (halfOf (sendAck half nak s) n).open_ = (halfOf s n).open_ := by
  unfold sendAck
  dsimp only
  split
  · rfl
  · exact open_setHalf (f := fun x => { x with ackSent := heldFsn (halfOf s half), nakSent := x.nakSent || nak }) (fun _ => rfl) half s n
theorem open_reportHeld (half : Nat) (s : State) (n : Nat) : (halfOf (reportHeld half s) n).open_ = (halfOf s n).open_ := by
  unfold reportHeld
  split
  · exact open_sendAck ..
  · rfl
theorem sending_sendOn (half : Nat) (r : CpRec) (op : Option Nat) (s : State) : Sending (sendOn half r op s) r := by
  refine ⟨half, ⟨r, op⟩, ?_, rfl⟩
  have : (halfOf (setHalf half (fun h => { h with open_ := h.open_ ++ [⟨r, op⟩] }) s) half).open_ = (halfOf s half).open_ ++ [⟨r, op⟩] := by
    rw [halfOf_setHalf]
  exact this ▸ List.mem_append_right _ (List.mem_singleton_self _)
theorem sending_reportHeld {half : Nat} {s : State} {r : CpRec} (h : Sending s r) : Sending (reportHeld half s) r := by
  obtain ⟨n, x, hx, hr⟩ := h
  exact ⟨n, x, (open_reportHeld half s n).symm ▸ hx, hr⟩
theorem sending_of_cp {s t : State} {r : CpRec} (h : t.cp = s.cp) (hs : Sending s r) : Sending t r := by
  unfold Sending halfOf at *
  rw [h]
  exact hs

section
variable {half : Fin 2} {line : Nat} {s : State}

/-- A FETCH of a line that reads is answered with the line. -/
theorem sending_doFetchRecord (h : Brings half (.fetch line false) s) (clean : (dirOf s (lineTpn line)).poison = false)
    (home : (dirOf s (lineTpn line)).home ≠ .none) (here : pageAbsent s (lineTpn line) = false) :
    Sending (doFetchRecord half true s) (.fetchData line (mbytes (readLine s line) 0 128)) := by
  unfold doFetchRecord
  refine withRec_induct (P := (Sending · _)) h (by rfl) fun x rest hx => sending_reportHeld ?_
  have clean' : (dirOf (taken half rest s) (lineTpn line)).poison = false := clean
  have home' : (dirOf (taken half rest s) (lineTpn line)).home ≠ .none := home
  have here' : pageAbsent (taken half rest s) (lineTpn line) = false := here
  simp only [hx, clean', here', home', ne_eq, not_false_eq_true, decide_true, Bool.not_false, Bool.and_self, if_true, Bool.false_eq_true,
    if_false, each, List.foldl_cons, List.foldl_nil]
  exact sending_of_cp (bump_cp ..) (sending_sendOn ..)
theorem sending_doFetchRecord_fail {page : Bool} (h : Brings half (.fetch line page) s) :
    Sending (doFetchRecord half false s) (.fetchFail line) := by
  unfold doFetchRecord
  refine withRec_induct (P := (Sending · _)) h (by rfl) fun x rest hx => sending_reportHeld ?_
  simp only [hx, Bool.false_and, Bool.false_eq_true, if_false]
  exact sending_of_cp (bump_cp ..) (sending_sendOn ..)

theorem fetches_reportHeld (n : Nat) (u : State) : (reportHeld n u).cp.fetches = u.cp.fetches := by
  unfold reportHeld sendAck
  split
  · dsimp only
    split <;> rfl
  · rfl
theorem homeWrite_of_dram {frame : Nat} {data : Mem} (home : (dirOf s (lineTpn line)).home = .dram frame)
    (zero : (dirOf s (lineTpn line)).zero = false) :
    (homeWrite line data s).dram.mem = mpaste s.dram.mem (frameAddr frame + lineIdx line * 128) 128 data := by
  simp only [homeWrite, home, zero, Bool.false_eq_true, if_false]
  rfl
/-- The reply to a fetch of a mirrored line puts the line to its home. -/
theorem doFetchDataRecord_of_mirror {frame : Nat} {data : Bytes} {f : Fetch} (h : Brings half (.fetchData line data) s)
    (found : fetchOf s line = some f) (why : f.why = .mirror) (home : (dirOf s (lineTpn line)).home = .dram frame)
    (zero : (dirOf s (lineTpn line)).zero = false) :
    (doFetchDataRecord half s).cp.fetches = dropFirst (fun x => x = f) s.cp.fetches ∧
      (doFetchDataRecord half s).dram.mem = mpaste s.dram.mem (frameAddr frame + lineIdx line * 128) 128 (memOf 0 data) := by
  unfold doFetchDataRecord
  refine withRec_induct (P := fun t => t.cp.fetches = _ ∧ t.dram.mem = _) h (by rfl) fun x rest hx => ?_
  have found' : fetchOf (taken half rest s) line = some f := found
  simp only [hx, found', fetched, why]
  rw [fetches_reportHeld, reportHeld_dram, homeWrite_cp]
  refine ⟨rfl, homeWrite_of_dram (s := updCp _ (updCp _ (taken half rest s))) home zero⟩
/-- A fetch that fails poisons the page of its line, where no copy is left. -/
theorem doFetchFailRecord_of_sliceLine {f : Fetch} (h : Brings half (.fetchFail line) s) (found : fetchOf s line = some f)
    (why : f.why = .sliceLine) (notInjected : s.pres.injecting = false) :
    (doFetchFailRecord half s).cp.fetches = dropFirst (fun x => x = f) s.cp.fetches ∧
      (dirOf (doFetchFailRecord half s) (lineTpn f.line)).poison = true := by
  unfold doFetchFailRecord
  refine withRec_induct (P := fun t => t.cp.fetches = _ ∧ (dirOf t (lineTpn f.line)).poison = true) h (by rfl) fun x rest hx => ?_
  have found' : fetchOf (taken half rest s) line = some f := found
  have real : (updCp (fun c => { c with fetches := dropFirst (fun x => x = f) c.fetches }) (taken half rest s)).pres.injecting = false :=
    notInjected
  simp only [hx, found', fetchFailed, why]
  rw [fetches_reportHeld, dirOf, live_of_per (reportHeld_per ..)]
  simp only [poisonPage, real, Bool.false_eq_true, if_false]
  refine ⟨?_, ?_⟩
  · rw [logRecs_cp, post_cp]
    rfl
  · have posted (d : Bytes) (u : State) : live (logRecs 1 (post 0x0401 2 0 d u)) = live u :=
      (rfl : _ = live (post 0x0401 2 0 d u)).trans (live_of_per (post_per 0x0401 2 0 d u))
    rw [posted]
    rw [← dirOf, dirOf_setDir]
end

/-- Settles O54. -/
theorem lineRecords : Obligations.LineRecords := by
  unfold Obligations.LineRecords
  exact ⟨fun half line off data src s h => completes_of_next rfl (readLine_doWriteRecord h),
    fun half line s h => completes_of_next rfl (readLine_doZeroRecord h),
    fun half line off new prior rc idHost idSeq s room h => completes_of_next rfl (doAtomicRecord_of_lands room h),
    fun half line data s h => completes_of_next rfl (readLine_doCopyRecord h),
    fun half line s h clean home here => completes_of_next rfl (sending_doFetchRecord h clean home here),
    fun half line page s h => completes_of_next rfl (sending_doFetchRecord_fail h),
    fun half line frame data f s h found why home zero => completes_of_next rfl (doFetchDataRecord_of_mirror h found why home zero),
    fun half line f s h found why notInjected => completes_of_next rfl (doFetchFailRecord_of_sliceLine h found why notInjected)⟩

end Sys2Proof.Machine
end

section
namespace Sys2Proof.Machine

/-! ## Operations that keep the twin state, the standing or the mode, done for every element of a list -/

theorem each_keeps {α β : Type} {g : State → β} {f : α → State → State} (h : ∀ a s, g (f a s) = g s) (l : List α) (s : State) :
    g (each l f s) = g s := by
  unfold each
  induction l generalizing s with
  | nil => rfl
  | cons a l ih => rw [List.foldl_cons, ih, h]
theorem when_keeps {β : Type} {g : State → β} {f : State → State} {s : State} (b : Bool) (h : g (f s) = g s) : g (when_ b f s) = g s := by
  cases b
  · rfl
  · exact h

/-! ## Declaring twin loss (R312) -/

theorem setMode_mode (m : Mode) (row : Nat) (s : State) : (setMode m row s).md.mode = m := by
  cases m <;> simp [setMode]
/-- The twin state and the standing. -/
def pairing (s : State) : Twin × Standing := (s.cp.twin, (live s).standing)
theorem pairing_of_kept {s t : State} (ht : t.cp.twin = s.cp.twin) (hs : (live t).standing = (live s).standing) : pairing t = pairing s := by
  rw [pairing, ht, hs, pairing]
theorem pairing_of_same {s t : State} (hc : t.cp = s.cp) (hp : t.per = s.per) : pairing t = pairing s :=
  pairing_of_kept (congrArg _ hc) (congrArg _ (live_of_per hp))

section
variable (row : Nat) (s : State)


/-- The Steoc that declares has lost its twin, and stands alone. -/
theorem declare_pair : pairing (declare row s) = (.lost, .alone) := by
  unfold declare
  dsimp only
  rw [pairing_of_kept (closePlaces_twin _) (closePlaces_standing _), pairing_of_kept (startMoves_twin _) (startMoves_standing _),
    each_keeps (g := pairing) (fun w a => pairing_of_kept (decideWrite_twin w a) (decideWrite_standing w a)),
    pairing_of_same (updEng_cp ..) (updEng_per ..),
    each_keeps (g := pairing) (fun (p : Nat × Nat) a => pairing_of_same (sendRep_cp p.1 a) (sendRep_per p.1 a)),
    pairing_of_same (promoteShadows_cp _) (promoteShadows_per _), pairing_of_same (updRc_cp ..) (updRc_per ..),
    each_keeps (g := pairing) (fun o a => pairing_of_kept (restartOp_twin o a) (restartOp_standing o a)),
    pairing_of_kept (soloStates_twin _) (soloStates_standing _), pairing_of_kept (soloCommand_twin _) (soloCommand_standing _),
    pairing_of_kept (dropTwinPlaces_twin _) (dropTwinPlaces_standing _),
    each_keeps (g := pairing) (fun t a => pairing_of_same (finishImage_cp t a) (finishImage_per t a)),
    each_keeps (g := pairing) (fun f a => pairing_of_kept (fetchFailed_twin f a) (fetchFailed_standing f a)),
    when_keeps (g := pairing) _ (pairing_of_same (faultHandled_cp _) (faultHandled_per _))]
  split
  · rw [pairing_of_kept (congrArg (·.twin) (setMode_cp ..)) (setMode_standing ..), pairing_of_same (bump32_cp ..) (bump32_per ..),
      pairing_of_same (post_cp ..) (post_per ..)]
    rfl
  · rw [pairing_of_same (bump32_cp ..) (bump32_per ..), pairing_of_same (post_cp ..) (post_per ..)]
    rfl
/-- In Duplex the Steoc that declares goes on in Solo, where no fetch from the twin fails by it. -/
theorem declare_mode (noFetch : s.cp.fetches = []) (duplex : s.md.mode = .duplex) : (declare row s).md.mode = .solo := by
  have posted (d : Bytes) (u : State) (hu : u.md = s.md) :
      (if (bump32 0x701805 (post 0x0201 2 0 d u)).md.mode = .duplex then setMode .solo 5 (bump32 0x701805 (post 0x0201 2 0 d u))
        else bump32 0x701805 (post 0x0201 2 0 d u)).md.mode = .solo := by
    rw [if_pos (by rw [bump32_md, post_md, hu, duplex]), setMode_mode]
  unfold declare
  dsimp only
  rw [closePlaces_md, startMoves_md, each_keeps (g := (·.md)) (fun w a => decideWrite_md w a), updEng_md,
    each_keeps (g := (·.md)) (fun (p : Nat × Nat) a => sendRep_md p.1 a), promoteShadows_md, updRc_md,
    each_keeps (g := (·.md)) (fun o a => restartOp_md o a), soloStates_md, soloCommand_md, dropTwinPlaces_md,
    each_keeps (g := (·.md)) (fun t a => finishImage_md t a), noFetch]
  rw [show ∀ u, each [] fetchFailed u = u from fun _ => rfl, when_keeps (g := (·.md)) _ (faultHandled_md _)]
  refine posted _ _ ?_
  have noticed (u : State) : (each ((List.range 2).filter (fun h => (halfOf u h).st = .service))
      (fun h b => sendOn h (.notice 6 0) none b) u).md = u.md := each_keeps (g := (·.md)) (fun h b => sendOn_md h _ _ b) _ _
  rw [logRecs_md, countTable_md, updLive_md, updCp_md]
  exact (when_keeps (g := (·.md)) (f := fun a => each ((List.range 2).filter (fun h => (halfOf a h).st = .service))
    (fun h b => sendOn h (.notice 6 0) none b) a) _ (noticed _)).trans ((clearHalves_md _).trans (markUnacked_md _))
end
theorem declared_declare (row : Nat) (s t : State) (hf : s.cp.fetches = t.cp.fetches) (hm : s.md = t.md) : Declared t (declare row s) := by
  have pair := declare_pair row s
  simp only [pairing, Prod.mk.injEq] at pair
  exact ⟨pair.1, pair.2, fun noFetch duplex => declare_mode row s (hf.trans noFetch) (hm ▸ duplex)⟩

/-! ## Standing down (R314) -/

theorem enterDrain_mode (cause : Nat) (s : State) : (enterDrain cause s).md.mode = .drain := by
  unfold enterDrain
  split
  · assumption
  · dsimp only
    rw [dset_md, updFix_md, updRst_md, each_keeps (g := (·.md)) (fun t a => stopPlace_md t _ a), abandonCut_md]
    exact setMode_mode ..
/-- In a mode that serves, the Steoc that stands down is YIELDED and drains, and a reset follows the dump. -/
theorem standDown_of_serving {row : Nat} {s : State} (mode : s.md.mode = .duplex ∨ s.md.mode = .solo ∨ s.md.mode = .service) :
    StoodDown (standDown row s) ∧ (standDown row s).rst.dumpReset = true := by
  unfold standDown
  dsimp only
  generalize hu : when_ _ (finishState 9 0) _ = u
  have pair : pairing u = (.stoodDown, .yielded) := by
    rw [← hu, when_keeps (g := pairing) _ (pairing_of_kept (finishState_twin ..) (congrArg (·.standing) (live_of_per (finishState_per ..)))),
      when_keeps (g := pairing) _ (pairing_of_kept (finishCmd_twin ..) (congrArg (·.standing) (live_of_per (finishCmd_per ..)))),
      pairing_of_same (updEng_cp ..) (updEng_per ..),
      each_keeps (g := pairing) (fun (w : PendingWrite) a => pairing_of_same (dictRefuse_cp w.idx w.sub _ a) (dictRefuse_per w.idx w.sub _ a)),
      pairing_of_same (bump32_cp ..) (bump32_per ..), pairing_of_same (post_cp ..) (post_per ..)]
    rfl
  have md : u.md = s.md := by
    rw [← hu, when_keeps (g := (·.md)) _ (finishState_md ..), when_keeps (g := (·.md)) _ (finishCmd_md ..), updEng_md,
      each_keeps (g := (·.md)) (fun (w : PendingWrite) a => dictRefuse_md w.idx w.sub _ a), bump32_md, post_md, updCp_md,
      clearHalves_md, logRecs_md, updLive_md, dropWaiting_md, markUnacked_md]
  simp only [pairing, Prod.mk.injEq] at pair
  have drained : StoodDown (updRst (fun r => { r with dumpReset := true, cause := setBit r.cause 7 }) (enterDrain 3 u)) := by
    refine ⟨?_, ?_, ?_⟩
    · rw [updRst_cp, enterDrain_twin, pair.1]
    · rw [live_of_per (updRst_per ..)]
      exact (enterDrain_standing 3 u).trans pair.2
    · rw [updRst_md, enterDrain_mode]
  rw [md]
  rcases mode with h | h | h <;> rw [h] <;> exact ⟨drained, rfl⟩

/-! ## Table 11.5 -/

theorem lossEvent_of_inPair {row : Nat} {s : State} (hr : row = 4 ∨ row = 8) (h : InPair s) : lossEvent row s = declare row s := by
  obtain ⟨sync, mode, standing⟩ := h
  rcases hr with rfl | rfl <;> simp [lossEvent, sync, mode, standing]
theorem declared_lossEvent {row : Nat} {s u : State} (hr : row = 4 ∨ row = 8) (h : InPair u) (hf : u.cp.fetches = s.cp.fetches)
    (hm : u.md = s.md) : Declared s (lossEvent row u) := by
  rw [lossEvent_of_inPair hr h]
  exact declared_declare row u s hf hm
theorem lossEvent_of_standing {row : Nat} {s : State} (hr : row = 5 ∨ row = 7) (standing : (live s).standing ≠ .yielded)
    (mode : s.md.mode ≠ .drain) : lossEvent row s = standDown row s := by
  rcases hr with rfl | rfl <;> simp [lossEvent, mode, standing, when_]
theorem declared_reportHeld {half : Nat} {s t : State} (h : Declared s t) : Declared s (reportHeld half t) := by
  obtain ⟨twin, standing, mode⟩ := h
  refine ⟨?_, ?_, ?_⟩
  · rw [reportHeld_twin, twin]
  · rw [live_of_per (reportHeld_per ..), standing]
  · rw [reportHeld_md]
    exact mode
theorem stoodDown_reportHeld {half : Nat} {t : State} (h : StoodDown t) : StoodDown (reportHeld half t) := by
  obtain ⟨twin, standing, mode⟩ := h
  refine ⟨?_, ?_, ?_⟩
  · rw [reportHeld_twin, twin]
  · rw [live_of_per (reportHeld_per ..), standing]
  · rw [reportHeld_md, mode]
theorem notices_reportHeld (n : Nat) (u : State) : (reportHeld n u).cp.notices = u.cp.notices := by
  unfold reportHeld sendAck
  split
  · dsimp only
    split <;> rfl
  · rfl

section
variable {half : Fin 2} {sub x : Nat} {s : State}

/-- The first NOTICE that the twin leaves is noted. -/
theorem notices_of_first (h : Brings half (.notice sub x) s) (none_ : s.cp.notices = []) :
    (withRec half true (noticeIs sub) (fun _ a => leaveNotice half.val a) s).cp.notices = [half.val] := by
  refine withRec_induct (P := fun t => t.cp.notices = [half.val]) h (by simp [noticeIs]) fun x rest hx => ?_
  have before : (taken half rest s).cp.notices = [] := none_
  rw [notices_reportHeld]
  simp [leaveNotice, before, insertSet]
theorem insertSet_other {n : Nat} (h : n < 2) : (insertSet [1 - n] n).length = 2 := by
  obtain rfl | rfl : n = 0 ∨ n = 1 := by omega
  · rfl
  · rfl
/-- The second declares the twin lost. -/
theorem declared_of_second (h : Brings half (.notice sub x) s) (first : s.cp.notices = [1 - half.val]) (pair : InPair s) :
    Declared s (withRec half true (noticeIs sub) (fun _ a => leaveNotice half.val a) s) := by
  refine withRec_induct (P := Declared s) h (by simp [noticeIs]) fun x rest hx => declared_reportHeld ?_
  have before : (taken half rest s).cp.notices = [1 - half.val] := first
  have event : leaveNotice half.val (taken half rest s) = lossEvent 4 (updCp (fun c => { c with notices := [] })
      (updCp (fun c => { c with notices := insertSet c.notices half.val }) (taken half rest s))) := by
    simp only [leaveNotice, updCp_cp, before]
    exact if_pos (Nat.le_of_eq (insertSet_other half.isLt).symm)
  rw [event]
  exact declared_lossEvent (.inl rfl) pair rfl rfl
/-- A NOTICE that bars this Steoc, or tells of a loss it has not declared as the senior, makes it stand down. -/
theorem stoodDown_of_notice {row : Nat} {f : RxRec → State → State} (h : Brings half (.notice sub x) s) (hr : row = 5 ∨ row = 7)
    (hf : ∀ r rest, f r (taken half rest s) = lossEvent row (taken half rest s)) (standing : (live s).standing ≠ .yielded)
    (mode : s.md.mode = .duplex ∨ s.md.mode = .solo ∨ s.md.mode = .service) :
    StoodDown (withRec half false (noticeIs sub) f s) := by
  refine withRec_induct (P := StoodDown) h (by simp [noticeIs]) fun x rest hx => stoodDown_reportHeld ?_
  have serving : (taken half rest s).md.mode ≠ .drain := by
    rw [show (taken half rest s).md = s.md from rfl]
    rcases mode with h | h | h <;> rw [h] <;> decide
  rw [hf, lossEvent_of_standing (s := taken half rest s) hr standing serving]
  exact (standDown_of_serving (s := taken half rest s) mode).1
end

theorem pairing_leaveKeep {s : State} (alone : (live s).standing = .alone) : pairing (leaveKeep s) = pairing s := by
  unfold leaveKeep
  split
  · exact pairing_of_kept (congrArg (·.twin) (setMode_cp ..)) (setMode_standing ..)
  · exact pairing_of_kept (congrArg (·.twin) (setMode_cp ..)) (setMode_standing ..)
theorem pairing_clearKeep {bit : Nat} {s : State} (alone : (live s).standing = .alone) : pairing (clearKeep bit s) = pairing s := by
  unfold clearKeep
  dsimp only
  split
  · rfl
  · split
    · exact pairing_leaveKeep alone
    · rfl
/-- A Steoc that owns none declares when it is told to take ownership. -/
theorem doTakeOwnership_of_ownsNone {s : State} (serves : Serves s) (window : s.pres.windowOpen = true)
    (h : s.cp.ownsNone = true ∨ (live s).standing = .yielded) : pairing (doTakeOwnership s) = (.lost, .alone) := by
  unfold doTakeOwnership
  rw [dictGuard_of_serves serves _ _ (fun _ => window)]
  have none_ : ((dictDone 0x3502 3 s).cp.ownsNone || decide ((live (dictDone 0x3502 3 s)).standing = .yielded)) = true := by
    rw [dictDone_cp, live_of_per (dictDone_per ..)]
    rcases h with h | h <;> simp [h]
  simp only [none_, if_true]
  have pair := declare_pair 1 (dictDone 0x3502 3 s)
  split
  · rw [pairing_clearKeep (congrArg Prod.snd pair), pair]
  · exact pair
theorem budgetShare_bounds (s : State) (pair : pairWorks s = true) : (doBudgetShareTick s).cp.dirtied = [] ∧
    ((doBudgetShareTick s).cp.share = s.cp.share ∨
      (ownsAny s = true ∧ min 1024 (pairBudget s / 2) ≤ (doBudgetShareTick s).cp.share ∧ (doBudgetShareTick s).cp.share ≤ pairBudget s) ∨
      (ownsAny s = false ∧ (doBudgetShareTick s).cp.share = 0)) := by
  simp only [doBudgetShareTick, pair, Bool.not_true, Bool.false_eq_true, if_false, draw_cp, updCp_cp, true_and]
  cases owns : ownsAny s
  · simp only [Bool.false_eq_true, if_false]
    split
    · exact .inl rfl
    · exact .inr (.inr ⟨trivial, rfl⟩)
  · simp only [if_true]
    split
    · exact .inl rfl
    · exact .inr (.inl ⟨trivial, by omega, by omega⟩)

/-- The twin leaves its slot. -/
theorem doTwinPresentChange_of_absent {s : State} (mode : s.md.mode ≠ .recall) : (doTwinPresentChange false s).rst.twinPresent = false ∧
    (s.cp.twin = .linking → (doTwinPresentChange false s).cp.twin = .absent) := by
  have followed (u : State) (md : u.md = s.md) (b : Bool) : (if b then raiseKeep 10 u
      else if u.md.mode = .recall && u.rec_.serving then settleAlone u else u).rst = u.rst ∧
      (if b then raiseKeep 10 u else if u.md.mode = .recall && u.rec_.serving then settleAlone u else u).cp = u.cp := by
    cases b
    · simp [md, mode]
    · exact ⟨raiseKeep_rst .., raiseKeep_cp ..⟩
  unfold doTwinPresentChange
  dsimp only
  rw [if_neg Bool.false_ne_true]
  obtain ⟨rst, cp⟩ := followed (when_ (s.cp.twin = .linking) (updCp (fun c => { c with twin := .absent }))
    (updRst (fun r => { r with twinPresent := false }) s)) (when_keeps (g := (·.md)) _ (updCp_md ..))
    (s.cp.twin = .linking && s.cp.settled && s.cp.resync.source && s.cp.resync.target)
  refine ⟨?_, fun linking => ?_⟩
  · exact (congrArg (·.twinPresent) rst).trans (congrArg (·.twinPresent) (when_keeps (g := (·.rst)) _ (updCp_rst ..)))
  · refine (congrArg (·.twin) cp).trans ?_
    rw [decide_eq_true linking, when_true]
    rfl

/-- Settles O60. -/
theorem lossCommands : Obligations.LossCommands := by
  unfold Obligations.LossCommands
  refine ⟨fun half x s h none_ => completes_of_next rfl (notices_of_first h none_),
    fun half x s h first pair => completes_of_next rfl (declared_of_second h first pair),
    fun half x s h none_ => completes_of_next rfl (notices_of_first h none_),
    fun half x s h first pair => completes_of_next rfl (declared_of_second h first pair),
    fun s some_ pair => ?_, fun s waits pair => ?_, fun half x s h standing mode => ?_, fun half x s h junior standing mode => ?_,
    fun s serves window h => ?_, fun s => ?_, fun s mode => ?_, fun s unsettled present => ?_,
    fun s pair => completes_of_next rfl (budgetShare_bounds s pair)⟩
  · have event : doNoticeDeclareTimeout s = declare 4 (updCp (fun c => { c with notices := [] }) s) := by
      unfold doNoticeDeclareTimeout
      rw [if_neg (by simpa using some_)]
      exact lossEvent_of_inPair (.inl rfl) pair
    exact completes_of_eq rfl event (declared_declare _ _ _ rfl rfl)
  · have event : doTwinAnswerTimeout s = declare 8 s := by
      unfold doTwinAnswerTimeout
      rw [if_pos (by simp [pairWorks, pair.1, waits])]
      exact lossEvent_of_inPair (.inr rfl) pair
    exact completes_of_eq rfl event (declared_declare _ _ _ rfl rfl)
  · exact completes_of_next rfl (stoodDown_of_notice h (.inr rfl) (fun _ _ => rfl) standing mode)
  · refine completes_of_next rfl (stoodDown_of_notice h (.inl rfl) (fun _ rest => if_neg ?_) standing mode)
    have junior' : s.cp.declared = false ∨ senior (taken half rest s) = false := junior
    rcases junior' with h | h
    · rw [show (taken half rest s).cp.declared = false from h, Bool.false_and]
      decide
    · rw [h, Bool.and_false]
      decide
  · have pair := doTakeOwnership_of_ownsNone serves window h
    simp only [pairing, Prod.mk.injEq] at pair
    exact completes_of_next rfl pair
  · refine completes_of_next rfl ?_
    by_cases absent : s.cp.twin = .absent <;> simp [doTwinPresentChange, absent, when_]
  · refine completes_of_next rfl ?_
    exact doTwinPresentChange_of_absent mode
  · refine completes_of_next rfl ?_
    simp only [doSettleTimeout, unsettled, present, Bool.not_true, Bool.or_self, Bool.false_eq_true, if_false]
    refine ⟨by rw [post_cp]; rfl, by rw [post_cp]; rfl, posted_of_rmq (u := updCp _ s) rfl rfl rfl⟩

end Sys2Proof.Machine
end

section
namespace Sys2Proof.Machine

/-! ## Epochs (R325) -/

/-- The epoch in force and the next one announced. -/
def epochs (s : State) : Nat × Option Nat := (s.cp.epoch, s.cp.nextEpoch)
theorem epochs_setHalf (n : Nat) (f : Half → Half) (s : State) : epochs (setHalf n f s) = epochs s := rfl
theorem epochs_sendOn (half : Nat) (r : CpRec) (op : Option Nat) (s : State) : epochs (sendOn half r op s) = epochs s := rfl
theorem epochs_syncStep (s : State) : epochs (syncStep s) = epochs s := by
  unfold syncStep
  dsimp only
  split
  · exact each_keeps (g := epochs) (fun h a => epochs_sendOn h _ _ a) _ _
  · rfl
theorem epochs_resendFrames (half : Nat) (s : State) : epochs (resendFrames half s) = epochs s := by
  unfold resendFrames
  split
  · rfl
  · exact each_keeps (g := epochs) (fun _ _ => by rfl) _ _
/-- An acknowledgement puts the epoch announced in force. -/
theorem epochs_ackTo {half fsn e : Nat} {nak : Bool} {s : State} (h : s.cp.nextEpoch = some e) : epochs (ackTo half fsn nak s) = (e, none) := by
  unfold ackTo
  dsimp only
  rw [epochs_syncStep]
  have next : (setHalf half (fun h => { h with sent := h.sent.filter (fun f => decide (f.fsn > fsn)), ackSeen := max h.ackSeen fsn }) s).cp.nextEpoch
      = some e := h
  simp only [next]
  cases nak
  · rfl
  · exact epochs_resendFrames ..
theorem takeEpoch_epochs (p : Nat × Bool) (s : State) : epochs (takeEpoch p s) = epochs s ∧ ctlHalf (takeEpoch p s) = ctlHalf s := by
  unfold takeEpoch
  split
  · have kept (slot type sev inst : Nat) (d : Bytes) (u : State) : epochs (postFixed slot type sev inst d u) = epochs u ∧
        ctlHalf (postFixed slot type sev inst d u) = ctlHalf u := by
      rw [epochs, postFixed_cp, ctlHalf, halfOf, postFixed_cp]
      exact ⟨rfl, rfl⟩
    exact kept ..
  · exact ⟨rfl, rfl⟩

/-- Settles O15. -/
theorem nextEpochAtTheLimit : Obligations.NextEpochAtTheLimit := by
  unfold Obligations.NextEpochAtTheLimit
  refine ⟨fun p s up noNext open_ next => ?_, fun h e s ok next => ?_⟩
  · refine completes_of_next rfl ?_
    simp only [doCounterLimit, up, noNext, open_, next, Option.isSome_none, Bool.not_true, Bool.or_self, Bool.false_eq_true, if_false]
    refine ⟨rfl, ?_, statusBody _, List.mem_append_right _ (List.mem_singleton_self _)⟩
    exact congrArg Prod.fst (takeEpoch_epochs p s).1
  · have acked : epochs (doAckFrame h s) = (e, none) := by
      unfold doAckFrame
      rw [ok]
      exact epochs_ackTo next
    simp only [epochs, Prod.mk.injEq] at acked
    exact completes_of_next rfl acked

/-! ## Seal loops, the Service jumper and JTAG (R461, R465, R466) -/

theorem dget_post (type sev inst : Nat) (d : Bytes) (s : State) (k : Nat) : dget (post type sev inst d s) k = dget s k :=
  dget_of_dict (post_dict ..) k
/-- A seal that opens: the loop is noted, and while the machine runs the fuse burns with its record. -/
theorem sealOpening_of_sealed {loop : Nat} {s : State} (whole : s.pres.broken = false) (off : s.rst.phase ≠ .off)
    (powerOn : s.rst.phase ≠ .powerOn) :
    (sealOpening loop s).pres = { s.pres with broken := true, brokenAt := s.rtc, brokenLoop := loop, fuse := true } ∧
      dget (sealOpening loop s) 0x701e03 = min (dget s 0x701e03 + 1) (2 ^ 32 - 1) := by
  have phase : (decide (s.rst.phase = .off) || decide (s.rst.phase = .powerOn)) = false := by simp [off, powerOn]
  simp only [sealOpening, whole, phase, Bool.false_eq_true, if_false, burnSeal]
  refine ⟨?_, ?_⟩
  · rw [postFixed_pres]
    rfl
  · rw [dget_of_dict (postFixed_dict ..)]
    exact dget_bump32_self ..
theorem sealOpening_of_broken {loop : Nat} {s : State} (broken : s.pres.broken = true) :
    sealOpening loop s = post 0x0703 1 loop ([0, 0, 0, 0] ++ leBytes 4 s.rtc) (bump32 0x701e03 s) := by
  simp [sealOpening, broken]

/-- A change of the mode: what it leaves of the mode's state. -/
theorem setMode_md (m : Mode) (row : Nat) (s : State) :
    (setMode m row s).md = { s.md with mode := m, entering := false, since := s.rtc } := by
  have entered (u : State) : (if s.md.mode = .service then updPres (fun p => { p with halted := false }) (disarmAll 5 u) else u).md = u.md := by
    split
    · exact disarmAll_md ..
    · rfl
  have noted := congrArg (fun x : ModeSide => { x with mode := m, entering := false, since := s.rtc }) (entered s)
  cases m <;> simpa [setMode] using noted
/-- Leaving Service ends the debug path and disarms every point (R465). -/
theorem setMode_pres_of_service {m : Mode} {row : Nat} {s : State} (mode : s.md.mode = .service) :
    (setMode m row s).pres = { s.pres with armed := [], halted := false } := by
  cases m <;> simp [setMode, mode, disarmAll_pres]

theorem jumperGone_of_service {s : State} (mode : s.md.mode = .service) (settled : s.md.entering = false) (noCause : s.md.causes = 0) :
    jumperGone s = endService s := by
  have service : (decide (s.md.mode = .service) && !s.md.entering) = true := by simp [mode, settled]
  have unforced : bitOf (endService s).md.causes 12 = false := by
    rw [endService, setMode_md]
    simp [noCause, bitOf]
  simp only [jumperGone, service, unforced, if_true, Bool.false_eq_true, if_false]

/-- Settles O20. -/
theorem sealJumperJtagCommands : Obligations.SealJumperJtagCommands := by
  unfold Obligations.SealJumperJtagCommands
  refine ⟨fun loopB s whole off powerOn => ?_, fun loopB s broken => ?_, fun s mode settled noCause => ?_, fun s mode noCause => ?_,
    fun code s mode => ?_, fun s mode phase loaded unsealed dump => ?_, fun code s held jumper hc => ?_⟩
  · obtain ⟨pres, count⟩ := sealOpening_of_sealed (loop := b2n loopB)
      (s := updPres (fun p => if loopB then { p with loopB := false } else { p with loopA := false }) s)
      (by cases loopB <;> exact whole) off powerOn
    refine completes_of_next rfl ?_
    rw [doSealLoopOpen, pres, count]
    cases loopB <;> exact ⟨rfl, rfl, rfl, rfl, rfl, rfl⟩
  · have broken' : (updPres (fun p => if loopB then { p with loopB := false } else { p with loopA := false }) s).pres.broken = true := by
      cases loopB <;> exact broken
    refine completes_of_eq rfl (sealOpening_of_broken broken') ⟨?_, ?_, ?_⟩
    · rw [post_pres]
      exact broken'
    · rw [dget_post]
      exact dget_bump32_self ..
    · refine posted_of_rmq (u := bump32 0x701e03
        (updPres (fun p => if loopB then { p with loopB := false } else { p with loopA := false }) s)) rfl rfl rfl
  · have ended : doSvcJmpRemoved s = setMode (if s.cp.twin = .inSync then .duplex else .solo) 8
        (updPres (fun p => { p with jumper := false, scan := none }) s) := by
      exact jumperGone_of_service (s := updPres (fun p => { p with jumper := false, scan := none }) s) mode settled noCause
    refine completes_of_eq rfl ended ?_
    rw [setMode_pres_of_service (by exact mode), setMode_md]
    exact ⟨rfl, rfl, rfl⟩
  · refine completes_of_next rfl ?_
    simp [doSvcJmpRemoved, jumperGone, mode, noCause, bitOf]
  · refine completes_of_next rfl ?_
    simp only [doJtagDebugInstruction, mode, ne_eq, not_true, if_false]
    split
    · rfl
    · split <;> rfl
  · refine completes_of_next rfl ?_
    simp [doJtagResetRequest, acceptReset, mode, phase, loaded, unsealed, dump, idleBlocks]
  · refine completes_of_next rfl ?_
    simp [doJtagBoundaryScan, held, jumper, hc]

/-! ## Mode requests (R377) -/

/-- What a mode request runs on where it is taken: the state with the status, its answer and the code. -/
def requested (code : Nat) (s : State) : State := keepBlock 0x110003 code (dictDone 0x1100 3 (dset 0x110004 0 s))
section
variable (code : Nat) (s : State)
@[simp] theorem requested_md : (requested code s).md = s.md := by simp [requested]
@[simp] theorem requested_pres : (requested code s).pres = s.pres := by simp [requested]
@[simp] theorem requested_cp : (requested code s).cp = s.cp := by simp [requested]
@[simp] theorem requested_rec_ : (requested code s).rec_ = s.rec_ := by simp [requested]
@[simp] theorem requested_per : (requested code s).per = s.per := by simp [requested]
@[simp] theorem requested_rtc : (requested code s).rtc = s.rtc := by simp [requested]
end
theorem modeRequest_of_taken {code : Nat} {status : State → Nat} {run : State → State} {s : State} (serves : Serves s)
    (window : s.pres.windowOpen = true) (idle : dget s 0x110004 ≠ 255) (ok : status s = 0) :
    modeRequest code status run s = run (requested code s) := by
  rw [modeRequest, dictGuard_of_serves serves _ _ (fun _ => window), if_neg idle]
  simp only [ok, if_true, requested]
/-- Entry into Drain starts the quiescing with the cause of the dump. -/
theorem enterDrain_fix {cause : Nat} {s : State} (mode : s.md.mode ≠ .drain) :
    (enterDrain cause s).fix.phase = .draining ∧ (enterDrain cause s).fix.cause = cause := by
  simp only [enterDrain, mode, if_false]
  exact ⟨rfl, rfl⟩
theorem raiseKeep_of_serving {bit : Nat} {s : State} (mode : s.md.mode = .duplex ∨ s.md.mode = .solo ∨ s.md.mode = .service) :
    raiseKeep bit s = updMode (fun x => { x with causes := setBit x.causes bit, entering := true, left := x.mode }) s := by
  unfold raiseKeep
  rcases mode with h | h | h <;> rw [h] <;> rfl
theorem leaveKeep_of_alone {s : State} (running : s.rec_.phase = .none) (alone : s.per.live.standing = .alone) :
    leaveKeep s = setMode .solo 10 s := by
  unfold leaveKeep
  rw [if_neg (by simp [running]), if_pos (by exact alone)]

/-- Settles O23. -/
theorem modeRequestCommands : Obligations.ModeRequestCommands := by
  unfold Obligations.ModeRequestCommands
  refine ⟨fun s serves window idle mode => ?_, fun s serves window idle mode settled jumper => ?_,
    fun s serves window idle mode settled => ?_, fun s serves window idle mode left => ?_,
    fun s serves window idle mode left running alone => ?_, fun s serves window idle mode settled => ?_,
    fun s serves window idle mode settled sync => ?_⟩
  · have permitted : [Mode.duplex, .solo, .service, .keep].contains s.md.mode = true := by
      rcases mode with h | h | h | h <;> rw [h] <;> rfl
    have outside : (requested 1 s).md.mode ≠ .drain := by
      rw [requested_md]
      rcases mode with h | h | h | h <;> rw [h] <;> decide
    exact completes_of_eq rfl (modeRequest_of_taken serves window idle (if_pos permitted))
      ⟨enterDrain_mode _ _, enterDrain_fix outside⟩
  · have permitted : settledIn s [.duplex, .solo] = true := by
      unfold settledIn
      rcases mode with h | h <;> rw [h, settled] <;> rfl
    refine completes_of_eq rfl (modeRequest_of_taken serves window idle (by simp [permitted, jumper])) ?_
    rw [setMode_md, requested_rtc]
    exact ⟨rfl, rfl⟩
  · refine completes_of_eq rfl (modeRequest_of_taken serves window idle (if_pos (by simp [settledIn, mode, settled]))) ?_
    rw [endService, setMode_md, setMode_pres_of_service (by rw [requested_md]; exact mode), requested_cp]
    exact ⟨rfl, rfl, rfl⟩
  · refine completes_of_eq rfl (modeRequest_of_taken serves window idle (if_pos mode)) ?_
    simp only [requested_md, left, if_false]
    refine ⟨?_, ?_⟩ <;> simp [mode]
  · refine completes_of_eq rfl (modeRequest_of_taken serves window idle (if_pos mode)) ?_
    simp only [requested_md, left, if_true]
    rw [leaveKeep_of_alone (by exact (congrArg (·.phase) (requested_rec_ 4 s)).trans running)
      (by exact (congrArg (·.live.standing) (requested_per 4 s)).trans alone), setMode_md]
    exact ⟨rfl, rfl⟩
  · refine completes_of_eq rfl ((serviceOnly_of_servesInService ⟨serves, mode⟩ _ _ _).trans
      (modeRequest_of_taken serves window idle (if_pos (by simp [settledIn, mode, settled])))) ?_
    rw [raiseKeep_of_serving (by simp [mode])]
    simp [mode]
  · refine completes_of_eq rfl ((serviceOnly_of_servesInService ⟨serves, mode⟩ _ _ _).trans
      (modeRequest_of_taken serves window idle (if_pos (by simp [settledIn, mode, settled, sync])))) ?_
    obtain ⟨⟨twin, standing, drain⟩, reset⟩ := standDown_of_serving (row := 11) (s := requested 6 s) (by simp [mode])
    exact ⟨standing, twin, drain, reset⟩

/-! ## The profile, the temperature limits and failing ports (R380, R381, R384, R386) -/

theorem setBit_of_clear {v i : Nat} (h : bitOf v i = false) : setBit v i = v + 2 ^ i := by simp [setBit, h]
theorem clrBit_of_set {v i : Nat} (h : bitOf v i = true) : clrBit v i = v - 2 ^ i := by simp [clrBit, h]
/-- Entry into Drain keeps the junction's temperature and the causes of the reset. -/
theorem enterDrain_hot_cause (cause : Nat) (s : State) :
    (enterDrain cause s).md.hot = s.md.hot ∧ (enterDrain cause s).rst.cause = s.rst.cause := by
  unfold enterDrain
  split
  · exact ⟨rfl, rfl⟩
  · dsimp only
    rw [dset_md, updFix_md, updRst_md, dset_rst, updFix_rst, updRst_rst, each_keeps (g := (·.md)) (fun t a => stopPlace_md t _ a), abandonCut_md,
      each_keeps (g := (·.rst)) (fun t a => stopPlace_rst t _ a), abandonCut_rst, updMode_md, updMode_rst, setMode_md, setMode_rst]
    exact ⟨rfl, rfl⟩
/-- A fatal fault drains with cause 2, the reset cause FATAL pending. -/
theorem fatal_of_mode {code : Nat} {s : State} (mode : s.md.mode ≠ .drain) : (fatal code s).md.mode = .drain ∧
    (fatal code s).md.hot = s.md.hot ∧ (fatal code s).fix.cause = 2 ∧ (fatal code s).rst.cause = setBit s.rst.cause 9 := by
  unfold fatal
  dsimp only
  refine ⟨enterDrain_mode _ _, ?_, ?_, ?_⟩
  · rw [(enterDrain_hot_cause _ _).1]
    simp
  · refine (enterDrain_fix ?_).2
    simpa using mode
  · rw [(enterDrain_hot_cause _ _).2]
    simp
theorem clearKeep_md {bit : Nat} {s : State} (mode : s.md.mode ≠ .keep) :
    (clearKeep bit s).md.causes = clrBit s.md.causes bit ∧ (clearKeep bit s).md.hot = s.md.hot := by
  simp only [clearKeep, mode, if_false]
  split <;> exact ⟨rfl, rfl⟩
theorem portOf_of_ports {s t : State} (h : t.ports = s.ports) (p : Nat) : portOf t p = portOf s p := by unfold portOf; rw [h]
/-- The sibling of a port is another port. -/
theorem sibling_ne (p : Nat) : p ^^^ 8 ≠ p := by
  intro h
  have : (p ^^^ 8) ^^^ p = 0 := by rw [h, Nat.xor_self]
  rw [Nat.xor_comm p 8, Nat.xor_assoc, Nat.xor_self] at this
  exact absurd this (by decide)
/-- The sibling of a port that fails answers for it. -/
theorem failPort_ports {p : Nat} {s : State} (failed : (portOf s (p ^^^ 8)).st ≠ .failed) (disabled : (portOf s (p ^^^ 8)).st ≠ .disabled) :
    (portOf (failPort p s) p).st = .failed ∧ (portOf (failPort p s) p).proxied = true ∧ (portOf (failPort p s) (p ^^^ 8)).answering = true := by
  have take : (decide ((portOf s (p ^^^ 8)).st ≠ .failed) && decide ((portOf s (p ^^^ 8)).st ≠ .disabled)) = true := by simp [failed, disabled]
  unfold failPort
  dsimp only
  rw [take, if_neg (by simp)]
  have own {u : State} (hu : u.ports = (setPort p (fun x => { x with st := .failed, answering := false, proxied := true, fecLock := false, pausing := 0, pausedBy := 0 }) s).ports) :
      (portOf u p).st = .failed ∧ (portOf u p).proxied = true := by
    rw [portOf_of_ports hu, portOf_setPort]
    exact ⟨rfl, rfl⟩
  rw [portOf_setPort_ne _ _ _ _ (sibling_ne p).symm]
  refine ⟨(own rfl).1, (own rfl).2, ?_⟩
  · rw [portOf_setPort]
/-- One port that fails is the one single fault. -/
theorem failPorts_of_live {p : Nat} {s : State} (working : (portOf s p).st ≠ .failed) :
    ∃ u, (∀ k, portOf u k = portOf s k) ∧ (failPorts [p] s).ports = (failPort p u).ports := by
  unfold failPorts
  simp only [List.filter_cons, working, ne_eq, not_false_eq_true, decide_true, if_true, List.filter_nil, List.isEmpty_cons,
    Bool.false_eq_true, if_false]
  refine ⟨_, fun k => ?_, by rw [bump32_ports, faultHandled_ports, disarmAt_ports]; rfl⟩
  rfl

/-! ## Posted configuration (R28) -/

/-- A port applies its entries: those of its group's idle point, and whether it is enabled. -/
def portApplies (q : Nat) (a : State) : State :=
  setPort q (fun x => if !decide (dget a (0x200001 + q * 256) = 1) then { x with st := .disabled }
    else if x.st = .disabled then { x with st := .training } else x)
    (each portSubs (fun sub b => fset (0x200000 + q * 256 + sub) 0 (dget b (0x200000 + q * 256 + sub)) b) a)
theorem doConfigApplyAtIdle_of_group {group : Nat} (h : group < 16) (s : State) : doConfigApplyAtIdle (17 + group) s =
    each ((List.range 8).map (8 * group + ·)) portApplies (fset 0x210001 group (dget s 0x210001) s) := by
  unfold doConfigApplyAtIdle
  dsimp only
  rw [if_neg (by omega), if_neg (by omega), if_pos (by omega), show 17 + group - 17 = group by omega]
  rfl
theorem portApplies_dict (q : Nat) (a : State) : (portApplies q a).dict = a.dict := by
  rw [portApplies, setPort_dict]
  exact each_keeps (g := (·.dict)) (fun _ _ => by rw [fset_dict]) _ _
theorem portApplies_of_off {q : Nat} {a : State} (off : dget a (0x200001 + q * 256) = 0) : (portOf (portApplies q a) q).st = .disabled := by
  unfold portApplies
  rw [portOf_setPort]
  simp [off]
theorem portApplies_ne {q p : Nat} (h : p ≠ q) (a : State) : portOf (portApplies q a) p = portOf a p := by
  rw [portApplies, portOf_setPort_ne _ _ _ _ h]
  exact portOf_of_ports (each_keeps (g := (·.ports)) (fun _ _ => by rw [fset_ports]) _ _) p
/-- A port that is switched off and is among those that apply their entries, or disabled before, is disabled after. -/
theorem disabled_of_applies {p : Nat} (l : List Nat) (s : State) (off : dget s (0x200001 + p * 256) = 0)
    (h : p ∈ l ∨ (portOf s p).st = .disabled) : (portOf (each l portApplies s) p).st = .disabled := by
  unfold each
  induction l generalizing s with
  | nil => exact h.resolve_left List.not_mem_nil
  | cons q l ih =>
    rw [List.foldl_cons]
    refine ih _ (by rw [dget_of_dict (portApplies_dict q s), off]) ?_
    by_cases hq : p = q
    · subst hq
      exact .inr (portApplies_of_off off)
    · rw [portApplies_ne hq]
      exact h.imp_left fun h => (List.mem_cons.mp h).resolve_left hq

theorem each_keeps_of_mem {α β : Type} {g : State → β} {f : α → State → State} (l : List α) (h : ∀ a ∈ l, ∀ s, g (f a s) = g s)
    (s : State) : g (each l f s) = g s := by
  unfold each
  induction l generalizing s with
  | nil => rfl
  | cons a l ih => rw [List.foldl_cons, ih (fun b hb => h b (List.mem_cons_of_mem a hb)), h a List.mem_cons_self]
theorem fget_fset_ne {k unit j n v : Nat} {s : State} (h : k * 256 + unit ≠ j * 256 + n) : fget (fset j n v s) k unit = fget s k unit :=
  tget_tput_ne _ _ _ _ _ h
/-- What a port applies is not what its group applies. -/
theorem fget_portApplies {q group : Nat} (hq : q < 128) (hg : group < 16) (a : State) :
    fget (portApplies q a) 0x210001 group = fget a 0x210001 group := by
  have inForce (f : Port → Port) (u : State) : fget (setPort q f u) 0x210001 group = fget u 0x210001 group := by simp only [fget, setPort]
  rw [portApplies, inForce]
  refine each_keeps_of_mem (g := (fget · 0x210001 group)) portSubs (fun sub hsub b => ?_) a
  rw [fget_fset_ne]
  have : sub ≤ 7 := by
    simp only [portSubs, List.mem_cons, List.not_mem_nil, or_false] at hsub
    omega
  omega

/-- Settles O24. -/
theorem profileTemperaturePorts : Obligations.ProfileTemperaturePorts := by
  unfold Obligations.ProfileTemperaturePorts
  refine ⟨fun profile s serves low high fits => ?_, fun celsius s hot mode => ?_, fun celsius s cool warm clear mode => ?_,
    fun celsius s set cool mode => ?_, fun port s working failed disabled unarmed => ?_, fun port s up proxied => ?_,
    fun s => completes_of_next rfl rfl, fun unit s hu => ?_, fun unit s low high => ?_, fun group port s hg low high off => ?_⟩
  · have written : doProfileWrite profile s = budgetChanged (dictDone 0x1100 2 (dset 0x110002 profile s)) := by
      rw [doProfileWrite, dictGuard_of_serves serves _ _ (by simp)]
      have range : (decide (profile = 0) || decide (profile > 3)) = false := by simp; omega
      simp [range, fits]
    refine completes_of_eq rfl written ?_
    rw [budgetChanged_config _ (by decide), dget_dictDone_ne (by decide), dget_dset_self]
  · refine completes_of_eq rfl (if_pos hot) ?_
    exact fatal_of_mode (by exact mode)
  · have raised : doTempThreshold celsius s = raiseKeep 1 (updMode (fun x => { x with hot := celsius }) s) := by
      unfold doTempThreshold
      dsimp only
      rw [if_neg (by omega), if_pos (by simp [warm, clear])]
    refine completes_of_eq rfl raised ?_
    rw [raiseKeep_of_serving (by exact mode)]
    exact ⟨setBit_of_clear clear, rfl, rfl⟩
  · have cleared : doTempClearTimeout celsius s = clearKeep 1 (updMode (fun x => { x with hot := celsius }) s) := by
      unfold doTempClearTimeout
      dsimp only
      rw [if_pos (by simp [cool, set])]
    refine completes_of_eq rfl cleared ?_
    obtain ⟨causes, hot⟩ := clearKeep_md (bit := 1) (s := updMode (fun x => { x with hot := celsius }) s) (by exact mode)
    exact ⟨causes.trans (clrBit_of_set set), hot⟩
  · obtain ⟨u, same, ports⟩ := failPorts_of_live working
    refine completes_of_next rfl ?_
    have sibling := failPort_ports (p := port.val) (s := u) (by rwa [same]) (by rwa [same])
    have failed_ := portOf_of_ports (s := failPort port.val u) (t := doPortFailure port false s) ports
    rwa [failed_, failed_]
  · refine completes_of_eq rfl (if_pos (by simp only [up, proxied, decide_true, Bool.and_self])) ⟨?_, rfl⟩
    rw [portOf_of_ports (updMode_ports ..), portOf_setPort]
  · refine completes_of_eq rfl (if_pos hu) ?_
    rw [sliceOf_setSlice]
  · refine completes_of_eq rfl ((if_neg (by omega)).trans ((if_neg (by omega)).trans ((if_neg (by omega)).trans (if_pos high)))) ?_
    rw [chanOf_setChan]
  · refine completes_of_eq rfl (doConfigApplyAtIdle_of_group hg s) ⟨?_, ?_⟩
    · refine disabled_of_applies _ _ off (.inl (List.mem_map.mpr ⟨port - 8 * group, List.mem_range.mpr (by omega), by omega⟩))
    · refine (each_keeps_of_mem (g := (fget · 0x210001 group)) _ (fun q hq a => fget_portApplies ?_ hg a) _).trans ?_
      · obtain ⟨i, hi, rfl⟩ := List.mem_map.mp hq
        have := List.mem_range.mp hi
        omega
      · exact tget_tput_self ..

end Sys2Proof.Machine
end

section
namespace Sys2Proof.Machine

/-! ## Key commands (R402–R406) -/

/-- What a key command runs on where it is taken. -/
def keyTaken (s : State) : State := dictDone 0x4002 1 s
section
variable (s : State)
@[simp] theorem keyTaken_per : (keyTaken s).per = s.per := dictDone_per ..
@[simp] theorem keyTaken_nand : (keyTaken s).nand = s.nand := dictDone_nand ..
@[simp] theorem keyTaken_fix : (keyTaken s).fix = s.fix := dictDone_fix ..
@[simp] theorem keyTaken_md : (keyTaken s).md = s.md := dictDone_md ..
@[simp] theorem keyTaken_keys : (keyTaken s).keys = s.keys := dictDone_keys ..
theorem dget_keyTaken {k : Nat} (h : k < 0x701d01 ∨ 0x701d03 < k) : dget (keyTaken s) k = dget s k := dget_dictDone_ne h
end
/-- A command that is taken runs; its block is kept and the material is used up. -/
def keyRun (block : Nat) (run : State → State) (s : State) : State :=
  keepBlock 0x400201 block (updKeys (fun k => { k with material := none }) (run (keyTaken s)))
theorem keyCommand_of_taken {code slot kind : Nat} {status : State → Option Nat} {run : State → State} {s : State} (h : TakesKeys s)
    (ok : status s = none) : ∃ block, keyCommand code slot kind status run s = keyRun block run s := by
  obtain ⟨serves, window, idle, serving, drain, keep⟩ := h
  refine ⟨blockValue [code * 2 ^ 24 + slot * 2 ^ 8 + kind % 16, 0], ?_⟩
  have permitted : (decide (s.md.mode = .recall) && !s.rec_.serving || decide (s.md.mode = .drain) || decide (s.md.mode = .keep)) = false := by
    by_cases hr : s.md.mode = .recall
    · simp [hr, serving hr]
    · simp [hr, drain, keep]
  rw [keyCommand, dictGuard_of_serves serves _ _ (fun _ => window), if_neg idle]
  simp only [permitted, Bool.false_eq_true, if_false, ok, keyRun, keyTaken]
section
variable {block : Nat} {run : State → State} {s : State}
theorem keyRun_slot (n : Nat) : keySlotOf (keyRun block run s) n = keySlotOf (run (keyTaken s)) n := rfl
theorem keyRun_job : (keyRun block run s).keys.job = (run (keyTaken s)).keys.job := rfl
theorem keyRun_migrate : (keyRun block run s).keys.migrate = (run (keyTaken s)).keys.migrate := rfl
theorem keyRun_ueOwner : (keyRun block run s).keys.ueOwner = (run (keyTaken s)).keys.ueOwner := rfl
theorem dget_keyRun : dget (keyRun block run s) 0x400202 = dget (run (keyTaken s)) 0x400202 := dget_dset_ne _ _ _ _ (by decide)
end

/-- What takes place under a slot depends on the dies, the map, the link slot and the holder of the utility engine. -/
theorem inUse_alike {s t : State} (hn : t.nand = s.nand) (hp : t.per = s.per) (hd : dget t 0x350104 = dget s 0x350104)
    (hu : t.keys.ueOwner = s.keys.ueOwner) (n : Nat) : inUse t n = inUse s n := by
  unfold inUse live
  rw [hn, hp, hd, hu]
theorem slotUnits_alike {s t : State} (hn : t.nand = s.nand) (hp : t.per = s.per) (hf : t.fix = s.fix) (n : Nat) :
    slotUnits t n = slotUnits s n := by
  unfold slotUnits live
  rw [hn, hp, hf]

theorem claimUe_of_free {client : Nat} {s : State} (low : 1 ≤ client) (high : client ≤ 5) (free : s.keys.ueOwner = 0) :
    (claimUe client s).keys.ueOwner = client := by
  unfold claimUe
  rw [if_neg (by simp; omega), if_pos free]
  rfl
theorem claimUe_job (client : Nat) (s : State) : (claimUe client s).keys.job = s.keys.job := by
  unfold claimUe
  split
  · rfl
  · split <;> rfl
/-- A key that goes to the utility engine claims it, and the command goes on. -/
theorem loadKey_of_taken (j : KeyJob) (s : State) : (loadKey j s).keys.job = some j ∧ dget (loadKey j s) 0x400202 = 255 ∧
    (s.keys.ueOwner = 0 → (loadKey j s).keys.ueOwner = 3) := by
  refine ⟨claimUe_job .., ?_, fun free => claimUe_of_free (by decide) (by decide) free⟩
  exact (dget_of_dict (claimUe_dict ..) _).trans (dget_dset_self ..)

/-- The present key of a slot gives way to its shadow. -/
theorem swapSlot_of_shadow {n : Nat} {s : State} (shadow : (keySlotOf s n).st = .shadow) : (keySlotOf (swapSlot n s) n).st = .loaded ∧
    (keySlotOf (swapSlot n s) n).value = (keySlotOf s n).next.getD 0 ∧ (keySlotOf (swapSlot n s) n).kind = (keySlotOf s n).nextKind ∧
      dget (swapSlot n s) 0x400202 = 0 := by
  have slot (v w : Nat) (k : KeySlot) (u : State) : keySlotOf (keyStatus v w (setKeySlot n (fun _ => k) u)) n = k := keySlotOf_setKeySlot ..
  simp only [swapSlot, shadow, slot, true_and]
  exact dget_dset_self ..
theorem swapSlot_of_erased {n : Nat} {s : State} (erased : (keySlotOf s n).st = .eraseWait) :
    keySlotOf (swapSlot n s) n = {} ∧ dget (swapSlot n s) 0x400202 = 0 := by
  have slot (v w : Nat) (k : KeySlot) (u : State) : keySlotOf (keyStatus v w (setKeySlot n (fun _ => k) u)) n = k := keySlotOf_setKeySlot ..
  simp only [swapSlot, erased, slot, true_and]
  exact dget_dset_self ..

/-- A migration of a slot that no unit names is done at once, where no die has groups and no page an image. -/
theorem gcAll_of_empty {n : Nat} {s : State} (migrate : s.keys.migrate = some n) (groups : s.per.live.groups = [])
    (images : s.per.live.images = []) (units : slotUnits s n = 0) (clear : bitOf s.md.causes 6 = false) :
    (gcAll s).keys.migrate = none ∧ dget (gcAll s) 0x400202 = 0 := by
  have moved : (if s.md.mode = .drain then s else migrateImages s) = s := by
    split
    · rfl
    · simp [migrateImages, migrate, live, images, each]
  have idle : gcAll s = migrateCheck (mediaStep s) := by
    rw [gcAll, moved, usedDies, live, groups]
    rfl
  have media : mediaStep s = mediaCheck s := by
    simp [mediaStep, clear]
  have units' : slotUnits (mediaCheck s) n = 0 := by
    rw [slotUnits_alike (mediaCheck_nand s) (mediaCheck_per s) (mediaCheck_fix s), units]
  rw [idle, media]
  simp only [migrateCheck, mediaCheck_keys, migrate, units', if_true]
  exact ⟨rfl, dget_dset_self ..⟩

/-- Settles O25. -/
theorem keyCommands : Obligations.KeyCommands := by
  unfold Obligations.KeyCommands
  refine ⟨fun slot kind s takes hk free unfenced => ?_, fun slot m s takes hm len halves free unfenced => ?_,
    fun slot s takes free link idle => ?_, fun slot s takes unfenced other held units groups images clear => ?_,
    fun slot key s shadow next idle => ?_, fun slot s serves window hs loaded kind => ?_⟩
  · have ok : (if kind ≠ 1 && kind ≠ 2 then some 2 else if slotProtected s (slot % 64) then some 3 else if ueFenced s then some 6
        else none : Option Nat) = none := by
      rw [if_neg (by rcases hk with rfl | rfl <;> decide), if_neg (by simp [free]), if_neg (by simp [ueFenced, unfenced])]
    obtain ⟨block, run⟩ := keyCommand_of_taken (code := 1) (slot := slot % 64) (kind := kind)
      (status := fun a => if kind ≠ 1 && kind ≠ 2 then some 2 else if slotProtected a (slot % 64) then some 3 else if ueFenced a then some 6 else none)
      (run := fun a => draw (loadKey ⟨slot % 64, kind, 1, Config.drbgKey a.freeCtr⟩ a)) takes ok
    refine completes_of_eq rfl run ?_
    obtain ⟨job, status, owner⟩ := loadKey_of_taken ⟨slot % 64, kind, 1, Config.drbgKey (keyTaken s).freeCtr⟩ (keyTaken s)
    rw [dget_keyRun, keyRun_job, keyRun_ueOwner]
    exact ⟨⟨_, job⟩, status, by simpa using owner⟩
  · obtain ⟨block, run⟩ := keyCommand_of_taken (code := 2) (slot := slot % 64) (kind := 1)
      (status := fun a =>
        let m := a.keys.material
        if (1 : Nat) ≠ 1 && (1 : Nat) ≠ 2 then some 2
        else if m.any (fun b => b.length = 64 && (decide ((1 : Nat) = 1) && decide (b.take 32 = b.drop 32))) then some 2
        else if slotProtected a (slot % 64) then some 3
        else if !m.any (fun b => b.length = 64) then some 5
        else if ueFenced a then some 6 else none)
      (run := fun a => loadKey ⟨slot % 64, 1, 2, beNat (a.keys.material.getD [])⟩ a) takes
      (by simp [hm, len, halves, free, ueFenced, unfenced])
    refine completes_of_eq rfl run ?_
    obtain ⟨job, status, owner⟩ := loadKey_of_taken ⟨slot % 64, 1, 2, beNat ((keyTaken s).keys.material.getD [])⟩ (keyTaken s)
    rw [dget_keyRun, keyRun_job, keyRun_ueOwner]
    exact ⟨job.trans (by rw [keyTaken_keys, hm]; rfl), status, rfl, by simpa using owner⟩
  · obtain ⟨block, run⟩ := keyCommand_of_taken (code := 3) (slot := slot % 64) (kind := 0)
      (status := fun a => if slotProtected a (slot % 64) then some 3
        else if dget a 0x350104 = slot % 64 && (a.cp.twin = .resync || a.cp.twin = .inSync) then some 4 else none)
      (run := fun a =>
        let a1 := keyStatus 255 0 (setKeySlot (slot % 64) (fun k => { k with st := .eraseWait }) a)
        if inUse a (slot % 64) = 0 then swapSlot (slot % 64) a1 else a1) takes
      (by simp [free, link])
    refine completes_of_eq rfl run ?_
    have idle' : inUse (keyTaken s) (slot % 64) = 0 := by
      rw [inUse_alike (keyTaken_nand s) (keyTaken_per s) (dget_keyTaken s (by decide)) (by rw [keyTaken_keys]), idle]
    rw [keyRun_slot, dget_keyRun]
    simp only [idle', if_true]
    exact swapSlot_of_erased (congrArg (·.st) (keySlotOf_setKeySlot (slot % 64) (fun k => { k with st := .eraseWait }) (keyTaken s)))
  · obtain ⟨block, run⟩ := keyCommand_of_taken (code := 4) (slot := slot % 64) (kind := 0)
      (status := fun a => if writeSlot a = slot % 64 || (keySlotOf a (slot % 64)).st = .empty then some 7 else if ueFenced a then some 6 else none)
      (run := fun a => gcAll (keyStatus 255 0 (updKeys (fun k => { k with migrate := some (slot % 64) }) a))) takes
      (by simp [other, held, ueFenced, unfenced])
    refine completes_of_eq rfl run ?_
    rw [keyRun_migrate, dget_keyRun]
    have taken_per := keyTaken_per s
    refine gcAll_of_empty (n := slot % 64) rfl ?_ ?_ ?_ ?_
    · exact (congrArg (·.live.groups) taken_per).trans groups
    · exact (congrArg (·.live.images) taken_per).trans images
    · refine (slotUnits_alike ?_ ?_ ?_ _).trans units
      · exact keyTaken_nand s
      · exact taken_per
      · exact keyTaken_fix s
    · exact (congrArg (fun x : ModeSide => bitOf x.causes 6) (keyTaken_md s)).trans clear
  · obtain ⟨st, value, kind, status⟩ := swapSlot_of_shadow shadow
    refine completes_of_eq rfl (if_pos idle) ⟨st, ?_, kind, status⟩
    rw [value, next]
    rfl
  · have written : doWriteSlotWrite slot s = dictDone 0x4000 1 (dset 0x400001 slot s) := by
      rw [doWriteSlotWrite, dictGuard_of_serves serves _ _ (fun _ => window)]
      simp [loaded, kind, Nat.not_lt.mpr hs]
    refine completes_of_eq rfl written ?_
    rw [dget_dictDone_ne (by decide), dget_dset_self]

/-! ## The utility engine, mismatches and the firmware banks (R395–R399, R408–R410) -/

theorem grantUe_of_none {s : State} (wait : s.keys.ueWait = []) : grantUe s = updKeys (fun k => { k with ueOwner := 0 }) s := by
  unfold grantUe
  rw [wait]
  rfl
theorem fireRecorded_of_unarmed {s : State} (unarmed : s.pres.armed = []) (point inst : Nat) (variants : List Nat) :
    fireRecorded point inst variants s = none := by
  simp [fireRecorded, fire, unarmed]
/-- A release that no armed point spoils ends the holder's operation and grants the lock. -/
theorem doUeLockRelease_of_holder {client : Nat} {s : State} (owner : s.keys.ueOwner = client) (low : client ≠ 0)
    (unarmed : s.pres.armed = []) : doUeLockRelease client s =
      grantUe (if client = 3 then endKeyJob s else if client = 4 then flushWaiting true s else s) := by
  have holds : (decide (s.keys.ueOwner = 0) || decide (s.keys.ueOwner ≠ client)) = false := by simp [owner, low]
  unfold doUeLockRelease
  rw [holds, if_neg Bool.false_ne_true, fireRecorded_of_unarmed unarmed, fireRecorded_of_unarmed unarmed]
  rfl
/-- The key operation of an empty slot ends with its key loaded. -/
theorem endKeyJob_of_empty {j : KeyJob} {s : State} (job : s.keys.job = some j) (empty : (keySlotOf s j.slot).st = .empty) :
    (endKeyJob s).keys.job = none ∧ (endKeyJob s).keys.ueWait = s.keys.ueWait ∧ (keySlotOf (endKeyJob s) j.slot).st = .loaded ∧
      (keySlotOf (endKeyJob s) j.slot).value = j.value ∧ dget (endKeyJob s) 0x400202 = 0 := by
  have ended : endKeyJob s = swapSlot j.slot (setKeySlot j.slot
      (fun k => { k with st := SlotSt.shadow, next := some j.value, nextKind := j.kind, nextSource := j.source })
      (updKeys (fun k => { k with job := none }) s)) := by
    simp [endKeyJob, job, empty]
  have kept (v : Nat) (u : State) (shadow : (keySlotOf u v).st = .shadow) : (swapSlot v u).keys.job = u.keys.job ∧
      (swapSlot v u).keys.ueWait = u.keys.ueWait := by
    simp only [swapSlot, shadow]
    exact ⟨rfl, rfl⟩
  have shadow := keySlotOf_setKeySlot j.slot
    (fun k => { k with st := SlotSt.shadow, next := some j.value, nextKind := j.kind, nextSource := j.source })
    (updKeys (fun k => { k with job := none }) s)
  obtain ⟨st, value, -, status⟩ := swapSlot_of_shadow (congrArg (·.st) shadow)
  obtain ⟨jobs, waits⟩ := kept _ _ (congrArg (·.st) shadow)
  rw [ended]
  refine ⟨jobs, waits, st, ?_, status⟩
  rw [value, shadow]
  rfl
theorem failUe_of_timeout {s : State} (flush : s.keys.ueOwner ≠ 4) (wait : s.keys.ueWait = []) : (failUe s).keys.ueWait = [] ∧
    dget (failUe s) 0x401002 = dget s 0x401002 := by
  have status (v w : Nat) (u : State) : dget (keyStatus v w u) 0x401002 = dget u 0x401002 := by
    rw [keyStatus, dget_dset_ne _ _ _ _ (by decide), dget_dset_ne _ _ _ _ (by decide)]
  unfold failUe
  split
  · split
    · exact ⟨wait, status ..⟩
    · exact ⟨wait, rfl⟩
  · next h => exact absurd h flush
  · exact ⟨wait, rfl⟩
  · exact ⟨wait, rfl⟩
theorem bankOf_setBank {n : Nat} {f : Bank → Bank} {s : State} (h : n < s.keys.banks.length) :
    bankOf (setBank n f s) n = f (bankOf s n) := by
  have slot : s.keys.banks[n]? = some s.keys.banks[n] := List.getElem?_eq_getElem h
  simp only [bankOf, setBank, updKeys_keys, List.getElem?_modify, if_true, slot, Option.getD_some]
  rfl
theorem bankOf_of_banks {s t : State} (h : t.keys.banks = s.keys.banks) (n : Nat) : bankOf t n = bankOf s n := by
  unfold bankOf
  rw [h]
/-- The first part of an image that does not yet hold a header is stored; the bank waits for the rest. -/
theorem doFirmwareBankWrite_of_first {bank : Fin 2} {data : Bytes} {s : State} (silent : fiethSilent s = false)
    (boot : s.fieth.boot = false) (window : s.pres.windowOpen = true) (some_ : data ≠ []) (short : data.length < 128)
    (other : s.keys.running ≠ some bank.val) (idle : (bankOf s bank.val).verifying = false) :
    doFirmwareBankWrite bank 0 data s = dictDone 0x4020 (bank.val + 1) (setBank bank.val (fun _ =>
      { bankOf s bank.val with image := mput [] 0 data, valid := false, written := data.length, verifying := false }) s) := by
  have whole : (data.isEmpty || (decide ((0 : Nat) ≠ 0) && decide (0 ≠ (bankOf s bank.val).written)) || decide (0 + data.length > 8388608)) = false := by
    simp [some_]
    omega
  unfold doFirmwareBankWrite
  dsimp only
  rw [silent, boot, window, whole, idle]
  rw [if_neg (by decide), if_neg (by simp), if_neg (by decide), if_neg (by decide), if_neg (by omega), if_neg (by simp [other])]
  have unfinished : decide (data.length ≥ 128) = false := by simp; omega
  simp only [unfinished, Bool.false_and, if_true, when_, Bool.false_eq_true, if_false, Nat.zero_add]
theorem judgeBank_of_sound {n : Nat} {s : State} (h : n < s.keys.banks.length) (sound : headerOk (bankOf s n).image = true) :
    (bankOf (judgeBank n true s) n).verifying = false ∧
      (bankOf (judgeBank n true s) n).valid = decide (s.keys.fusedSvn ≤ headerField (bankOf s n).image 8 1) ∧
      (bankOf (judgeBank n true s) n).svn = headerField (bankOf s n).image 8 1 ∧ (judgeBank n true s).keys.ueWait = s.keys.ueWait := by
  have judged : (judgeBank n true s).keys = (setBank n (fun b => { b with
      verifying := false, valid := decide (s.keys.fusedSvn ≤ headerField (bankOf s n).image 8 1), svn := headerField (bankOf s n).image 8 1,
      version := headerField (bankOf s n).image 4 4, length := headerField (bankOf s n).image 12 4 }) s).keys := by
    unfold judgeBank
    simp only [sound, Bool.true_and]
    split
    · rfl
    · rw [post_keys]
  rw [bankOf_of_banks (congrArg (·.banks) judged), bankOf_setBank h, judged]
  exact ⟨rfl, rfl, rfl, rfl⟩

/-- Settles O26. -/
theorem engineAndFirmwareCommands : Obligations.EngineAndFirmwareCommands := by
  unfold Obligations.EngineAndFirmwareCommands
  refine ⟨fun client s unfenced low high free => ?_, fun client s unfenced low high held other => ?_,
    fun client s owner hc wait unarmed => ?_, fun j s owner job wait unarmed empty => ?_, fun s held flush wait => ?_,
    fun engine s unfenced held => ?_, fun engine s unfenced he => ?_,
    fun bank data s silent boot window some_ short other two idle => ?_, fun bank s owner wait two verifying sound => ?_,
    fun value n s serves window high above running top => ?_⟩
  · refine completes_of_eq rfl (if_neg (by simp [ueFenced, unfenced])) ?_
    exact claimUe_of_free low high free
  · refine completes_of_eq rfl (if_neg (by simp [ueFenced, unfenced])) ?_
    unfold claimUe
    rw [if_neg (by simp [other]; omega), if_neg held]
    exact ⟨rfl, rfl⟩
  · refine completes_of_eq rfl (doUeLockRelease_of_holder owner (by omega) unarmed) ?_
    rw [if_neg (by omega), if_neg (by omega), grantUe_of_none wait]
    rfl
  · refine completes_of_eq rfl (doUeLockRelease_of_holder owner (by decide) unarmed) ?_
    obtain ⟨jobs, waits, st, value, status⟩ := endKeyJob_of_empty job empty
    rw [if_pos rfl, grantUe_of_none (waits.trans wait)]
    exact ⟨rfl, jobs, st, value, status⟩
  · obtain ⟨waits, count⟩ := failUe_of_timeout (s := bump32 0x401002 s) (by exact flush) (by exact wait)
    refine completes_of_eq rfl (if_neg held) ?_
    rw [grantUe_of_none waits]
    exact ⟨rfl, count.trans (dget_bump32_self ..)⟩
  · have counted : doCipherMismatch engine false s = bump 0x701c01 s := by
      have heard : (s.keys.fenced.contains engine.val || (decide (engine.val = 6) && decide (s.keys.ueOwner = 0))) = false := by
        rw [unfenced, Bool.or_eq_false_iff]
        refine ⟨rfl, ?_⟩
        by_cases h6 : engine.val = 6
        · simp [h6, held h6]
        · simp [h6]
      unfold doCipherMismatch
      dsimp only
      rw [heard, if_neg Bool.false_ne_true]
      split
      · simp [xqMismatch, unfenced]
      · rfl
    exact completes_of_eq rfl counted ⟨dget_bump_self .., unfenced⟩
  · have fenced : doCipherMismatch engine true s = fenceGcm engine.val (bump32 0x701c02 s) := by
      unfold doCipherMismatch
      dsimp only
      rw [if_neg (by simp [unfenced]; omega), if_neg (by omega), if_neg (by decide), if_neg (by omega)]
    refine completes_of_eq rfl fenced ?_
    simp [fenceGcm, unfenced, insertSet]
  · refine completes_of_eq rfl (doFirmwareBankWrite_of_first silent boot window some_ short other idle) ?_
    rw [bankOf_of_banks (congrArg (·.banks) (dictDone_keys ..)), bankOf_setBank (by rw [two]; exact bank.isLt)]
    exact ⟨rfl, rfl, rfl⟩
  · obtain ⟨ver, valid, svn, waits⟩ := judgeBank_of_sound (by rw [two]; exact bank.isLt) sound
    refine completes_of_eq rfl (if_neg (by simp [verifying, owner])) ?_
    have same := bankOf_of_banks (s := judgeBank bank.val true s) (t := updKeys (fun k => { k with ueOwner := 0 }) (judgeBank bank.val true s))
      rfl bank.val
    rw [grantUe_of_none (waits.trans wait), same]
    exact ⟨ver, valid, svn, rfl⟩
  · have burned : doSvnCommit value s = dictDone 0x4021 5 (updKeys (fun k => { k with
        fusedSvn := value, banks := k.banks.map (fun b => { b with valid := b.valid && decide (value ≤ b.svn) }) }) s) := by
      rw [doSvnCommit, dictGuard_of_serves serves _ _ (fun _ => window)]
      simp only [running]
      rw [if_neg (by omega), if_neg (by simp; omega)]
    refine completes_of_eq rfl burned ?_
    rw [dictDone_keys]
    exact ⟨rfl, rfl⟩

end Sys2Proof.Machine
end

section
namespace Sys2Proof.Machine

/-! ## Segmented transfers and heartbeats (R422, R427, R429, R433, R434) -/

theorem canOf_setCan {n : Nat} {f : Can → Can} {s : State} (h : n < s.fieth.chans.length) : canOf (setCan n f s) n = f (canOf s n) := by
  have chan : s.fieth.chans[n]? = some s.fieth.chans[n] := List.getElem?_eq_getElem h
  simp only [canOf, setCan, updFieth_fieth, List.getElem?_modify, if_true, chan, Option.getD_some]
  rfl
theorem canOf_setCan_ne {n k : Nat} {f : Can → Can} {s : State} (h : k ≠ n) : canOf (setCan n f s) k = canOf s k := by
  simp only [canOf, setCan, updFieth_fieth, List.getElem?_modify, if_neg h.symm]
  cases s.fieth.chans[k]? <;> rfl
theorem canOf_of_fieth {s t : State} (h : t.fieth = s.fieth) (n : Nat) : canOf t n = canOf s n := by
  unfold canOf
  rw [h]
theorem canOf_setXfer {n : Nat} {x : Option Transfer} {s : State} (h : n < s.fieth.chans.length) :
    canOf (setXfer n x s) n = { canOf s n with xfer := x } := canOf_setCan h
/-- A channel that is heard answers there. -/
theorem answered_fiethSend {ch : Nat} {b : Bytes} {s t : State} (hears : Hears t ch) (node : t.rst.node = s.rst.node) (outbox : t.outbox = s.outbox) :
    Answered s (fiethSend ch b t) ch b := by
  obtain ⟨heard, -⟩ := hears
  simp only [fiethHears, Bool.and_eq_true] at heard
  obtain ⟨⟨-, boot⟩, talks⟩ := heard
  have sends : fiethSend ch b t = emit (.can ch (0x480 + t.rst.node) (canPad b)) t :=
    if_pos (by rw [Bool.and_eq_true]; exact ⟨talks, boot⟩)
  rw [Answered, sends, ← outbox, ← node]
  rfl
theorem hears_setXfer {ch : Nat} {x : Option Transfer} {s : State} (h : Hears s ch) : Hears (setXfer ch x s) ch := by
  obtain ⟨heard, len⟩ := h
  refine ⟨?_, by simpa [setXfer, setCan] using len⟩
  unfold fiethHears at heard ⊢
  rw [canOf_setXfer len]
  exact heard
theorem answered_sendAbort {ch tag idx sub code : Nat} {s t : State} (hears : Hears t ch) (node : t.rst.node = s.rst.node)
    (outbox : t.outbox = s.outbox) : Answered s (sendAbort ch tag idx sub code t) ch (abortBytes tag idx sub code) :=
  answered_fiethSend (t := bump 0x701d03 t) hears node outbox
theorem canOf_fiethSend (n ch : Nat) (b : Bytes) (s : State) : canOf (fiethSend ch b s) n = canOf s n :=
  canOf_of_fieth (fiethSend_fieth ..) n

section
variable {ch : Fin 2} {x : Transfer} {s : State}
/-- A SEGMENT in sequence that is not the last is stored; after each sixteenth it is acknowledged. -/
theorem doSegment_of_inSequence {data : Bytes} (hears : fiethHears s ch.val = true) (xfer : (canOf s ch).xfer = some x) (write : x.read = false)
    (share : min 60 (x.head.len - x.data.length) ≤ data.length) (more : x.data.length + 60 < x.head.len) :
    doSegment ch x.head.tag x.next data s =
      if (x.next + 1) % 16 = 0 then sendFiethAck ch x.head.tag (x.next + 1) (setXfer ch (some
        { x with data := x.data ++ data.take 60, next := x.next + 1, acked := x.next + 1, nacked := false }) s)
      else setXfer ch (some { x with data := x.data ++ data.take 60, next := x.next + 1, nacked := false }) s := by
  have need : min 60 (x.head.len - x.data.length) = 60 := by omega
  rw [need] at share
  unfold doSegment
  dsimp only
  rw [hears, xfer, if_neg (by decide)]
  simp only [Option.filter, write, Bool.not_false, decide_true, Bool.and_self, if_true, need]
  rw [if_neg (by omega), if_neg (by rw [List.length_append, List.length_take]; omega)]
theorem doFiethAck_of_read {next : Nat} (hears : fiethHears s ch.val = true) (xfer : (canOf s ch).xfer = some x) (read : x.read = true)
    (hn : next ≤ x.next) : doFiethAck ch x.head.tag next s =
      if next ≥ segments x.data.length then keepRecord x.head .done (setXfer ch none s)
      else each ((List.range (min (segments x.data.length) (next + 16) - next)).map (next + ·)) (fun i a => fiethSend ch
        (leBytes 1 3 ++ leBytes 1 x.head.tag ++ leBytes 2 i ++ (x.data.drop (60 * i)).take 60) a)
        (setXfer ch (some { x with next := max x.next (min (segments x.data.length) (next + 16)), acked := next }) s) := by
  unfold doFiethAck
  dsimp only
  rw [hears, xfer, if_neg (by decide)]
  simp only [Option.filter, read, decide_true, Bool.and_self, if_true]
  rw [if_neg (by omega)]
end
theorem heartbeatBytes_beat (s : State) : heartbeatBytes (beat 0 s) 1 = heartbeatBytes s 1 := by
  have other (f : Can → Can) (u : State) : heartbeatBytes (setCan 0 f u) 1 = heartbeatBytes u 1 := by
    unfold heartbeatBytes
    rw [canOf_setCan_ne (by decide)]
    rfl
  unfold beat
  split
  · exact other ..
  · rfl
theorem beat_of_talks {ch : Nat} {s : State} (talks : canTalks (canOf s ch) = true) (boot : s.fieth.boot = false) :
    beat ch s = setCan ch (fun c => { c with hbSeq := (c.hbSeq + 1) % 65536 }) (emit (.can ch (0x700 + s.rst.node) (heartbeatBytes s ch)) s) := by
  simp [beat, talks, boot]

/-- Settles O28. -/
theorem fiethTransferCommands : Obligations.FiethTransferCommands := by
  unfold Obligations.FiethTransferCommands
  refine ⟨fun ch x data s hears xfer write share more mid => ?_, fun ch x data s hears xfer write share more last => ?_,
    fun ch tag seq data s hears none_ => ?_, fun ch x next s hears xfer read total hn => ?_, fun ch x next s hears xfer read total hn => ?_,
    fun ch x code s hears xfer => ?_, fun ch x s hears xfer => ?_, fun f s => ?_, fun s serves talksA talksB => ?_⟩
  · refine completes_of_eq rfl ((doSegment_of_inSequence hears.1 xfer write share more).trans (if_neg mid)) ?_
    rw [canOf_setXfer hears.2]
    exact ⟨rfl, rfl⟩
  · refine completes_of_eq rfl ((doSegment_of_inSequence hears.1 xfer write share more).trans (if_pos last)) ?_
    rw [sendFiethAck, canOf_fiethSend, canOf_setXfer hears.2]
    exact ⟨rfl, answered_fiethSend (hears_setXfer hears) rfl rfl⟩
  · have refused : doSegment ch tag seq data s = sendAbort ch tag 0 0 0x06060005 s := by
      unfold doSegment
      dsimp only
      rw [hears.1, none_, if_neg (by decide)]
      rfl
    exact completes_of_eq rfl refused (answered_sendAbort hears rfl rfl)
  · refine completes_of_eq rfl ((doFiethAck_of_read hears.1 xfer read hn).trans (if_pos total)) ⟨?_, rfl⟩
    exact congrArg (·.xfer) (canOf_setXfer (x := none) hears.2)
  · refine completes_of_eq rfl ((doFiethAck_of_read hears.1 xfer read hn).trans (if_neg (by omega))) ?_
    rw [each_keeps (g := fun u => (canOf u ch).xfer) (fun i a => by rw [canOf_fiethSend]), canOf_setXfer hears.2]
  · refine completes_of_eq rfl (if_pos (by simp [hears.1, xfer])) ?_
    rw [canOf_setXfer hears.2]
  · have silent : fiethSilent s = false := by
      have heard := hears.1
      simp only [fiethHears, Bool.and_eq_true, Bool.not_eq_true'] at heard
      exact heard.1.1
    have ended : doTransferIdleTimeout ch s = endTransfer ch x 0x06060002 s := by
      unfold doTransferIdleTimeout
      dsimp only
      rw [xfer]
      simp [silent]
    refine completes_of_eq rfl ended ⟨?_, answered_sendAbort (hears_setXfer hears) rfl rfl⟩
    rw [endTransfer, sendAbort, canOf_fiethSend]
    exact congrArg (·.xfer) (canOf_setXfer (x := none) hears.2)
  · refine completes_of_next rfl fun d hd => ?_
    change d ∈ s.fieth.dups.filter _ ↔ _
    simp only [List.mem_filter, hd, true_and, Bool.not_eq_true', Bool.and_eq_false_iff, decide_eq_false_iff_not, Classical.not_and_iff_not_or_not, Bool.not_eq_true]
  · have first := beat_of_talks talksA serves.2
    have second : beat 1 (beat 0 s) = _ := beat_of_talks (s := beat 0 s) (ch := 1)
      (by rw [first, canOf_setCan_ne (by decide)]; exact talksB) (by rw [first]; exact serves.2)
    have beats : doFiethHeartbeat s = beat 1 (beat 0 s) := if_neg (by rw [serves.1]; decide)
    refine completes_of_eq rfl (beats.trans second) ?_
    rw [heartbeatBytes_beat, first]
    simp [setCan, emit]

end Sys2Proof.Machine
end

section
namespace Sys2Proof.Machine

/-! ## Power-on reset (R484, R485, R493, R520) -/

theorem clearUnits_host (power : Bool) (s : State) : (clearUnits power s).host = {} := by simp [clearUnits]
theorem clearUnits_rc (power : Bool) (s : State) : (clearUnits power s).rc = {} := by simp [clearUnits]
/-- A power-on reset: where it takes the reset controller, and what it clears. -/
theorem powerReset_rst (phase : ResetPhase) (cause causes : Nat) (s : State) : (powerReset phase cause causes s).rst = { s.rst with
    phase := phase, cause := cause, causes := causes, short := false, powered := 0, offFault := 0, pgFaults := [], loadDone := false, optFault := false,
    coreRun := false, coreHeld := false, idle := [], offReq := 0, blockReset := [], repower := [], due := false, dumpReset := false } := by
  simp only [powerReset, clearUnits_rst]
  rfl
section
variable (phase : ResetPhase) (cause causes : Nat) (s : State)
theorem powerReset_windowOpen : (powerReset phase cause causes s).pres.windowOpen = false := by
  simp only [powerReset, clearUnits_window]
  rfl
theorem powerReset_host : (powerReset phase cause causes s).host = {} := by
  simp only [powerReset, clearUnits_host]
theorem powerReset_live : (powerReset phase cause causes s).per.live = (powerReset phase cause causes s).per.durable := by
  simp only [powerReset]
theorem powerReset_rc : (powerReset phase cause causes s).rc = {} := by
  simp only [powerReset, clearUnits_rc]
end
theorem enterRecall_mode (s : State) : (enterRecall s).md.mode = .recall := by
  unfold enterRecall
  dsimp only
  split
  · assumption
  · exact setMode_mode ..
/-- The option load begins, unless SYSRST_N holds the Steoc in reset. -/
theorem beginLoad_of_released {s : State} (sysrst : s.rst.sysrst = false) :
    (beginLoad s).rst = { s.rst with phase := .load, due := false } ∧ (beginLoad s).md.mode = .recall := by
  rw [beginLoad, sysrst, if_neg Bool.false_ne_true]
  exact ⟨enterRecall_rst .., enterRecall_mode _⟩
theorem beginLoad_of_held {s : State} (sysrst : s.rst.sysrst = true) : (beginLoad s).rst = { s.rst with phase := .asserted, due := true } := by
  rw [beginLoad, if_pos sysrst]
  rfl
/-- The end of a power-on reset latches the node and begins the load. -/
theorem doPowerOnResetEnd_of_powerOn {node : Fin 128} {s : State} (phase : s.rst.phase = .powerOn) (pwrgd : s.rst.pwrgd = true) :
    ∃ u, doPowerOnResetEnd node s = beginLoad u ∧ u.rst = { s.rst with porst := false, node := node.val } := by
  unfold doPowerOnResetEnd
  rw [phase, pwrgd, if_neg (by decide)]
  refine ⟨_, rfl, ?_⟩
  rw [updDram_rst, when_keeps (g := (·.rst)) _ (post_rst ..), when_keeps (g := (·.rst)) _ (sealOpening_rst ..),
    when_keeps (g := (·.rst)) _ (sealOpening_rst ..), resetFieth_rst]
  rfl

/-- Settles O30. -/
theorem powerOnResetCommands : Obligations.PowerOnResetCommands := by
  unfold Obligations.PowerOnResetCommands
  refine ⟨fun s off => ?_, fun s on => ?_, fun s porst on => ?_, fun node s phase pwrgd => ?_, fun s on => ?_⟩
  · exact completes_of_eq rfl (if_neg (not_not_intro off)) ⟨rfl, rfl, rfl⟩
  · refine completes_of_eq rfl (if_neg on) ?_
    rw [updRst_rst, powerReset_rst, updRst_pres, powerReset_windowOpen, updRst_host, powerReset_host, updRst_rc, powerReset_rc, updRst_per, powerReset_live]
    exact ⟨rfl, rfl, rfl, rfl, rfl, rfl, rfl, rfl⟩
  · have fell : doPorstAssert s = powerReset .powerOn 0 2 (updRst (fun r => { r with porst := true }) s) := by
      unfold doPorstAssert
      rw [porst, if_neg Bool.false_ne_true, if_neg on]
    refine completes_of_eq rfl fell ?_
    rw [powerReset_rst, powerReset_host, powerReset_rtc]
    exact ⟨rfl, rfl, rfl, rfl, rfl⟩
  · obtain ⟨u, ended, rst⟩ := doPowerOnResetEnd_of_powerOn (node := node) phase pwrgd
    refine completes_of_eq rfl ended ?_
    cases sysrst : s.rst.sysrst
    · obtain ⟨load, mode⟩ := beginLoad_of_released (s := u) (by rw [rst]; exact sysrst)
      rw [load, mode, rst]
      exact ⟨rfl, rfl, fun _ => ⟨rfl, rfl⟩, nofun⟩
    · rw [beginLoad_of_held (by rw [rst]; exact sysrst), rst]
      exact ⟨rfl, rfl, nofun, fun _ => ⟨rfl, rfl⟩⟩
  · refine completes_of_eq rfl (if_neg on) ?_
    simp only [powerReset_rst, powerReset_windowOpen, and_self]

/-! ## System reset (R484, R488–R492) -/

/-- A system reset accepted while the Steoc runs opens a window of the full form. -/
theorem acceptReset_of_running {bit : Nat} {s : State} (phase : s.rst.phase = .running) (mode : s.md.mode ≠ .drain)
    (unsealed : s.fix.phase ≠ .sealed) (dump : s.fix.dumpDead = false) (loaded : s.rst.loadDone = true) :
    acceptReset bit s = updRst (fun r => { r with
      cause := setBit r.cause bit, phase := .window, short := false, coreHeld := true, idle := idleBlocks s }) s := by
  simp [acceptReset, phase, mode, unsealed, dump, loaded]
theorem resetRequest_of_running {run : State → State} {s : State} (serves : Serves s) (window : s.pres.windowOpen = true)
    (phase : s.rst.phase = .running) (mode : s.md.mode ≠ .drain) : resetRequest run s = run (dictDone 0x5000 2 s) := by
  rw [resetRequest, dictGuard_of_serves serves _ _ (fun _ => window), if_neg (by simp [phase, mode])]
/-- An answer of the dictionary leaves the MCC as it is. -/
theorem dictDone_mccHeld (idx sub : Nat) (s : State) : (dictDone idx sub s).fieth.mccHeld = s.fieth.mccHeld := by
  unfold dictDone dictAnswer
  split
  · rfl
  · dsimp only
    rw [bumpBy_fieth, bump_fieth]
    exact congrArg (·.mccHeld) (each_keeps (g := (·.fieth)) (fun ch a => sendOutcome_fieth ch _ _ a) _ _)

/-- Settles O31. -/
theorem systemResetCommands : Obligations.SystemResetCommands := by
  unfold Obligations.SystemResetCommands
  refine ⟨fun s phase mode unsealed dump loaded => ?_, fun s phase => ?_, fun s phase sysrst => ?_, fun s phase sysrst => ?_, fun s phase due => ?_,
    fun mask s serves hm => ?_, fun s serves window phase mode core held => ?_, fun s serves window phase mode unsealed dump loaded => ?_⟩
  · exact completes_of_eq rfl (acceptReset_of_running (s := updRst (fun r => { r with sysrst := true }) s) phase mode unsealed dump loaded)
      ⟨rfl, rfl, rfl, rfl, rfl⟩
  · refine completes_of_eq rfl (if_neg (not_not_intro phase)) ?_
    have kept {b : Bool} {f : State → State} (u : State) (h : (f u).rst = u.rst) : (when_ b f u).rst = u.rst := when_keeps (g := (·.rst)) b h
    rw [clearUnits_rst, clearUnits_host, clearUnits_rc]
    simp only [assertReset, emit_rst, updRst_rst, updMode_rst, bump32_rst, kept _ (bump32_rst ..), kept _ (updRecall_rst ..), and_self]
  · obtain ⟨rst, mode⟩ := beginLoad_of_released sysrst
    refine completes_of_eq rfl (if_neg (not_not_intro phase)) ?_
    rw [rst, mode]
    exact ⟨rfl, rfl⟩
  · refine completes_of_eq rfl (if_neg (not_not_intro phase)) ?_
    rw [beginLoad_of_held sysrst]
    exact ⟨rfl, rfl⟩
  · obtain ⟨rst, mode⟩ := beginLoad_of_released (s := updPres (fun p => { p with scan := none }) (updRst (fun r => { r with sysrst := false }) s)) rfl
    refine completes_of_eq rfl (if_pos (by simp [phase, due])) ?_
    rw [rst, mode]
    exact ⟨rfl, rfl, rfl⟩
  · refine completes_of_eq rfl ((dictGuard_of_serves serves _ _ (by simp) _).trans (if_neg (by omega))) ?_
    rw [dictDone_rst]
    rfl
  · refine completes_of_eq rfl (resetRequest_of_running serves window phase mode) ?_
    have runs : (decide ((dictDone 0x5000 2 s).rst.phase ≠ .running) || (dictDone 0x5000 2 s).rst.coreRun ||
        (dictDone 0x5000 2 s).fieth.mccHeld && !(dictDone 0x5000 2 s).fieth.boot) = false := by
      rw [dictDone_rst, dictDone_mccHeld, phase, core, held]
      rfl
    rw [acceptCore, runs, if_neg Bool.false_ne_true]
    simp [phase]
  · refine completes_of_eq rfl ((resetRequest_of_running serves window phase mode).trans (acceptReset_of_running (s := dictDone 0x5000 2 s)
      (by rw [dictDone_rst, phase]) (by rw [dictDone_md]; exact mode) (by rw [dictDone_fix]; exact unsealed) (by rw [dictDone_fix, dump])
      (by rw [dictDone_rst, loaded]))) ?_
    rw [updRst_rst, idleBlocks, idleBlocks, dictDone_rst]
    exact ⟨rfl, rfl, rfl⟩

/-! ## Blocks, watchdogs and the option load (R484, R494–R497) -/

/-- A block that is done with leaves the window's list; with the last one the FTL writes the reserve seal. -/
theorem windowBlock_of_idle (block : Nat) (s : State) : (windowBlock block s).rst.idle = dropSet s.rst.idle block ∧
    (dropSet s.rst.idle block = [] → (windowBlock block s).rec_.reserveSeal = some s.per.live.writeSeq) := by
  unfold windowBlock
  dsimp only
  split
  · next some_ =>
    refine ⟨rfl, fun none_ => ?_⟩
    have empty : (!(dropSet s.rst.idle block).isEmpty) = true := some_
    rw [none_] at empty
    exact absurd empty (by decide)
  · exact ⟨rfl, fun _ => rfl⟩
/-- A port that fails, or a sibling of one, is failed afterwards where it was. -/
theorem failPort_st (q p : Nat) (s : State) : (portOf (failPort q s) p).st = if p = q then .failed else (portOf s p).st := by
  have own {u : State} {x : Port → Port} (hx : ∀ y, (x y).st = .failed) (hu : u.ports = (setPort q x s).ports) :
      (portOf u p).st = if p = q then .failed else (portOf s p).st := by
    rw [portOf_of_ports hu]
    split
    · next h => rw [h, portOf_setPort, hx]
    · next h => rw [portOf_setPort_ne _ _ _ _ h]
  have answers (k : Nat) (u : State) : (portOf (setPort k (fun x => { x with answering := true }) u) p).st = (portOf u p).st := by
    by_cases h : p = k
    · rw [h, portOf_setPort]
    · rw [portOf_setPort_ne _ _ _ _ h]
  unfold failPort
  dsimp only
  split
  · exact own (x := fun x => { x with st := .failed, answering := false, proxied := _, fecLock := false, pausing := 0, pausedBy := 0 }) (fun _ => rfl) rfl
  · rw [answers]
    exact own (x := fun x => { x with st := .failed, answering := false, proxied := _, fecLock := false, pausing := 0, pausedBy := 0 }) (fun _ => rfl) rfl
theorem each_failPort_st (l : List Nat) (p : Nat) (s : State) (h : p ∈ l ∨ (portOf s p).st = .failed) :
    (portOf (each l failPort s) p).st = .failed := by
  unfold each
  induction l generalizing s with
  | nil => exact h.resolve_left List.not_mem_nil
  | cons q l ih =>
    refine ih _ ?_
    rw [failPort_st]
    by_cases hq : p = q
    · exact .inr (if_pos hq)
    · rw [if_neg hq]
      exact h.imp_left fun h => (List.mem_cons.mp h).resolve_left hq
/-- Every port of those that fail is failed afterwards. -/
theorem failPorts_st {l : List Nat} {p : Nat} (hp : p ∈ l) (s : State) : (portOf (failPorts l s) p).st = .failed := by
  have case : p ∈ l.filter (fun q => (portOf s q).st ≠ .failed) ∨ (portOf s p).st = .failed := by
    by_cases h : (portOf s p).st = .failed
    · exact .inr h
    · exact .inl (List.mem_filter.mpr ⟨hp, by simpa using h⟩)
  unfold failPorts
  dsimp only
  split
  · next none_ =>
    rw [List.isEmpty_iff.mp none_] at case
    exact case.resolve_left List.not_mem_nil
  · rw [portOf_of_ports (bump32_ports ..), portOf_of_ports (faultHandled_ports ..), portOf_of_ports (disarmAt_ports ..)]
    exact each_failPort_st _ _ _ case
/-- A slice that fails holds no lines. -/
theorem failSlice_of_enabled {n cause : Nat} {lost : List Nat} {s : State} (enabled : (sliceOf s n).st = .enabled) :
    (sliceOf (failSlice n cause lost s) n).st = .failed ∧ (sliceOf (failSlice n cause lost s) n).lines = [] := by
  unfold failSlice
  rw [if_neg (by rw [enabled]; decide)]
  simp only [sliceOf_of_cs (disarmAt_cs ..), sliceOf_of_cs (faultHandled_cs ..), sliceOf_of_cs (post_cs ..), sliceOf_of_cs (updRst_cs ..),
    sliceOf_setSlice, and_self]
/-- A port that trains, or that is not failed, is not failed after the ports of its group have been re-powered. -/
theorem each_repowered_st (l : List Nat) (p : Nat) (s : State) (h : p ∈ l ∨ (portOf s p).st ≠ .failed) :
    (portOf (each l (fun p a => setPort p (fun x => if x.st = .failed then { x with st := .training } else x) a) s) p).st ≠ .failed := by
  unfold each
  induction l generalizing s with
  | nil => exact h.resolve_left List.not_mem_nil
  | cons q l ih =>
    refine ih _ ?_
    by_cases hq : p = q
    · rw [hq, portOf_setPort]
      right
      split
      · simp
      · assumption
    · rw [portOf_setPort_ne _ _ _ _ hq]
      exact h.imp_left fun h => (List.mem_cons.mp h).resolve_left hq
/-- Blocks that are released keep all of the reset controller but the domains with power. -/
theorem releaseBlocks_rst (s : State) : ∃ p, (releaseBlocks s).rst = { s.rst with powered := p } := by
  unfold releaseBlocks
  dsimp only
  refine ⟨((presentDomains s.rst.options).filter (fun k => !bitOf s.rst.offFault k)).foldl setBit 0, ?_⟩
  rw [each_keeps (g := (·.rst)) (fun n a => doConfigApplyAtIdle_rst n a), each_keeps (g := (·.rst)) (fun n a => setHalf_rst n _ a),
    each_keeps (g := (·.rst)) (fun n a => setNchan_rst n _ a), each_keeps (g := (·.rst)) (fun n a => setChan_rst n _ a), updRst_rst]
/-- What follows the release of the blocks: the record of the causes, the slots that do not unwrap, the fuse of the opening, the reserves. -/
def loadEnd (lost : List Nat) (causes : Nat) (s : State) : State :=
  let s1 := each (lost.filter (· < 64)) loseSlot
    (post 0x0104 0 0 (leBytes 4 causes) (emit (.pin "FAULT_N" true) (updMode (fun x => { x with fault := false }) s)))
  reserveCauses (holdupCheck (if s1.pres.broken && !s1.pres.fuse then burnSeal s1 else s1))
theorem loadEnd_rst (lost : List Nat) (causes : Nat) (s : State) : (loadEnd lost causes s).rst = s.rst := by
  have burnt (b : Bool) (u : State) : (if b then burnSeal u else u).rst = u.rst := by
    cases b
    · rfl
    · exact burnSeal_rst ..
  have slots (l : List Nat) (u : State) : (each l loseSlot u).rst = u.rst := each_keeps (g := (·.rst)) (fun n a => loseSlot_rst n a) l u
  simp only [loadEnd, reserveCauses_rst, holdupCheck_rst, burnt, slots, post_rst, emit_rst, updMode_rst]
/-- What the option load sets in the reset controller, where the table is valid. -/
theorem doOptionLoadDone_rst {o : OptionFields} {lost : List Nat} {s : State} (phase : s.rst.phase = .load) (ok : optionsOk o = true) :
    ∃ p, (doOptionLoadDone o true lost s).rst =
      { s.rst with phase := .running, loadDone := true, options := loadedOptions o, powered := p } := by
  obtain ⟨p, hp⟩ := releaseBlocks_rst (dset 0x340401 o.holdUp (updRst (fun r => { r with phase := .running, loadDone := true, options := loadedOptions o }) s))
  have ended : doOptionLoadDone o true lost s = loadEnd lost s.rst.causes (releaseBlocks (dset 0x340401 o.holdUp
      (updRst (fun r => { r with phase := .running, loadDone := true, options := loadedOptions o }) s))) := by
    unfold doOptionLoadDone
    rw [if_neg (not_not_intro phase), if_neg (by simp [ok])]
    rfl
  exact ⟨p, by rw [ended, loadEnd_rst, hp, dset_rst, updRst_rst]⟩

/-- Settles O33. -/
theorem blockResetCommands : Obligations.BlockResetCommands := by
  unfold Obligations.BlockResetCommands
  refine ⟨fun block s phase idle hb => ?_, fun block s phase reset => ?_, fun block s phase reset => ?_, fun block s on hb => ?_,
    fun block s on hb enabled => ?_, fun group s repower => ?_, fun o lost s phase => ?_, fun o lost s phase ok => ?_⟩
  · have reported : doBlockIdleReport block s = windowBlock block s := by
      unfold doBlockIdleReport
      rw [phase, idle, if_pos (by decide), if_neg (by simp; omega), if_neg (by simp; omega), if_neg (by omega)]
    exact completes_of_eq rfl reported (windowBlock_of_idle ..)
  · have reported : doBlockIdleReport block s = blockOff block s := by
      unfold doBlockIdleReport
      rw [if_neg (by simp [phase]), if_pos reset]
    exact completes_of_eq rfl reported ⟨rfl, rfl, rfl⟩
  · have timeout : doBlockIdleTimeout block s = blockOff block (if block < 16 then dropFrames block s else s) := by
      unfold doBlockIdleTimeout
      dsimp only
      rw [if_neg (by simp [phase]), if_pos reset]
    have kept : (if block < 16 then dropFrames block s else s).rst = s.rst := by
      split <;> rfl
    refine completes_of_eq rfl timeout ?_
    rw [blockOff, updRst_rst, kept]
    exact ⟨rfl, rfl, rfl⟩
  · have expired : doBlockWatchdogExpiry block s = failGroup block s := by
      unfold doBlockWatchdogExpiry
      rw [on, if_neg (by decide), if_pos hb]
    refine completes_of_eq rfl expired ⟨?_, fun p hp => ?_⟩
    · rw [failGroup, disarmAt_rst, updRst_rst, failPorts_rst]
    · rw [failGroup, portOf_of_ports (disarmAt_ports ..), portOf_of_ports (updRst_ports ..)]
      exact failPorts_st hp s
  · have expired : doBlockWatchdogExpiry block s = failSlice (block - 88) 4 [] s := by
      unfold doBlockWatchdogExpiry
      rw [on, if_neg (by decide), if_neg (by omega), if_neg (by omega), if_pos (by simp; omega)]
    exact completes_of_eq rfl expired (failSlice_of_enabled enabled)
  · refine completes_of_eq rfl (if_neg (by rw [repower]; decide)) ?_
    rw [each_keeps (g := (·.rst)) (fun p a => setPort_rst p _ a)]
    exact ⟨rfl, rfl, rfl, fun p hp => each_repowered_st _ _ _ (.inl hp)⟩
  · refine completes_of_eq rfl ((if_neg (not_not_intro phase)).trans (if_pos (by simp))) ⟨rfl, rfl, rfl, rfl⟩
  · obtain ⟨p, loaded⟩ := doOptionLoadDone_rst (lost := lost) phase ok
    refine completes_of_next rfl ?_
    rw [loaded]
    exact ⟨rfl, rfl, rfl, rfl⟩

end Sys2Proof.Machine
end

section
namespace Sys2Proof.Machine

/-! ## What write-backs leave of a slice (R177, R186) -/

/-- A slice but for its write-back buffer. -/
def withoutBuffer (sl : Slice) : Slice := { sl with wbs := [] }
theorem withoutBuffer_setSlice {n k : Nat} {f : Slice → Slice} {s : State} (h : ∀ sl, withoutBuffer (f sl) = withoutBuffer sl) :
    withoutBuffer (sliceOf (setSlice n f s) k) = withoutBuffer (sliceOf s k) := by
  by_cases hk : k = n
  · rw [hk, sliceOf_setSlice, h]
  · rw [sliceOf_setSlice_ne _ _ _ _ hk]
theorem withoutBuffer_writeBack (k line : Nat) (kill : Bool) (data : Mem) (s : State) :
    withoutBuffer (sliceOf (writeBack line kill data s) k) = withoutBuffer (sliceOf s k) := by
  unfold writeBack
  dsimp only
  split
  · split
    · rw [sliceOf_of_cs (mergeLine_cs ..)]
    · exact withoutBuffer_setSlice (fun _ => by rfl)
  · exact withoutBuffer_setSlice (fun _ => by rfl)
theorem withoutBuffer_writeBacks {α : Type} (k : Nat) {f : α → State → State} (l : List α)
    (h : ∀ a u, (∃ line kill data, f a u = writeBack line kill data u) ∨ f a u = u ∨ (f a u).cs = u.cs) (s : State) :
    withoutBuffer (sliceOf (each l f s) k) = withoutBuffer (sliceOf s k) := by
  refine each_keeps (g := fun u => withoutBuffer (sliceOf u k)) (fun a u => ?_) l s
  rcases h a u with ⟨line, kill, data, hf⟩ | hf | hf
  · rw [hf, withoutBuffer_writeBack]
  · rw [hf]
  · rw [sliceOf_of_cs hf]
theorem lines_of_withoutBuffer {a b : Slice} (h : withoutBuffer a = withoutBuffer b) : a.lines = b.lines := by
  have lines := congrArg Slice.lines h
  exact lines
/-- The dirty lines of a way are written back or recovered; its lines leave the slice, and nothing else of it changes. -/
theorem withoutBuffer_dropWay (n w : Nat) (lost : List Nat) (s : State) : withoutBuffer (sliceOf (dropWay n w lost s) n) =
    { withoutBuffer (sliceOf s n) with lines := (sliceOf s n).lines.filter (fun p => p.1 % 16 ≠ w) } := by
  unfold dropWay
  dsimp only
  generalize hu : each _ _ s = u
  have kept : withoutBuffer (sliceOf u n) = withoutBuffer (sliceOf s n) := by
    rw [← hu]
    refine withoutBuffer_writeBacks n _ (fun p a => ?_) s
    by_cases dirty : p.2.dirty = true
    · by_cases gone : lost.contains (lineOfSet n (p.1 / 16) p.2.tag) = true
      · exact .inr (.inr (by rw [if_pos dirty, if_pos gone, recoverLine_cs]))
      · exact .inl ⟨_, _, _, by rw [if_pos dirty, if_neg gone]⟩
    · exact .inr (.inl (if_neg dirty))
  rw [sliceOf_setSlice]
  have lines := lines_of_withoutBuffer kept
  rw [← kept, ← lines]
  rfl

/-! ## Operations (Table 3.7) -/

theorem find_modFirst {α : Type} {p : α → Bool} {f : α → α} (h : ∀ a, p a = true → p (f a) = true) (l : List α) :
    (modFirst p f l).find? p = (l.find? p).map f := by
  induction l with
  | nil => rfl
  | cons a l ih =>
    by_cases ha : p a = true
    · simp [modFirst, ha, h a ha]
    · simp [modFirst, ha, ih]
theorem findOp_modOp {id : Nat} {f : Op → Op} (h : ∀ o, (f o).id = o.id) (s : State) : findOp (modOp id f s) id = (findOp s id).map f :=
  find_modFirst (fun o ho => by simpa [h] using ho) _
theorem findOp_of_host {s t : State} (h : t.host = s.host) (id : Nat) : findOp t id = findOp s id := by
  unfold findOp
  rw [h]
theorem findOp_lineDone {id : Nat} {s : State} : findOp (lineDone id s) id = (findOp s id).map (fun o => { o with waiting := o.waiting - 1 }) :=
  findOp_modOp (fun _ => by rfl) s

theorem when_false (f : State → State) (s : State) : when_ false f s = s := rfl

/-! ## Line requests (R23, R175, R177) -/

section
variable {slice : Fin 14} {o : Op} {c : ReqClass} {line lo len dst : Nat} {p : Nat × CLine} {rest : List LineReq} {s : State}
/-- A read whose line is cached, of an operation in order, is a hit. -/
theorem doHomeSliceRequest_of_hit (queue : (sliceOf s slice).queue = ⟨o.id, c, line, .read lo len dst⟩ :: rest) (unarmed : s.pres.armed = [])
    (op : findOp s o.id = some o) (nak : o.nak = none) (free : rcBlocked s o = false) (sound : (dirOf s (lineTpn line)).poison = false)
    (on : (sliceOf s slice).st = .enabled) (here : cached (sliceOf s slice) line = some p) :
    doHomeSliceRequest slice s = popQueue slice (hitServe slice p ⟨o.id, c, line, .read lo len dst⟩ s) := by
  have fires (vs : List Nat) : fire 0x0102 slice.val vs s = none := by simp [fire, unarmed]
  have change : isChange (LineAct.read lo len dst) = false := rfl
  have hits : sliceHits (sliceOf s slice) = true := by simp [sliceHits, on]
  unfold doHomeSliceRequest
  simp only [queue, hits, here, if_true, fireRecorded_of_unarmed unarmed, fires]
  simp only [sliceStep, queue, op, change, Bool.false_and, Bool.false_eq_true, if_false, free, Option.getD_some, nak, Option.isSome_none,
    sound, Bool.and_false, serveReq, on, here, decide_true, Bool.true_or, if_true]
/-- A hit of a read gives the bytes to its operation and leaves the queue. -/
theorem hitServe_of_read (op : findOp s o.id = some o) :
    (sliceOf (hitServe slice p ⟨o.id, c, line, .read lo len dst⟩ s) slice).queue = (sliceOf s slice).queue ∧
      findOp (hitServe slice p ⟨o.id, c, line, .read lo len dst⟩ s) o.id =
        some { o with reads := mpaste o.reads dst len (mslice p.2.data lo len), waiting := o.waiting - 1 } := by
  have counted (b : Bool) (k : Nat) (u : State) : (when_ b (bump k) u).cs = u.cs ∧ (when_ b (bump k) u).host = u.host :=
    ⟨when_keeps (g := (·.cs)) b (bump_cs ..), when_keeps (g := (·.host)) b (bump_host ..)⟩
  have touched (key : Nat) (f : CLine → CLine) (u : State) : (sliceOf (touch slice key f u) slice).queue = (sliceOf u slice).queue := by
    rw [touch, sliceOf_setSlice]
  have dirt : dirties s ⟨o.id, c, line, .read lo len dst⟩ = false := rfl
  have change : isChange (LineAct.read lo len dst) = false := rfl
  unfold hitServe
  simp only [serveLine, dirt, change, Bool.false_and, Bool.false_eq_true, if_false, Bool.not_false]
  rw [sliceOf_of_cs (counted ..).1, sliceOf_of_cs (counted ..).1, findOp_of_host (counted ..).2, findOp_of_host (counted ..).2]
  refine ⟨?_, ?_⟩
  · rw [when_false, touched]
    rfl
  · refine (findOp_of_host (s := lineDone o.id (modOp o.id (fun o => { o with reads := mpaste o.reads dst len (mslice p.2.data lo len) }) s)) rfl _).trans ?_
    rw [findOp_lineDone, findOp_modOp (fun _ => by rfl), op]
    rfl
end

/-- A line is installed in a free way of its class. -/
theorem install_of_free {line w : Nat} {c : ReqClass} {dirty pinned pre : Bool} {data : Mem} {s : State}
    (victim : victimWay (sliceOf s (homeSlice line)) (lineSet line) c = some w)
    (empty : tfind (sliceOf s (homeSlice line)).lines (lineSet line * 16 + w) = none) : install line c dirty pinned pre data s =
      some (setSlice (homeSlice line) (fun x => { x with
        stamp := x.stamp + 1, lines := tput x.lines (lineSet line * 16 + w) ⟨lineTag line, dirty, pinned, c, x.stamp + 1, pre, data⟩ }) s) := by
  simp only [install, victim, evict, empty, Bool.false_and, Bool.false_eq_true, if_false]
/-- A prefetched line that returns is installed in the free way its class takes. -/
theorem doFillReturn_of_prefetch {slice : Fin 14} {line w : Nat} {s : State} (own : homeSlice line = slice)
    (fills : (sliceOf s slice).fills = [⟨line, .prefetch, false, false, []⟩]) (free : fillBlocked s line = false)
    (on : (sliceOf s slice).st = .enabled) (victim : victimWay (sliceOf s slice) (lineSet line) .prefetch = some w)
    (empty : tfind (sliceOf s slice).lines (lineSet line * 16 + w) = none) (noMaint : s.cs.maintLine = none) :
    doFillReturn slice line s = setSlice slice (fun x => { x with
      stamp := x.stamp + 1, lines := tput x.lines (lineSet line * 16 + w) ⟨lineTag line, false, false, .prefetch, x.stamp + 1, true, readLine s line⟩ })
      (setSlice slice (fun x => { x with fills := dropFirst (fun g => g.line = line) x.fills }) s) := by
  have first : [(⟨line, .prefetch, false, false, []⟩ : Fill)].find? (fun f => decide (f.line = line)) = some ⟨line, .prefetch, false, false, []⟩ := by
    simp
  have installed := install_of_free (line := line) (c := .prefetch) (w := w) (dirty := false) (pinned := false) (pre := true)
    (data := readLine s line) (s := setSlice slice (fun x => { x with fills := dropFirst (fun g => g.line = line) x.fills }) s)
    (by rw [own, sliceOf_setSlice]; exact victim) (by rw [own, sliceOf_setSlice]; exact empty)
  rw [own] at installed
  unfold doFillReturn
  simp only [fills, first, free, on, List.foldl_nil, Bool.false_eq_true, if_false, ne_eq, not_true, decide_false, Bool.or_self,
    List.isEmpty_nil, Bool.and_true, decide_true, installed, noMaint, reduceCtorEq, Bool.false_and]
theorem bitOf_setBit_self (v i : Nat) : bitOf (setBit v i) i = true := by
  unfold setBit
  split
  · assumption
  · next h =>
    have odd : (v + 2 ^ i) / 2 ^ i = v / 2 ^ i + 1 := Nat.add_div_right v (Nat.two_pow_pos i)
    simp only [bitOf, decide_eq_true_eq] at h ⊢
    omega
theorem sliceOf_post (type sev inst : Nat) (d : Bytes) (s : State) (n : Nat) : sliceOf (post type sev inst d s) n = sliceOf s n :=
  sliceOf_of_cs (post_cs ..) n
/-- An uncorrectable error takes its way out, where four ways at most are out then. -/
theorem wayOff_of_clear {n w cause : Nat} {lost : List Nat} {s : State} (clear : bitOf (sliceOf s n).wayOff w = false)
    (few : countBits 16 (setBit (sliceOf s n).wayOff w) < 5) : (sliceOf (wayOff n w cause lost s) n).wayOff = setBit (sliceOf s n).wayOff w ∧
      (sliceOf (wayOff n w cause lost s) n).lines = (sliceOf s n).lines.filter (fun p => p.1 % 16 ≠ w) := by
  have dropped := withoutBuffer_dropWay n w lost s
  have off := congrArg Slice.wayOff dropped
  have lines := congrArg Slice.lines dropped
  dsimp only [withoutBuffer] at off lines
  unfold wayOff
  rw [if_neg (by rw [clear]; decide)]
  simp only [sliceOf_of_cs (bump16_cs ..), sliceOf_post, sliceOf_setSlice, off]
  rw [if_neg (by omega)]
  simp only [sliceOf_of_cs (bump16_cs ..), sliceOf_post, sliceOf_setSlice, off, lines, and_self]
/-- A slice that fails holds no lines, and its domain is off after a fault. -/
theorem failSlice_of_working {n cause : Nat} {lost : List Nat} {s : State} (working : (sliceOf s n).st ≠ .failed) :
    (sliceOf (failSlice n cause lost s) n).st = .failed ∧ (sliceOf (failSlice n cause lost s) n).lines = [] ∧
      bitOf (failSlice n cause lost s).rst.offFault (88 + n) = true := by
  unfold failSlice
  rw [if_neg working]
  simp only [sliceOf_of_cs (disarmAt_cs ..), sliceOf_of_cs (faultHandled_cs ..), sliceOf_post, sliceOf_of_cs (updRst_cs ..), sliceOf_setSlice,
    disarmAt_rst, faultHandled_rst, post_rst, updRst_rst, bitOf_setBit_self, and_self]
theorem sliceOf_maintStatus (v : Nat) (s : State) (n : Nat) : sliceOf (maintStatus v s) n = sliceOf s n := rfl
/-- The walk of a slice leaves no dirty line that is not pinned. -/
theorem sweepSlice_lines (n : Nat) (drop : Bool) (s : State) :
    ∀ p ∈ (sliceOf (sweepSlice n drop s) n).lines, p.2.dirty = false ∨ p.2.pinned = true := by
  intro p hp
  unfold sweepSlice at hp
  dsimp only at hp
  rw [sliceOf_setSlice] at hp
  cases drop
  · obtain ⟨q, -, rfl⟩ := List.mem_map.mp hp
    exact .inl rfl
  · exact .inr (List.mem_filter.mp hp).2

/-- Settles O37. -/
theorem sliceRequestCommands : Obligations.SliceRequestCommands := by
  unfold Obligations.SliceRequestCommands
  refine ⟨fun slice o c line lo len dst p rest s queue unarmed op nak free sound on here => ?_,
    fun slice line w s own fills free on victim empty noMaint => ?_, fun slice w s wbs home => ?_, fun slice way lost s clear few => ?_,
    fun slice way lost s few => ?_, fun slice cause lost s working => completes_of_next rfl (failSlice_of_working working),
    fun slice w s walk => ?_⟩
  · refine completes_of_eq rfl (doHomeSliceRequest_of_hit queue unarmed op nak free sound on here) ?_
    obtain ⟨kept, done⟩ := hitServe_of_read (slice := slice) (c := c) (line := line) (lo := lo) (len := len) (dst := dst) (p := p) op
    refine ⟨?_, done⟩
    rw [popQueue, sliceOf_setSlice]
    exact congrArg (List.drop 1) (kept.trans queue)
  · refine completes_of_eq rfl (doFillReturn_of_prefetch own fills free on victim empty noMaint) ?_
    rw [sliceOf_setSlice, sliceOf_setSlice]
    refine ⟨?_, ⟨_, tfind_tput_self .., rfl, rfl, rfl⟩⟩
    simp [fills, dropFirst]
  · refine completes_of_eq rfl (doDramWriteDone_of_not_inNand wbs home) ⟨?_, fun kill maint => ?_⟩
    · have ended (b : Bool) (u : State) : sliceOf (when_ b (fun a => updCs (fun c => { c with maintLine := none }) (dset 0x310202 0 a)) u) slice =
          sliceOf u slice := when_keeps (g := (sliceOf · slice.val)) b (by rfl)
      rw [ended, sliceOf_of_cs (homeWrite_cs ..), sliceOf_setSlice]
      simp [wbs, dropFirst]
    · rw [kill, decide_eq_true maint, Bool.and_self, when_true]
      exact ⟨dget_dset_self .., rfl⟩
  · obtain ⟨off, lines⟩ := wayOff_of_clear (cause := 2) (lost := lost) clear few
    have out : doSliceSramError slice way true lost s = wayOff slice way 2 lost s := by
      unfold doSliceSramError
      rw [if_pos rfl]
    refine completes_of_eq rfl out ⟨off, fun p hp => ?_⟩
    rw [lines] at hp
    simpa using (List.mem_filter.mp hp).2
  · have noted : doSliceSramError slice way false lost s =
        bump 0x701407 (setSlice slice (fun x => { x with errs := recentErrs s slice ++ [(way.val, s.rtc)] }) s) := by
      unfold doSliceSramError
      rw [if_neg Bool.false_ne_true]
      dsimp only
      rw [if_neg (by rw [List.filter_append, List.length_append]; simp; omega)]
    refine completes_of_eq rfl noted ⟨?_, ?_, dget_bump_self ..⟩
    · rw [sliceOf_of_cs (bump_cs ..), sliceOf_setSlice]
    · rw [sliceOf_of_cs (bump_cs ..), sliceOf_setSlice]
  · have ended : doSliceWalkDone slice s = maintStatus 0 (setSlice slice (fun x => { x with walk := none, st := if w = .disable then .stale else x.st })
        (sweepSlice slice (w = .flush) s)) := by
      simp only [doSliceWalkDone, walk]
    refine completes_of_eq rfl ended ?_
    rw [sliceOf_maintStatus, sliceOf_setSlice]
    exact ⟨rfl, dget_dset_self .., fun disable => if_pos disable, sweepSlice_lines _ _ _⟩

/-! ## Maintenance (R181–R184) -/

/-- A maintenance command that is taken runs; its block is kept. -/
def maintained (block : Nat) (s : State) : State := keepBlock 0x310201 block (dictDone 0x3102 1 s)
theorem sliceOf_maintained (block : Nat) (s : State) (n : Nat) : sliceOf (maintained block s) n = sliceOf s n :=
  sliceOf_of_cs ((keepBlock_cs ..).trans (dictDone_cs ..)) n
theorem dget_maintained (block : Nat) (s : State) : dget (maintained block s) 0x310202 = dget s 0x310202 := by
  rw [maintained, keepBlock, dget_dset_ne _ _ _ _ (by decide), dget_dictDone_ne (by decide)]
theorem dget_maintStatus (v : Nat) (s : State) : dget (maintStatus v s) 0x310202 = v := dget_dset_self ..
theorem maintenance_of_taken {code slice line : Nat} {run : State → State} {s : State} (h : TakesMaintenance s) :
    ∃ block, maintenance code slice line run s = maintained block (run s) := by
  obtain ⟨serves, window, idle⟩ := h
  refine ⟨blockValue [code * 2 ^ 24 + slice, 0, line / 2 ^ 32 % 2 ^ 9, line], ?_⟩
  rw [maintenance, dictGuard_of_serves serves _ _ (fun _ => window), if_neg idle]
  rfl
/-- A command that ends with a status, at a state whose slice is known, completes so. -/
theorem completes_of_maintenance {c : Instr} {code slice line : Nat} {run : State → State} {s u : State} {n v : Nat}
    {post : Nat → Slice → Prop} (hc : exec c s = .next (maintenance code slice line run s)) (h : TakesMaintenance s)
    (hr : run s = maintStatus v u) (hp : post v (sliceOf u n)) : Completes c s (fun t => post (dget t 0x310202) (sliceOf t n)) := by
  obtain ⟨block, taken⟩ := maintenance_of_taken (code := code) (slice := slice) (line := line) (run := run) h
  refine completes_of_eq hc taken ?_
  rw [dget_maintained, sliceOf_maintained, hr, dget_maintStatus, sliceOf_maintStatus]
  exact hp

section
variable {code line : Nat} {p : Nat × CLine} {s : State}
/-- A line cached in an enabled slice, with no fill in flight: what its maintenance by address does. -/
theorem byAddress_of_cached (hc : code = 1 ∨ code = 2) (region : regionOfTpn s (lineTpn line) ≠ none) (on : (sliceOf s (homeSlice line)).st = .enabled)
    (fills : (sliceOf s (homeSlice line)).fills = []) (here : cached (sliceOf s (homeSlice line)) line = some p) :
    ∃ u, withoutBuffer (sliceOf u (homeSlice line)) = withoutBuffer (sliceOf s (homeSlice line)) ∧ byAddress code line s =
      maintStatus 0 (if code = 1 then setSlice (homeSlice line) (fun x => { x with lines := tput x.lines p.1 { p.2 with dirty := false } }) u
        else setSlice (homeSlice line) (fun x => { x with lines := tdel x.lines p.1 }) u) := by
  have home : (regionOfTpn s (lineTpn line)).isNone = false := Option.isNone_eq_false_iff.mpr (Option.isSome_iff_ne_none.mpr region)
  have permitted : permits .enabled code = true := by rcases hc with rfl | rfl <;> rfl
  have other : code ≠ 3 := by omega
  refine ⟨if p.2.dirty then writeBack line false p.2.data s else s, ?_, ?_⟩
  · split
    · exact withoutBuffer_writeBack ..
    · rfl
  · simp only [byAddress, home, on, permitted, fills, here, Bool.false_eq_true, if_false, Bool.not_true, reduceCtorEq, List.any_nil, other]
theorem byAddress_of_invalidate (region : regionOfTpn s (lineTpn line) ≠ none) (on : (sliceOf s (homeSlice line)).st = .enabled)
    (fills : (sliceOf s (homeSlice line)).fills = []) (here : cached (sliceOf s (homeSlice line)) line = some p) :
    byAddress 3 line s = if p.2.dirty then maintStatus 1 s
      else maintStatus 0 (setSlice (homeSlice line) (fun x => { x with lines := tdel x.lines p.1 }) s) := by
  have home : (regionOfTpn s (lineTpn line)).isNone = false := Option.isNone_eq_false_iff.mpr (Option.isSome_iff_ne_none.mpr region)
  have permitted : permits .enabled 3 = true := rfl
  simp only [byAddress, home, on, permitted, fills, here, Bool.false_eq_true, if_false, Bool.not_true, reduceCtorEq, List.any_nil, if_true]
end
/-- The walk of an enabled data slice starts. -/
theorem bySlice_of_enabled {code slice : Nat} {w : Walk} {s : State} (on : (sliceOf s slice).st = .enabled)
    (hc : code ≠ 0x13 ∧ code ≠ 0x14) (hs : slice < 14) : bySlice code w slice s =
      maintStatus 255 (setSlice slice (fun x => { x with walk := some w, st := if w = .disable then .disabling else x.st }) s) := by
  have permitted : permits .enabled code = true := by simp [permits, hc]
  simp only [bySlice, on, permitted, Bool.not_true, Bool.false_eq_true, if_false]
  rw [if_neg (by omega)]

/-- Settles O38. -/
theorem cacheMaintenanceCommands : Obligations.CacheMaintenanceCommands := by
  unfold Obligations.CacheMaintenanceCommands
  refine ⟨fun line p s takes region on fills here => ?_, fun line p s takes region on fills here => ?_, fun line p s takes region on fills here => ?_,
    fun slice s takes hs on => ?_, fun slice s takes hs on => ?_, fun slice s takes hs on => ?_, fun slice s takes stale => ?_,
    fun slice s takes invalid => ?_⟩
  · obtain ⟨u, kept, run⟩ := byAddress_of_cached (.inl rfl) region on fills here
    refine completes_of_maintenance (n := homeSlice line) (post := fun v sl => v = 0 ∧ sl.lines = _) rfl takes run ⟨rfl, ?_⟩
    rw [if_pos rfl, sliceOf_setSlice, lines_of_withoutBuffer kept]
  · obtain ⟨u, kept, run⟩ := byAddress_of_cached (.inr rfl) region on fills here
    refine completes_of_maintenance (n := homeSlice line) (post := fun v sl => v = 0 ∧ sl.lines = _) rfl takes run ⟨rfl, ?_⟩
    rw [if_neg (by decide), sliceOf_setSlice, lines_of_withoutBuffer kept]
  · have run := byAddress_of_invalidate region on fills here
    cases dirty : p.2.dirty
    · rw [dirty, if_neg Bool.false_ne_true] at run
      refine completes_of_maintenance (n := homeSlice line) (post := fun v sl => v = b2n false ∧ sl.lines = _) rfl takes run ⟨rfl, ?_⟩
      rw [if_neg Bool.false_ne_true, sliceOf_setSlice]
    · rw [dirty, if_pos rfl] at run
      exact completes_of_maintenance (n := homeSlice line) (post := fun v sl => v = b2n true ∧ sl.lines = _) rfl takes run ⟨rfl, (if_pos rfl).symm⟩
  · refine completes_of_maintenance (n := slice.val) (post := fun v sl => v = 255 ∧ sl.walk = some .clean ∧ sl.st = .enabled) rfl takes
      (bySlice_of_enabled on (by decide) hs) ?_
    rw [sliceOf_setSlice]
    exact ⟨rfl, rfl, on⟩
  · refine completes_of_maintenance (n := slice.val) (post := fun v sl => v = 255 ∧ sl.walk = some .flush ∧ sl.st = .enabled) rfl takes
      (bySlice_of_enabled on (by decide) hs) ?_
    rw [sliceOf_setSlice]
    exact ⟨rfl, rfl, on⟩
  · refine completes_of_maintenance (n := slice.val) (post := fun v sl => v = 255 ∧ sl.walk = some .disable ∧ sl.st = .disabling) rfl takes
      (bySlice_of_enabled on (by decide) hs) ?_
    rw [sliceOf_setSlice]
    exact ⟨rfl, rfl, rfl⟩
  · refine completes_of_maintenance (n := slice.val) (post := fun v sl => v = 0 ∧ sl.st = .invalidated ∧ sl.lines = []) rfl takes
      (if_neg (by rw [stale]; decide)) ?_
    rw [sliceOf_setSlice]
    exact ⟨rfl, rfl, rfl⟩
  · by_cases map : slice.val ≥ 14
    · refine completes_of_maintenance (n := slice.val) (post := fun v sl => v = 0 ∧ sl.st = .enabled) rfl takes
        ((if_pos map).trans (if_pos (by simp [invalid]))) ?_
      rw [sliceOf_setSlice]
      exact ⟨rfl, rfl⟩
    · refine completes_of_maintenance (n := slice.val) (post := fun v sl => v = 0 ∧ sl.st = .enabled) rfl takes
        ((if_neg map).trans (if_pos invalid)) ?_
      rw [sliceOf_setSlice]
      exact ⟨rfl, rfl⟩

end Sys2Proof.Machine
end

section
namespace Sys2Proof.Machine

/-! ## Page moves (R161, R163, R167) -/

/-- With nothing waiting to move and no PLACE running, no move starts. -/
theorem startMoves_of_idle {s : State} (h : TierIdle s) : startMoves s = s := by
  obtain ⟨waiting, places⟩ := h
  unfold startMoves
  rw [pumpMoves]
  split
  · rfl
  · simp only [waiting, places, nextPlacePage]
theorem closePlaces_of_none {s : State} (h : s.tier.places = []) : closePlaces s = s := by
  unfold closePlaces
  rw [h]
  rfl
theorem dirOf_of_dir {s t : State} (h : t.per.live.dir = s.per.live.dir) (tpn : Nat) : dirOf t tpn = dirOf s tpn := by
  unfold dirOf live
  rw [h]

/-- What a switch leaves behind: the new home, no move of the page, and no more work for the tier engine than before. -/
theorem switchHome_of_dram {tpn f : Nat} {d : DirEntry} {c : MoveCause} {promote : Bool} {s : State} :
    let t := switchHome tpn d ⟨tpn, c, .dram f⟩ promote false s
    (dirOf t tpn).home = .dram f ∧ (dirOf t tpn).moving = false ∧ t.tier.moves = s.tier.moves.filter (fun y => y.tpn ≠ tpn) ∧
      t.tier.waiting = s.tier.waiting ∧ t.tier.places = s.tier.places := by
  intro t
  have cleaned (u : State) : (if promote then markDirty tpn u else if false then setImage tpn {} (cleanPage tpn u) else u).per = u.per ∧
      (if promote then markDirty tpn u else if false then setImage tpn {} (cleanPage tpn u) else u).tier = u.tier := by
    cases promote
    · exact ⟨rfl, rfl⟩
    · exact ⟨markDirty_per .., markDirty_tier ..⟩
  have dir (u : State) (g : DirEntry → DirEntry) : dirOf (freeHome d.home (logRecs 1 (setDir tpn g u))) tpn = g (dirOf u tpn) := by
    rw [dirOf_of_dir (freeHome_dir ..), dirOf_of_dir (logRecs_dir ..), dirOf_setDir]
  have per : t.per = (freeHome d.home (logRecs 1 (setDir tpn (fun e => { e with home := .dram f, moving := false, displaced := _ }) s))).per :=
    (unpinPage_per ..).trans (cleaned _).1
  have tier : t.tier = { s.tier with moves := s.tier.moves.filter (fun y => y.tpn ≠ tpn), rehoming := dropSet s.tier.rehoming tpn } := by
    have old (g : DirEntry → DirEntry) : (freeHome d.home (logRecs 1 (setDir tpn g s))).tier = s.tier := freeHome_tier ..
    refine (unpinPage_tier ..).trans ?_
    rw [updTier_tier, (cleaned _).2, old]
  rw [dirOf_of_dir (congrArg (·.live.dir) per), dir, tier]
  exact ⟨rfl, rfl, rfl, rfl, rfl⟩
/-- A move counted where no PLACE runs leaves the work of the tier engine as it is. -/
theorem countMove_tier {tpn tenant : Nat} {c : MoveCause} {promote : Bool} {s : State} (places : s.tier.places = []) :
    (countMove tpn c tenant promote s).tier.moves = s.tier.moves ∧ (countMove tpn c tenant promote s).tier.waiting = s.tier.waiting ∧
      (countMove tpn c tenant promote s).tier.places = [] := by
  have placed (t : Token) (g : PlaceRun → PlaceRun) : (modPlace t g s).tier.places = [] := by
    simp [modPlace, places, modFirst]
  unfold countMove
  split
  · simp only [countPlaced, places, List.find?_nil, Option.any_none, Bool.false_eq_true, if_false, bump_tier, placed, and_true]
    exact ⟨rfl, rfl⟩
  · split <;> exact ⟨rfl, rfl, places⟩
  · exact ⟨rfl, rfl, places⟩

/-- Settles O39. -/
theorem tierCommands : Obligations.TierCommands := by
  unfold Obligations.TierCommands
  refine ⟨fun tpn f c s moves idle mode restored room held => ?_, fun s serves idle none_ => ?_⟩
  · have found : s.tier.moves.find? (fun m => decide (m.tpn = tpn)) = some ⟨tpn, c, .dram f⟩ := by
      rw [moves]
      simp
    have entry : passHeld tpn s = s := by simp [passHeld, held]
    have dest : ∃ u, writeDest (.dram f) ((dirOf s tpn).zero || (dirOf s tpn).poison) (readPage s tpn) s = some u ∧ u.tier = s.tier := by
      refine ⟨_, rfl, ?_⟩
      split <;> rfl
    obtain ⟨u, written, tier⟩ := dest
    obtain ⟨home, moving, left, waiting, places⟩ := switchHome_of_dram (tpn := tpn) (f := f) (d := dirOf s tpn) (c := c)
      (promote := inNand (dirOf s tpn)) (s := u)
    have served : (decide (s.md.mode = .drain) || s.rec_.unrestored.contains tpn) = false := by simp [mode, restored]
    have under : decide (countedDirty s ≥ dirtyLimit s) = false := by simp [room]
    have moved : doMoveCopyDone tpn s = startMoves (closePlaces (countMove tpn c (dirOf s tpn).tenant (inNand (dirOf s tpn))
        (switchHome tpn (dirOf s tpn) ⟨tpn, c, .dram f⟩ (inNand (dirOf s tpn)) false u))) := by
      simp only [doMoveCopyDone, found, served, under, entry, written, Bool.and_true, Bool.and_false, Bool.false_eq_true, if_false]
    rw [tier] at left waiting places
    obtain ⟨moves', waiting', places'⟩ := countMove_tier (tpn := tpn) (tenant := (dirOf s tpn).tenant) (c := c) (promote := inNand (dirOf s tpn))
      (places.trans idle.2)
    rw [closePlaces_of_none places', startMoves_of_idle ⟨waiting'.trans (waiting.trans idle.1), places'⟩] at moved
    refine completes_of_eq rfl moved ?_
    rw [dirOf_of_dir (countMove_dir ..), moves', left, moves]
    exact ⟨home, moving, by simp⟩
  · have pass : doRehomeDisplaced s = dictDone 0x3000 8 (startMoves
        (updTier (fun x => { x with rehoming := [], waiting := x.waiting }) (dset 0x300008 0 s))) := by
      rw [doRehomeDisplaced, dictGuard_of_serves serves _ _ (by simp)]
      simp [none_]
    refine completes_of_eq rfl (pass.trans (congrArg (dictDone 0x3000 8) (startMoves_of_idle idle))) ?_
    rw [dget_dictDone_ne (by decide), dictDone_tier]
    exact ⟨dget_dset_self .., rfl⟩

end Sys2Proof.Machine
end

section
namespace Sys2Proof.Machine

theorem chanOf_of_dram {s t : State} (h : t.dram = s.dram) (n : Nat) : chanOf t n = chanOf s n := by
  unfold chanOf
  rw [h]
/-- The entries of a DRAM channel lie below the counters of Table 17.12. -/
theorem chanKey_lt (n sub : Nat) (h : sub < 256) : chanKey n sub < 0x700000 := by
  unfold chanKey dkey
  omega

theorem fire_of_unarmed {s : State} (unarmed : s.pres.armed = []) (point inst : Nat) (variants : List Nat) : fire point inst variants s = none := by
  simp [fire, unarmed]

/-! ## Words read (R216, R218, R220) -/

/-- What the read of a word leaves of its channel before its verdict counts. -/
theorem activate_kept (n : Nat) (e : DramWord) (s : State) :
    (chanOf (activate n e s) n).log = (chanOf s n).log ∧ (chanOf (activate n e s) n).patrol = (chanOf s n).patrol := by
  unfold activate
  split
  · exact ⟨rfl, rfl⟩
  · dsimp only
    generalize (if inBurst (chanOf s n) = true then Config.raammt else Config.raaimt) = limit
    split
    · rw [chanOf_of_dram (bump_dram ..), chanOf_setChan]
      exact ⟨rfl, rfl⟩
    · rw [chanOf_setChan]
      exact ⟨rfl, rfl⟩
theorem dget_activate {n k : Nat} {e : DramWord} {s : State} (h : k ≠ 0x701505) : dget (activate n e s) k = dget s k := by
  unfold activate
  split
  · rfl
  · dsimp only
    generalize (if inBurst (chanOf s n) = true then Config.raammt else Config.raaimt) = limit
    split
    · rw [dget_bump_ne _ _ _ h]
      rfl
    · rfl
theorem drainWrites_kept (n : Nat) (s : State) :
    (chanOf (drainWrites n s) n).log = (chanOf s n).log ∧ (chanOf (drainWrites n s) n).patrol = (chanOf s n).patrol := by
  unfold drainWrites
  dsimp only
  rw [chanOf_setChan]
  exact ⟨rfl, rfl⟩
/-- A corrected word with no open entry is logged at STEP 0, where the log has room. -/
theorem correctable_of_new {n : Nat} {e : DramWord} {s : State} (real : s.pres.injecting = false)
    (new : openEntry (chanOf s n) (wordKey e) = none) (room : (chanOf s n).log.length < 64) :
    (chanOf (correctable n e s) n).log = (chanOf s n).log ++ [⟨wordKey e, false, 0, 1, 1, s.rtc, e.device, e.col, rowOf e⟩] ∧
      dget (correctable n e s) (chanKey n 2) = (dget s (chanKey n 2) + 1) % 2 ^ 64 := by
  have logged : logRoom (chanOf s n).log = (chanOf s n).log := if_pos room
  simp only [correctable, real, new, Bool.false_eq_true, if_false]
  rw [if_neg (by decide), chanOf_setChan, chanOf_of_dram (bump_dram ..), chanOf_setChan, logged]
  exact ⟨rfl, dget_bump_self ..⟩

/-- Settles O45. -/
theorem dramErrorCommands : Obligations.DramErrorCommands := by
  unfold Obligations.DramErrorCommands
  refine ⟨fun channel e s serves verdict real new room => ?_, fun channel e s serves calm verdict unarmed => ?_⟩
  · have read : doDramReadDone channel e s = correctable channel e (drainWrites channel (activate channel e s)) := by
      rw [doDramReadDone, if_pos serves, readWord]
      exact if_pos verdict
    have log : (chanOf (drainWrites channel (activate channel e s)) channel).log = (chanOf s channel).log :=
      (drainWrites_kept ..).1.trans (activate_kept ..).1
    have counted : dget (drainWrites channel (activate channel e s)) (chanKey channel 2) = dget s (chanKey channel 2) :=
      (dget_of_dict (drainWrites_dict ..) _).trans (dget_activate (by have := chanKey_lt channel 2 (by decide); omega))
    obtain ⟨logged, count⟩ := correctable_of_new (n := channel.val) (e := e) (s := drainWrites channel (activate channel e s))
      (by rw [drainWrites_pres, activate_pres, real]) (by rw [openEntry, log]; exact new) (by rw [log]; exact room)
    refine completes_of_eq rfl read ⟨?_, ?_⟩
    · rw [logged, log, drainWrites_rtc, activate_rtc]
    · rw [count, counted]
  · have good : readWord channel e s = drainWrites channel (activate channel e s) := by
      have unarmed' : (drainWrites channel (activate channel e s)).pres.armed = [] := by rw [drainWrites_pres, activate_pres, unarmed]
      simp only [readWord, verdict, fireRecorded_of_unarmed unarmed', fire_of_unarmed unarmed']
      rfl
    have scrubbed : ∃ b, doBurnisherScrub channel e s = when_ b (bump32 0x324006)
        (setChan channel (fun c => { c with patrol := c.patrol + 1 }) (drainWrites channel (activate channel e s))) := by
      refine ⟨decide (scrubPasses s < scrubPasses (setChan channel (fun c => { c with patrol := c.patrol + 1 }) (readWord channel e s))), ?_⟩
      rw [doBurnisherScrub, if_neg (by simp [serves, calm]), good]
    obtain ⟨b, scrubbed⟩ := scrubbed
    refine completes_of_eq rfl scrubbed ?_
    rw [chanOf_of_dram (when_keeps (g := (·.dram)) b (bump32_dram ..)), chanOf_setChan]
    exact ⟨congrArg (· + 1) ((drainWrites_kept ..).2.trans (activate_kept ..).2), (drainWrites_kept ..).1.trans (activate_kept ..).1⟩

/-! ## Refresh, panic and power states (R199, R202, R203, R205) -/

section
variable {channel : Fin 32} {s : State}
/-- A refresh that falls due in a burst, on a rank not in self-refresh. -/
theorem doRefreshDue_of_burst {subrank : Fin 4} (serves : servingChan s channel = true) (burst : inBurst (chanOf s channel) = true)
    (awake : ((chanOf s channel).rankPower[subrank.val % 2]?).getD 0 ≠ 2) : doRefreshDue channel subrank s =
      if ((chanOf s channel).post[subrank.val]?).getD 0 < 8 then bump 0x701503 (setChan channel (fun x => { x with
        post := x.post.set subrank (((chanOf s channel).post[subrank.val]?).getD 0 + 1) }) s)
      else bump 0x701504 s := by
  unfold doRefreshDue
  dsimp only
  rw [if_neg (by simp [serves, burst, awake])]
theorem doRankIdleTimeout_of_idle {rank : Fin 2} (serves : servingChan s channel = true) (calm : inBurst (chanOf s channel) = false)
    (policy : (chanOf s channel).policy ≠ 1) : ∃ u, doRankIdleTimeout channel rank s = setChan channel u s ∧
      ((((chanOf s channel).rankPower[rank.val]?).getD 0 = 0) → u (chanOf s channel) = { chanOf s channel with
        rankPower := (chanOf s channel).rankPower.set rank 1 }) ∧
      ((((chanOf s channel).rankPower[rank.val]?).getD 0 = 1) → (chanOf s channel).policy = 3 → u (chanOf s channel) = { chanOf s channel with
        rankPower := (chanOf s channel).rankPower.set rank 2, post := ((chanOf s channel).post.set rank 0).set (rank + 2) 0 }) := by
  unfold doRankIdleTimeout
  dsimp only
  rw [if_neg (by simp [serves, calm, policy])]
  refine ⟨_, rfl, fun now => ?_, fun now endurance => ?_⟩
  · simp [now]
  · simp [now, endurance]
end

/-- Settles O46. -/
theorem dramRefreshCommands : Obligations.DramRefreshCommands := by
  unfold Obligations.DramRefreshCommands
  refine ⟨fun channel subrank s serves burst awake few => ?_, fun channel subrank s serves burst awake many => ?_,
    fun channel subrank s calm => ?_, fun channel fixative s serves => ?_, fun channel fixative s => ?_,
    fun channel rank s serves calm policy now => ?_, fun channel rank s serves calm policy now => ?_⟩
  · refine completes_of_eq rfl ((doRefreshDue_of_burst serves burst awake).trans (if_pos few)) ⟨?_, dget_bump_self ..⟩
    rw [chanOf_of_dram (bump_dram ..), chanOf_setChan]
  · exact completes_of_eq rfl ((doRefreshDue_of_burst serves burst awake).trans (if_neg (by omega)))
      ⟨chanOf_of_dram (bump_dram ..) _, dget_bump_self ..⟩
  · refine completes_of_eq rfl (if_neg (by rw [calm]; decide)) ?_
    rw [chanOf_setChan]
  · refine completes_of_eq rfl (if_neg (by rw [serves]; decide)) ?_
    rw [chanOf_of_dram (when_keeps (g := (·.dram)) _ (bump_dram ..)), chanOf_setChan]
    cases fixative <;> simp [inBurst]
  · refine completes_of_next rfl ?_
    rw [doPanicClear, chanOf_setChan]
    cases fixative <;> rfl
  · obtain ⟨u, timeout, down, -⟩ := doRankIdleTimeout_of_idle (rank := rank) serves calm policy
    refine completes_of_eq rfl timeout ?_
    rw [chanOf_setChan, down now]
    exact ⟨rfl, rfl⟩
  · obtain ⟨u, timeout, -, down⟩ := doRankIdleTimeout_of_idle (rank := rank) serves calm (by rw [policy]; decide)
    refine completes_of_eq rfl timeout ?_
    rw [chanOf_setChan, down now policy]
    exact ⟨rfl, rfl⟩

/-! ## Training, calibration and repair (R206–R210, R214, R228) -/

theorem dget_chanKey_dictDone {n sub idx j : Nat} {s : State} (h : sub < 256) : dget (dictDone idx j s) (chanKey n sub) = dget s (chanKey n sub) :=
  dget_dictDone_ne (.inl (by have := chanKey_lt n sub h; omega))
theorem beginRetrain_of_serving {n : Nat} {s : State} (serves : (chanOf s n).st = .serving) :
    (chanOf (beginRetrain n s) n).st = .retraining ∧ dget (beginRetrain n s) (chanKey n 8) = 1 := by
  have channels (k v : Nat) (u : State) : chanOf (dset k v u) n = chanOf u n := rfl
  rw [beginRetrain, if_pos serves, channels, chanOf_setChan]
  exact ⟨rfl, dget_dset_self ..⟩
/-- A channel whose frames hold no page is lost: its domain is off after a fault. -/
theorem loseChannel_of_empty {n cause sub rank : Nat} {s : State} (live_ : (chanOf s n).st ≠ .lost) (empty : s.per.live.dir = []) :
    (chanOf (loseChannel n cause sub rank s) n).st = .lost ∧ bitOf (loseChannel n cause sub rank s).rst.offFault (16 + n) = true ∧
      (loseChannel n cause sub rank s).rec_ = s.rec_ := by
  have degraded (b : Bool) (f g : DramSide → DramSide) (hf : ∀ d, (f d).channels = d.channels) (hg : ∀ d, (g d).channels = d.channels) (u : State) :
      chanOf (if b then raiseKeep 8 (updDram f u) else updDram g u) n = chanOf u n ∧
        (if b then raiseKeep 8 (updDram f u) else updDram g u).rst = u.rst ∧
        (if b then raiseKeep 8 (updDram f u) else updDram g u).rec_ = u.rec_ := by
    cases b
    · exact ⟨by simp only [chanOf, if_neg Bool.false_ne_true, updDram_dram, hg], rfl, rfl⟩
    · refine ⟨?_, raiseKeep_rst .., raiseKeep_rec_ ..⟩
      rw [if_pos rfl, chanOf_of_dram (raiseKeep_dram ..)]
      simp only [chanOf, updDram_dram, hf]
  have nothing (f : Nat → State → State) (u : State) : each [] f u = u := rfl
  unfold loseChannel
  rw [if_neg live_]
  simp only [live, empty, List.filterMap_nil, List.filter_nil, ownMoves, List.isEmpty_nil, if_true, nothing, ite_self]
  generalize s.dram.degraded.contains (n / 8) = b
  rw [chanOf_of_dram (disarmAt_dram ..), disarmAt_rst, disarmAt_rec_]
  obtain ⟨chan, rst, rec_⟩ := degraded b (fun d => { d with doubleLost := insertSet d.doubleLost (n / 8) })
    (fun d => { d with degraded := insertSet d.degraded (n / 8) }) (fun _ => rfl) (fun _ => rfl)
    (updRst (fun r => { r with powered := clrBit r.powered (16 + n), offFault := setBit r.offFault (16 + n) })
      (dset (chanKey n 8) 0 (faultHandled (post 0x0303 2 n (leBytes 1 cause ++ leBytes 1 sub ++ leBytes 1 rank)
        (setChan n (fun c => { c with st := .lost, panicCp := false, panicFx := false, draining := false }) s)))))
  rw [chan, rst, rec_]
  refine ⟨?_, bitOf_setBit_self .., ?_⟩
  · rw [chanOf_of_dram (updRst_dram ..), chanOf_of_dram (dset_dram ..), chanOf_of_dram (faultHandled_dram ..), chanOf_of_dram (post_dram ..),
      chanOf_setChan]
  · rw [updRst_rec_, dset_rec_, faultHandled_rec_, post_rec_]
    rfl

/-- A channel's rows that hPPR could take leave its repair list (R228). -/
def takeHppr (a : State) (n : Nat) : State :=
  setChan n (fun c => { c with
    repairs := c.repairs.drop (min (chanOf a n).repairs.length (Config.hpprRows n)), hppr := c.hppr + min (chanOf a n).repairs.length (Config.hpprRows n) }) a
theorem takeHppr_ne {n k : Nat} (h : k ≠ n) (a : State) : chanOf (takeHppr a n) k = chanOf a k := chanOf_setChan_ne _ _ _ _ h
theorem chanOf_foldl_hppr_of_not_mem (l : List Nat) (s : State) (n : Nat) (h : n ∉ l) : chanOf (l.foldl takeHppr s) n = chanOf s n := by
  induction l generalizing s with
  | nil => rfl
  | cons k l ih =>
    rw [List.mem_cons, not_or] at h
    rw [List.foldl_cons, ih _ h.2, takeHppr_ne h.1]
theorem repairs_foldl_hppr (l : List Nat) (distinct : l.Nodup) (s : State) (n : Nat) (h : n ∈ l) :
    (chanOf (l.foldl takeHppr s) n).repairs = (chanOf s n).repairs.drop (min (chanOf s n).repairs.length (Config.hpprRows n)) := by
  induction l generalizing s with
  | nil => exact absurd h List.not_mem_nil
  | cons k l ih =>
    obtain ⟨fresh, distinct⟩ := List.nodup_cons.mp distinct
    rw [List.foldl_cons]
    by_cases hk : n = k
    · subst hk
      rw [chanOf_foldl_hppr_of_not_mem _ _ _ fresh, takeHppr, chanOf_setChan]
    · rw [ih distinct _ ((List.mem_cons.mp h).resolve_left hk), takeHppr_ne hk]

/-- Settles O47. -/
theorem dramTrainingCommands : Obligations.DramTrainingCommands := by
  unfold Obligations.DramTrainingCommands
  refine ⟨fun channel margin preserved s training => ?_, fun n s mode noRepair one empty => ?_, fun channel s serves => ?_,
    fun channel s serves => ?_, fun channel temp s serving drift => ?_, fun channel s serves serving => ?_,
    fun channel margin temp s retraining => ?_, fun group s single => ?_, fun s run => ?_⟩
  · refine completes_of_eq rfl (if_neg (by simp [training])) ?_
    cases preserved
    · rw [if_neg Bool.false_ne_true, chanOf_of_dram (updRecall_dram ..), chanOf_setChan]
      exact ⟨rfl, rfl, rfl, fun _ => rfl⟩
    · rw [if_pos rfl, chanOf_setChan]
      exact ⟨rfl, rfl, rfl, nofun⟩
  · have waits : (List.range 32).any (fun k => (chanOf s k).st = .training) = true := by
      have member : n.val ∈ (List.range 32).filter (fun k => (chanOf s k).st = .training) := by
        rw [one]
        exact List.mem_singleton_self _
      rw [List.mem_filter] at member
      exact List.any_eq_true.mpr ⟨n.val, member⟩
    have training : (chanOf s n.val).st = .training := by
      have member : n.val ∈ (List.range 32).filter (fun k => (chanOf s k).st = .training) := by
        rw [one]
        exact List.mem_singleton_self _
      simpa using (List.mem_filter.mp member).2
    have lost : doTrainingDeadline s = loseChannel n 4 0xff 0xff (updRecall (fun r => { r with reserveSeal := none }) s) := by
      rw [doTrainingDeadline, if_neg (by simp [mode, noRepair]), one, if_pos waits]
      rfl
    obtain ⟨st, off, rec_⟩ := loseChannel_of_empty (n := n) (cause := 4) (sub := 0xff) (rank := 0xff)
      (s := updRecall (fun r => { r with reserveSeal := none }) s) (by rw [chanOf_of_dram (updRecall_dram ..), training]; decide) empty
    refine completes_of_eq rfl lost ⟨st, off, ?_⟩
    rw [rec_]
    rfl
  · refine completes_of_eq rfl (if_pos serves) ?_
    rw [chanOf_setChan]
  · refine completes_of_eq rfl (if_pos (by simp [serves])) ?_
    rw [chanOf_setChan]
  · have started : doRetrainStart channel temp s = beginRetrain channel (setChan channel (fun c => { c with highTemp := decide (temp > 85) }) s) := by
      unfold doRetrainStart
      dsimp only
      rw [chanOf_setChan, if_pos]
      rw [Bool.or_eq_true]
      exact .inl (decide_eq_true drift)
    refine completes_of_eq rfl started (beginRetrain_of_serving ?_)
    rw [chanOf_setChan]
    exact serving
  · refine completes_of_eq rfl (dictGuard_of_serves serves _ _ (by simp) _) ?_
    rw [chanOf_of_dram (dictDone_dram ..), dget_chanKey_dictDone (by decide)]
    exact beginRetrain_of_serving serving
  · have ended : doRetrainDone channel margin temp none s = bump 0x701509 (dset (chanKey channel 8) 0 (setChan channel (fun c => { c with
        st := .serving, margin := margin, trainTemp := temp, highTemp := decide (temp > 85), corrections := [], saved := true }) s)) := by
      rw [doRetrainDone, if_neg (not_not_intro retraining)]
    refine completes_of_eq rfl ended ?_
    rw [chanOf_of_dram (bump_dram ..), chanOf_of_dram (dset_dram ..), chanOf_setChan,
      dget_bump_ne _ _ _ (by have := chanKey_lt channel 8 (by decide); omega), dget_dset_self]
    exact ⟨rfl, rfl, rfl, rfl, rfl⟩
  · exact completes_of_eq rfl (if_neg (by rw [single]; decide)) rfl
  · have programmed : doHpprProgrammingDone s =
        dset 0x32400b 0 (updDram (fun d => { d with hpprRun := false }) ((List.range 32).foldl takeHppr s)) := by
      rw [doHpprProgrammingDone, if_neg (by rw [run]; decide)]
      rfl
    have channels (u : State) (n : Nat) : chanOf (dset 0x32400b 0 (updDram (fun d => { d with hpprRun := false }) u)) n = chanOf u n := rfl
    refine completes_of_eq rfl programmed ⟨rfl, dget_dset_self .., fun n hn => ?_⟩
    rw [channels, repairs_foldl_hppr (List.range 32) List.nodup_range s n (List.mem_range.mpr hn)]

end Sys2Proof.Machine
end

section
namespace Sys2Proof.Machine

/-! ## What the checks after a media operation leave as it is -/

/-- Outside Keep, a cause that clears changes the mode's state only, and not the mode. -/
theorem clearKeep_of_ne {bit : Nat} {s : State} (mode : s.md.mode ≠ .keep) :
    ∃ f : ModeSide → ModeSide, clearKeep bit s = updMode f s ∧ ∀ x, (f x).mode = x.mode := by
  simp only [clearKeep, mode, if_false]
  split
  · exact ⟨_, rfl, fun _ => rfl⟩
  · exact ⟨fun x => { x with causes := clrBit x.causes bit, entering := false }, rfl, fun _ => rfl⟩
section
variable {s : State} (mode : s.md.mode ≠ .keep)
include mode
/-- The media, the tables and the mode. -/
theorem mediaStep_kept : (mediaStep s).nand = s.nand ∧ (mediaStep s).per = s.per ∧ (mediaStep s).md.mode = s.md.mode := by
  have checked : (mediaCheck s).md.mode ≠ .keep := by rwa [mediaCheck_md]
  unfold mediaStep
  dsimp only
  split
  · obtain ⟨f, eq, kept⟩ := clearKeep_of_ne (bit := 6) checked
    rw [eq, updMode_nand, mediaCheck_nand, updMode_per, mediaCheck_per, updMode_md, kept, mediaCheck_md]
    exact ⟨rfl, rfl, rfl⟩
  · rw [mediaCheck_nand, mediaCheck_per, mediaCheck_md]
    exact ⟨rfl, rfl, rfl⟩
theorem causeStep_kept (bit : Nat) (b : Prop) [Decidable b] :
    let t := if b then (if bitOf s.md.causes bit then s else raiseKeep bit s) else if bitOf s.md.causes bit then clearKeep bit s else s
    t.nand = s.nand ∧ t.per = s.per ∧ t.md.mode = s.md.mode := by
  intro t
  by_cases hb : b
  · by_cases raised : bitOf s.md.causes bit = true
    · rw [show t = s from (if_pos hb).trans (if_pos raised)]
      exact ⟨rfl, rfl, rfl⟩
    · rw [show t = raiseKeep bit s from (if_pos hb).trans (if_neg raised)]
      exact ⟨raiseKeep_nand .., raiseKeep_per .., raiseKeep_mode ..⟩
  · by_cases raised : bitOf s.md.causes bit = true
    · obtain ⟨f, eq, kept⟩ := clearKeep_of_ne (bit := bit) mode
      rw [show t = updMode f s from ((if_neg hb).trans (if_pos raised)).trans eq]
      exact ⟨rfl, rfl, kept _⟩
    · rw [show t = s from (if_neg hb).trans (if_neg raised)]
      exact ⟨rfl, rfl, rfl⟩
theorem reserveCauses_kept : (reserveCauses s).nand = s.nand ∧ (reserveCauses s).per = s.per ∧ (reserveCauses s).md.mode = s.md.mode := by
  unfold reserveCauses
  dsimp only
  obtain ⟨nand, per, md⟩ := causeStep_kept mode 2 (dumpRoom s < plateNeed (budget s))
  generalize hu : (if dumpRoom s < plateNeed (budget s) then _ else _ : State) = u
  rw [hu] at nand per md
  obtain ⟨nand', per', md'⟩ := causeStep_kept (s := u) (by rwa [md]) 5 (usableHead u < headNeed (budget u))
  exact ⟨nand'.trans nand, per'.trans per, md'.trans md⟩
end
/-- The media but for the marks of their wear. -/
def withoutMarks (n : NandSide) : NandSide := { n with wearMarks := [] }
theorem wearStep_kept (s : State) : withoutMarks (wearStep s).nand = withoutMarks s.nand := by
  unfold wearStep
  refine each_keeps (g := fun u => withoutMarks u.nand) (fun p a => ?_) _ s
  split
  · rw [post_nand]
    rfl
  · rfl
theorem throughQuad_of_unarmed {ch : Nat} {s : State} (unarmed : s.pres.armed = []) : ∃ f, throughQuad ch s = updKeys f s := by
  unfold throughQuad
  simp only [fireRecorded_of_unarmed (s := updKeys _ s) unarmed, fire_of_unarmed (s := updKeys _ s) unarmed]
  exact ⟨_, rfl⟩
theorem groupOf_setGroup (n g : Nat) (f : Group → Group) (s : State) : groupOf (setGroup n g f s) n g = f (groupOf s n g) := tget_tmod_self ..
theorem groupOf_of_groups {s t : State} (h : t.per.live.groups = s.per.live.groups) (n g : Nat) : groupOf t n g = groupOf s n g := by
  unfold groupOf live
  rw [h]
theorem dieOf_of_nand {s t : State} (h : t.nand = s.nand) (n : Nat) : dieOf t n = dieOf s n := by
  unfold dieOf
  rw [h]
theorem gcStep_of_drain {n : Nat} {s : State} (mode : s.md.mode = .drain) : gcStep n s = s := by
  unfold gcStep
  rw [if_pos (by simp [mode])]

/-! ## NAND channels, reads, programs and erases (R232, R233, R243, R244, R259, R263) -/

/-- Freeing an emptied group leaves the reads of every group as they are. -/
theorem freeIfEmpty_reads (ch die h n g : Nat) (s : State) : (groupOf (freeIfEmpty ch die h s) n g).reads = (groupOf s n g).reads := by
  unfold freeIfEmpty
  dsimp only
  split
  · by_cases key : gkey n g = gkey (dieNo ch die) h
    · have same (f : Group → Group) (u : State) : groupOf (setGroup (dieNo ch die) h f u) n g = f (groupOf u n g) := by
        unfold groupOf
        rw [key]
        exact groupOf_setGroup ..
      rw [same]
    · have same (f : Group → Group) (u : State) : groupOf (setGroup (dieNo ch die) h f u) n g = groupOf u n g := tget_tmod_ne _ _ _ _ _ key
      rw [same]
  · rfl

section
variable {channel : Fin 40} {die : Fin 16} {n : Nat} {s : State}
/-- A unit's read leaves its die and counts at its group; `f` is what it counts at the cipher engines. -/
def readEnd (lunit : Nat) (e : MapEntry) (f : KeySide → KeySide) (s : State) : State :=
  setGroup (dieNo e.place.ch e.place.die) e.place.group (fun g => { g with reads := g.reads + 1 }) (bump 0x701c04 (updKeys f
    (setDie (dieNo e.place.ch e.place.die) (fun d => { d with ops := dropFirst (fun o => decide (o.act = .read lunit)) d.ops }) s)))
/-- A hard read of a unit without a header ends: its operation leaves the die, and the group counts it. -/
theorem doNandReadDone_of_hard {lunit : Nat} {e : MapEntry} (entry : e = tget {} (live s).fmap lunit) (hn : n = dieNo e.place.ch e.place.die)
    (waits : (dieOf s n).ops.any (fun o => o.act = .read lunit) = true) (unarmed : s.pres.armed = [])
    (head : tfind s.nand.heads (punit e.place) = none) (few : (groupOf s n e.place.group).reads < dget s 0x335004) :
    (dieOf (doNandReadDone lunit .hard s) n).ops = dropFirst (fun o => o.act = .read lunit) (dieOf s n).ops ∧
      (groupOf (doNandReadDone lunit .hard s) n e.place.group).reads = (groupOf s n e.place.group).reads + 1 := by
  obtain ⟨f, quad⟩ := throughQuad_of_unarmed (ch := e.place.ch)
    (s := setDie n (fun d => { d with ops := dropFirst (fun o => decide (o.act = .read lunit)) d.ops }) s) unarmed
  have read : doNandReadDone lunit .hard s = each (emptying (readEnd lunit e f s) n) (fun g a => freeIfEmpty e.place.ch e.place.die g a)
      (readEnd lunit e f s) := by
    have lost : (tfind (readEnd lunit e f s).nand.heads (punit e.place)).any (fun h => (keySlotOf (readEnd lunit e f s) h.slot).st = .lost) = false := by
      have heads : (readEnd lunit e f s).nand.heads = s.nand.heads := rfl
      rw [heads, head]
      rfl
    have calm : injectRead e.place.ch e.prot .hard (readEnd lunit e f s) = none := by
      simp [injectRead, fireRecorded_of_unarmed (s := readEnd lunit e f s) unarmed]
    have reads : (groupOf (readEnd lunit e f s) n e.place.group).reads = (groupOf s n e.place.group).reads + 1 := by
      rw [readEnd, ← hn, groupOf_setGroup]
      rfl
    have limit : ¬ (groupOf (readEnd lunit e f s) n e.place.group).reads > dget s 0x335004 * (if groupArea s e.place.group = .pool then 1 else 10) := by
      rw [reads]
      split <;> omega
    unfold doNandReadDone
    dsimp only
    rw [← entry, ← hn, waits, if_neg (by decide), quad]
    rw [hn] at limit ⊢
    rw [show setGroup (dieNo e.place.ch e.place.die) e.place.group (fun g => { g with reads := g.reads + 1 }) (bump 0x701c04 (updKeys f
      (setDie (dieNo e.place.ch e.place.die) (fun d => { d with ops := dropFirst (fun o => decide (o.act = .read lunit)) d.ops }) s))) =
      readEnd lunit e f s from rfl]
    simp only [lost, calm, Bool.false_eq_true, if_false]
    rw [show readLadder lunit e .hard (readEnd lunit e f s) = readEnd lunit e f s from rfl, if_neg limit]
  rw [read, dieOf_of_nand (each_keeps (g := (·.nand)) (fun _ _ => freeIfEmpty_nand ..) _ _),
    each_keeps (g := fun u => (groupOf u n e.place.group).reads) (fun _ _ => freeIfEmpty_reads ..)]
  refine ⟨?_, ?_⟩
  · rw [readEnd, ← hn, dieOf_of_nand (setGroup_nand ..), dieOf_of_nand (bump_nand ..), dieOf_of_nand (updKeys_nand ..), dieOf_setDie]
  · rw [readEnd, ← hn, groupOf_setGroup]
    rfl
/-- A wordline that waited is filled to twelve units and programmed. -/
theorem doWordlineWaitTimeout_of_waiting (hn : n = dieNo channel die) (mode : s.md.mode ≠ .drain) (some_ : 0 < (dieOf s n).wordline.length)
    (few : (dieOf s n).wordline.length ≤ 12) (room : (dieOf s n).ops.length < 8) : ∃ us : List ProgUnit, us.length = 12 ∧
      (dieOf (doWordlineWaitTimeout channel die s) n).ops = (dieOf s n).ops ++ [⟨4, 0, .program us⟩] ∧
      (dieOf (doWordlineWaitTimeout channel die s) n).wordline = [] := by
  subst hn
  unfold doWordlineWaitTimeout
  dsimp only
  rw [if_neg (by simp [mode]; intro h; rw [h] at some_; exact absurd some_ (by decide))]
  generalize hc : ((toCopy s (dieNo channel die)).take (12 - (dieOf s (dieNo channel die)).wordline.length)).map _ = copies
  have short : copies.length ≤ 12 - (dieOf s (dieNo channel die)).wordline.length := by
    rw [← hc, List.length_map, List.length_take]
    omega
  generalize hp : List.replicate _ (⟨9, 0, .pad, 0, []⟩ : ProgUnit) = pads
  have full : ((dieOf s (dieNo channel die)).wordline ++ copies ++ pads).length = 12 := by
    rw [List.length_append, List.length_append, ← hp, List.length_replicate]
    omega
  unfold issueWordline
  dsimp only
  rw [dieOf_setDie, if_neg (by simp [mode, room]; simp at full; omega), dieOf_setDie, dieOf_setDie]
  refine ⟨_, ?_, rfl, ?_⟩
  · rw [List.length_map, List.length_take, full]
    rfl
  · exact List.drop_eq_nil_of_le (Nat.le_of_eq full)
/-- A die that is retired holds no operation and no wordline. -/
theorem retireDie_of_empty {cause : Nat} (service : (dieOf s n).st = .service) (mode : s.md.mode ≠ .keep) (empty : (live s).dir = []) :
    (dieOf (retireDie n cause s) n).st = .retired ∧ (dieOf (retireDie n cause s) n).ops = [] ∧ (dieOf (retireDie n cause s) n).wordline = [] := by
  have noPages : pagesOfSet s n = [] := by simp [pagesOfSet, empty]
  have retired : retireDie n cause s = mediaMin (reserveCauses (mediaStep (post 0x0403 2 n (leBytes 1 cause)
      (setDie n (fun d => { d with st := .retired, ops := [], wordline := [] }) s)))) := by
    simp [retireDie, service, noPages, ownMoves, each]
  have mode' : (post 0x0403 2 n (leBytes 1 cause) (setDie n (fun d => { d with st := .retired, ops := [], wordline := [] }) s)).md.mode ≠ .keep := by
    rwa [post_md]
  obtain ⟨nand, -, md⟩ := mediaStep_kept mode'
  obtain ⟨nand', -, -⟩ := reserveCauses_kept (s := mediaStep _) (by rwa [md])
  rw [retired, dieOf_of_nand (mediaMin_nand ..), dieOf_of_nand nand', dieOf_of_nand nand, dieOf_of_nand (post_nand ..), dieOf_setDie]
  exact ⟨rfl, rfl, rfl⟩
end

end Sys2Proof.Machine
end

section
namespace Sys2Proof.Machine

/-! ## A write-back placed in the open group of its die, outside garbage collection (R244) -/

section
variable {channel : Fin 40} {die : Fin 16} {plane : Fin 4} {n g l : Nat} {s : State}
/-- A unit programmed while no stripe is open begins one. -/
theorem programUnit_of_noStripe {p : Place} {area key slot : Nat} {data : Mem} (none_ : s.nand.stripes = []) : programUnit p area key slot data s =
    updNand (fun d => { d with stripes := d.stripes ++ [⟨pgroupOf (dieNo p.ch p.die), area, p.unit, [(dieNo p.ch p.die, p.group)], none, false⟩] })
      (programRaw p area key slot data s) := by
  unfold programUnit joinStripe
  have stripes : (programRaw p area key slot data s).nand.stripes = [] := none_
  simp only [stripes, List.find?_nil]
/-- The unit is the next one of the open group; the map names it and the merge buffer lets it go. -/
theorem placeBack_of_opened {u : ProgUnit} {m : Merge} (pool : (dieOf s n).openPool = some g) (opened : (groupOf s n g).st = .opened)
    (room : (groupOf s n g).next < 6144) (none_ : s.nand.stripes = []) (merge : s.nand.merge = [m]) (lunit : m.lunit = l)
    (data : u.data = lunitData s l) (same : overlay u.data m.lines m.data = lunitData s l) :
    let t := placeBack n u l s
    (tget {} (live t).fmap l).st = 1 ∧ (tget {} (live t).fmap l).place = ⟨n / 16, n % 16, g, (groupOf s n g).next⟩ ∧ t.nand.merge = [] ∧
      t.nand.dies = s.nand.dies ∧ t.md = s.md := by
  rw [data] at same
  have slot : poolSlot n (dieOf s n).openPool (fun g d => { d with openPool := some g }) s = some (g, (groupOf s n g).next, s) := by
    unfold poolSlot
    rw [pool, Option.filter_some, if_pos (by simp [opened, room])]
  have found : s.nand.merge.find? (fun m => m.lunit = l) = some m := by
    rw [merge]
    exact List.find?_cons_of_pos (decide_eq_true lunit)
  have empty : s.nand.merge.filter (fun y => y.lunit ≠ l) = [] := by
    rw [merge]
    exact List.filter_cons_of_neg (by simp [lunit])
  intro t
  have placed : ∃ e : MapEntry, ∃ v : State, t = updNand (fun x => { x with merge := x.merge.filter (fun y => y.lunit ≠ l) }) (setMap l e v) ∧ e.st = 1 ∧
      e.place = ⟨n / 16, n % 16, g, (groupOf s n g).next⟩ ∧ v.nand.merge = s.nand.merge ∧ v.nand.dies = s.nand.dies ∧ v.md = s.md := by
    have raw : (useUnit n g (groupOf s n g).next 6144 s).nand.stripes = [] := none_
    simp only [t, placeBack, slot, found, programUnit_of_noStripe raw, same, data, if_true]
    refine ⟨_, _, rfl, rfl, rfl, rfl, rfl, rfl⟩
  obtain ⟨e, v, eq, st, place, merge', dies, md⟩ := placed
  have entry : tget {} (live t).fmap l = e := by
    rw [eq]
    exact tget_tset_self ..
  rw [entry]
  refine ⟨st, place, ?_, ?_, ?_⟩
  · rw [eq]
    exact (congrArg (List.filter _) merge').trans empty
  · rw [eq]
    exact dies
  · rw [eq]
    exact md
/-- What ends an operation on a die in Drain leaves the tables as they are, and the media but for the marks of wear. -/
theorem diesDone_of_drain (mode : s.md.mode = .drain) : (migrateCheck (wearStep (mediaStep (gcStep n s)))).per = s.per ∧
    withoutMarks (migrateCheck (wearStep (mediaStep (gcStep n s)))).nand = withoutMarks s.nand := by
  obtain ⟨nand, per, -⟩ := mediaStep_kept (s := s) (by rw [mode]; decide)
  rw [gcStep_of_drain mode, migrateCheck_per, wearStep_per, per, migrateCheck_nand, wearStep_kept, nand]
  exact ⟨rfl, rfl⟩
/-- A programmed write-back is mapped at the unit it took and leaves the merge buffer. -/
theorem doNandProgramDone_of_writeBack {u : ProgUnit} {m : Merge} (hn : n = dieNo channel die) (mode : s.md.mode = .drain)
    (unarmed : s.pres.armed = []) (ops : (dieOf s n).ops = [⟨4, 0, .program [u]⟩]) (why : u.why = .writeBack l) (merge : s.nand.merge = [m])
    (lunit : m.lunit = l) (data : u.data = lunitData s l) (same : overlay u.data m.lines m.data = lunitData s l)
    (pool : (dieOf s n).openPool = some g) (opened : (groupOf s n g).st = .opened) (room : (groupOf s n g).next < 6144)
    (none_ : s.nand.stripes = []) :
    let t := doNandProgramDone channel die true plane s
    (tget {} (live t).fmap l).st = 1 ∧ (tget {} (live t).fmap l).place = ⟨n / 16, n % 16, g, (groupOf s n g).next⟩ ∧ t.nand.merge = [] ∧
      (dieOf t n).ops = [] := by
  subst hn
  obtain ⟨f, quad⟩ := throughQuad_of_unarmed (ch := channel.val) unarmed
  have next : nextProgram (dieOf s (dieNo channel die)) = some ⟨4, 0, .program [u]⟩ := by
    unfold nextProgram
    rw [ops]
    rfl
  let v := setDie (dieNo channel die) (fun d => { d with ops := dropFirst (fun x => x = ⟨4, 0, .program [u]⟩) d.ops }) (updKeys f s)
  have die_ : dieOf v (dieNo channel die) = { dieOf s (dieNo channel die) with ops := [] } := by
    rw [dieOf_setDie, dieOf_of_nand (updKeys_nand ..), ops, dropFirst, if_pos (decide_eq_true rfl)]
  obtain ⟨st, place, merge', dies, md⟩ := placeBack_of_opened (s := v) (n := dieNo channel die) (u := u) (m := m) (l := l) (g := g)
    (by rw [die_]; exact pool) opened room none_ merge lunit data same
  intro t
  have end_ : t = migrateCheck (wearStep (mediaStep (gcStep (dieNo channel die) (placeBack (dieNo channel die) u l v)))) := by
    simp only [t, doNandProgramDone, next, quad, Bool.not_true, Bool.false_eq_true, if_false, each, List.foldl_cons, List.foldl_nil, why]
    rfl
  obtain ⟨per, nand⟩ := diesDone_of_drain (n := dieNo channel die) (s := placeBack (dieNo channel die) u l v) (by rw [md]; exact mode)
  rw [← end_] at per nand
  unfold live at st place ⊢
  rw [per]
  refine ⟨st, place, (congrArg NandSide.merge nand).trans merge', ?_⟩
  have kept : t.nand.dies = v.nand.dies := (congrArg NandSide.dies nand).trans dies
  unfold dieOf at die_ ⊢
  rw [kept, die_]
/-- Without stripes no parity is given up. -/
theorem releaseParity_of_noStripe (none_ : s.nand.stripes = []) : releaseParity s = s := by
  unfold releaseParity
  simp [none_]
/-- An erase leaves its group ERASED with one more erase. -/
theorem doNandEraseDone_of_drain {group : Nat} (hn : n = dieNo channel die) (mode : s.md.mode = .drain) (alive : liveDie s n = true)
    (free : (groupOf s n group).st = .free) (noPlate : plateOf s group = none) (none_ : s.nand.stripes = []) :
    groupOf (doNandEraseDone channel die group true plane s) n group =
      { groupOf s n group with st := .erased, erases := (groupOf s n group).erases + 1, reads := 0, next := 0 } := by
  subst hn
  let v := bump 0x701604 (setGroup (dieNo channel die) group (fun x => { x with st := .erased, erases := x.erases + 1, reads := 0, next := 0 })
    (setDie (dieNo channel die) (fun d => { d with ops := dropFirst (fun o => o.act = .erase group) d.ops }) s))
  have end_ : doNandEraseDone channel die group true plane s = mediaStep (gcStep (dieNo channel die) (wearStep v)) := by
    unfold doNandEraseDone
    dsimp only
    rw [releaseParity_of_noStripe (s := v) none_]
    simp only [alive, free, noPlate, Bool.not_true, ne_eq, not_true, decide_false, Bool.or_self, Bool.false_eq_true, if_false]
  have drain : (wearStep v).md.mode = .drain := by
    rw [wearStep_md]
    exact mode
  obtain ⟨-, per, -⟩ := mediaStep_kept (s := wearStep v) (by rw [drain]; decide)
  rw [end_, gcStep_of_drain drain]
  unfold groupOf live
  rw [per, wearStep_per]
  exact groupOf_setGroup (dieNo channel die) group (fun x => { x with st := .erased, erases := x.erases + 1, reads := 0, next := 0 })
    (setDie (dieNo channel die) (fun d => { d with ops := dropFirst (fun o => o.act = .erase group) d.ops }) s)
end

/-- Settles O48. -/
theorem nandChannelCommands : Obligations.NandChannelCommands := by
  unfold Obligations.NandChannelCommands
  refine ⟨?_, ?_, ?_, ?_, ?_, ?_⟩
  · intro channel present s training
    refine completes_of_eq rfl (show _ = setNchan channel.val (fun x => { x with st := .serving, present := present % 65536, rate := s.rst.options.nandRate }) s from ?_)
      (nchanOf_setNchan ..)
    unfold doNandChannelReady
    simp only [training, if_true]
  · intro lunit e n s entry hn waits unarmed _ head few
    exact completes_of_next rfl (doNandReadDone_of_hard entry hn waits unarmed head few)
  · intro channel die plane n g l u m s hn mode unarmed ops why merge lunit data same pool opened room none_
    exact completes_of_next rfl (doNandProgramDone_of_writeBack hn mode unarmed ops why merge lunit data same pool opened room none_)
  · intro channel die group plane n s hn mode alive free noPlate none_
    refine completes_of_next rfl ?_
    rw [doNandEraseDone_of_drain hn mode alive free noPlate none_]
    exact ⟨rfl, rfl, rfl⟩
  · intro channel die n s hn mode some_ few room
    exact completes_of_next rfl (doWordlineWaitTimeout_of_waiting hn mode some_ few room)
  · intro channel die cause n s hn service mode empty
    subst hn
    exact completes_of_next rfl (retireDie_of_empty service mode empty)

end Sys2Proof.Machine
end

section
namespace Sys2Proof.Machine

/-! ## The map log, parity and the Tracer (R241, R253, R256, R266) -/

section
variable {channel : Fin 40} {die : Fin 16} {plane : Fin 4} {group worst n : Nat} {s : State}
/-- In Drain nothing is copied out: the tables stay as they are. -/
theorem gcAll_per_of_drain (mode : s.md.mode = .drain) : (gcAll s).per = s.per := by
  have still : ∀ (l : List Nat) (u : State), u.md.mode = .drain → each l gcStep u = u := by
    intro l
    induction l with
    | nil => exact fun _ _ => rfl
    | cons n l ih =>
      intro u drain
      rw [each, List.foldl_cons, gcStep_of_drain drain]
      exact ih u drain
  unfold gcAll
  rw [if_pos mode, still _ _ mode, migrateCheck_per]
  exact (mediaStep_kept (s := s) (by rw [mode]; decide)).2.1
theorem startLogWrite_durable (s : State) : (startLogWrite s).per.durable = s.per.durable := by
  unfold startLogWrite
  split <;> rfl
/-- A stripe that waited gets its parity unit in the open pSLC parity group. -/
theorem writeParity_stripes {x : Stripe} {ch die g : Nat} (only : s.nand.stripes = [x]) (place : parityDie x.pgroup x.unit = (ch, die))
    (head : (areaGroups s .parity).head? = some g) (opened : (groupOf s (dieNo ch die) g).st = .opened)
    (room : (groupOf s (dieNo ch die) g).next < 2048) : (writeParity x false s).nand.stripes =
      [{ x with parity := some ⟨ch, die, g, (groupOf s (dieNo ch die) g).next⟩, openBlock := true }] := by
  have pslc : (some g).filter (fun g => !false && decide ((groupOf s (dieNo ch die) g).next < 2048 ∨ (groupOf s (dieNo ch die) g).st = .free)) = some g := by
    simp [room]
  unfold writeParity
  simp only [place, head, pslc, opened, if_true]
  rw [refreshProt_nand, updNand_nand, useUnit_nand]
  have stripes (p : Place) : (programRaw p 8 0 0 [] s).nand.stripes = [x] := only
  rw [stripes, List.map_cons, if_pos rfl, List.map_nil]
/-- A good verify pass within the refresh threshold makes the group VERIFIED. -/
theorem doTracerVerifyDone_of_good (hn : n = dieNo channel die) (verifying : (n, group) ∈ s.nand.verifying) (good : worst < dget s 0x335005)
    (fresh : worst ≤ dget s 0x335003) (none_ : s.nand.stripes = []) (idle : s.rec_.phase = .none) :
    (groupOf (doTracerVerifyDone channel die group worst false plane s) n group).st = .verified ∧
      (n, group) ∉ (doTracerVerifyDone channel die group worst false plane s).nand.verifying := by
  subst hn
  let u := bumpBy 0x701605 (groupUnits (groupArea s group)) (updNand (fun x =>
    { x with verifying := x.verifying.filter (· ≠ (dieNo channel die, group)), verifyOrder := x.verifyOrder + 1 }) s)
  let v := setGroup (dieNo channel die) group (fun g => { g with st := .verified, order := s.nand.verifyOrder + 1 }) u
  have step : recallStep (releaseParity v) = v := by
    rw [releaseParity_of_noStripe (s := v) none_, recallStep]
    exact if_pos idle
  have end_ : doTracerVerifyDone channel die group worst false plane s = v := by
    have limit : ¬ worst > dget s 0x335003 := Nat.not_lt.mpr fresh
    refine Eq.trans ?_ step
    unfold doTracerVerifyDone
    simp [verifying, good, limit, v, u]
  rw [end_]
  refine ⟨?_, ?_⟩
  · exact congrArg Group.st (groupOf_setGroup (dieNo channel die) group (fun g => { g with st := .verified, order := s.nand.verifyOrder + 1 }) u)
  · have left : v.nand.verifying = s.nand.verifying.filter (· ≠ (dieNo channel die, group)) := rfl
    rw [left]
    simp
theorem bitOf_raiseKeep (bit : Nat) (s : State) : bitOf (raiseKeep bit s).md.causes bit = true := by
  have causes : (raiseKeep bit s).md.causes = setBit s.md.causes bit := by
    unfold raiseKeep
    split
    · rfl
    · rfl
    · rfl
    · split <;> rfl
    · rfl
    · rfl
  rw [causes, bitOf_setBit_self]
end

/-- Settles O49. -/
theorem nandPassCommands : Obligations.NandPassCommands := by
  unfold Obligations.NandPassCommands
  refine ⟨?_, ?_, ?_, ?_, ?_, ?_, ?_, ?_⟩
  · intro w s writing mode
    have started (u : State) (h : u.md.mode = .drain) : (gcAll (startLogWrite u)).per.durable = u.per.durable := by
      rw [gcAll_per_of_drain (by rwa [startLogWrite_md]), startLogWrite_durable]
    refine completes_of_eq rfl ?_ (started { s with per := { s.per with durable := w, writing := none } } mode)
    unfold doMapLogDurable
    simp only [writing]
  · intro s idle mode
    refine completes_of_eq rfl (show _ = { s with per := { s.per with rounding := true, sinceRound := 0 } } from ?_) ⟨rfl, rfl⟩
    unfold doCheckpointRoundStart
    rw [if_neg (by simp [idle, mode])]
  · intro s rounding
    refine completes_of_eq rfl (show _ = logRecs 1 (bump32 0x334003 { s with per := { s.per with rounding := false } }) from ?_) ⟨?_, ?_⟩
    · unfold doCheckpointRoundDone
      rw [if_neg (by simp [rounding])]
    · rfl
    · exact dget_bump32_self ..
  · intro x ch die g s only open_ mode scheme1 place head opened room
    refine completes_of_eq rfl (show _ = writeParity x false s from ?_) (writeParity_stripes only place head opened room)
    unfold doParityPadTimeout
    simp [only, open_, mode, scheme1]
  · intro channel die group n s hn full mode fresh
    subst hn
    refine completes_of_eq rfl (show _ = updNand (fun x => { x with verifying := x.verifying ++ [(dieNo channel die, group)] }) s from ?_) rfl
    unfold doTracerVerifyStart
    rw [if_neg (by simp [full, mode, fresh])]
  · intro channel die group worst plane n s hn verifying good fresh none_ idle
    exact completes_of_next rfl (doTracerVerifyDone_of_good hn verifying good fresh none_ idle)
  · intro channel die group worst n s hn mode alive used fresh
    subst hn
    refine completes_of_eq rfl (show _ = bump 0x701605 (updNand (fun x => { x with patrol := x.patrol + 1 }) s) from ?_) ⟨rfl, dget_bump_self ..⟩
    have limit : ¬ worst > dget s 0x335003 := Nat.not_lt.mpr fresh
    unfold doTracerPatrol
    simp [mode, alive, used, limit]
  · intro s full clear
    refine completes_of_eq rfl (show _ = raiseKeep 6 s from ?_) (bitOf_raiseKeep 6 s)
    unfold doGcStallTimeout
    rw [if_pos (by simp [full, clear])]

end Sys2Proof.Machine
end

section
namespace Sys2Proof.Machine

/-! ## Journal passes and images (R268–R270) -/

section
variable {d : Dirty} {s : State}
theorem readPage_updFix (f : FixSide → FixSide) (s : State) (tpn : Nat) : readPage (updFix f s) tpn = readPage s tpn := rfl
/-- A pass of one page that may be imaged captures it. -/
theorem startImages_of_one (pass : s.fix.pass = [d.tpn]) (dirty : s.fix.dirty = [d]) (still : d.imaging = false)
    (ready : eligible s d.tpn = true) (present : pageAbsent s d.tpn = false) : startImages s = beginImage d.tpn s := by
  have found : s.fix.dirty.find? (fun x => x.tpn = d.tpn) = some d := by
    rw [dirty]
    exact List.find?_cons_of_pos (decide_eq_true rfl)
  unfold startImages
  rw [pass]
  simp only [each, List.foldl_cons, List.foldl_nil, found, still, ready, present, Bool.not_true, Bool.or_self, Bool.false_eq_true, if_false]
theorem beginImage_dirty (dirty : s.fix.dirty = [d]) :
    (beginImage d.tpn s).fix.dirty = [{ d with imaging := true, changed := false, copy := readPage s d.tpn }] := by
  unfold beginImage
  rw [updFix_fix, dirty, modFirst, if_pos (decide_eq_true rfl)]
theorem targetStep_of_noResync (twin : s.cp.twin ≠ .resync) : targetStep s = s := by
  unfold targetStep
  simp [twin]
/-- While a page of the pass is left, and no Recall runs, the pass goes on. -/
theorem passStep_of_busy {t : Nat} (pass : s.fix.pass = [t]) (idle : s.rec_.phase = .none) (twin : s.cp.twin ≠ .resync) : passStep s = s := by
  have same : recallStep s = s := if_pos idle
  unfold passStep
  rw [if_neg (by simp [pass]), same, targetStep_of_noResync twin]
/-- A journal interval tick begins a pass over the dirty page and captures it. -/
theorem doJournalTick_of_one (drain : s.md.mode ≠ .drain) (started : s.md.mode ≠ .recall) (window : s.rst.phase ≠ .window)
    (idle : s.fix.passRunning = false) (dirty : s.fix.dirty = [d]) (still : d.imaging = false) (part : d.whole = false)
    (own : ownDirty s d = true) (ready : eligible s d.tpn = true) (present : pageAbsent s d.tpn = false) (norecall : s.rec_.phase = .none)
    (twin : s.cp.twin ≠ .resync) : doJournalTick s =
      beginImage d.tpn (updFix (fun f => { f with passRunning := true, tickWait := false, pass := [d.tpn] }) s) := by
  have begun : beginPass s = beginImage d.tpn (updFix (fun f => { f with passRunning := true, tickWait := false, pass := [d.tpn] }) s) := by
    rw [← startImages_of_one (s := updFix (fun f => { f with passRunning := true, tickWait := false, pass := [d.tpn] }) s) rfl dirty still ready present]
    unfold beginPass
    simp [dirty, still, part, own, each]
  unfold doJournalTick
  rw [if_neg (by simp [drain, started, window]), if_neg (by simp [idle]), begun]
  exact passStep_of_busy rfl norecall twin
/-- In Drain an image that is programmed enters the journal index. -/
theorem doJournalImageDone_of_drain (drain : s.md.mode = .drain) (dirty : s.fix.dirty = [d]) (imaging : d.imaging = true)
    (alone : d.twinWait = false) (calm : d.pressure = false) (programmed : (programImage d.tpn d.copy s).isSome = true) :
    some (tget {} (live (doJournalImageDone d.tpn true s)).images d.tpn) = (programImage d.tpn d.copy s).map (·.1) := by
  have found : s.fix.dirty.find? (fun x => x.tpn = d.tpn ∧ x.imaging ∧ !x.twinWait) = some d := by
    rw [dirty]
    exact List.find?_cons_of_pos (by simp [imaging, alone])
  obtain ⟨⟨e, u⟩, image⟩ := Option.isSome_iff_exists.mp programmed
  have end_ : doJournalImageDone d.tpn true s = setImage d.tpn e (bump 0x701701 u) := by
    simp only [doJournalImageDone, found, image, calm, drain, Bool.not_true, Bool.false_eq_true, if_false, if_true]
  rw [end_, image]
  exact congrArg some (tget_tset_self ..)

/-! ## Hold-up, power failure and the dump (R274, R279–R288) -/

theorem holdupCheck_of_short (short : energy s < energyNeed (budget s)) (clear : bitOf s.md.causes 0 = false) : holdupCheck s = raiseKeep 0 s := by
  unfold holdupCheck
  rw [if_pos short, if_neg (by simp [clear])]
theorem energyNeed_pos (gib : Nat) : 0 < energyNeed gib := by
  unfold energyNeed
  omega
/-- Entry into Drain leaves what the reset side holds of the pins. -/
theorem enterDrain_pfail (cause : Nat) (s : State) : (enterDrain cause s).rst.pfail = s.rst.pfail := by
  unfold enterDrain
  split
  · rfl
  · dsimp only
    rw [dset_rst, updFix_rst, updRst_rst, each_keeps (g := (·.rst)) (fun t a => stopPlace_rst t _ a), abandonCut_rst, updMode_rst, setMode_rst]
theorem abandonMoves_waiting (s : State) : (abandonMoves s).tier.waiting = [] := rfl
/-- The quiesce deadline of Drain stops the pass and the moves and starts the dump. -/
theorem doQuiesceDeadline_of_drain (drain : s.md.mode = .drain) (draining : s.fix.phase = .draining) (path : s.fix.dumpDead = false) :
    doQuiesceDeadline s = updFix (fun f => { f with quiesced := true, phase := .dumping })
      (abandonMoves (stopDies (stopPass (yieldTo 1 (abandonOps false s))))) := by
  unfold doQuiesceDeadline
  exact if_pos (by simp [drain, draining, path])
/-- What the seal of a dump makes of the Fixative. -/
def dumpHeld (x : Dump) (f : FixSide) : FixSide :=
  { f with phase := DumpPhase.sealed, sealed := some x, plates := f.plates.set x.plate .holds, ready := nextReady f x.plate }
/-- The seal of a dump that no power failure asked for and no reset waits for: its State, its entries and its record. -/
theorem doDumpSealed_of_quiet {duration units : Nat} (dumping : s.fix.phase = .dumping) (reset : s.rst.dumpReset = false) (cause : s.fix.cause ≠ 1) :
    ∃ detail : Bytes, doDumpSealed duration units s = bump32 0x701705 (post 0x0501 0 0 detail
      (dset 0x340302 s.fix.cause (dset 0x340303 (duration % 2 ^ 32) (dset 0x340304 (units % 2 ^ 32) (dset 0x340305 1
        (updFix (dumpHeld (makeDump duration units s)) (updLive (fun t => { t with writeSeq := (t.writeSeq + units) % 2 ^ 48 }) s))))))) := by
  have same : (makeDump duration units s).cause = s.fix.cause := rfl
  simp only [doDumpSealed, dumping, reset, same, cause, ne_eq, not_true, if_false, Bool.false_eq_true, decide_false, Bool.false_and]
  exact ⟨_, rfl⟩
/-- PFAIL_N rises after the seal of its dump: a system reset of the short form begins with its cause. -/
theorem doPfailRise_of_sealed (low : s.rst.pfail = true) (held : s.fix.phase = .sealed) (cause : s.fix.cause = 1)
    (power : s.rst.pwrgd = true) (drain : s.md.mode = .drain) (running : s.rst.phase = .running) :
    let t := doPfailRise s
    t.rst.pfail = false ∧ t.rst.phase = .window ∧ t.rst.cause = setBit s.rst.cause 6 ∧ t.rst.short = true := by
  intro t
  have reset : t = acceptReset 6 (updRst (fun r => { r with pfail := false }) s) := by
    simp only [t, doPfailRise]
    rw [if_pos (by simp [low, held, cause, power, drain, running])]
  rw [reset]
  simp [acceptReset, updRst, running, held, drain, updRecall]
end

/-- Settles O50. -/
theorem fixativeCommands : Obligations.FixativeCommands := by
  unfold Obligations.FixativeCommands
  refine ⟨?_, ?_, ?_, ?_, ?_, ?_, ?_, ?_, ?_, ?_, ?_⟩
  · intro s drain started window runs
    refine completes_of_eq rfl (show _ = updFix (fun f => { f with tickWait := true }) s from ?_) ⟨rfl, rfl, rfl⟩
    unfold doJournalTick
    rw [if_neg (by simp [drain, started, window]), if_pos runs]
  · intro d s drain started window idle dirty still part own ready present norecall twin
    refine completes_of_eq rfl (doJournalTick_of_one drain started window idle dirty still part own ready present norecall twin) ⟨rfl, rfl, ?_⟩
    exact beginImage_dirty (s := updFix _ s) dirty
  · intro d s pass dirty still ready present
    refine completes_of_eq rfl (show _ = beginImage d.tpn s from ?_) ⟨beginImage_dirty dirty, tfind_tput_self ..⟩
    unfold doImageEligible
    rw [if_pos (by simp [pass]), startImages_of_one pass dirty still ready present]
  · intro d s drain dirty imaging alone calm programmed
    exact completes_of_next rfl (doJournalImageDone_of_drain drain dirty imaging alone calm programmed)
  · intro profile gib s serves known other range fits
    have named : profile ≠ 0 := by omega
    refine completes_of_eq rfl (show _ = dictDone 0x3401 profile (dset (0x340100 + profile) gib s) from ?_) ?_
    · unfold doBudgetWrite
      simp only [named, if_false]
      rw [dictGuard_of_serves serves _ _ (fun h => absurd h (by decide)), if_neg (by simp; omega), if_neg (by simp [fits]), if_neg other]
    · rw [dget_dictDone_ne (Or.inl (by omega)), dget_dset_self]
  · intro s joules serves range
    refine completes_of_eq rfl (show _ = dictDone 0x3404 1 (holdupCheck (updFix (fun f => { f with holdFresh := true }) (dset 0x340401 joules s))) from ?_) ⟨?_, ?_⟩
    · unfold doHoldupEnergyWrite
      rw [dictGuard_of_serves serves _ _ (fun h => absurd h (by decide)), if_neg (Nat.not_lt.mpr range)]
    · rw [dget_dictDone_ne (Or.inl (by decide)), holdupCheck_config _ (by decide)]
      exact dget_dset_self ..
    · rw [dictDone_fix, holdupCheck_fix]
      rfl
  · intro s limit clear
    refine completes_of_eq rfl (show _ = raiseKeep 0 (updFix (fun f => { f with holdFresh := false }) s) from ?_) ⟨?_, bitOf_raiseKeep 0 _⟩
    · unfold doHoldupReportTimeout
      rw [if_neg limit]
      exact holdupCheck_of_short (s := updFix _ s) (energyNeed_pos _) clear
    · rw [raiseKeep_fix]
      rfl
  · intro cycles s long running drain
    refine completes_of_eq rfl (show _ = enterDrain 1 (updRst (fun r => { r with pfail := true }) s) from ?_) ⟨enterDrain_mode .., ?_, ?_, enterDrain_pfail ..⟩
    · unfold doPfailFall
      rw [if_neg (by simp [running]; omega)]
    · exact (enterDrain_fix (s := updRst _ s) drain).1
    · exact (enterDrain_fix (s := updRst _ s) drain).2
  · intro s drain draining path
    refine completes_of_eq rfl (doQuiesceDeadline_of_drain drain draining path) ⟨rfl, rfl, ?_, abandonMoves_waiting _⟩
    rw [updFix_fix, abandonMoves_fix, stopDies_fix]
    rfl
  · intro duration units s dumping reset cause
    obtain ⟨detail, sealed_⟩ := doDumpSealed_of_quiet (duration := duration) (units := units) dumping reset cause
    refine completes_of_eq rfl sealed_ ⟨?_, ?_, ?_, ?_, ?_, ?_⟩
    · rw [bump32_fix, post_fix]
      rfl
    · rw [bump32_fix, post_fix]
      rfl
    · rw [dget_bump32_ne _ _ _ (by decide), dget_post, dget_dset_self]
    · rw [dget_bump32_ne _ _ _ (by decide), dget_post, dget_dset_ne _ _ _ _ (by decide), dget_dset_self]
    · rw [dget_bump32_ne _ _ _ (by decide), dget_post, dget_dset_ne _ _ _ _ (by decide), dget_dset_ne _ _ _ _ (by decide), dget_dset_self]
    · rw [dget_bump32_ne _ _ _ (by decide), dget_post, dget_dset_ne _ _ _ _ (by decide), dget_dset_ne _ _ _ _ (by decide),
        dget_dset_ne _ _ _ _ (by decide), dget_dset_self]
  · intro s low held cause power drain running
    exact completes_of_next rfl (doPfailRise_of_sealed low held cause power drain running)

end Sys2Proof.Machine
end

section
namespace Sys2Proof.Machine

/-! ## What a step of Recall leaves as it is -/

/-- What Recall holds but for its phase, its stage, its dump and its progress to the end. -/
def restoring (r : RecallSide) : RecallSide := { r with phase := .none, stage := 0, dump := none, verified := false, passAfter := false }
/-- The Fixative but for the plates. -/
def withoutPlates (f : FixSide) : FixSide := { f with sealed := none, plates := [] }
section
variable {s : State}
theorem advance_restoring : ∀ (n : Nat) (s : State), restoring (advance n s).rec_ = restoring s.rec_
  | 0, _ => rfl
  | n + 1, s => by
    unfold advance
    split
    · rfl
    · have timed := when_keeps (g := fun u => restoring u.rec_) (b := decide (s.rec_.stage = 0))
        (f := dset 0x360005 ((s.rtc + 2 ^ 32 - s.md.since) % 2 ^ 32)) (s := s) (by rw [dset_rec_])
      exact (advance_restoring n _).trans timed
theorem releasePlates_kept (s : State) : restoring (releasePlates s).rec_ = restoring s.rec_ ∧
    withoutPlates (releasePlates s).fix = withoutPlates s.fix := by
  unfold releasePlates
  dsimp only
  have rec_ := each_keeps (g := (·.rec_)) (fun p a => erasePlate_rec_ p a) ((List.range 2).filter (fun p => (s.fix.plates[p]?) = some .holds)) s
  have fix := each_keeps (g := (·.fix)) (fun p a => erasePlate_fix p a) ((List.range 2).filter (fun p => (s.fix.plates[p]?) = some .holds)) s
  refine ⟨?_, ?_⟩
  · rw [updRecall_rec_, updFix_rec_, rec_]
    rfl
  · rw [updRecall_fix, updFix_fix, fix]
    rfl
theorem recallEnd_restoring (s : State) : restoring (recallEnd s).rec_ = restoring s.rec_ := by
  unfold recallEnd
  dsimp only
  have verified (b : Bool) : restoring (if b then updRecall (fun r => { r with verified := true }) s else s).rec_ = restoring s.rec_ := by
    cases b <;> rfl
  generalize hu : (if (_ && !s.rec_.verified) = true then updRecall _ s else s : State) = u
  have verified : restoring u.rec_ = restoring s.rec_ := by
    rw [← hu]
    exact verified _
  split
  · split
    · rw [setMode_rec_]
      exact verified
    · exact verified
  · exact verified
/-- A step of Recall keeps the pages to restore, the orders, the traces and the Fixative but for its plates. -/
theorem recallStep_kept (s : State) : restoring (recallStep s).rec_ = restoring s.rec_ ∧ withoutPlates (recallStep s).fix = withoutPlates s.fix := by
  unfold recallStep
  split
  · exact ⟨rfl, rfl⟩
  · dsimp only
    have moved : restoring (if s.rec_.ordersRead then advance 10 s else s).rec_ = restoring s.rec_ ∧
        (if s.rec_.ordersRead then advance 10 s else s).fix = s.fix := by
      split
      · exact ⟨advance_restoring .., advance_fix ..⟩
      · exact ⟨rfl, rfl⟩
    generalize (if s.rec_.ordersRead then advance 10 s else s) = u at moved ⊢
    have released : restoring (if dumpDone u then releasePlates u else u).rec_ = restoring u.rec_ ∧
        withoutPlates (if dumpDone u then releasePlates u else u).fix = withoutPlates u.fix := by
      split
      · exact releasePlates_kept u
      · exact ⟨rfl, rfl⟩
    generalize (if dumpDone u then releasePlates u else u) = v at released ⊢
    refine ⟨(recallEnd_restoring _).trans (released.1.trans moved.1), ?_⟩
    rw [recallEnd_fix, updRecall_fix, released.2, moved.2]
theorem startWrite_of_none (none_ : s.rec_.writes = []) : startWrite s = s := by
  unfold startWrite
  rw [none_]

/-! ## The start, segments and the dump's items (R330, R336–R338) -/

/-- A start from a warm reserve: the tables stand, and nothing waits to be restored. -/
theorem doMapDirectoryLoaded_of_warm {rebuilt : Nat} (mode : s.md.mode = .recall) (first : s.rec_.dirLoaded = false) (loaded : s.rst.loadDone = true)
    (trained : (List.range 32).any (fun c => (chanOf s c).st = .training) = false) (formatted : s.rec_.formatted = true)
    (warm : warmStart s = true) (calm : (live s).fenceLog = none) : (doMapDirectoryLoaded rebuilt s).rec_ =
      { s.rec_ with kind := 2, phase := .preparing, stage := 0, unrestored := [], segLeft := [], opened := [], dump := none, dirLoaded := true } := by
  have kind : startKind rebuilt s = 2 := by
    unfold startKind
    rw [if_neg (by simp [formatted]), if_pos warm]
  have replayed (u : State) (h : (live u).fenceLog = none) : (replayFence u).rec_ = u.rec_ := by
    unfold replayFence
    rw [h]
    rfl
  have idle (b : Bool) (f : RecSide → RecSide) (u : State) : (when_ b (updRmq f) u).rec_ = u.rec_ := when_keeps (g := (·.rec_)) b (updRmq_rec_ ..)
  have plates (u : State) : (if u.fix.plates.all (· = .holds) then raiseKeep 3 u else u).rec_ = u.rec_ := by
    split
    · rw [raiseKeep_rec_]
    · rfl
  unfold doMapDirectoryLoaded
  rw [if_neg (by simp [mode, first, loaded, trained])]
  simp only [kind]
  simp only [Nat.reduceEqDiff, if_false, if_true, decide_false, ne_eq, not_true, Bool.false_and, Bool.false_eq_true, when_false]
  rw [plates, post_rec_, idle]
  refine (replayed _ ?_).trans rfl
  exact calm
/-- The dump's pages become dirty once it is indexed. -/
theorem doDumpIndexed_of_pages {d : Dump} (dump : s.rec_.dump = some d) (loaded : s.rec_.dirLoaded = true) (first : s.rec_.indexed = false)
    (lines : d.lines = []) (merges : d.merges = []) (good : ∀ p ∈ d.pages, p.2.1 = false) :
    let t := doDumpIndexed s
    t.rec_.indexed = true ∧ t.fix.dirty = d.pages.map (fun p => ⟨p.1, false, false, false, false, false, []⟩) ∧ t.rec_.unrestored = s.rec_.unrestored := by
  have sound : d.pages.filter (·.2.1) = [] := List.filter_eq_nil_iff.mpr (fun p hp => by simp [good p hp])
  have returned (b : Bool) (f : RecSide → RecSide) : (if b then updRmq f s else s).rec_ = s.rec_ ∧ (if b then updRmq f s else s).fix = s.fix := by
    cases b
    · exact ⟨rfl, rfl⟩
    · exact ⟨rfl, rfl⟩
  intro t
  have end_ : ∃ (b : Bool) (f : RecSide → RecSide), t = recallStep (replaySeal d (updRecall (fun r => { r with indexed := true, unrestored := r.unrestored.filter (fun t => !([] : List Nat).contains t) })
      (updFix (fun f => { f with dirty := d.pages.map (fun p => ⟨p.1, false, false, false, false, false, []⟩) }) (if b then updRmq f s else s)))) := by
    simp only [t, doDumpIndexed, dump, loaded, first, lines, merges, sound, each, List.foldl_nil, List.map_nil, Bool.not_true, Bool.or_self,
      Bool.false_eq_true, if_false]
    exact ⟨_, _, rfl⟩
  obtain ⟨b, f, eq⟩ := end_
  obtain ⟨rec_, fix⟩ := recallStep_kept (replaySeal d (updRecall (fun r => { r with indexed := true, unrestored := r.unrestored.filter (fun t => !([] : List Nat).contains t) })
      (updFix (fun f => { f with dirty := d.pages.map (fun p => ⟨p.1, false, false, false, false, false, []⟩) }) (if b then updRmq f s else s))))
  rw [← eq] at rec_ fix
  refine ⟨(congrArg RecallSide.indexed rec_).trans rfl, (congrArg FixSide.dirty fix).trans rfl, (congrArg RecallSide.unrestored rec_).trans ?_⟩
  have kept : s.rec_.unrestored.filter (fun t => !([] : List Nat).contains t) = s.rec_.unrestored := List.filter_eq_self.mpr (fun _ _ => rfl)
  refine Eq.trans ?_ kept
  show List.filter _ (if b then updRmq f s else s).rec_.unrestored = _
  rw [(returned b f).1]

/-! ## Restoring pages and reading orders (R340–R344, R352, R353) -/

section
variable {tpn : Nat}
/-- What Recall holds once a page counts as restored. -/
def withoutPage (tpn : Nat) (r : RecallSide) : RecallSide :=
  { r with unrestored := dropSet r.unrestored tpn, demand := dropSet r.demand tpn, readahead := dropSet r.readahead tpn,
           segLeft := dropSet r.segLeft (2 * (tpn / 65536)), segAsked := dropSet r.segAsked (2 * (tpn / 65536)) }
/-- A page that counts as restored waits no longer. -/
theorem markRestored_gone (tpn : Nat) (s : State) : tpn ∉ (markRestored tpn s).rec_.unrestored ∧ tpn ∉ (markRestored tpn s).rec_.demand := by
  obtain ⟨kept, -⟩ := recallStep_kept (updRecall (withoutPage tpn) s)
  have left : (markRestored tpn s).rec_.unrestored = dropSet s.rec_.unrestored tpn := congrArg RecallSide.unrestored kept
  have asked : (markRestored tpn s).rec_.demand = dropSet s.rec_.demand tpn := congrArg RecallSide.demand kept
  rw [left, asked, dropSet, dropSet]
  simp
/-- Alone, and with no dump held, a restore that ends counts the page as restored whether or not its source was readable. -/
theorem restorePage_of_alone {readable : Bool} (dump : s.rec_.dump = none) (alone : pairWorks s = false) :
    ∃ u, restorePage tpn readable s = markRestored tpn u ∧ u.cp = s.cp := by
  have poison : ∃ u, restorePoison tpn s = markRestored tpn u ∧ u.cp = s.cp := by
    refine ⟨_, rfl, ?_⟩
    rw [markBlock_cp, bump_cp, poisonPage_cp]
  have failed : restoreFailed tpn s = restorePoison tpn s := by
    unfold restoreFailed
    rw [if_neg (by simp [alone])]
  have back (m : Mem) : ∃ u, markRestored tpn (countRestore tpn (fillFrame tpn m s)) = markRestored tpn u ∧ u.cp = s.cp := by
    refine ⟨_, rfl, ?_⟩
    rw [countRestore_cp, fillFrame_cp]
  simp only [restorePage, dump, Option.bind_none, failed]
  split
  · exact back _
  · split
    · split
      · exact back _
      · exact poison
    · exact poison
/-- A page restored on demand no longer waits. -/
theorem doRestorePageDone_of_demanded {readable : Bool} (loaded : s.rec_.dirLoaded = true) (dump : s.rec_.dump = none)
    (waits : tpn ∈ s.rec_.unrestored) (demanded : tpn ∈ s.rec_.demand) (free : s.cp.fetches = []) (alone : pairWorks s = false)
    (twin : s.cp.twin ≠ .resync) :
    tpn ∉ (doRestorePageDone tpn readable s).rec_.unrestored ∧ tpn ∉ (doRestorePageDone tpn readable s).rec_.demand := by
  have dump' : (readAhead tpn s).rec_.dump = none := by
    unfold readAhead
    dsimp only
    generalize (_ && _ : Bool) = b
    cases b
    · exact dump
    · exact dump
  obtain ⟨u, page, cp⟩ := restorePage_of_alone (tpn := tpn) (readable := readable) dump' ((pairWorks_of_cp (readAhead_cp tpn s)).trans alone)
  have end_ : doRestorePageDone tpn readable s = markRestored tpn u := by
    unfold doRestorePageDone
    rw [if_neg (by simp [loaded, dump, waits, demanded, free])]
    simp only [List.contains_iff_mem.mpr demanded, when_true, page]
    exact targetStep_of_noResync (by rw [markRestored_cp, cp, readAhead_cp]; exact twin)
  rw [end_]
  exact markRestored_gone tpn u
end
/-- Restore orders of no region are read. -/
theorem doRestoreOrdersRead_of_none (loaded : s.rec_.dirLoaded = true) (first : s.rec_.ordersRead = false) (dump : s.rec_.dump = none)
    (none_ : restoreSlots s = []) (writes : s.rec_.writes = []) :
    let t := doRestoreOrdersRead s
    t.rec_.ordersRead = true ∧ t.rec_.orders = [] ∧ t.rec_.slots = [] := by
  have read : readOrders s = ⟨[], [], [], [], 0⟩ := by
    unfold readOrders
    rw [none_]
    rfl
  intro t
  let u := bumpBy 0x701907 0 (dset 0x360006 0 (dset 0x360009 0
    (updRecall (fun r => { r with ordersRead := true, orders := [], slots := [], writes := r.writes ++ [] }) s)))
  have kept : restoring (recallStep u).rec_ = restoring { s.rec_ with ordersRead := true, orders := [], slots := [], writes := s.rec_.writes ++ [] } :=
    (recallStep_kept u).1.trans (congrArg restoring (by rw [bumpBy_rec_, dset_rec_, dset_rec_, updRecall_rec_]))
  have idle : (recallStep u).rec_.writes = [] := (congrArg RecallSide.writes kept).trans (by rw [writes]; rfl)
  have end_ : t = recallStep u := by
    refine Eq.trans ?_ (startWrite_of_none idle)
    simp only [t, doRestoreOrdersRead, loaded, first, dump, none_, List.flatMap_nil, List.filter_nil, each, List.foldl_nil, read,
      Option.isSome_none, Bool.false_and, Bool.not_true, Bool.or_self, Bool.false_eq_true, if_false, List.eraseDups_nil, List.length_nil,
      Nat.zero_div, List.map_nil, u]
  rw [end_]
  exact ⟨congrArg RecallSide.ordersRead kept, congrArg RecallSide.orders kept, congrArg RecallSide.slots kept⟩

/-! ## Orphans and traces (R339, R349, R350) -/

/-- The headers of an open group that holds valid units are read, and the group is closed. -/
theorem doOrphanReclaim_of_valid {channel : Fin 40} {die : Fin 16} {group n : Nat} (hn : n = dieNo channel die) (serving : s.rec_.serving = true)
    (known : (n, group) ∈ s.rec_.opened) (opened : (groupOf s n group).st = .opened) (valid : validUnits s channel die group ≠ [])
    (mode : s.md.mode ≠ .keep) : let t := doOrphanReclaim channel die group s
    (n, group) ∉ t.rec_.opened ∧ (groupOf t n group).st = .full := by
  subst hn
  intro t
  have held : (validUnits s channel die group).isEmpty = false := by
    rw [List.isEmpty_eq_false_iff]
    exact valid
  have shut (u : State) (h : (groupOf u (dieNo channel die) group).st = .full) : freeIfEmpty channel die group u = u := by
    unfold freeIfEmpty
    dsimp only
    rw [if_neg (by simp [h])]
  have end_ : ∃ orphans : Nat, t = mediaStep (setGroup (dieNo channel die) group (fun g => { g with st := if g.st = .opened then .full else g.st })
      (bumpBy 0x701607 orphans (updRecall (fun r => { r with opened := r.opened.filter (· ≠ (dieNo channel die, group)) }) s))) := by
    simp only [t, doOrphanReclaim]
    rw [if_neg (by simp [serving, known]), held]
    simp only [Bool.false_eq_true, if_false]
    rw [shut]
    · exact ⟨_, rfl⟩
    · rw [groupOf_setGroup]
      exact if_pos opened
  obtain ⟨orphans, eq⟩ := end_
  obtain ⟨-, per, -⟩ := mediaStep_kept (s := setGroup (dieNo channel die) group (fun g => { g with st := if g.st = .opened then .full else g.st })
      (bumpBy 0x701607 orphans (updRecall (fun r => { r with opened := r.opened.filter (· ≠ (dieNo channel die, group)) }) s))) mode
  rw [eq]
  refine ⟨?_, ?_⟩
  · rw [mediaStep_rec_, setGroup_rec_, bumpBy_rec_, updRecall_rec_]
    simp
  · rw [groupOf_of_groups (s := setGroup _ _ _ _) (congrArg (fun p => p.live.groups) per), groupOf_setGroup]
    exact if_pos opened
/-- A trace that ends is written; while Keep is being entered its writes wait. -/
theorem doTraceWindowEnd_of_entering {host region n : Nat} {x : Trace} (traces : s.rec_.traces = [x]) (own : x.host = host) (some_ : x.extents ≠ [])
    (slot : s.rec_.slots = [(host, region, n)]) (entering : s.md.entering = true) :
    ∃ l : List (Nat × Nat × Bytes), l.length = 4 ∧ doTraceWindowEnd host s = bump 0x701906 (updRecall (fun r =>
      { r with traces := r.traces.map (fun y => if y.host = host then { y with ended := true, extents := [] } else y), writes := r.writes ++ l }) s) := by
  have waits (u : State) (h : u.md.entering = true) : startWrite u = u := by
    unfold startWrite
    split
    · rfl
    · exact if_pos (by simp [h])
  have trace : s.rec_.traces.find? (fun t => t.host = host) = some x := by
    rw [traces]
    exact List.find?_cons_of_pos (decide_eq_true own)
  have place : s.rec_.slots.find? (fun p => p.1 = host) = some (host, region, n) := by
    rw [slot]
    exact List.find?_cons_of_pos (decide_eq_true rfl)
  have full : x.extents.isEmpty = false := by
    rw [List.isEmpty_eq_false_iff]
    exact some_
  simp only [doTraceWindowEnd, trace, place, full, Bool.false_eq_true, if_false]
  rw [waits]
  · exact ⟨_, rfl, rfl⟩
  · exact entering
end

end Sys2Proof.Machine
end

section
namespace Sys2Proof.Machine

/-! ## The serving instant and first format (R332) -/

section
variable {s : State}
/-- The end of a pass over nothing keeps what Recall restores, and no tick that waited begins another. -/
theorem passEnd_kept (s : State) : restoring (passEnd s).rec_ = restoring s.rec_ ∧ (passEnd s).fix.tickWait = s.fix.tickWait ∧
    (passEnd s).cp = s.cp := by
  let ended := bump 0x340008 (updFix (fun f => { f with passRunning := false }) s)
  have after : restoring (recallStep (closePassGroups (updRecall (fun r => { r with passAfter := true }) ended))).rec_ = restoring s.rec_ ∧
      (recallStep (closePassGroups (updRecall (fun r => { r with passAfter := true }) ended))).fix.tickWait = s.fix.tickWait ∧
      (recallStep (closePassGroups (updRecall (fun r => { r with passAfter := true }) ended))).cp = s.cp := by
    obtain ⟨rec_, fix⟩ := recallStep_kept (closePassGroups (updRecall (fun r => { r with passAfter := true }) ended))
    rw [closePassGroups_rec_] at rec_
    rw [closePassGroups_fix] at fix
    refine ⟨rec_, (congrArg FixSide.tickWait fix :), ?_⟩
    rw [recallStep_cp, closePassGroups_cp]
    rfl
  unfold passEnd
  dsimp only
  split
  · exact after
  · exact ⟨rfl, rfl, rfl⟩
/-- A journal interval with nothing dirty keeps what Recall restores. -/
theorem doJournalTick_of_clean (clean : s.fix.dirty = []) (idle : s.fix.passRunning = false) (twin : s.cp.twin ≠ .resync) :
    restoring (doJournalTick s).rec_ = restoring s.rec_ := by
  let begun := updFix (fun f => { f with passRunning := true, tickWait := false, pass := [] }) s
  have empty : beginPass s = begun := by
    simp only [beginPass, clean, List.filter_nil, List.map_nil, each, List.foldl_nil, startImages, updFix_fix]
    rfl
  obtain ⟨rec_, wait, cp⟩ := passEnd_kept begun
  have step : restoring (passStep begun).rec_ = restoring s.rec_ := by
    have ended : (passEnd begun).fix.tickWait = false := wait
    have cp' : (recallStep (passEnd begun)).cp = s.cp := by
      rw [recallStep_cp, cp]
      rfl
    unfold passStep
    rw [if_pos (show (begun.fix.passRunning && begun.fix.pass.isEmpty) = true from rfl)]
    dsimp only
    rw [ended, if_neg (by decide), targetStep_of_noResync (by rw [cp']; exact twin), (recallStep_kept _).1, rec_]
    rfl
  unfold doJournalTick
  split
  · rfl
  · rw [idle, if_neg (by decide), empty, step]
/-- Admission opens where there is nothing to drop, to settle, to release or to write. -/
theorem openAdmission_of_quiet (snaps : (live s).snaps = []) (present : s.rst.twinPresent = true) (kind : s.rec_.kind ≠ 2) (causes : s.md.causes = 0)
    (clean : s.fix.dirty = []) (idle : s.fix.passRunning = false) (twin : s.cp.twin ≠ .resync) (writes : s.rec_.writes = []) :
    restoring (openAdmission s).rec_ = restoring { s.rec_ with serving := true } := by
  let serving := updRecall (fun r => { r with serving := true }) s
  have ticked : restoring (doJournalTick serving).rec_ = restoring { s.rec_ with serving := true } := doJournalTick_of_clean (s := serving) clean idle twin
  have kept : restoring (recallStep (doJournalTick serving)).rec_ = restoring { s.rec_ with serving := true } := (recallStep_kept _).1.trans ticked
  have none_ : (recallStep (doJournalTick serving)).rec_.writes = [] := (congrArg RecallSide.writes kept).trans writes
  have end_ : openAdmission s = recallStep (doJournalTick serving) := by
    refine Eq.trans ?_ (startWrite_of_none none_)
    simp only [openAdmission, snaps, present, kind, causes, each, List.filter_nil, List.map_nil, List.foldl_nil, if_true, updRecall_rec_, updRecall_md,
      decide_false, Bool.false_and, Bool.false_eq_true, ne_eq, not_true, if_false, serving]
  rw [end_, kept]
end

/-- Settles O51. -/
theorem recallCommands : Obligations.RecallCommands := by
  unfold Obligations.RecallCommands
  refine ⟨?_, ?_, ?_, ?_, ?_, ?_, ?_, ?_, ?_, ?_⟩
  · intro rebuilt s mode first loaded trained blank
    refine completes_of_eq rfl (show _ = updRecall (fun r => { r with kind := 4, phase := .preparing, stage := 0 }) s from ?_) ⟨rfl, rfl, first⟩
    have kind : startKind rebuilt s = 4 := by
      unfold startKind
      rw [if_pos (by simp [blank])]
    unfold doMapDirectoryLoaded
    rw [if_neg (by simp [mode, first, loaded, trained])]
    simp only [kind, if_true]
  · intro rebuilt s mode first loaded trained formatted warm calm
    refine completes_of_next rfl ?_
    rw [doMapDirectoryLoaded_of_warm mode first loaded trained formatted warm calm]
    exact ⟨rfl, rfl, rfl, rfl⟩
  · intro segment s loaded left
    have dropped : (doSegmentLoadDone segment s).rec_ =
        { s.rec_ with segLeft := dropSet s.rec_.segLeft segment, segAsked := dropSet s.rec_.segAsked segment } := by
      unfold doSegmentLoadDone
      rw [if_neg (by simp [loaded, left])]
      exact when_keeps (g := (·.rec_)) _ (bump_rec_ ..)
    refine completes_of_next rfl ?_
    rw [dropped]
    simp [dropSet]
  · intro d s dump loaded first lines merges good
    exact completes_of_next rfl (doDumpIndexed_of_pages dump loaded first lines merges good)
  · intro s loaded first dump none_ writes
    exact completes_of_next rfl (doRestoreOrdersRead_of_none loaded first dump none_ writes)
  · intro tpn readable s loaded dump waits demanded free alone twin
    exact completes_of_next rfl (doRestorePageDone_of_demanded loaded dump waits demanded free alone twin)
  · intro channel die group n s hn serving known opened valid mode
    exact completes_of_next rfl (doOrphanReclaim_of_valid hn serving known opened valid mode)
  · intro host region n x s traces own some_ slot entering
    obtain ⟨l, four, eq⟩ := doTraceWindowEnd_of_entering traces own some_ slot entering
    refine completes_of_eq rfl eq ⟨?_, ?_, dget_bump_self ..⟩
    · rw [bump_rec_, updRecall_rec_, traces, List.map_cons, List.map_nil, if_pos own]
    · rw [bump_rec_, updRecall_rec_, List.length_append, four]
  · intro s mode first loaded dump kind writes repair snaps present causes clean idle twin
    refine completes_of_eq rfl (show _ = openAdmission s from ?_) ?_
    · unfold doServingInstant
      rw [if_neg (by simp [mode, first, loaded, dump, repair])]
    · exact congrArg RecallSide.serving (openAdmission_of_quiet snaps present kind causes clean idle twin writes)
  · intro s mode blank kind loaded writes present causes clean idle twin
    let ready : RecallSide := { s.rec_ with
      formatted := true, dirLoaded := true, indexed := true, ordersRead := true, stage := 9, unrestored := [], segLeft := [], opened := [], dump := none }
    obtain ⟨u, eq, snaps, rec_, twin', fix, present', causes', key⟩ : ∃ u, doFirstFormatDone s = openAdmission u ∧ (live u).snaps = [] ∧ u.rec_ = ready ∧
        u.cp = s.cp ∧ u.fix = { s.fix with plates := [.ready, .ready], ready := 0, sealed := none } ∧ u.rst = s.rst ∧ u.md = s.md ∧
        (keySlotOf u 1).st = .loaded := by
      unfold doFirstFormatDone
      rw [if_neg (by simp [mode, blank, kind, loaded])]
      refine ⟨_, rfl, rfl, rfl, rfl, rfl, rfl, rfl, ?_⟩
      exact congrArg KeySlot.st (keySlotOf_setKeySlot ..)
    have open_ := openAdmission_of_quiet snaps (by rw [present', present]) (by rw [rec_]; simp [ready, kind]) (by rw [causes', causes])
      (by rw [fix]; exact clean) (by rw [fix]; exact idle) (by rw [twin']; exact twin) (by rw [rec_]; exact writes)
    rw [← eq, rec_] at open_
    have keys : (doFirstFormatDone s).keys = u.keys := by rw [eq, openAdmission_keys]
    refine completes_of_next rfl ⟨congrArg RecallSide.formatted open_, congrArg RecallSide.serving open_, congrArg RecallSide.unrestored open_, ?_⟩
    unfold keySlotOf at key ⊢
    rw [keys, key]

end Sys2Proof.Machine
end

section
namespace Sys2Proof.Machine

/-! ## The State command engine (R371) -/

/-- The state at which a State command runs once it is taken: its status is 0xff. -/
def stateRun (code : Nat) (b : StateBlock) (s : State) : State := dset 0x371002 255 (updSnap (fun x => { x with run := some (code, b) }) s)
/-- The block written is kept, and its writer answered. -/
def stateTaken (code : Nat) (b : StateBlock) (s : State) : State := keepBlock 0x371001 (stateBlockValue code b) (dictDone 0x3710 1 s)
section
variable {code : Nat} {b : StateBlock} {s : State}
/-- A block that is taken runs its command at once. -/
theorem stateCommand_of_takesState (h : TakesState code b s) : stateCommand code b s = stateTaken code b (startState code b (stateRun code b s)) := by
  obtain ⟨serves, window, reserved, idle, status, alone, -⟩ := h
  unfold stateCommand
  rw [dictGuard_of_serves serves _ _ (fun _ => window)]
  simp only [reserved, idle, status, alone, ne_eq, not_true, if_false, Bool.not_false, if_true]
  rfl
theorem stateTaken_per (code : Nat) (b : StateBlock) (s : State) : (stateTaken code b s).per = s.per := (keepBlock_per ..).trans (dictDone_per ..)
theorem stateTaken_snap (code : Nat) (b : StateBlock) (s : State) : (stateTaken code b s).snap = s.snap := (keepBlock_snap ..).trans (dictDone_snap ..)
theorem dget_stateTaken {k : Nat} (h : k = 0x371002 ∨ k = 0x371003) (code : Nat) (b : StateBlock) (s : State) :
    dget (stateTaken code b s) k = dget s k := by
  unfold stateTaken keepBlock
  rw [dget_dset_ne _ _ _ _ (by omega), dget_dictDone_ne (by omega)]
/-- A command that ends without a claim reports. -/
theorem finishState_of_noClaim {result : Nat} (noClaim : s.eng.claimed = []) :
    finishState 0 result s = dset 0x371002 0 (dset 0x371003 result (updSnap (fun x => { x with run := none }) s)) := by
  simp [finishState, noClaim]
theorem stateReported_finishState {result : Nat} (noClaim : s.eng.claimed = []) : StateReported (finishState 0 result s) result := by
  rw [finishState_of_noClaim noClaim]
  exact ⟨dget_dset_self .., (dget_dset_ne _ _ _ _ (by decide)).trans (dget_dset_self ..)⟩
/-- A State command that runs through reports its result; what else it did stands. -/
theorem completes_of_finishState {c : Instr} {result : Nat} {u : State} {post : State → Prop} (h : TakesState code b s)
    (hc : exec c s = .next (stateCommand code b s)) (run : startState code b (stateRun code b s) = finishState 0 result u)
    (noClaim : u.eng.claimed = []) (hp : ∀ t, live t = live u → t.snap = { u.snap with run := none } → StateReported t result → post t) :
    Completes c s post := by
  obtain ⟨status, value⟩ := stateReported_finishState (result := result) noClaim
  refine completes_of_eq hc ((stateCommand_of_takesState h).trans (congrArg (stateTaken code b) run)) (hp _ ?_ ?_ ⟨?_, ?_⟩)
  · rw [live_of_per (stateTaken_per ..), live_of_per (finishState_per ..)]
  · rw [stateTaken_snap, finishState_of_noClaim noClaim, dset_snap, dset_snap, updSnap_snap]
  · rw [dget_stateTaken (.inl rfl), status]
  · rw [dget_stateTaken (.inr rfl), value]
/-- The capacity of the tiers is what it was before the command began. -/
theorem tierFits_stateRun (tenant tier n : Nat) : tierFits (stateRun code b s) tenant tier n = tierFits s tenant tier n := by
  have full : mediaFull (stateRun code b s) = mediaFull s := congrArg (fun v => decide (v = 1)) (dget_dset_ne _ _ _ _ (by decide))
  have free : nandFree (stateRun code b s) = nandFree s := by
    unfold nandFree
    rw [full]
    rfl
  unfold tierFits
  rw [free]
  rfl

/-! ## Deletion, clones and retention (R369, R371, R372) -/

/-- The only State is deleted. -/
theorem deleteSnap_of_only {n : Snap} (only : (live s).snaps = [n]) : (live (deleteSnap n.number s)).snaps = [] := by
  have found : (live s).snaps.find? (fun m => m.number = n.number) = some n := by
    rw [only]
    exact List.find?_cons_of_pos (decide_eq_true rfl)
  have gone : (live s).snaps.filter (fun m => m.number ≠ n.number) = [] := by
    rw [only]
    exact List.filter_cons_of_neg (by simp)
  have passed (l : List StateEntry) (u : State) : ∀ older : List Snap, older = [] → (live (each l (fun e a => match heir older e with
      | some m => modSnap m (fun x => { x with entries := x.entries ++ [e] }) a
      | none => chargeEntry e false a) u)).snaps = (live u).snaps := by
    rintro older rfl
    exact each_keeps (g := fun a => (live a).snaps) (fun e a => chargeEntry_snaps e false a) l u
  have older : ((live s).snaps.dropWhile (fun m => m.number ≠ n.number)).drop 1 = [] := by
    rw [only, List.dropWhile_cons_of_neg (by simp)]
    rfl
  unfold deleteSnap
  simp only [found]
  exact (passed n.entries _ _ older).trans gone
/-- A new region of a table element changes the regions only. -/
theorem applyElem_region_snap {slot id owner tenant pages base dram nand : Nat} (free : findRegion s id = none) :
    (applyElem (.region slot id 1 owner tenant pages base dram nand) s).snap = s.snap := by
  have new : findRegion (countTable s) id = none := (findRegion_of_regions (countTable_regions ..) id).trans free
  simp only [applyElem, isTable, when_true, new]
  rw [if_neg (by decide), homePages_snap, addRegion_snap, countTable_snap]

/-- A CLONE under way, the places of its region drawn. -/
def cloning (run : CloneRun) (s : State) : State := updSnap (fun x => { x with clone := some run }) (draw (draw s))
theorem cloning_eng (run : CloneRun) (s : State) : (cloning run s).eng = s.eng := rfl
theorem cloning_cp (run : CloneRun) (s : State) : (cloning run s).cp = s.cp := rfl
theorem cloning_per (run : CloneRun) (s : State) : (cloning run s).per = s.per := rfl
theorem stateRun_eng (code : Nat) (b : StateBlock) (s : State) : (stateRun code b s).eng = s.eng := rfl
theorem stateRun_cp (code : Nat) (b : StateBlock) (s : State) : (stateRun code b s).cp = s.cp := rfl
theorem stateRun_per (code : Nat) (b : StateBlock) (s : State) : (stateRun code b s).per = s.per := rfl
theorem pairWorks_of_takesState (h : TakesState code b s) : pairWorks s = false := h.2.2.2.2.2.1
theorem noClaim_of_takesState (h : TakesState code b s) : s.eng.claimed = [] := h.2.2.2.2.2.2
/-- CLONE makes a region that reads as the State's and reports its base. -/
theorem completes_clone {n : Snap} {pages slot base rs : Nat} {r : Region} (h : TakesState 3 b s) (only : (live s).snaps = [n]) (number : n.number = b.stateNo)
    (phase : n.phase = .fixed) (scope : n.scope.find? (fun p => p.1 = b.region) = some (b.region, pages)) (free : findRegion s b.newRegion = none)
    (found : findRegion s b.region = some (rs, r)) (enabled : (tenantOf s r.tenant).enable = true)
    (room : tenantRegions s r.tenant < (tenantOf s r.tenant).maxRegions) (fits : tierFits s r.tenant b.tier pages = true)
    (hslot : findSlot s = some slot) (hbase : findBase s pages = some base) : Completes (.clone b) s (fun t =>
      findRegion t b.newRegion = some (slot, ⟨b.newRegion, .active, b.owner, r.tenant, pages, base⟩) ∧
      t.snap.clone = some ⟨n.number, b.region, b.newRegion, span base 0 pages, []⟩ ∧ StateReported t base) := by
  let work : CloneRun := ⟨n.number, b.region, b.newRegion, span base 0 pages, []⟩
  have found1 : (live (stateRun 3 b s)).snaps.find? (fun x => x.number = b.stateNo) = some n := by
    rw [live_of_per (stateRun_per ..), only]
    exact List.find?_cons_of_pos (decide_eq_true number)
  have free1 : findRegion (stateRun 3 b s) b.newRegion = none := (findRegion_of_regions (congrArg (·.live.regions) (stateRun_per ..)) _).trans free
  have free2 : findRegion (cloning work (stateRun 3 b s)) b.newRegion = none := (findRegion_of_regions (congrArg (·.live.regions) (cloning_per ..)) _).trans free1
  have run : startState 3 b (stateRun 3 b s) = finishState 0 base (applyElem (.region slot b.newRegion 1 b.owner r.tenant pages base
      (if b.tier = 0 then pages else 0) (if b.tier = 0 then 0 else pages)) (cloning work (stateRun 3 b s))) := by
    have found' : findRegion (stateRun 3 b s) b.region = some (rs, r) := found
    have enabled' : (tenantOf (stateRun 3 b s) r.tenant).enable = true := enabled
    have room' : ¬ tenantRegions (stateRun 3 b s) r.tenant ≥ (tenantOf (stateRun 3 b s) r.tenant).maxRegions := Nat.not_le.mpr room
    have fits' : tierFits (stateRun 3 b s) r.tenant b.tier pages = true := (tierFits_stateRun ..).trans fits
    have slot' : findSlot (stateRun 3 b s) = some slot := hslot
    have base' : findBase (stateRun 3 b s) pages = some base := hbase
    have alone : pairWorks (cloning work (stateRun 3 b s)) = false := by
      rw [pairWorks_of_cp (cloning_cp ..), pairWorks_of_cp (stateRun_cp ..), pairWorks_of_takesState h]
    simp only [startState, runClone, found1, scope, free1, found', enabled', room', fits', phase, slot', base', Bool.not_true, decide_false, Bool.or_self,
      Bool.false_eq_true, if_false, ne_eq, not_true]
    exact if_neg (ne_true_of_eq_false alone)
  refine completes_of_finishState h rfl run ?_ fun t tables snap reported => ⟨?_, ?_, reported⟩
  · rw [applyElem_eng, cloning_eng, stateRun_eng, noClaim_of_takesState h]
  · rw [findRegion, tables, applyElem_region_new free2, live_of_per (cloning_per ..), live_of_per (stateRun_per ..)]
    exact find_tput_of_none (p := fun p : Nat × Region => decide (p.2.id = b.newRegion)) free (by simp)
  · rw [snap, applyElem_region_snap free2]
    rfl

/-! ## The cut's steps (R359) -/

/-- A State that stands still stands when a change keeps its number. -/
theorem modSnap_stands {number : Nat} {f : Snap → Snap} (hf : ∀ n, (f n).number = n.number)
    (stands : (live s).snaps.any (fun n => n.number = number) = true) : (live (modSnap number f s)).snaps.any (fun n => n.number = number) = true := by
  have kept : ∀ l : List Snap, l.any (fun n => n.number = number) = true →
      (modFirst (fun n => n.number = number) f l).any (fun n => n.number = number) = true := by
    intro l
    induction l with
    | nil => exact id
    | cons n l ih =>
      intro h
      unfold modFirst
      split
      · next here =>
        rw [List.any_cons, hf, here]
        rfl
      · next other =>
        rw [List.any_cons, eq_false_of_ne_true other, Bool.false_or] at h ⊢
        exact ih h
  exact kept _ stands
/-- Once the slices take a point, the State of the cut stands, and what the coordinator holds is as before. -/
theorem takePoint_snaps {c : Cut} (own : Bool) (cut : s.snap.cut = some c) : (live (takePoint own s)).snaps.any (fun n => n.number = c.number) = true := by
  have stands : ∀ x : Snap, x.number = c.number → (live (if (live s).snaps.any (fun n => n.number = c.number) then s else
      updLive (fun t => { t with snaps := x :: t.snaps }) s)).snaps.any (fun n => n.number = c.number) = true := by
    intro x number
    split
    · assumption
    · exact (List.any_cons ..).trans (by simp [number])
  unfold takePoint
  simp only [cut]
  generalize hu : (if (live s).snaps.any (fun n => n.number = c.number) = true then s else updLive _ s : State) = u
  refine modSnap_stands (fun _ => rfl) ?_
  show (live u).snaps.any _ = true
  rw [← hu]
  exact stands _ rfl
theorem releaseHeld_snap (s : State) : (releaseHeld s).snap = { s.snap with cut := none, heldOut := [] } := by
  unfold releaseHeld
  dsimp only
  have sent : ∀ (l : List Out) (u : State), u.snap.cut = none → (each l toHost u).snap = u.snap := by
    intro l
    induction l with
    | nil => exact fun _ _ => rfl
    | cons o l ih =>
      intro u noCut
      have one : (toHost o u).snap = u.snap := by
        unfold toHost
        split
        · rfl
        · rw [noCut]
          exact emitFrame_snap ..
      rw [each, List.foldl_cons]
      exact (ih _ (by rw [one, noCut])).trans one
  rw [sent _ _ rfl, updSnap_snap]
theorem dget_toHost {k : Nat} (hk : k < 0x710000) (o : Out) (s : State) : dget (toHost o s) k = dget s k := by
  have sent : dget (emitFrame o s) k = dget s k := by
    unfold emitFrame
    split
    · exact (dget_bumpBy_ne _ _ _ _ (by omega)).trans (dget_bump_ne _ _ _ (by omega))
    · rfl
  unfold toHost
  split
  · rfl
  · split
    · split
      · rfl
      · exact sent
    · exact sent
theorem dget_releaseHeld {k : Nat} (hk : k < 0x710000) (s : State) : dget (releaseHeld s) k = dget s k :=
  each_keeps (g := fun u => dget u k) (fun o a => dget_toHost hk o a) _ _
/-- The points reported end a cut of one's own that no twin holds back. -/
theorem doCutPointsReported_of_last {c : Cut} {ns : Nat} (cut : s.snap.cut = some c) (step : c.step = 3) (own : c.own = true)
    (twin : c.twinDone = true) (noClaim : s.eng.claimed = []) : let t := doCutPointsReported ns s
    t.snap.cut = none ∧ t.snap.heldOut = [] ∧ (live t).lastState = c.number ∧ StateReported t c.number ∧ dget t 0x370005 = ns % 2 ^ 32 := by
  intro t
  obtain ⟨u, v, eq, held, tables, dict, eng⟩ : ∃ u v, t = finishState 0 c.number (bump 0x701a01 (releaseHeld u)) ∧
      u.snap = { s.snap with cut := some { c with step := 4 } } ∧ (live u).lastState = c.number ∧ u.dict = (dset 0x370005 (ns % 2 ^ 32) v).dict ∧ u.eng = s.eng := by
    simp only [t, doCutPointsReported, cut, step, own, twin, releaseCut, dset_snap, updSnap_snap, if_true, Bool.not_true, Bool.false_eq_true, if_false,
      ne_eq, not_true]
    exact ⟨_, _, rfl, rfl, rfl, rfl, rfl⟩
  have free : (bump 0x701a01 (releaseHeld u)).eng.claimed = [] := by
    rw [bump_eng, releaseHeld_eng, eng, noClaim]
  have snap : t.snap = { s.snap with cut := none, heldOut := [], run := none } := by
    rw [eq, finishState_of_noClaim free, dset_snap, dset_snap, updSnap_snap, bump_snap, releaseHeld_snap, held]
  refine ⟨congrArg SnapSide.cut snap, congrArg SnapSide.heldOut snap, ?_, ?_, ?_⟩
  · rw [eq, live_of_per (finishState_per ..), live_of_per (bump_per ..), live_of_per (releaseHeld_per ..), tables]
  · rw [eq]
    exact stateReported_finishState free
  · rw [eq, finishState_of_noClaim free, dget_dset_ne _ _ _ _ (by decide), dget_dset_ne _ _ _ _ (by decide), dget_of_dict (updSnap_dict ..),
      dget_bump_ne _ _ _ (by decide), dget_releaseHeld (by decide), dget_of_dict dict, dget_dset_self]

/-! ## Captures (R366) -/

theorem programImage_snap {tpn : Nat} {data : Mem} {e : ImageEntry} {t : State} (h : programImage tpn data s = some (e, t)) : t.snap = s.snap :=
  (sameBut_of_outside (outside_programImage (mm := { per := true, nand := true, dict := true, freeCtr := true, fmap := true, groups := true, media := true })
    h rfl rfl rfl rfl rfl rfl rfl)).snap rfl
/-- A capture that is programmed leaves the coordinator. -/
theorem doStateCaptureDone_caps {c : Cap} (only : s.snap.caps = [c]) (programmed : (programImage c.tpn c.data s).isSome = true) :
    (doStateCaptureDone c.number c.tpn true s).snap.caps = [] := by
  obtain ⟨⟨e, u⟩, image⟩ := Option.isSome_iff_exists.mp programmed
  have found : s.snap.caps.find? (fun x => x.number = c.number ∧ x.tpn = c.tpn) = some c := by
    rw [only]
    exact List.find?_cons_of_pos (by simp)
  have gone : u.snap.caps.filter (fun y => !(decide (y.number = c.number) && decide (y.tpn = c.tpn))) = [] := by
    rw [programImage_snap image, only]
    exact List.filter_cons_of_neg (by simp)
  have indexed (b d : Bool) (v : State) : (if b then v else if d then setImage c.tpn e v else recordImage c.tpn e v).snap = v.snap := by
    cases b
    · cases d
      · exact recordImage_snap ..
      · exact setImage_snap ..
    · rfl
  have entered (b : Bool) (x : StateEntry) (v : State) : (when_ b (addEntry c.number x) v).snap = v.snap := when_keeps (g := (·.snap)) b (addEntry_snap ..)
  simp only [doStateCaptureDone, found, image, Bool.not_true, Bool.false_eq_true, if_false]
  rw [bump_snap, settled1_snap, indexed, entered, updSnap_snap]
  exact gone
end

/-- Settles O52. -/
theorem stateCommands : Obligations.StateCommands := by
  unfold Obligations.StateCommands
  refine ⟨?_, ?_, ?_, ?_, ?_, ?_, ?_, ?_, ?_, ?_⟩
  · intro b s h noCut few room
    have alone : s.cp.twin ≠ .inSync := by
      intro sync
      have := h.2.2.2.2.2.1
      simp [pairWorks, sync] at this
    have room' : mediaFull (stateRun 1 b s) = false := (congrArg (fun v => decide (v = 1)) (dget_dset_ne _ _ _ _ (by decide))).trans room
    have run : startState 1 b (stateRun 1 b s) =
        updSnap (fun x => { x with cut := some ⟨nextNumber s, 2, true, b.all, b.tenant, b.retain, true, []⟩ }) (stateRun 1 b s) := by
      have noCut' : (stateRun 1 b s).snap.cut = none := noCut
      have few' : ¬ (live (stateRun 1 b s)).snaps.length ≥ 256 := Nat.not_le.mpr few
      have alone' : (stateRun 1 b s).cp.twin ≠ .inSync := alone
      simp only [startState, runCut, noCut', few', room', alone', Option.isSome_none, Bool.false_eq_true, if_false, ne_eq, not_false_eq_true, decide_true,
        decide_false, when_false]
      rfl
    refine completes_of_eq rfl ((stateCommand_of_takesState h).trans (congrArg (stateTaken 1 b) run)) ⟨?_, ?_⟩
    · rw [stateTaken_snap]
      rfl
    · rw [dget_stateTaken (.inl rfl)]
      exact dget_dset_self ..
  · intro b n s h only number phase
    have run : startState 2 b (stateRun 2 b s) = finishState 0 0 (deleteSnap n.number (stateRun 2 b s)) := by
      have only' : (live (stateRun 2 b s)).snaps = [n] := only
      simp only [startState]
      rw [only', if_pos (by simp [number, phase]), number]
    refine completes_of_finishState h rfl run (by rw [deleteSnap_eng]; exact h.2.2.2.2.2.2) fun t tables _ reported => ⟨?_, reported⟩
    rw [tables, deleteSnap_of_only (s := stateRun 2 b s) only]
  · intro b n pages slot base rs r s h only number phase scope free found enabled room fits hslot hbase
    exact completes_clone h only number phase scope free found enabled room fits hslot hbase
  · intro b n s h only number phase
    have run : startState 4 b (stateRun 4 b s) = finishState 0 0 (logRecs 1 (modSnap b.stateNo (fun n => { n with
        expires := if b.retain = 0 then 0 else (s.rtc + b.retain * 1000) % 2 ^ 32 }) (stateRun 4 b s))) := by
      have only' : (live (stateRun 4 b s)).snaps = [n] := only
      simp only [startState]
      rw [only', if_pos (by simp [number, phase])]
      rfl
    refine completes_of_finishState h rfl run h.2.2.2.2.2.2 fun t tables _ reported => ⟨?_, reported⟩
    have only' : (live (stateRun 4 b s)).snaps = [n] := only
    rw [tables]
    show modFirst _ _ (live (stateRun 4 b s)).snaps = _
    rw [only', modFirst, if_pos (decide_eq_true number)]
  · intro c s cut step twin
    have eq : doCutMarksReported s = takePoint false (takePoint true (updSnap (fun x => { x with cut := some { c with step := 3 } }) s)) := by
      simp only [doCutMarksReported, cut, step, takePoint_cp, updSnap_cp, twin, ne_eq, not_false_eq_true, not_true, decide_true, decide_false, when_true,
        when_false, if_false]
    have taken_ : (takePoint true (updSnap (fun x => { x with cut := some { c with step := 3 } }) s)).snap.cut = some { c with step := 3 } := by
      rw [takePoint_snap, updSnap_snap]
    refine completes_of_eq rfl eq ⟨?_, takePoint_snaps (c := { c with step := 3 }) false taken_⟩
    rw [takePoint_snap, taken_]
  · intro c ns s cut step own twin noClaim
    exact completes_of_next rfl (doCutPointsReported_of_last cut step own twin noClaim)
  · intro c s only programmed
    exact completes_of_next rfl (doStateCaptureDone_caps only programmed)
  · intro n tpn region page s found phase next present
    let u := updSnap (fun x => { x with caps := x.caps ++ [⟨n.number, tpn, region, page, (dirOf s tpn).tenant, inDram (dirOf s tpn), false, readPage s tpn⟩] }) s
    have eq : doStateSettle n.number s = if inDram (dirOf s tpn) then beginImage tpn u else u := by
      simp only [doStateSettle, found, phase, next, present, ne_eq, not_true, if_false, Bool.false_eq_true]
      rfl
    have snap (b : Bool) : (if b then beginImage tpn u else u).snap = u.snap := by
      cases b
      · rfl
      · exact beginImage_snap ..
    refine completes_of_eq rfl eq ?_
    rw [snap]
    rfl
  · intro n s only set_ reached phase
    have found : (live s).snaps.find? (fun m => m.number = n.number) = some n := by
      rw [only]
      exact List.find?_cons_of_pos (decide_eq_true rfl)
    refine completes_of_eq rfl (show _ = deleteSnap n.number s from ?_) (deleteSnap_of_only only)
    unfold doStateRetentionExpire
    rw [found]
    exact if_pos (by simp [set_, reached, phase])
  · intro c tpn slot r s clone asked todo target empty
    have rest : dropSet [tpn] tpn = [] := by simp [dropSet]
    refine completes_of_eq rfl (show _ = bump 0x701a05 (updSnap (fun x => { x with clone := none }) s) from ?_) ⟨rfl, dget_bump_self ..⟩
    simp only [doClonePageCopy, clone, asked, todo, List.nil_append, target, rest, List.isEmpty_nil, if_true, empty, Bool.not_true, Bool.false_and,
      Bool.false_eq_true, if_false]

end Sys2Proof.Machine
end

section
namespace Sys2Proof.Machine

/-! ## What frames leave of a half and of what the twin told -/

/-- A half but for its open frame and what it has acknowledged. -/
def carried (x : Half) : Half := { x with open_ := [], ackSent := 0, nakSent := false }
/-- What is known of the twin and of its epochs, and the session. -/
def heard (s : State) : CpSide := { s.cp with halves := [], txCount := 0, epoch := 0, nextEpoch := none, resync := {} }
section
variable {s : State}
theorem half_setHalf {β : Type} {g : Half → β} {f : Half → Half} (hf : ∀ x, g (f x) = g x) (half n : Nat) (s : State) :
    g (halfOf (setHalf half f s) n) = g (halfOf s n) := by
  by_cases h : n = half
  · subst h
    rw [halfOf_setHalf, hf]
  · rw [halfOf_setHalf_ne _ _ _ _ h]
theorem carried_sendOn (half : Nat) (r : CpRec) (op : Option Nat) (s : State) (n : Nat) :
    carried (halfOf (sendOn half r op s) n) = carried (halfOf s n) :=
  half_setHalf (g := carried) (f := fun h => { h with open_ := h.open_ ++ [⟨r, op⟩] }) (fun _ => rfl) half n s
theorem syncStep_kept (s : State) (n : Nat) : carried (halfOf (syncStep s) n) = carried (halfOf s n) ∧ heard (syncStep s) = heard s := by
  unfold syncStep
  dsimp only
  split
  · exact ⟨each_keeps (g := fun u => carried (halfOf u n)) (fun h a => carried_sendOn h _ _ a n) _ _,
      each_keeps (g := heard) (fun _ _ => by rfl) _ _⟩
  · exact ⟨rfl, rfl⟩
theorem resendFrames_kept (half : Nat) (s : State) (n : Nat) : halfOf (resendFrames half s) n = halfOf s n ∧ heard (resendFrames half s) = heard s := by
  unfold resendFrames
  split
  · exact ⟨rfl, rfl⟩
  · exact ⟨each_keeps (g := fun u => halfOf u n) (fun _ _ => by rfl) _ _, each_keeps (g := heard) (fun _ _ => by rfl) _ _⟩
/-- What an acknowledgement makes of the half it came on. -/
def ackedHalf (fsn : Nat) (x : Half) : Half := { x with sent := x.sent.filter (fun f => decide (f.fsn > fsn)), ackSeen := max x.ackSeen fsn }
theorem ackTo_kept (half fsn : Nat) (nak : Bool) (s : State) : carried (halfOf (ackTo half fsn nak s) half) = carried (ackedHalf fsn (halfOf s half)) ∧
    heard (ackTo half fsn nak s) = heard s := by
  have done : halfOf (setHalf half (ackedHalf fsn) s) half = ackedHalf fsn (halfOf s half) := halfOf_setHalf ..
  have told : heard (setHalf half (ackedHalf fsn) s) = heard s := rfl
  have switched : ∀ u : State, u = (match (setHalf half (ackedHalf fsn) s).cp.nextEpoch with
      | some e => updCp (fun c => { c with epoch := e, nextEpoch := none, txCount := 0 }) (setHalf half (ackedHalf fsn) s)
      | none => setHalf half (ackedHalf fsn) s) → halfOf u half = ackedHalf fsn (halfOf s half) ∧ heard u = heard s := by
    rintro u rfl
    split
    · exact ⟨done, told⟩
    · exact ⟨done, told⟩
  unfold ackTo
  dsimp only
  rw [(syncStep_kept _ half).1, (syncStep_kept _ half).2]
  cases nak
  · obtain ⟨h, t⟩ := switched _ rfl
    exact ⟨congrArg carried h, t⟩
  · rw [if_pos rfl, (resendFrames_kept half _ half).1, (resendFrames_kept half _ half).2]
    obtain ⟨h, t⟩ := switched _ rfl
    exact ⟨congrArg carried h, t⟩
theorem sendAck_kept (half : Nat) (nak : Bool) (s : State) (n : Nat) : carried (halfOf (sendAck half nak s) n) = carried (halfOf s n) ∧
    heard (sendAck half nak s) = heard s := by
  unfold sendAck
  dsimp only
  split
  · exact ⟨rfl, rfl⟩
  · exact ⟨half_setHalf (g := carried) (f := fun x => { x with ackSent := heldFsn (halfOf s half), nakSent := x.nakSent || nak })
      (fun _ => rfl) half n s, rfl⟩
theorem carried_reportHeld (half : Nat) (s : State) (n : Nat) : carried (halfOf (reportHeld half s) n) = carried (halfOf s n) := by
  unfold reportHeld
  split
  · exact (sendAck_kept ..).1
  · rfl
theorem halfLive_of_authentic {h : FrameHead} (ok : authentic s h = true) : halfLive s h.half.val = true := by
  unfold authentic at ok
  exact (Bool.and_eq_true_iff.mp ok).2

/-! ## Frames in (R294, R297, R318, R325) -/

/-- A frame that is authentic and in order brings its records behind those that wait. -/
theorem doDataFrame_of_next {h : FrameHead} {recs : List CpRec} (ok : authentic s h = true) (next : h.fsn = (halfOf s h.half.val).expect)
    (unarmed : s.pres.armed = []) : (halfOf (doDataFrame h recs s) h.half.val).expect = h.fsn + 1 ∧
      (halfOf (doDataFrame h recs s) h.half.val).rx = (halfOf s h.half.val).rx ++ recs.map (fun r => ⟨h.fsn, r⟩) := by
  have calm : injectFrame h s = (false, false, s) := by
    simp only [injectFrame, fireRecorded_of_unarmed unarmed, fire_of_unarmed unarmed]
  have eq : doDataFrame h recs s = reportHeld h.half.val (ackTo h.half.val h.ackFsn h.nak (setHalf h.half.val (fun x =>
      { x with expect := x.expect + 1, nakSent := false, rx := x.rx ++ recs.map (fun r => ⟨h.fsn, r⟩) }) (noteHead h s))) := by
    simp only [doDataFrame, calm, halfLive_of_authentic ok, ok, next, Bool.false_eq_true, if_false, Bool.not_true, Bool.or_self, ne_eq, not_true,
      decide_false]
  have noted : halfOf (noteHead h s) h.half.val = { halfOf s h.half.val with counter := h.counter } :=
    halfOf_setHalf h.half.val (fun x => { x with counter := h.counter }) s
  have half := (carried_reportHeld h.half.val _ h.half.val).trans (ackTo_kept h.half.val h.ackFsn h.nak (setHalf h.half.val (fun x =>
      { x with expect := x.expect + 1, nakSent := false, rx := x.rx ++ recs.map (fun r => ⟨h.fsn, r⟩) }) (noteHead h s))).1
  rw [halfOf_setHalf, noted, ← eq] at half
  refine ⟨(congrArg Half.expect half).trans ?_, congrArg Half.rx half⟩
  rw [next]
  rfl
/-- Frames acknowledged leave the transmit store. -/
theorem doAckFrame_sent {h : FrameHead} (ok : authentic s h = true) :
    (halfOf (doAckFrame h s) h.half.val).sent = (halfOf s h.half.val).sent.filter (fun f => decide (f.fsn > h.ackFsn)) := by
  have eq : doAckFrame h s = ackTo h.half.val h.ackFsn h.nak (noteHead h s) := by
    simp only [doAckFrame, ok, Bool.not_true, Bool.false_eq_true, if_false]
  have noted : halfOf (noteHead h s) h.half.val = { halfOf s h.half.val with counter := h.counter } :=
    halfOf_setHalf h.half.val (fun x => { x with counter := h.counter }) s
  have half := (ackTo_kept h.half.val h.ackFsn h.nak (noteHead h s)).1
  rw [noted, ← eq] at half
  exact congrArg Half.sent half
/-- A heartbeat tells of the twin. -/
theorem doHeartbeatFrame_heard {h : FrameHead} {b : StatusBody} (ok : authentic s h = true) :
    heard (doHeartbeatFrame h b s) = heard (updCp (fun c => { c with helloSeen := some b }) (noteHead h s)) := by
  have eq : doHeartbeatFrame h b s = ackTo h.half.val h.ackFsn h.nak (updCp (fun c => { c with helloSeen := some b }) (noteHead h s)) := by
    simp only [doHeartbeatFrame, ok, Bool.not_true, Bool.false_eq_true, if_false]
  rw [eq, (ackTo_kept ..).2]

section
variable {h : FrameHead} {b : StatusBody} (service : (halfOf s h.half.val).st = .service) (notBarred : s.cp.twin ≠ .barred)
  (mode : s.md.mode ≠ .drain) (tag : h.tagOk = true) (other : h.node ≠ s.rst.node) (newer : h.epoch > s.cp.rxEpoch)
/-- The state once a HELLO of a new epoch is noted. -/
def helloNoted (h : FrameHead) (b : StatusBody) (s : State) : State :=
  bump32 0x701c05 (noteHead { h with epoch := 0 } (updCp (fun c =>
    { c with rxEpoch := h.epoch, rxPrev := if s.cp.sessionUp then s.cp.rxEpoch else 0, helloSeen := some b }) s))
include service notBarred mode tag other newer
theorem doHelloFrame_of_newer : doHelloFrame h b s = if s.cp.sessionUp then sendAck h.half.val false (helloNoted h b s) else
    let t := updCp (fun c => { c with sessionUp := true, rxPrev := 0, failover := none }) (helloNoted h b s)
    if t.cp.twin = .inSync then t else settleHello h b t := by
  unfold doHelloFrame
  rw [if_neg (by simp [service, notBarred, mode]), if_neg (by simp [tag]), if_neg other, if_neg (Nat.not_le.mpr newer)]
  rfl
/-- Within a session a HELLO announces the twin's next epoch; frames of the epoch before are still taken. -/
theorem doHelloFrame_of_session (up : s.cp.sessionUp = true) : let t := doHelloFrame h b s
    t.cp.rxEpoch = h.epoch ∧ t.cp.rxPrev = s.cp.rxEpoch ∧ t.cp.helloSeen = some b := by
  intro t
  have eq : heard t = heard (helloNoted h b s) := by
    simp only [t, doHelloFrame_of_newer service notBarred mode tag other newer, up, if_true]
    exact (sendAck_kept h.half.val false _ 0).2
  have epoch : 0 ≠ h.epoch := by omega
  have noted : (helloNoted h b s).cp.rxEpoch = h.epoch ∧ (helloNoted h b s).cp.rxPrev = s.cp.rxEpoch ∧ (helloNoted h b s).cp.helloSeen = some b := by
    refine ⟨rfl, ?_, rfl⟩
    show (if 0 = h.epoch then 0 else if s.cp.sessionUp then s.cp.rxEpoch else 0) = _
    rw [if_neg epoch, if_pos up]
  obtain ⟨rx, prev, hello⟩ := noted
  exact ⟨(congrArg CpSide.rxEpoch eq).trans rx, (congrArg CpSide.rxPrev eq).trans prev, (congrArg CpSide.helloSeen eq).trans hello⟩
end
/-- The session and the part that a resynchronisation gives this Steoc. -/
def partOf (s : State) : Bool × Twin × Bool × Bool := (s.cp.sessionUp, s.cp.twin, s.cp.resync.target, s.cp.resync.source)
theorem partOf_of_cp {s t : State} (h : t.cp = s.cp) : partOf t = partOf s := by
  unfold partOf
  rw [h]
theorem beginResync_partOf (source target : Bool) (b : StatusBody) (s : State) :
    partOf (beginResync source target b s) = (s.cp.sessionUp, .resync, target, source) := by
  have told (r : CpRec) (u : State) : partOf (sendCtl r none u) = partOf u := rfl
  have live_ (c : Bool) (f : Tables → Tables) (u : State) : partOf (if c then updLive f u else u) = partOf u := by
    cases c <;> rfl
  have logged (c : Bool) (f : Tables → Tables) (u : State) : partOf (if c then logRecs 1 (updLive f u) else u) = partOf u := by
    cases c <;> rfl
  have freed (c : Bool) (l : List Nat) (u : State) : partOf (if c then each l freePage u else u) = partOf u := by
    cases c
    · rfl
    · exact each_keeps (g := partOf) (fun t a => partOf_of_cp (freePage_cp t a)) l u
  unfold beginResync
  dsimp only
  rw [told, live_, freed, logged]
  rfl
/-- Where this Steoc is YIELDED and its twin is not, it resynchronises as target. -/
theorem settleHello_of_yielded {h : FrameHead} {b : StatusBody} (yielded : (live s).standing = .yielded) (twin : b.standing ≠ 2) :
    settleHello h b s = beginResync false true b s := by
  unfold settleHello
  simp [yielded, twin]

/-! ## Frames out (R296, R297, R309) -/

/-- A frame sent is counted (R325). -/
def counted (s : State) : State := updCp (fun c => { c with txCount := c.txCount + 1 }) s
theorem halfOf_counted (n : Nat) (s : State) : halfOf (counted s) n = halfOf s n := rfl
/-- A half whose open frame is sent under a number. -/
def closedHalf (fsn : Nat) (x : Half) : Half := { x with open_ := [], sent := x.sent ++ [⟨fsn, x.open_⟩], lastFsn := fsn, ackSent := heldFsn x }
/-- The open frame is closed, numbered and sent. -/
theorem doFrameCloseTimer_of_open {half : Fin 2} (up : halfLive s half.val = true) (some_ : (halfOf s half.val).open_ ≠ [])
    (room : (halfOf s 0).sent.length + (halfOf s 1).sent.length < 16384) (unarmed : s.pres.armed = []) : doFrameCloseTimer half s =
      counted (setHalf half.val (closedHalf ((halfOf s half.val).lastFsn + 1))
        (emit (.frame half.val 1 ((halfOf s half.val).lastFsn + 1) (heldFsn (halfOf s half.val)) false ((halfOf s half.val).open_.map (·.rcd))) s)) := by
  have full : (halfOf s half.val).open_.isEmpty = false := by
    rw [List.isEmpty_eq_false_iff]
    exact some_
  simp only [doFrameCloseTimer, up, full, decide_eq_false (Nat.not_le.mpr room), fireRecorded_of_unarmed unarmed, fire_of_unarmed unarmed, Bool.not_true,
    Bool.or_self, Bool.false_eq_true, if_false, ge_iff_le]
  rfl
/-- A frame of a half is sent again. -/
def resent (half : Nat) (f : SentFrame) (s : State) : State :=
  counted (bump 0x701803 (emit (.frame half 1 f.fsn (heldFsn (halfOf s half)) false (f.recs.map (·.rcd))) s))
/-- Every frame not acknowledged goes out again under its number. -/
theorem resendFrames_outbox {half : Nat} (up : halfLive s half = true) : (resendFrames half s).outbox = s.outbox ++
    (halfOf s half).sent.map (fun f => .frame half 1 f.fsn (heldFsn (halfOf s half)) false (f.recs.map (·.rcd))) := by
  have sent : ∀ (l : List SentFrame) (u : State), halfOf u half = halfOf s half → (each l (resent half) u).outbox =
      u.outbox ++ l.map (fun f => .frame half 1 f.fsn (heldFsn (halfOf s half)) false (f.recs.map (·.rcd))) := by
    intro l
    induction l with
    | nil => exact fun u _ => (List.append_nil _).symm
    | cons f l ih =>
      intro u same
      have next : halfOf (resent half f u) half = halfOf s half := same
      refine (ih _ next).trans ?_
      rw [List.map_cons, List.append_cons, ← same]
      rfl
  unfold resendFrames
  rw [if_neg (by simp [up])]
  exact sent _ s rfl

/-! ## The link lost (R309) -/

theorem linkLost_down (s : State) : (linkLost s).cp.sessionUp = false ∧ ∀ p ∈ (linkLost s).cp.halves, p.2.st ≠ .service := by
  refine ⟨rfl, fun p hp => ?_⟩
  obtain ⟨q, -, rfl⟩ := List.mem_map.mp hp
  dsimp only
  split
  · decide
  · assumption
/-- A loss of the link, or of its counters, declares the twin lost where the pair is in sync. -/
theorem declared_of_loss {row : Nat} {s u : State} (hr : row = 1 ∨ row = 9) (h : InPair u) (hf : u.cp.fetches = s.cp.fetches) (hm : u.md = s.md) :
    Declared s (lossEvent row u) := by
  obtain ⟨sync, mode, standing⟩ := h
  have eq : lossEvent row u = declare row u := by
    rcases hr with rfl | rfl <;> simp [lossEvent, sync, mode, standing]
  rw [eq]
  exact declared_declare row u s hf hm
theorem declared_linkLost (pair : InPair s) (absent : s.rst.twinPresent = false) : Declared s (linkLost s) := by
  have lost := declared_of_loss (u := updCp (fun c => { c with sessionUp := false }) s) (.inl rfl) pair rfl rfl
  obtain ⟨twin, standing, mode⟩ := lost
  unfold linkLost
  simp only [absent, pair.1, Bool.not_false, if_true, decide_true, Bool.true_or]
  exact ⟨twin, standing, mode⟩
end

/-- Settles O53. -/
theorem frameCommands : Obligations.FrameCommands := by
  unfold Obligations.FrameCommands
  refine ⟨?_, ?_, ?_, ?_, ?_, ?_, ?_, ?_, ?_, ?_⟩
  · intro h recs s ok next unarmed
    exact completes_of_next rfl (doDataFrame_of_next ok next unarmed)
  · intro h s ok _
    exact completes_of_next rfl (doAckFrame_sent ok)
  · intro h b s ok
    have told := doHeartbeatFrame_heard (b := b) ok
    exact completes_of_next rfl ⟨congrArg CpSide.helloSeen told, congrArg CpSide.twinNode told, congrArg CpSide.twinMode told,
      congrArg CpSide.twinDirty told⟩
  · intro h b s service notBarred mode tag other newer up
    exact completes_of_next rfl (doHelloFrame_of_session service notBarred mode tag other newer up)
  · intro h b s service linking mode tag other newer down yielded twin
    let t := updCp (fun c => { c with sessionUp := true, rxPrev := 0, failover := none }) (helloNoted h b s)
    have eq : doHelloFrame h b s = beginResync false true b t := by
      have still : t.cp.twin = .linking := linking
      rw [doHelloFrame_of_newer service (by rw [linking]; decide) mode tag other newer, if_neg (by simp [down])]
      refine Eq.trans (if_neg ?_) (settleHello_of_yielded (s := t) yielded twin)
      rw [still]
      decide
    have part := beginResync_partOf false true b t
    simp only [partOf, Prod.mk.injEq] at part
    exact completes_of_eq rfl eq part
  · intro half s up some_ room unarmed
    refine completes_of_eq rfl (doFrameCloseTimer_of_open up some_ room unarmed) ?_
    rw [halfOf_counted, halfOf_setHalf]
    exact ⟨rfl, rfl, rfl, rfl⟩
  · intro half s up
    exact completes_of_next rfl (resendFrames_outbox up)
  · intro half s up
    refine completes_of_eq rfl (show _ = updCp (fun c => { c with txCount := c.txCount + 1 }) (emit (.status 3 half.val s.cp.epoch (statusBody s)) s) from ?_) rfl
    unfold doHeartbeatSendTimer
    rw [if_neg (by simp [up])]
  · intro s up
    refine completes_of_eq rfl (show _ = linkLost s from ?_) (linkLost_down s)
    unfold doLinkLossTimeout
    rw [if_pos up]
  · intro s up sync absent duplex standing noFetch
    refine completes_of_eq rfl (show _ = linkLost s from ?_) ?_
    · unfold doLinkLossTimeout
      rw [if_pos up]
    · obtain ⟨twin, alone, mode⟩ := declared_linkLost ⟨sync, by rw [duplex]; decide, standing⟩ absent
      exact ⟨twin, alone, mode noFetch duplex⟩

end Sys2Proof.Machine
end

section
namespace Sys2Proof.Machine

/-! ## Halves out of service (R310) -/

section
variable {half : Fin 2} {s : State}
theorem other_ne (half : Fin 2) : 1 - half.val ≠ half.val := by omega
theorem halfOf_of_cp {s t : State} (h : t.cp = s.cp) (n : Nat) : halfOf t n = halfOf s n := by
  unfold halfOf
  rw [h]
/-- A half that leaves service is failed. -/
theorem halfOff_cp (n : Nat) (s : State) : (halfOff n s).cp = (setHalf n (fun h => { h with st := .failed }) s).cp := by
  unfold halfOff
  rw [disarmAt_cp, updRst_cp]
theorem halfOf_halfOff (n : Nat) (s : State) : halfOf (halfOff n s) n = { halfOf s n with st := .failed } := by
  rw [halfOf_of_cp (halfOff_cp n s), halfOf_setHalf]
theorem halfOf_sendOn_ne {n k : Nat} (h : k ≠ n) (r : CpRec) (op : Option Nat) (s : State) : halfOf (sendOn n r op s) k = halfOf s k :=
  halfOf_setHalf_ne n k _ s h
theorem halfOf_taken_ne {k : Nat} (h : k ≠ half.val) (rest : List RxRec) (s : State) : halfOf (taken half rest s) k = halfOf s k :=
  halfOf_setHalf_ne half.val k _ s h
theorem halfOf_reportHeld_ne {n k : Nat} (h : k ≠ n) (s : State) : halfOf (reportHeld n s) k = halfOf s k := by
  unfold reportHeld sendAck
  split
  · dsimp only
    split
    · rfl
    · exact (halfOf_of_cp rfl k).trans (halfOf_setHalf_ne n k (fun x => { x with ackSent := heldFsn (halfOf s n), nakSent := x.nakSent || false }) s h)
  · rfl
/-- What is to be sent stays so while a half keeps what its open frame holds. -/
theorem sending_of_open {s t : State} {r : CpRec} (hs : Sending s r) (h : ∀ n, ∀ x ∈ (halfOf s n).open_, x ∈ (halfOf t n).open_) : Sending t r := by
  obtain ⟨n, x, hx, rfl⟩ := hs
  exact ⟨n, x, h n x hx, rfl⟩
theorem sending_halfOff {n : Nat} {r : CpRec} (hs : Sending s r) : Sending (halfOff n s) r := by
  refine sending_of_open hs fun k x hx => ?_
  rw [halfOf_of_cp (halfOff_cp n s), open_setHalf (f := fun h => { h with st := .failed }) (fun _ => rfl)]
  exact hx
theorem sending_sendOn_of {n : Nat} {r q : CpRec} {op : Option Nat} (hs : Sending s r) : Sending (sendOn n q op s) r := by
  refine sending_of_open hs fun k x hx => ?_
  by_cases h : k = n
  · subst h
    have here : halfOf (sendOn k q op s) k = { halfOf s k with open_ := (halfOf s k).open_ ++ [⟨q, op⟩] } :=
      halfOf_setHalf k (fun h => { h with open_ := h.open_ ++ [⟨q, op⟩] }) s
    rw [here]
    exact List.mem_append_left _ hx
  · rw [halfOf_sendOn_ne h]
    exact hx

/-- A half that fails while the other serves is switched off, and failover begins on the other. -/
theorem doHalfFail_of_live {cause : Nat} (live_ : halfLive s half.val = true) (other : halfLive s (1 - half.val) = true) :
    (halfOf (doHalfFail half cause s) half.val).st = .failed ∧ (doHalfFail half cause s).cp.failover = some half.val ∧
      Sending (doHalfFail half cause s) (.notice 4 half.val) := by
  obtain ⟨u, eq⟩ : ∃ u, doHalfFail half cause s = sendOn (1 - half.val) (.notice 4 half.val) none
      (halfOff half.val (updCp (fun c => { c with failover := some half.val }) u)) := by
    simp only [doHalfFail, live_, other, Bool.not_true, Bool.false_eq_true, if_false]
    exact ⟨_, rfl⟩
  rw [eq]
  refine ⟨?_, ?_, sending_sendOn ..⟩
  · rw [halfOf_sendOn_ne (other_ne half).symm, halfOf_halfOff]
  · show (halfOff half.val _).cp.failover = _
    rw [halfOff_cp]
    rfl
/-- The twin's FAILOVER is answered with what is held of the failed half, which leaves service. -/
theorem doNoticeFailover_of_brings {x : Nat} (h : Brings half (.notice 4 x) s) (service : (halfOf s (1 - half.val)).st = .service) :
    (halfOf (doNoticeFailover half s) (1 - half.val)).st = .failed ∧
      Sending (doNoticeFailover half s) (.notice 5 (heldFsn (halfOf s (1 - half.val)))) := by
  have answered (failed : Nat) (hf : failed ≠ half.val) (none_ : Bool) (u : State) (st : (halfOf u failed).st = .service) (n : Nat) :
      let a1 := sendOn half.val (.notice 5 n) none u
      let a2 := if (halfOf a1 failed).st = .service then halfOff failed (updCp (fun c => { c with failover := some failed }) a1) else a1
      let t := reportHeld half.val (if none_ then sendOn half.val (.notice 4 failed) none a2 else a2)
      (halfOf t failed).st = .failed ∧ Sending t (.notice 5 n) := by
    intro a1 a2 t
    have off : a2 = halfOff failed (updCp (fun c => { c with failover := some failed }) a1) := if_pos (by rw [halfOf_sendOn_ne hf, st])
    have sent : Sending a2 (.notice 5 n) := by
      rw [off]
      exact sending_halfOff (sending_sendOn half.val (.notice 5 n) none u)
    have failed_ : (halfOf a2 failed).st = .failed := by rw [off, halfOf_halfOff]
    refine ⟨?_, sending_reportHeld ?_⟩
    · rw [halfOf_reportHeld_ne hf]
      cases none_
      · exact failed_
      · rw [if_pos rfl, halfOf_sendOn_ne hf, failed_]
    · cases none_
      · exact sent
      · exact sending_sendOn_of sent
  unfold doNoticeFailover
  refine withRec_induct (P := fun t => (halfOf t (1 - half.val)).st = .failed ∧ Sending t (.notice 5 (heldFsn (halfOf s (1 - half.val))))) h
    (by simp [noticeIs]) fun r rest hr => ?_
  have same := halfOf_taken_ne (other_ne half) rest s
  rw [← same]
  exact answered (1 - half.val) (other_ne half) _ (taken half rest s) (by rw [same, service]) _
/-- The reply of the twin puts the failed half's later records on the live half. -/
theorem doFailoverReply_of_brings {fsn failed : Nat} (h : Brings half (.notice 5 fsn) s) (takes : s.cp.failover = some failed) (hf : failed ≠ half.val) :
    (doFailoverReply half s).cp.failover = none ∧ (halfOf (doFailoverReply half s) failed).sent = [] ∧
      (halfOf (doFailoverReply half s) half.val).open_ = (halfOf s half.val).open_ ++
        (((halfOf s failed).sent.filter (fun f => f.fsn > fsn)).flatMap (·.recs) ++ (halfOf s failed).open_) := by
  have reported (u : State) : (reportHeld half.val u).cp.failover = u.cp.failover := by
    unfold reportHeld
    split
    · exact (congrArg CpSide.failover (sendAck_kept half.val false u 0).2 :)
    · rfl
  unfold doFailoverReply
  refine withRec_induct (P := fun t => t.cp.failover = none ∧ (halfOf t failed).sent = [] ∧ (halfOf t half.val).open_ = (halfOf s half.val).open_ ++
    (((halfOf s failed).sent.filter (fun f => f.fsn > fsn)).flatMap (·.recs) ++ (halfOf s failed).open_)) h (by simp [noticeIs]) fun r rest hr => ?_
  have takes' : (taken half rest s).cp.failover = some failed := takes
  have here : (halfOf (taken half rest s) half.val).open_ = (halfOf s half.val).open_ := open_setHalf (f := fun h => { h with rx := rest }) (fun _ => rfl) ..
  simp only [hr, takes', halfOf_taken_ne hf rest s]
  rw [reported, halfOf_reportHeld_ne hf, open_reportHeld]
  have cleared (f g : Half → Half) (u : State) : halfOf (updCp (fun c => { c with failover := none }) (setHalf half.val f (setHalf failed g u))) failed =
      g (halfOf u failed) ∧ halfOf (updCp (fun c => { c with failover := none }) (setHalf half.val f (setHalf failed g u))) half.val = f (halfOf u half.val) := by
    refine ⟨?_, ?_⟩
    · exact (halfOf_setHalf_ne half.val failed f (setHalf failed g u) hf).trans (halfOf_setHalf ..)
    · exact (halfOf_setHalf half.val f (setHalf failed g u)).trans (congrArg f (halfOf_setHalf_ne _ _ _ _ hf.symm))
  rw [(cleared ..).1, (cleared ..).2, here]
  exact ⟨rfl, rfl, rfl⟩

/-! ## Halves that train, and epochs (R290, R318, R324–R326) -/

/-- A half as its training leaves it. -/
def trainedHalf (h : Half) : Half :=
  { h with st := .service, lastFsn := 0, expect := 1, nakSent := false, ackSent := 0, ackSeen := 0, open_ := [], sent := [], rx := [], rxFetch := [],
           syncSeen := false, counter := 0 }
theorem nextEpochOf_of_block (ok : s.cp.epochsOk = true) (left : s.cp.epoch % 2 ^ 24 < 2 ^ 24 - 1) :
    nextEpochOf s true = some (s.cp.epoch + 1, false) := by
  unfold nextEpochOf
  rw [if_neg (by decide), if_pos (by rw [ok, decide_eq_true left]; rfl)]
theorem ueFenced_of_none (fenced : s.keys.fenced = []) : ueFenced s = false := by
  unfold ueFenced
  rw [fenced]
  rfl
/-- With no session up a half that ends its training begins a fresh epoch with a HELLO. -/
theorem doLaneTrainingDone_of_bringUp (training : (halfOf s half.val).st = .training) (down : s.cp.sessionUp = false) (noHello : s.cp.hello = false)
    (fenced : s.keys.fenced = []) (open_ : s.cp.twin ≠ .barred) (key : (linkKey s).isSome = true) (ok : s.cp.epochsOk = true)
    (left : s.cp.epoch % 2 ^ 24 < 2 ^ 24 - 1) : ∃ u : State, doLaneTrainingDone half true true s = emit (.status 4 half.val (s.cp.epoch + 1) (statusBody u)) u ∧
      u.cp.halves = (setHalf half.val trainedHalf s).cp.halves ∧ u.cp.epoch = s.cp.epoch + 1 ∧ u.cp.hello = true ∧ u.outbox = s.outbox := by
  have keyed : (linkKey s).isNone = false := by
    rw [Option.isNone_eq_false_iff]
    exact key
  have linking (v : State) : (when_ (decide (v.cp.twin = .absent)) (updCp (fun c => { c with twin := .linking })) v).cp.halves = v.cp.halves ∧
      (when_ (decide (v.cp.twin = .absent)) (updCp (fun c => { c with twin := .linking })) v).cp.epoch = v.cp.epoch ∧
      (when_ (decide (v.cp.twin = .absent)) (updCp (fun c => { c with twin := .linking })) v).cp.hello = v.cp.hello ∧
      (when_ (decide (v.cp.twin = .absent)) (updCp (fun c => { c with twin := .linking })) v).outbox = v.outbox := by
    cases decide (v.cp.twin = .absent) <;> exact ⟨rfl, rfl, rfl, rfl⟩
  simp only [doLaneTrainingDone, training, down, noHello, fenced, open_, keyed, ueFenced_of_none fenced, nextEpochOf_of_block ok left, takeEpoch,
    ne_eq, not_true, if_false, Bool.not_true, Bool.false_eq_true, Bool.or_self, List.contains_nil, decide_false]
  obtain ⟨halves, epoch, hello, outbox⟩ := linking (bump32 0x701c05 (updCp (fun c => { c with epoch := s.cp.epoch + 1, txCount := 1, hello := true, nextEpoch := none })
    (setHalf half.val trainedHalf s)))
  exact ⟨_, rfl, halves, epoch, hello, outbox⟩
/-- Where no epoch can be kept, the twin is told that the link is barred and is declared lost. -/
theorem declared_doCounterLimit (up : s.cp.sessionUp = true) (noNext : s.cp.nextEpoch = none) (pair : InPair s) : Declared s (doCounterLimit false s) := by
  obtain ⟨sync, mode, standing⟩ := pair
  have stuck : (if ueFenced s then none else nextEpochOf s false) = none := by
    split <;> rfl
  simp only [doCounterLimit, up, noNext, stuck, Option.isSome_none, Bool.not_true, Bool.or_self, Bool.false_eq_true, if_false]
  refine declared_of_loss (.inr rfl) ⟨?_, ?_, ?_⟩ ?_ ?_
  · rw [post_cp]
    exact sync
  · rw [post_md]
    exact mode
  · rw [live_of_per (post_per ..)]
    exact standing
  · rw [post_cp]
    rfl
  · rw [post_md]
    rfl
end

/-- Settles O59. -/
theorem halfCommands : Obligations.HalfCommands := by
  unfold Obligations.HalfCommands
  refine ⟨?_, ?_, ?_, ?_, ?_, ?_, ?_, ?_, ?_⟩
  · intro half cause s live_ other
    exact completes_of_next rfl (doHalfFail_of_live live_ other)
  · intro half x s h service
    exact completes_of_next rfl (doNoticeFailover_of_brings h service)
  · intro half fsn failed s h takes hf
    exact completes_of_next rfl (doFailoverReply_of_brings h takes hf)
  · intro half s failed mode loaded on
    have cp : (doHalfRetrainTick half s).cp = (setHalf half.val (fun h => { h with st := .training }) s).cp := by
      unfold doHalfRetrainTick
      rw [if_neg (by simp [failed, mode, loaded, on]), updRst_cp]
    refine completes_of_next rfl ?_
    rw [halfOf_of_cp cp, halfOf_setHalf]
  · intro half w s training
    refine completes_of_eq rfl (show _ = halfOff half.val s from ?_) ?_
    · unfold doLaneTrainingDone
      rw [if_neg (by simp [training]), if_pos (by decide)]
    · rw [halfOf_halfOff]
  · intro half w s training up
    refine completes_of_eq rfl (show _ = setHalf half.val trainedHalf s from ?_) ?_
    · simp only [doLaneTrainingDone, training, up, Bool.not_true, Bool.false_eq_true, Bool.true_or, if_true, if_false, ne_eq, not_true]
      rfl
    · rw [halfOf_setHalf]
      exact ⟨rfl, rfl, rfl⟩
  · intro half s training down noHello fenced open_ key ok left
    obtain ⟨u, eq, halves, epoch, hello, outbox⟩ := doLaneTrainingDone_of_bringUp training down noHello fenced open_ key ok left
    refine completes_of_eq rfl eq ⟨?_, epoch, hello, statusBody u, ?_⟩
    · have trained : halfOf u half.val = trainedHalf (halfOf s half.val) := by
        unfold halfOf
        rw [halves]
        exact halfOf_setHalf ..
      exact congrArg Half.st trained
    · exact congrArg (· ++ [Out.status 4 half.val (s.cp.epoch + 1) (statusBody u)]) outbox
  · intro s up noNext fenced ok left
    have eq : doCounterLimit true s = emit (.status 4 (ctlHalf s) s.cp.epoch (statusBody (bump32 0x701c05 (updCp (fun c => { c with nextEpoch := some (s.cp.epoch + 1) }) s))))
        (bump32 0x701c05 (updCp (fun c => { c with nextEpoch := some (s.cp.epoch + 1) }) s)) := by
      simp only [doCounterLimit, up, noNext, ueFenced_of_none fenced, nextEpochOf_of_block ok left, takeEpoch, Option.isSome_none, Bool.not_true,
        Bool.or_self, Bool.false_eq_true, if_false]
    exact completes_of_eq rfl eq ⟨rfl, _, rfl⟩
  · intro s up noNext pair
    exact completes_of_next rfl (declared_doCounterLimit up noNext pair)

end Sys2Proof.Machine
end

section
namespace Sys2Proof.Machine

/-! ## Control records that may be applied (R297) -/

section
variable {half : Fin 2} {s : State}
/-- A control record that is the oldest of its half has its effect, and what becomes held is reported. -/
theorem control_induct {strict : Bool} {sel : CpRec → Bool} {r : CpRec} {f : CpRec → State → State} {P : State → Prop} (h : Takes half r s)
    (hs : sel r = true) (hp : ∀ rest, P (reportHeld half.val (f r (taken half rest s)))) : P (control half strict sel f s) := by
  unfold control
  refine withRec_induct (P := P) h.1 hs fun x rest hx => ?_
  have applied : applies (taken half rest s) = true := h.2
  rw [hx, applied]
  exact hp rest
theorem taken_per (half : Fin 2) (rest : List RxRec) (s : State) : (taken half rest s).per = s.per := rfl
theorem taken_eng (half : Fin 2) (rest : List RxRec) (s : State) : (taken half rest s).eng = s.eng := rfl
theorem taken_snap (half : Fin 2) (rest : List RxRec) (s : State) : (taken half rest s).snap = s.snap := rfl
theorem taken_md (half : Fin 2) (rest : List RxRec) (s : State) : (taken half rest s).md = s.md := rfl
theorem findRegion_of_per {s t : State} (h : t.per = s.per) (id : Nat) : findRegion t id = findRegion s id :=
  findRegion_of_regions (congrArg Tables.regions (live_of_per h)) id
theorem tenantOf_of_per {s t : State} (h : t.per = s.per) (i : Nat) : tenantOf t i = tenantOf s i := by
  unfold tenantOf
  rw [live_of_per h]
theorem keyOf_of_per {s t : State} (h : t.per = s.per) (i : Nat) : keyOf t i = keyOf s i := keyOf_of_keys (congrArg Tables.keys (live_of_per h)) i

/-! ## Forwarding (R300) -/

/-- The operation that a FORWARD asks for. -/
def forwardOp (d : FwdDesc) : Op :=
  { id := 0, origin := .forwarded d.fwdId d.rc, kind := kindOf d.opcode, host := d.idHost, seq := d.idSeq, region := d.region, key := d.key, off := d.off,
    len := if kindOf d.opcode = .place || kindOf d.opcode = .discard then d.operand1 else if kindOf d.opcode = .add || kindOf d.opcode = .cas then 8 else d.len,
    a := d.operand1, b := d.operand2, data := d.data }
/-- A FORWARD to the owner becomes an operation here. -/
theorem doForwardRecord_of_owner {d : FwdDesc} {slot : Nat} {g : Region} (h : Takes half (.forward d) s) (found : findRegion s d.region = some (slot, g))
    (own : ownsRegion s g = true) (mode : s.md.mode ≠ .keep) (stays : s.md.entering = false) (idem : nonIdem (kindOf d.opcode) = false) :
    let t := doForwardRecord half s
    t.host.nextOp = s.host.nextOp + 1 ∧ ∃ o ∈ t.host.ops, o.id = s.host.nextOp ∧ o.kind = kindOf d.opcode ∧ o.host = d.idHost ∧ o.seq = d.idSeq ∧
      o.region = d.region ∧ o.off = d.off := by
  unfold doForwardRecord
  refine control_induct (P := fun t => t.host.nextOp = s.host.nextOp + 1 ∧ ∃ o ∈ t.host.ops, o.id = s.host.nextOp ∧ o.kind = kindOf d.opcode ∧
    o.host = d.idHost ∧ o.seq = d.idSeq ∧ o.region = d.region ∧ o.off = d.off) h (by rfl) fun rest => ?_
  rw [reportHeld_host]
  have found' : findRegion (taken half rest s) d.region = some (slot, g) := found
  have own' : ownsRegion (taken half rest s) g = true := own
  simp only [found', own', taken_md, mode, stays, idem, Bool.not_true, decide_false, Bool.false_or, Bool.false_and, Bool.false_eq_true, if_false, when_false]
  have form : hostForm (startOp (taken half rest s).host.nextOp (addOp (forwardOp d) (taken half rest s))) = (s.host.nextOp + 1, s.host.replay,
      s.host.ops.map opForm ++ [opForm { forwardOp d with id := s.host.nextOp }]) := (hostForm_startOp ..).trans (hostForm_addOp ..)
  simp only [hostForm, Prod.mk.injEq] at form
  obtain ⟨next, -, ops⟩ := form
  have mem : opForm { forwardOp d with id := s.host.nextOp } ∈
      (startOp (taken half rest s).host.nextOp (addOp (forwardOp d) (taken half rest s))).host.ops.map opForm := by
    rw [ops]
    exact List.mem_append_right _ (List.mem_singleton_self _)
  obtain ⟨o, ho, eq⟩ := List.mem_map.mp mem
  simp only [opForm, forwardOp, Prod.mk.injEq] at eq
  exact ⟨next, o, ho, by simp [eq]⟩
/-- A FORWARD_DONE ends its part of the operation. -/
theorem doForwardDoneRecord_of_last {id dst : Nat} {v : RespVal} {o : Op} (h : Takes half (.forwardDone id v) s) (ops : s.host.ops = [o])
    (part : o.fwds = [(id, dst)]) (good : v.status = 0) : (doForwardDoneRecord half s).host.ops =
      [{ o with fwds := [], result := v.result, reads := if v.data.isEmpty then o.reads else mput o.reads dst v.data }] := by
  unfold doForwardDoneRecord
  refine control_induct (P := fun t => t.host.ops = [{ o with fwds := [], result := v.result, reads := if v.data.isEmpty then o.reads else mput o.reads dst v.data }])
    h (by rfl) fun rest => ?_
  rw [reportHeld_host]
  simp [part, good, modOp, taken_host, ops, modFirst]

/-! ## Tables, fences and owners (R138, R143, R302) -/

theorem doTableRecord_of_tenant {i v : Nat} (h : Takes half (.table (.tenant i v)) s) (sync : s.cp.twin = .inSync) :
    tenantOf (doTableRecord half s) i = ⟨bitOf v 63, bits v 32 17⟩ ∧ Sending (doTableRecord half s) (.verdict true (.tenant i v)) := by
  unfold doTableRecord
  refine control_induct (P := fun t => tenantOf t i = ⟨bitOf v 63, bits v 32 17⟩ ∧ Sending t (.verdict true (.tenant i v))) h (by rfl) fun rest => ?_
  have sync' : (taken half rest s).cp.twin = .inSync := sync
  simp only [sync', elemAccepted, reduceCtorEq, decide_false, Bool.false_and, Bool.false_eq_true, if_false, if_true]
  refine ⟨?_, sending_reportHeld (sending_sendOn ..)⟩
  rw [tenantOf_of_per (reportHeld_per ..), tenantOf_of_per (sendCtl_per ..), tenantOf, tenants_applyElem]
  exact tget_tset_self ..
theorem doTableVerdict_of_tenant {i v : Nat} {w : PendingWrite} (h : Takes half (.verdict true (.tenant i v)) s) (writes : s.eng.writes = [w])
    (elems : w.elems = [.tenant i v]) (last : w.left = 1) :
    tenantOf (doTableVerdict half s) i = ⟨bitOf v 63, bits v 32 17⟩ ∧ (doTableVerdict half s).eng.writes = [] := by
  unfold doTableVerdict
  refine control_induct (P := fun t => tenantOf t i = ⟨bitOf v 63, bits v 32 17⟩ ∧ t.eng.writes = []) h (by rfl) fun rest => ?_
  have found : (taken half rest s).eng.writes.find? (fun x => x.elems.contains (.tenant i v)) = some w := by
    rw [taken_eng, writes]
    exact List.find?_cons_of_pos (by simp [elems])
  have done (u : State) : tenantOf (dictDone w.idx w.sub (each [.tenant i v] applyElem u)) i = ⟨bitOf v 63, bits v 32 17⟩ ∧
      (dictDone w.idx w.sub (each [.tenant i v] applyElem u)).eng = u.eng := by
    refine ⟨?_, ?_⟩
    · rw [tenantOf_of_per (dictDone_per ..), tenantOf]
      exact tget_tset_self ..
    · rw [dictDone_eng]
      exact applyElem_eng (.tenant i v) u
  simp only [found, writeVerdict, elems, last, Bool.not_true, Bool.false_eq_true, if_false, Nat.le_refl, if_true]
  obtain ⟨tenant, eng⟩ := done (updEng (fun x => { x with writes := dropFirst (fun y => y = w) x.writes }) (taken half rest s))
  refine ⟨(tenantOf_of_per (reportHeld_per ..) i).trans tenant, ?_⟩
  rw [reportHeld_eng, eng, updEng_eng, taken_eng, writes, dropFirst, if_pos (decide_eq_true rfl)]
/-- A fence of the twin's sets the keys it names fencing, whatever it does to a region's size. -/
theorem keyOf_startFence_fencing (f : Fence) (s : State) {i : Nat} (hi : i ∈ f.keys) : (keyOf (startFence f s) i).st = .fencing := by
  have keys := keyOf_fenceKeys f.keys s i (.inl hi)
  have sized : (keyOf (when_ f.newPages.isSome (modRegion f.region (fun r => { r with st := .fencing })) (each f.keys (fun j a => setKey j fencingKey a) s)) i).st =
      (keyOf (each f.keys (fun j a => setKey j fencingKey a) s) i).st := by
    cases f.newPages.isSome <;> rfl
  exact sized.trans keys
theorem doFenceMarkRecord_of_free {region : Nat} {keys : List Nat} {pages : Option Nat} (h : Takes half (.fenceMark region keys pages) s)
    (free : s.eng.fence = none) : (doFenceMarkRecord half s).eng.fence = some ⟨region, keys, pages, true, false, false, false⟩ ∧
      ∀ i ∈ keys, (keyOf (doFenceMarkRecord half s) i).st = .fencing := by
  unfold doFenceMarkRecord
  refine control_induct (P := fun t => t.eng.fence = some ⟨region, keys, pages, true, false, false, false⟩ ∧ ∀ i ∈ keys, (keyOf t i).st = .fencing)
    h (by rfl) fun rest => ?_
  simp only [taken_eng, free, Option.isSome_none, Bool.false_eq_true, if_false]
  refine ⟨?_, fun i hi => ?_⟩
  · rw [reportHeld_eng]
    rfl
  · rw [keyOf_of_per (reportHeld_per ..)]
    exact keyOf_startFence_fencing _ _ hi
theorem doFenceConfirmRecord_of_drained {region : Nat} {c : RunCmd} {f : Fence} (h : Takes half (.fenceConfirm region) s) (run : s.eng.run = some c)
    (phase : c.phase = .fence) (fence : s.eng.fence = some f) (drained_ : f.drained = true) (keysOnly : f.newPages = none) (noClaim : s.eng.claimed = []) :
    let t := doFenceConfirmRecord half s
    t.eng.fence = none ∧ t.eng.run = none ∧ Reported t c.result ∧ ∀ i ∈ f.keys, (keyOf t i).st = .revoked := by
  unfold doFenceConfirmRecord
  refine control_induct (P := fun t => t.eng.fence = none ∧ t.eng.run = none ∧ Reported t c.result ∧ ∀ i ∈ f.keys, (keyOf t i).st = .revoked)
    h (by rfl) fun rest => ?_
  simp only [taken_eng, run, phase, if_true]
  let u := updEng (fun e => { e with run := some { c with twin := true } }) (taken half rest s)
  have ended : fenceDone u = finishCmd 0 c.result (endFence f u) := by
    have fence' : u.eng.fence = some f := fence
    have run' : u.eng.run = some { c with twin := true } := rfl
    simp only [fenceDone, fence', run', drained_, Bool.true_or, Bool.true_and, if_true]
  obtain ⟨eng, keys⟩ := endFence_of_keys (f := f) (s := u) keysOnly
  have free : (endFence f u).eng.claimed = [] := by
    rw [eng]
    exact noClaim
  have closed : (finishCmd 0 c.result (endFence f u)).eng = { u.eng with fence := none, run := none } := by
    rw [finishCmd_eng_of_noClaim free, eng]
  rw [show fenceDone (updEng (fun e => { e with run := some { c with phase := .fence, twin := true } }) (taken half rest s)) = fenceDone u by
    rw [← phase], ended]
  obtain ⟨status, value⟩ := reported_finishCmd (result := c.result) free
  refine ⟨?_, ?_, ⟨?_, ?_⟩, fun i hi => ?_⟩
  · rw [reportHeld_eng, closed]
  · rw [reportHeld_eng, closed]
  · rw [dget_of_dict (reportHeld_dict_of ..), status]
  · rw [dget_of_dict (reportHeld_dict_of ..), value]
  · rw [keyOf_of_per (reportHeld_per ..), keyOf_of_per (finishCmd_per ..)]
    exact keys i hi
/-- A region that changes hands has its new owner, and is else as it was. -/
theorem findRegion_setOwner {region node slot : Nat} {g : Region} {u : State} (found : findRegion u region = some (slot, g)) :
    findRegion (setOwner region node u) region = some (slot, { g with owner := node }) :=
  findRegion_modRegion (f := fun r => { r with owner := node }) (fun _ => rfl) found
theorem doOwnerHandover_of_idle {region node slot : Nat} {g : Region} (h : Takes half (.ownerHandover region node) s)
    (found : findRegion s region = some (slot, g)) (idle : s.eng.run = none) :
    findRegion (doOwnerHandover half s) region = some (slot, { g with owner := s.rst.node }) ∧ Sending (doOwnerHandover half s) (.ownerConfirm region s.rst.node) := by
  unfold doOwnerHandover
  refine control_induct (P := fun t => findRegion t region = some (slot, { g with owner := s.rst.node }) ∧ Sending t (.ownerConfirm region s.rst.node))
    h (by rfl) fun rest => ?_
  have idle' (n : Nat) : (sendCtl (.ownerConfirm region n) none (setOwner region n (taken half rest s))).eng.run = none := idle
  have found' : findRegion (taken half rest s) region = some (slot, g) := found
  simp only [idle']
  refine ⟨?_, sending_reportHeld (sending_sendOn ..)⟩
  rw [findRegion_of_per (reportHeld_per ..), findRegion_of_per (sendCtl_per ..)]
  exact findRegion_setOwner found'
theorem doOwnerConfirm_of_held {region node slot : Nat} {g : Region} (h : Takes half (.ownerConfirm region node) s)
    (found : findRegion s region = some (slot, g)) (held : s.eng.heldRegion = some region) (idle : s.eng.run = none) (ops : s.host.ops = []) :
    let t := doOwnerConfirm half s
    findRegion t region = some (slot, { g with owner := node }) ∧ t.eng.heldRegion = none ∧ t.eng.handed = false := by
  unfold doOwnerConfirm
  refine control_induct (P := fun t => findRegion t region = some (slot, { g with owner := node }) ∧ t.eng.heldRegion = none ∧ t.eng.handed = false)
    h (by rfl) fun rest => ?_
  let u := updEng (fun e => { e with heldRegion := none, handed := false }) (setOwner region node (taken half rest s))
  have found' : findRegion (taken half rest s) region = some (slot, g) := found
  have ops' : u.host.ops = [] := ops
  have idle' : u.eng.run = none := idle
  simp only [taken_eng, held, ne_eq, not_true, if_false]
  rw [show updEng (fun e => { e with heldRegion := none, handed := false }) (setOwner region node (taken half rest s)) = u from rfl, ops']
  simp only [List.filter_nil, each, List.foldl_nil, idle']
  rw [findRegion_of_per (reportHeld_per ..), reportHeld_eng]
  exact ⟨findRegion_setOwner found', rfl, rfl⟩
theorem doOwnerRequest_of_own {region node slot : Nat} {g : Region} (h : Takes half (.ownerRequest region node) s)
    (found : findRegion s region = some (slot, g)) (own : ownsRegion s g = true) (free : s.eng.heldRegion = none) (sync : s.cp.twin = .inSync) :
    (doOwnerRequest half s).eng.heldRegion = some region := by
  unfold doOwnerRequest
  refine control_induct (P := fun t => t.eng.heldRegion = some region) h (by rfl) fun rest => ?_
  have found' : findRegion (taken half rest s) region = some (slot, g) := found
  have own' : ownsRegion (taken half rest s) g = true := own
  have sync' : (taken half rest s).cp.twin = .inSync := sync
  simp only [found', own', sync', taken_eng, free, Option.isNone_none, decide_true, Bool.and_self, if_true]
  rw [reportHeld_eng]
  rfl
end

/-- Settles O55. -/
theorem forwardAndTableRecords : Obligations.ForwardAndTableRecords := by
  unfold Obligations.ForwardAndTableRecords
  refine ⟨?_, ?_, ?_, ?_, ?_, ?_, ?_, ?_, ?_⟩
  · intro half d slot g s h found own mode stays idem
    exact completes_of_next rfl (doForwardRecord_of_owner h found own mode stays idem)
  · intro half id dst v o s h ops part good
    exact completes_of_next rfl (doForwardDoneRecord_of_last h ops part good)
  · intro half i v s h sync
    exact completes_of_next rfl (doTableRecord_of_tenant h sync)
  · intro half i v w s h writes elems last
    exact completes_of_next rfl (doTableVerdict_of_tenant h writes elems last)
  · intro half region keys pages s h free
    exact completes_of_next rfl (doFenceMarkRecord_of_free h free)
  · intro half region c f s h run phase fence drained_ keysOnly noClaim
    exact completes_of_next rfl (doFenceConfirmRecord_of_drained h run phase fence drained_ keysOnly noClaim)
  · intro half region node slot g s h found idle
    exact completes_of_next rfl (doOwnerHandover_of_idle h found idle)
  · intro half region node slot g s h found held idle ops
    exact completes_of_next rfl (doOwnerConfirm_of_held h found held idle ops)
  · intro half region node slot g s h found own free sync
    exact completes_of_next rfl (doOwnerRequest_of_own h found own free sync)

end Sys2Proof.Machine
end

section
namespace Sys2Proof.Machine

/-! ## Control records of cuts and claims (R359, R531) -/

section
variable {half : Fin 2} {s : State}
theorem doStateBeginRecord_of_free {n tenant retain : Nat} {all : Bool} (h : Takes half (.stateBegin n all tenant retain) s) (free : s.snap.cut = none) :
    (doStateBeginRecord half s).snap.cut = some ⟨n, 2, false, all, tenant, retain, true, []⟩ := by
  unfold doStateBeginRecord
  refine control_induct (P := fun t => t.snap.cut = some ⟨n, 2, false, all, tenant, retain, true, []⟩) h (by rfl) fun rest => ?_
  simp only [taken_snap, free, Option.isSome_none, Bool.false_eq_true, if_false]
  rw [reportHeld_snap]
  rfl
theorem doStateConfirmRecord_of_own {c : Cut} (h : Takes half (.stateConfirm c.number) s) (cut : s.snap.cut = some c) (own : c.own = true) (step : c.step < 4) :
    (doStateConfirmRecord half s).snap.cut = some { c with twinDone := true } := by
  unfold doStateConfirmRecord
  refine control_induct (P := fun t => t.snap.cut = some { c with twinDone := true }) h (by rfl) fun rest => ?_
  simp only [taken_snap, cut, own, Bool.not_true, ne_eq, not_true, decide_false, Bool.or_self, Bool.false_eq_true, if_false]
  rw [if_neg (by simp [Nat.not_le.mpr step]), reportHeld_snap]
  rfl
theorem doStatePointRecord_of_twin {c : Cut} {slice : Nat} (h : Takes half (.statePoint c.number slice) s) (cut : s.snap.cut = some c) (own : c.own = false)
    (few : (insertSet c.points slice).length < 14) : (doStatePointRecord half s).snap.cut = some { c with points := insertSet c.points slice } := by
  unfold doStatePointRecord
  refine control_induct (P := fun t => t.snap.cut = some { c with points := insertSet c.points slice }) h (by rfl) fun rest => ?_
  simp only [taken_snap, cut, own, ne_eq, not_true, decide_false, Bool.or_self, Bool.false_eq_true, if_false]
  rw [if_neg (by simp [Nat.not_le.mpr few]), reportHeld_snap]
  rfl
theorem doClaim_of_free {e : Nat} (h : Takes half (.claim e) s) (held : e ∉ s.eng.claimed) (asked : e ∉ s.eng.asked) :
    (doClaim half s).eng.twinClaims = insertSet s.eng.twinClaims e ∧ Sending (doClaim half s) (.claimGrant e) := by
  unfold doClaim
  refine control_induct (P := fun t => t.eng.twinClaims = insertSet s.eng.twinClaims e ∧ Sending t (.claimGrant e)) h (by rfl) fun rest => ?_
  simp only [taken_eng, List.contains_iff_mem, Bool.or_eq_true, Bool.and_eq_true, held, asked, false_and, or_self, if_false]
  refine ⟨?_, sending_reportHeld (sending_sendOn ..)⟩
  rw [reportHeld_eng, sendCtl_eng]
  rfl
theorem doClaimRelease_of_free {e : Nat} (h : Takes half (.claimRelease e) s) (free : s.snap.cut = none) :
    (doClaimRelease half s).eng.twinClaims = dropSet s.eng.twinClaims e := by
  unfold doClaimRelease
  refine control_induct (P := fun t => t.eng.twinClaims = dropSet s.eng.twinClaims e) h (by rfl) fun rest => ?_
  simp only [updEng_snap, taken_snap, free, Option.any_none, Bool.and_false, Bool.false_eq_true, if_false]
  rw [reportHeld_eng]
  rfl

/-! ## The State command that waits for its claim -/

/-- A command that holds the claim alone reports and releases it. -/
theorem finishState_of_claim {status result : Nat} (claim : s.eng.claimed = [0x3710]) : let t := finishState status result s
    dget t 0x371002 = status ∧ dget t 0x371003 = (if status = 0 then result else 0) ∧ t.eng = { s.eng with claimed := [] } ∧
      Sending t (.claimRelease 0x3710) := by
  intro t
  have eq : t = sendCtl (.claimRelease 0x3710) none (updEng (fun e => { e with claimed := dropSet e.claimed 0x3710 })
      (dset 0x371002 status (dset 0x371003 (if status = 0 then result else 0) (updSnap (fun x => { x with run := none }) s)))) := by
    simp only [t, finishState, dset_eng, updSnap_eng, claim]
    exact if_pos (by decide)
  have sent (k : Nat) (hk : k ≠ 0x701801) (u : State) : dget (sendCtl (.claimRelease 0x3710) none u) k = dget u k :=
    (dget_bump_ne _ _ _ hk).trans rfl
  refine ⟨?_, ?_, ?_, ?_⟩
  · rw [eq, sent _ (by decide), dget_of_dict (updEng_dict ..), dget_dset_self]
  · rw [eq, sent _ (by decide), dget_of_dict (updEng_dict ..), dget_dset_ne _ _ _ _ (by decide), dget_dset_self]
  · rw [eq, sendCtl_eng, updEng_eng, dset_eng, dset_eng, updSnap_eng, claim]
    rfl
  · rw [eq]
    exact sending_sendOn ..
/-- A grant runs the DELETE that waited for it. -/
theorem doClaimGrant_of_delete {b : StateBlock} {n : Snap} (h : Takes half (.claimGrant 0x3710) s) (asked : s.eng.asked = [0x3710])
    (claimed : s.eng.claimed = []) (run : s.snap.run = some (2, b)) (only : (live s).snaps = [n]) (number : n.number = b.stateNo)
    (phase : n.phase ≠ .cutting) : let t := doClaimGrant half s
    (live t).snaps = [] ∧ StateReported t 0 ∧ Sending t (.claimRelease 0x3710) ∧ t.eng.claimed = [] ∧ t.eng.asked = [] := by
  unfold doClaimGrant
  refine control_induct (P := fun t => (live t).snaps = [] ∧ StateReported t 0 ∧ Sending t (.claimRelease 0x3710) ∧ t.eng.claimed = [] ∧ t.eng.asked = [])
    h (by rfl) fun rest => ?_
  let u := updEng (fun x => { x with asked := dropSet x.asked 0x3710, claimed := insertSet x.claimed 0x3710 }) (taken half rest s)
  have only' : (live u).snaps = [n] := only
  have run' : u.snap.run = some (2, b) := run
  have engine : u.eng = { s.eng with asked := [], claimed := [0x3710] } := by
    rw [show u.eng = { s.eng with asked := dropSet s.eng.asked 0x3710, claimed := insertSet s.eng.claimed 0x3710 } from rfl, asked, claimed]
    rfl
  have stands : (live u).snaps.any (fun n => n.number = b.stateNo && n.phase ≠ .cutting) = true := by
    rw [only']
    simp [number, phase]
  have deleted : startState 2 b u = finishState 0 0 (deleteSnap n.number u) := by
    rw [number]
    exact if_pos stands
  have waits : (!(taken half rest s).eng.asked.contains 0x3710) = false := by
    rw [taken_eng, asked]
    rfl
  simp only [waits, Bool.false_eq_true, if_false]
  rw [if_neg (by decide), show updEng (fun x => { x with asked := dropSet x.asked 0x3710, claimed := insertSet x.claimed 0x3710 }) (taken half rest s) = u
    from rfl]
  simp only [run', deleted]
  obtain ⟨status, value, eng, sent⟩ := finishState_of_claim (s := deleteSnap n.number u) (status := 0) (result := 0)
    (by rw [deleteSnap_eng, engine])
  refine ⟨?_, ⟨?_, ?_⟩, sending_reportHeld sent, ?_, ?_⟩
  · rw [live_of_per (reportHeld_per ..), live_of_per (finishState_per ..)]
    exact deleteSnap_of_only only'
  · rw [dget_of_dict (reportHeld_dict_of ..), status]
  · rw [dget_of_dict (reportHeld_dict_of ..), value, if_pos rfl]
  · rw [reportHeld_eng, eng]
  · rw [reportHeld_eng, eng, deleteSnap_eng, engine]
theorem not_mem_dropSet (l : List Nat) (e : Nat) : e ∉ dropSet l e := by
  simp [dropSet]
/-- A refusal ends the State command with status 1. -/
theorem doClaimRefuse_of_asked (h : Takes half (.claimRefuse 0x3710) s) (asked : 0x3710 ∈ s.eng.asked) (claimed : s.eng.claimed = []) :
    let t := doClaimRefuse half s
    0x3710 ∉ t.eng.asked ∧ dget t 0x371002 = 1 ∧ t.snap.run = none := by
  unfold doClaimRefuse
  refine control_induct (P := fun t => 0x3710 ∉ t.eng.asked ∧ dget t 0x371002 = 1 ∧ t.snap.run = none) h (by rfl) fun rest => ?_
  let u := updEng (fun x => { x with asked := dropSet x.asked 0x3710 }) (taken half rest s)
  have ended : finishState 1 0 u = dset 0x371002 1 (dset 0x371003 0 (updSnap (fun x => { x with run := none }) u)) := by
    have free : (dset 0x371002 1 (dset 0x371003 0 (updSnap (fun x => { x with run := none }) u))).eng.claimed = [] := claimed
    simp only [finishState, Nat.one_ne_zero, if_false, free, List.contains_nil, Bool.false_eq_true]
  have waits : (!(taken half rest s).eng.asked.contains 0x3710) = false := by
    rw [taken_eng, List.contains_iff_mem.mpr asked, Bool.not_true]
  simp only [waits, Bool.false_eq_true, if_false]
  rw [if_neg (by decide), show updEng (fun x => { x with asked := dropSet x.asked 0x3710 }) (taken half rest s) = u from rfl, ended]
  refine ⟨?_, ?_, ?_⟩
  · rw [reportHeld_eng, dset_eng, dset_eng, updSnap_eng]
    exact not_mem_dropSet _ _
  · rw [dget_of_dict (reportHeld_dict_of ..), dget_dset_self]
  · rw [reportHeld_snap, dset_snap, dset_snap]
    rfl
end

/-- Settles O57. -/
theorem stateClaimRecords : Obligations.StateClaimRecords := by
  unfold Obligations.StateClaimRecords
  refine ⟨?_, ?_, ?_, ?_, ?_, ?_, ?_⟩
  · intro half n tenant retain all s h free
    exact completes_of_next rfl (doStateBeginRecord_of_free h free)
  · intro half c s h cut own step
    exact completes_of_next rfl (doStateConfirmRecord_of_own h cut own step)
  · intro half c slice s h cut own few
    exact completes_of_next rfl (doStatePointRecord_of_twin h cut own few)
  · intro half e s h held asked
    exact completes_of_next rfl (doClaim_of_free h held asked)
  · intro half b n s h asked claimed run only number phase
    exact completes_of_next rfl (doClaimGrant_of_delete h asked claimed run only number phase)
  · intro half s h asked claimed
    exact completes_of_next rfl (doClaimRefuse_of_asked h asked claimed)
  · intro half e s h free
    exact completes_of_next rfl (doClaimRelease_of_free h free)

end Sys2Proof.Machine
end

section
namespace Sys2Proof.Machine

/-! ## What sending leaves of a resynchronisation -/

/-- What every element keeps of the state, the list keeps. -/
theorem each_preserves {α : Type} {P : State → Prop} {f : α → State → State} (h : ∀ a u, P u → P (f a u)) (l : List α) {s : State} (hs : P s) :
    P (each l f s) := by
  unfold each
  induction l generalizing s with
  | nil => exact hs
  | cons a l ih => exact ih (h a s hs)
theorem sendCtl_resync (r : CpRec) (op : Option Nat) (s : State) : (sendCtl r op s).cp.resync = s.cp.resync := rfl
theorem reportHeld_resync (half : Nat) (s : State) : (reportHeld half s).cp.resync = s.cp.resync := by
  unfold reportHeld sendAck
  split
  · dsimp only
    split <;> rfl
  · rfl
theorem taken_dget {half : Fin 2} {rest : List RxRec} {k : Nat} (hk : k ≠ 0x701802) (s : State) : dget (taken half rest s) k = dget s k :=
  (dget_bump_ne _ _ _ hk).trans rfl
/-- Each record of a list that is sent stands in an open frame. -/
theorem sending_each {r : CpRec} {l : List CpRec} (s : State) (hr : r ∈ l) : Sending (each l (fun x b => sendCtl x none b) s) r := by
  induction l generalizing s with
  | nil => exact absurd hr List.not_mem_nil
  | cons x l ih =>
    have split : each (x :: l) (fun x b => sendCtl x none b) s = each l (fun x b => sendCtl x none b) (sendCtl x none s) := List.foldl_cons ..
    rw [split]
    obtain rfl | hr := List.mem_cons.mp hr
    · exact each_preserves (P := (Sending · r)) (fun _ _ hu => sending_sendOn_of hu) l (sending_sendOn ..)
    · exact ih _ hr

section
variable {half : Fin 2} {s : State}

/-! ## START, MARKS and TABLES_DONE (R319) -/

theorem doResyncStart_of_brings {inc : Nat} (h : Brings half (.resyncStart inc) s) (twin : s.cp.twin = .resync) :
    incarnation (doResyncStart half s) = max inc (incarnation s) ∧ Sending (doResyncStart half s) (.resyncMarks (live s).divergence) := by
  unfold doResyncStart
  refine withRec_induct (P := fun t => incarnation t = max inc (incarnation s) ∧ Sending t (.resyncMarks (live s).divergence)) h (by rfl) fun x rest hx => ?_
  have twin' : (taken half rest s).cp.twin = .resync := twin
  simp only [hx, twin', ne_eq, not_true, if_false]
  refine ⟨?_, sending_reportHeld (sending_sendOn ..)⟩
  unfold incarnation
  rw [dget_of_dict (reportHeld_dict_of ..), sendCtl, sendOn, dget_bump_ne _ _ _ (by decide), dget_of_dict (setHalf_dict ..), dget_dset_self,
    taken_dget (by decide)]
/-- A target that has not adopted the tables has nothing to image yet. -/
theorem targetStep_of_noTables (tables : s.cp.resync.tables = false) : targetStep s = s := by
  unfold targetStep
  simp [tables]
theorem doResyncMarks_of_started {blocks : List Nat} (h : Brings half (.resyncMarks blocks) s) (twin : s.cp.twin = .resync)
    (phase : s.cp.resync.phase = .started) (tables : s.cp.resync.tables = false) : let t := doResyncMarks half s
    t.cp.resync.phase = .marked ∧ (live t).divergence = blocks.foldl insertSet (live s).divergence ∧ Sending t (.table (.window (dget s 0x210002))) := by
  unfold doResyncMarks
  refine withRec_induct (P := fun t => t.cp.resync.phase = .marked ∧ (live t).divergence = blocks.foldl insertSet (live s).divergence ∧
    Sending t (.table (.window (dget s 0x210002)))) h (by rfl) fun x rest hx => ?_
  have twin' : (taken half rest s).cp.twin = .resync := twin
  have phase' : (taken half rest s).cp.resync.phase = .started := phase
  simp only [hx, twin', phase', ne_eq, not_true, decide_false, Bool.or_self, Bool.false_eq_true, if_false]
  generalize hu : updCp _ (updLive _ (taken half rest s)) = u
  have resync : (each (sourceRecords u) (fun x b => sendCtl x none b) u).cp.resync = u.cp.resync :=
    each_keeps (g := (·.cp.resync)) (fun x a => sendCtl_resync x none a) _ _
  have per : (each (sourceRecords u) (fun x b => sendCtl x none b) u).per = u.per := each_keeps (g := (·.per)) (fun x a => sendCtl_per x none a) _ _
  have window : CpRec.table (.window (dget s 0x210002)) ∈ sourceRecords u := by
    have same : dget u 0x210002 = dget s 0x210002 := by
      rw [← hu]
      exact taken_dget (by decide) s
    rw [← same, sourceRecords, statusRecords]
    exact List.mem_append_right _ List.mem_cons_self
  have tables' : u.cp.resync.tables = false := by
    rw [← hu]
    exact tables
  rw [targetStep_of_noTables (by rw [resync, tables'])]
  refine ⟨?_, ?_, sending_reportHeld (sending_each u window)⟩
  · rw [reportHeld_resync, resync, ← hu]
    rfl
  · rw [live_of_per (reportHeld_per ..), live_of_per per, ← hu]
    rfl
/-- A source that has what its target sends begins to copy. -/
theorem enterCopying_of_marked (phase : s.cp.resync.phase = .marked) (target : s.cp.resync.target = false) (done : s.cp.resync.twinDone = true) :
    (enterCopying s).cp.resync.twinDone = true ∧ (enterCopying s).cp.resync.phase = .copying := by
  unfold enterCopying
  simp only [phase, target, done, decide_true, Bool.true_or, Bool.not_false, Bool.or_true, Bool.and_self, if_true]
  exact ⟨done, rfl⟩
theorem doTablesDone_of_source (h : Brings half .tablesDone s) (twin : s.cp.twin = .resync) (phase : s.cp.resync.phase = .marked)
    (target : s.cp.resync.target = false) : (doTablesDone half s).cp.resync.twinDone = true ∧ (doTablesDone half s).cp.resync.phase = .copying := by
  unfold doTablesDone
  refine withRec_induct (P := fun t => t.cp.resync.twinDone = true ∧ t.cp.resync.phase = .copying) h (by rfl) fun x rest hx => ?_
  rw [if_neg (not_not_intro (show (taken half rest s).cp.twin = .resync from twin)), reportHeld_resync]
  exact enterCopying_of_marked (s := updCp (fun c => { c with resync := { c.resync with twinDone := true } }) (taken half rest s)) phase target rfl

/-! ## The end of a resynchronisation (R321) -/

/-- The pair is in sync under a SYNC_GEN. -/
def InSync (gen : Nat) (t : State) : Prop :=
  t.cp.twin = .inSync ∧ t.md.mode = .duplex ∧ (live t).standing = .paired ∧ (live t).divergence = [] ∧ (live t).syncGen = gen
theorem inSync_reportHeld {gen n : Nat} (h : InSync gen s) : InSync gen (reportHeld n s) := by
  unfold InSync
  rw [reportHeld_twin, reportHeld_md, live_of_per (reportHeld_per ..)]
  exact h
theorem setMode_duplex_per (row : Nat) (s : State) : (setMode .duplex row s).per = s.per := by
  have entered : (if s.md.mode = .service then updPres (fun p => { p with halted := false }) (disarmAll 5 s) else s).per = s.per := by
    split
    · exact disarmAll_per ..
    · rfl
  unfold setMode
  dsimp only
  rw [bump32_per, post_per, updMode_per, entered]
/-- Solo becomes Duplex, and no Keep cause is left to clear. -/
theorem inSync_enterSync (mode : s.md.mode = .solo) (settled : s.md.entering = false) (noCause : s.md.causes = 0) :
    InSync (live s).syncGen (enterSync s) := by
  unfold enterSync
  dsimp only
  generalize hu : bump32 0x70180a _ = u
  have md : u.md = s.md := by
    rw [← hu, bump32_md, post_md]
    rfl
  have per : live u = { live s with standing := .paired, everSynced := true, divergence := [] } := by
    rw [← hu, live_of_per (bump32_per ..), live_of_per (post_per ..)]
    rfl
  have twin : u.cp.twin = .inSync := by
    rw [← hu, bump32_cp, post_cp]
    rfl
  have causes : (setMode .duplex 6 u).md.causes = 0 := by
    rw [setMode_md, md]
    exact noCause
  have clear (bit : Nat) : (s.cp.resync.target && bitOf (setMode .duplex 6 u).md.causes bit) = false := by
    rw [causes]
    simp [bitOf]
  rw [md, mode, settled, if_pos (show (decide (Mode.solo = Mode.solo) && !false) = true from rfl)]
  simp only [clear, Bool.false_eq_true, if_false]
  refine ⟨?_, setMode_mode .., ?_, ?_, ?_⟩
  · rw [setMode_cp, twin]
  all_goals rw [live_of_per (setMode_duplex_per ..), per]
/-- Each side that has done its part ends the resynchronisation. -/
theorem inSync_syncDone (twin : s.cp.twin = .resync) (source : s.cp.resync.source = false ∨ s.cp.resync.ackIn = true)
    (target : s.cp.resync.target = false ∨ s.cp.resync.ackOut = true) (mode : s.md.mode = .solo) (settled : s.md.entering = false)
    (noCause : s.md.causes = 0) : InSync (live s).syncGen (syncDone s) := by
  have done : (decide (s.cp.twin = .resync) && (!s.cp.resync.source || s.cp.resync.ackIn) && (!s.cp.resync.target || s.cp.resync.ackOut)) = true := by
    simp [twin, source, target]
  unfold syncDone
  rw [if_pos done]
  exact inSync_enterSync mode settled noCause
theorem doSync_of_last (h : Brings half .sync s) (twin : s.cp.twin = .resync) (target : s.cp.resync.target = true) (source : s.cp.resync.source = false)
    (seen : (halfOf s (1 - half.val)).syncSeen = true ∨ (halfOf s (1 - half.val)).st ≠ .service) (mode : s.md.mode = .solo)
    (settled : s.md.entering = false) (noCause : s.md.causes = 0) : InSync ((s.cp.resync.gen + 1) % 2 ^ 32) (doSync half s) := by
  unfold doSync
  refine withRec_induct (P := InSync ((s.cp.resync.gen + 1) % 2 ^ 32)) h (by rfl) fun x rest hx => inSync_reportHeld ?_
  have last : (List.range 2).any (fun n => (halfOf (setHalf half.val (fun h => { h with syncSeen := true }) (taken half rest s)) n).st = .service &&
      !(halfOf (setHalf half.val (fun h => { h with syncSeen := true }) (taken half rest s)) n).syncSeen) = false := by
    refine List.any_eq_false.mpr fun n hn => ?_
    by_cases here : n = half.val
    · rw [here, halfOf_setHalf]
      simp
    · obtain rfl : n = 1 - half.val := by
        have := List.mem_range.mp hn
        omega
      rw [halfOf_setHalf_ne _ _ _ _ here, halfOf_taken_ne here]
      obtain seen | out := seen
      · simp [seen]
      · simp [out]
  have goes : (decide ((taken half rest s).cp.twin ≠ .resync) || !(taken half rest s).cp.resync.target) = false := by
    rw [show (taken half rest s).cp.twin = .resync from twin, show (taken half rest s).cp.resync.target = true from target]
    rfl
  rw [if_neg (ne_true_of_eq_false goes)]
  dsimp only
  rw [if_neg (ne_true_of_eq_false last)]
  exact inSync_syncDone (s := setSyncGen (sendCtl .syncAck none (updCp (fun c => { c with resync := { c.resync with ackOut := true } })
    (setHalf half.val (fun h => { h with syncSeen := true }) (taken half rest s))))) twin (.inl source) (.inr rfl) mode settled noCause
theorem doSyncAck_of_synced (h : Brings half .syncAck s) (twin : s.cp.twin = .resync) (phase : s.cp.resync.phase = .synced)
    (target : s.cp.resync.target = false) (mode : s.md.mode = .solo) (settled : s.md.entering = false) (noCause : s.md.causes = 0) :
    InSync ((s.cp.resync.gen + 1) % 2 ^ 32) (doSyncAck half s) := by
  unfold doSyncAck
  refine withRec_induct (P := InSync ((s.cp.resync.gen + 1) % 2 ^ 32)) h (by rfl) fun x rest hx => inSync_reportHeld ?_
  have goes : (decide ((taken half rest s).cp.twin ≠ .resync) || decide ((taken half rest s).cp.resync.phase ≠ .synced)) = false := by
    rw [show (taken half rest s).cp.twin = .resync from twin, show (taken half rest s).cp.resync.phase = .synced from phase]
    rfl
  rw [if_neg (ne_true_of_eq_false goes)]
  exact inSync_syncDone (s := setSyncGen (updCp (fun c => { c with resync := { c.resync with ackIn := true } }) (taken half rest s)))
    twin (.inr rfl) (.inl target) mode settled noCause

/-! ## Copying a block (R320) -/

/-- The directory entry that a copied page brings. -/
def pageElem (tpn : Nat) (d : DirEntry) : CpRec := .table (.directory tpn (if inNand d then 2 else 1) d.tenant d.zero)
/-- A page copied is told of first; what the sending of records and the charge to the share keep is then kept. -/
theorem copyPage_induct {tpn : Nat} {P : State → Prop} (nothing : (dirOf s tpn).home = .none ∨ (dirOf s tpn).poison = true → P s)
    (told : P (sendCtl (pageElem tpn (dirOf s tpn)) none s)) (sent : ∀ n q op u, P u → P (sendOn n q op u))
    (charged : ∀ u, P u → P (updCp (fun c => { c with charged := insertSet c.charged tpn }) u)) : P (copyPage tpn s) := by
  have lines (d : DirEntry) (u : State) (hu : P u) : P (each (List.range 512) (fun i a =>
      sendOn (halfFor a (tpn * 512 + i)) (if d.zero then .zero (tpn * 512 + i) else .copy (tpn * 512 + i) (mbytes (readLine s (tpn * 512 + i)) 0 128)) none a) u) :=
    each_preserves (fun i a ha => sent _ _ _ _ ha) _ hu
  have units (d : DirEntry) (u : State) (hu : P u) : P (if d.zero then each (List.range 4) (fun k a =>
      sendCtl (.discardUnit (tpn * 4 + k) (halfOf a 0).lastFsn (halfOf a 1).lastFsn) none a) u else u) := by
    split
    · exact each_preserves (fun k a ha => sent _ _ _ _ ha) _ hu
    · exact hu
  unfold pageElem inNand at told
  unfold copyPage
  dsimp only
  cases home : (dirOf s tpn).home with
  | none => exact nothing (.inl home)
  | _ =>
    simp only [home, reduceCtorEq, decide_false, Bool.false_or, if_true, Bool.false_eq_true, if_false] at told ⊢
    split
    · next poison => exact nothing (.inr poison)
    · split
      · exact sent _ _ _ _ (charged _ (units _ _ (lines _ _ told)))
      · exact units _ _ (lines _ _ told)
theorem copyPage_resync (tpn : Nat) (s : State) : (copyPage tpn s).cp.resync = s.cp.resync :=
  copyPage_induct (P := fun t => t.cp.resync = s.cp.resync) (fun _ => rfl) rfl (fun _ _ _ _ h => h) (fun _ h => h)
theorem sending_copyPage_of {tpn : Nat} {r : CpRec} (h : Sending s r) : Sending (copyPage tpn s) r :=
  copyPage_induct (P := (Sending · r)) (fun _ => h) (sending_sendOn_of h) (fun _ _ _ _ hu => sending_sendOn_of hu) (fun _ hu => hu)
theorem sending_copyPage {tpn : Nat} (home : (dirOf s tpn).home ≠ .none) (good : (dirOf s tpn).poison = false) :
    Sending (copyPage tpn s) (pageElem tpn (dirOf s tpn)) :=
  copyPage_induct (P := (Sending · (pageElem tpn (dirOf s tpn)))) (fun h => (h.elim home (by simp [good])).elim) (sending_sendOn ..)
    (fun _ _ _ _ hu => sending_sendOn_of hu) (fun _ hu => hu)
/-- Each page of a list that is copied is told of. -/
theorem sending_copyPages {tpn : Nat} {d : DirEntry} {l : List Nat} (home : d.home ≠ .none) (good : d.poison = false) (mem : tpn ∈ l)
    (hd : dirOf s tpn = d) : Sending (each l copyPage s) (pageElem tpn d) := by
  induction l generalizing s with
  | nil => exact absurd mem List.not_mem_nil
  | cons x l ih =>
    have split : each (x :: l) copyPage s = each l copyPage (copyPage x s) := List.foldl_cons ..
    rw [split]
    obtain rfl | mem := List.mem_cons.mp mem
    · subst hd
      exact each_preserves (P := (Sending · _)) (fun _ _ hu => sending_copyPage_of hu) l (sending_copyPage home good)
    · exact ih mem ((dirOf_of_dir (congrArg (·.live.dir) (copyPage_per x s)) tpn).trans hd)
theorem syncStep_of_todo (left : s.cp.resync.todo ≠ []) : syncStep s = s := by
  unfold syncStep
  simp [List.isEmpty_iff, left]
/-- The pages of a block that a source copies. -/
def blockPages (b : Nat) (s : State) : List Nat := (span (b * 16) 0 16).filter (fun t => (dirOf s t).home ≠ .none)
theorem doResyncCopyBlock_of_room {b : Nat} {rest : List Nat} (twin : s.cp.twin = .resync) (source : s.cp.resync.source = true)
    (target : s.cp.resync.target = false) (phase : s.cp.resync.phase = .copying) (up : linkUp s = true) (todo : s.cp.resync.todo = b :: rest)
    (left : rest ≠ []) (here : ∀ x ∈ span (b * 16) 0 16, (dirOf s x).home ≠ .none → pageAbsent s x = false)
    (room : countedDirty s + 16 ≤ dirtyLimit s) : doResyncCopyBlock s =
      each (blockPages b s) copyPage (updCp (fun c => { c with resync := { c.resync with todo := rest } }) s) := by
  have present : (blockPages b s).any (pageAbsent s) = false := by
    refine List.any_eq_false.mpr fun x hx => ?_
    obtain ⟨mem, home⟩ := List.mem_filter.mp hx
    rw [here x mem (of_decide_eq_true home)]
    decide
  have few (p : Nat → Bool) : ¬ countedDirty s + ((blockPages b s).filter p).length > dirtyLimit s := by
    have pages : (blockPages b s).length ≤ 16 := Nat.le_trans (List.length_filter_le ..) (by simp [span])
    have := List.length_filter_le p (blockPages b s)
    omega
  have resync := each_keeps (g := (·.cp.resync)) (fun x a => copyPage_resync x a) (blockPages b s)
    (updCp (fun c => { c with resync := { c.resync with todo := rest } }) s)
  unfold doResyncCopyBlock
  simp only [twin, source, target, phase, up, todo, ne_eq, not_true, decide_false, Bool.not_true, Bool.or_self, Bool.false_eq_true, if_false, Bool.not_false,
    Bool.true_or, Bool.and_true]
  rw [show (span (b * 16) 0 16).filter (fun t => decide ¬(dirOf s t).home = .none) = blockPages b s from rfl, if_neg (ne_true_of_eq_false present),
    if_neg (few _)]
  exact syncStep_of_todo (by rw [resync]; exact left)
end

/-- Settles O58. -/
theorem resyncCommands : Obligations.ResyncCommands := by
  unfold Obligations.ResyncCommands
  refine ⟨?_, ?_, ?_, ?_, ?_, ?_⟩
  · intro half inc s h twin
    exact completes_of_next rfl (doResyncStart_of_brings h twin)
  · intro half blocks s h twin phase tables
    exact completes_of_next rfl (doResyncMarks_of_started h twin phase tables)
  · intro half s h twin phase target
    exact completes_of_next rfl (doTablesDone_of_source h twin phase target)
  · intro half s h twin target source seen mode settled noCause
    exact completes_of_next rfl (doSync_of_last h twin target source seen mode settled noCause)
  · intro half s h twin phase target mode settled noCause
    exact completes_of_next rfl (doSyncAck_of_synced h twin phase target mode settled noCause)
  · intro b rest s twin source target phase up todo left here room
    refine completes_of_eq rfl (doResyncCopyBlock_of_room twin source target phase up todo left here room) ⟨?_, fun x mem home good => ?_⟩
    · rw [each_keeps (g := (·.cp.resync)) (fun x a => copyPage_resync x a)]
      rfl
    · exact sending_copyPages home good (List.mem_filter.mpr ⟨mem, decide_eq_true home⟩) rfl

end Sys2Proof.Machine
end
